-- ==== Sys2Proof/Word.lean ====
section
/-! DEFINITION. The data types of the model: bytes, byte strings and the sorted
association list that sparse state is kept in. -/

namespace Sys2Proof

/-- One byte of memory, of a frame or of an object value. -/
abbrev Byte := BitVec 8

/-- A string of bytes, lowest address first. -/
abbrev Bytes := List (BitVec 8)

/-- Sparse data by key: pairs with strictly rising keys. -/
abbrev Assoc (α : Type) := List (Nat × α)

end Sys2Proof
end

