-- ==== Sys2Proof/Syntax.lean ====
section
/-! DEFINITION. The commands of the block, one constructor for each row of the table, and the forms of their operands:
ports and frames (R46–R59), what the environment brings with an event, and the requests that wait in the management
core (R95, R117). -/

namespace Sys2Proof

/-- A port on which requests arrive (R96). -/
inductive Port where
  | pf0 | pf1 | e0 | e1 | jtag
  deriving DecidableEq, Repr

/-- How a request frame arrived: its port, frame version, TAG, SRC_NODE and DST_NODE, NO_REPLY, and on an Ethernet port
the source MAC address and the tag of its frame (R48, R51, R54, R79). -/
structure Arrival where
  port : Port
  ver : Nat
  tag : Nat
  src : Nat
  dst : Nat
  noReply : Bool
  mac : Nat
  vlan : Option Nat
  deriving DecidableEq, Repr

/-- One item of a version 3 batch (R54); `len` counts for a READ, the data for a WRITE. -/
structure BatchItem where
  write : Bool
  sub : Nat
  index : Nat
  off : Nat
  len : Nat
  data : Bytes
  deriving DecidableEq, Repr

/-- What a request frame asks for. -/
inductive Ask where
  | read (index sub off len : Nat)
  | write (index sub off : Nat) (data : Bytes)
  | batch (stop : Bool) (items : List BatchItem)
  /-- a frame that is answered with a code and not executed: reply KIND, INDEX, SUB, code (R46, R59) -/
  | bad (kind index sub code : Nat)
  deriving DecidableEq, Repr

/-- A request as the management core takes it (R95): a frame, a BAR2 access of a function, or the DICT element of a pump
channel. -/
inductive Req where
  | frame (a : Arrival) (b : Ask)
  | bar2Read (pf off len : Nat)
  | bar2Write (pf off : Nat) (data : Bytes)
  | dict (p : Nat) (data : Bytes)
  deriving DecidableEq, Repr

/-- How a write reaches an object: in a frame, or as one aligned BAR2 write of the object's width by a function. -/
inductive Via where
  | frame (a : Arrival)
  | bar2 (pf : Nat)
  deriving DecidableEq, Repr

/-- How a pump command is given: by a write of CH_CMD, or of PUMP_DB by a function (R491). -/
inductive PumpVia where
  | chCmd (v : Via)
  | pumpDb (pf : Nat)
  deriving DecidableEq, Repr

/-- An access without a row of its own: a write of an object, a write of a BAR0 register, or a read of one; and of the
JTAG port an instruction shifted in, Capture-DR and Update-DR of the boundary-scan register, and Capture-DR of RECOVERY
(R693–R696). -/
inductive RegAccess where
  | object (v : Via) (index sub : Nat) (data : Bytes)
  | bar0Write (pf off : Nat) (data : Bytes)
  | bar0Read (pf off len : Nat)
  | jtagInstruction (code : Nat)
  | scanCapture
  | scanUpdate (cells : Nat)
  | recoveryCapture
  deriving DecidableEq, Repr

/-- An Ethernet frame (R76): long enough with a correct check sequence, EtherType, tags, source MAC address, payload. -/
structure EthFrame where
  sound : Bool
  etherType : Nat
  tags : List Nat
  mac : Nat
  payload : Bytes
  deriving DecidableEq, Repr

/-- A read upset the environment brings (R220, R479, R480): of the loop cache, the byte address, and of the granules the
command reads the first that the failing 32 bytes cover and how many they cover. -/
inductive Upset where
  | memCorrected
  | memUncorrectable (addr : Nat)
  | cacheCorrected
  | cacheUncorrectable (addr first count : Nat)
  deriving DecidableEq, Repr

/-- The voltages of a channel's P and N pads, in µV (R346). -/
abbrev Pad := Int × Int

/-- What the environment brings to one issue: the inputs of each compare pin in the order of time, and how the
control-store read went: 0 clean, 1 corrected, 2 uncorrectable (R244, R245). A stream pin has one list, a value for each
sample point. An EDGE vector has a list of the values the input took up to its C0, the last of them at C0, and with a
window a further list, of the values up to C1, for each granule the window touches. -/
structure Io where
  pins : List (Nat × List (List Pad))
  uc : Nat
  deriving DecidableEq, Repr

/-- What the environment brings to a fetch: the tiles whose wellheads the data reach later (R215), and read upsets (R220). -/
structure FetchIo where
  late : List Nat
  ups : List Upset
  deriving DecidableEq, Repr

/-- What a move of an element brings: the bytes of host memory it reads, the upsets its stack reads meet (R479, R480), and
how many 4 KiB blocks of it have moved when a STOP takes effect within it, 0 for the whole element (R497). -/
structure ElementIo where
  host : Bytes
  ups : List Upset
  blocks : Nat
  deriving DecidableEq, Repr

/-- What the self calibration of a channel measured (R519): DAC trims (48 bytes), comparator offsets (10 bytes), Ldrv and
Lcmp in fs, and, with the first channel of a tile, the interpolator correction (64 bytes). -/
structure CalResult where
  dac : Bytes
  ofs : Bytes
  ldrv : Int
  lcmp : Int
  pi : Option Bytes
  deriving DecidableEq, Repr

/-- What the built-in test of a channel measured (R372): how far its legs moved in µV and whether a comparator changed
before the tie; the converter's readings of the twelve DACs in µV; the outputs of the five comparators tied above and
tied below; and the trip code of each in TIE and in SWAP_TIE. -/
structure SelfTest where
  moved : Nat × Nat
  changed : Bool
  dacs : List Int
  above : List Bool
  below : List Bool
  trips : List (Nat × Nat)
  deriving DecidableEq, Repr

/-- Readings of the temperature sensors in m°C, of the hub, the tiles and the stacks, and of the power meters in mW
(R646, R651, R653). -/
structure Sensors where
  hub : Int
  tileTemps : List Int
  stackTemps : List Int
  power : Nat
  tilePower : List Nat
  deriving DecidableEq, Repr

/-- The commands of the block. -/
inductive Instr where
  -- the dictionary and its ports
  | read (a : Arrival) (index sub off len : Nat)
  | write (a : Arrival) (index sub off : Nat) (data : Bytes)
  | batch (a : Arrival) (stop : Bool) (items : List BatchItem)
  | cmdTail (pf value : Nat)
  | commandFetch (pf : Nat) (slots : Bytes)
  | commandFetchError (pf : Nat)
  | replyWrite (pf : Nat)
  | rplTail (pf value : Nat)
  | ringCtrl (pf value : Nat)
  | registerWrite (r : RegAccess)
  | bar2Read (pf off len : Nat)
  | bar2Write (pf off : Nat) (data : Bytes)
  | bar2LowHalfWrite (pf slot value : Nat)
  | bar2HighHalfWrite (pf slot value : Nat)
  | functionLevelReset (pf : Nat)
  | onpelFrame (port : Nat) (f : EthFrame)
  | dictFrameUpdate (word : Nat)
  | dictFrameCapture
  | testLogicReset
  | recoveryWord (word : Nat)
  | keyUnlock (v : Via) (value : Nat)
  | unlockLapse
  | lockSet (v : Via) (value : Nat)
  | authWrite (v : Via) (port cls : Nat)
  | verEnable (v : Via) (value : Nat)
  | sigScanStart
  | sigScanComplete
  | sigCommit (v : Via)
  | sigRef (v : Via) (value : Nat)
  -- the sequencer's requests and states
  | run (v : Via)
  | seqRun (pf value : Nat)
  | haltRequest (v : Via)
  | seqHalt (pf value : Nat)
  | loadingBegin (ups : List Upset)
  | loadingComplete
  | drainingEnd
  | domainLossDuringBurst (d : Nat)
  -- the instructions of a pattern program, one issue each, and what ends them
  | vec (io : Io)
  | rpt (io : Io)
  | rptCountEnd
  | loop (io : Io)
  | endl (io : Io)
  | call (io : Io)
  | ret (io : Io)
  | jmp (io : Io)
  | jif (io : Io)
  | matchOp (io : Io)
  | matchTimeout
  | syncw (io : Io)
  | syncwTimeout
  | syncs (io : Io)
  | hold (io : Io)
  | holdEnd
  | tset (io : Io)
  | mark (io : Io)
  | eyeStart (io : Io)
  | eyeAdvance (io : Io)
  | eyeStop (io : Io)
  | halt (io : Io)
  | userOpcode (io : Io)
  | shadowGranule (io : Io)
  | fallOff
  -- jumps, fetching and priming
  | jumpReq (v : Via) (value : Nat)
  | seqJump (pf value : Nat)
  | jumpReserveFilled (ups : List Upset)
  | granuleFetch (n : Nat) (io : FetchIo)
  | primingStart
  | primingComplete (entry k : Nat) (ups : List Upset)
  | headReload
  | drywell
  -- traps and the control store
  | trapTaken (ios : List Io)
  | trapResume (ios : List Io)
  | snap (v : Via)
  | user (v : Via)
  | trapOverrun
  | deferOverrun (ios : List Io)
  | scrubRead (outcome : Nat)
  | custLoad (v : Via)
  | custClear (v : Via)
  | patchInstall (v : Via)
  | patchInstallDone (bad : Nat)
  | ucEnforce (v : Via) (value : Nat)
  -- the tick, deskew and the PRBS checkers
  | tickMult (v : Via) (value : Nat)
  | synthesiserLock
  | tilePllLock (t : Nat)
  | holdover
  | holdoverRelock
  | deskewWrite (v : Via) (c which : Nat) (value : Int)
  | checkerLock (c : Nat)
  | checkerRelock (c : Nat)
  -- the pins outside a burst
  | comparatorValid (c : Nat) (v : Pad)
  | attentionEvent (c : Nat) (v : Pad)
  | listen (v : Via) (t : Nat)
  | listenEntered (t : Nat)
  | wakeEvent (t : Nat) (inputs : List (Nat × Pad))
  | wake (v : Via) (t : Nat)
  | tileReadyAfterWake (t : Nat)
  | selfCheckRun (v : Via) (c : Nat)
  | selfCheckDone (c : Nat) (m : SelfTest)
  | convStart (v : Via) (t : Nat)
  | convDone (t : Nat) (vs : List Int)
  -- capture
  | failRecord
  | burstSummary
  -- time measurement and the time base
  | arm (v : Via) (c : Nat)
  | disarm (v : Via) (c : Nat)
  | clear (v : Via) (c : Nat)
  | tmuEdge (c edge dt : Nat) (v : Pad)
  | tmuTimeout (c : Nat)
  | tmuRearm (c : Nat)
  | refinQualified (ppb : Int)
  | refinLoss (present : Bool) (ppb : Int)
  | slewEnd
  | referenceHoldover
  | warmSecond
  | ovenOutOfRange (temp : Int)
  | ovenWarmTimeout
  -- the memory map and the pump
  | apply (v : Via)
  | mapAutoApply
  | start (v : PumpVia) (p : Nat)
  | doorbell (v : PumpVia) (p : Nat)
  | stop (v : PumpVia) (p : Nat)
  | resume (v : PumpVia) (p : Nat)
  | stopTakesEffect (p : Nat)
  | descriptorFetch (p : Nat) (data : Bytes)
  | elementMove (p : Nat) (io : ElementIo)
  | dictElement (p : Nat) (data : Bytes)
  | descriptorComplete (p : Nat)
  | refetch (p : Nat) (data : Bytes)
  | busError (addr ep : Nat)
  | curDesc (v : Via) (p value : Nat)
  -- calibration
  | self (v : Via)
  | abort (v : Via)
  | channelCalComplete (c : Nat) (r : CalResult)
  | calInputBusy (c : Nat)
  | trimApply
  | baseWrite (v : Via) (c which : Nat) (value : Int)
  | vrefWrite (v : Via) (t : Nat) (value : Int)
  | store (v : Via)
  | revert (v : Via)
  | reload (v : Via)
  | storeComplete (ok : Bool)
  | holdupTest (fall : Nat)
  | holdVRefresh (mv : Nat)
  -- faults and fences
  | faultCollect
  | stickyClear (v : Via) (hi : Bool) (value : Nat)
  | reactWrite (v : Via) (src value : Nat)
  | fire (v : Via)
  | set (v : Via)
  | lift (v : Via)
  | tileFailure (t : Nat) (link : Bool)
  | watchdogExpiry
  | watchdogRefresh
  | aliveToggle
  -- the sync ring
  | ringStart (msg : Bytes)
  | scheduledStart
  | ringHalt (msg : Bytes)
  | ringJump (msg : Bytes)
  | scheduledJump
  | ringMark (msg : Bytes)
  | time (msg : Bytes) (arrival : Nat)
  | timeEvent
  | sig (msg : Bytes)
  | timeEmit
  | sigSend
  | ringQueueSend
  | peerStale (p : Nat)
  | calibrationBlock
  | ringLock
  | lockLoss
  | ringCmdStart (v : Via)
  | ringCmdHalt (v : Via)
  | ringCmdJump (v : Via)
  | cal (v : Via)
  | sigGroup (v : Via) (value : Nat)
  | ringRole (v : Via) (value : Nat)
  -- power, resets and temperature
  | domEn (v : Via) (value : Nat)
  | functionReady (b bad : Nat)
  | supplyValid (b : Nat)
  | supplyFault (b : Nat)
  | vauxFailure
  | powerOnReset (badA badB : Bool)
  | resetN (badA badB : Bool)
  | soft (v : Via)
  | perst
  | temperatureSample (x : Sensors)
  -- trust
  | install (v : Via)
  | firmwareInstallDone (ok : Bool)
  | advFw (v : Via)
  | advPatch (v : Via)
  | fuseProgrammingDone (ok : Bool)
  | custKey (v : Via) (k : Nat) (data : Bytes)
  | keysSaved
  | sign (v : Via)
  | attestationSigned
  -- events of other chapters
  | onpelLinkPortDown (port : Nat)
  | stackLinkTrainingLoss (m : Nat)
  | aerUncorrectableError
  | driverCurrentLimit (c : Nat)
  | ovenHeaterFault
  | vholdAtVMin
  | referenceStageLock
  | recordInMemory
  | perstDeassertion
  | delayCalibrationEnd (linkPs : Nat)
  deriving DecidableEq, Repr

end Sys2Proof
end

