-- ==== Sys2Proof/Machine/Bits.lean ====
section
/-! DEFINITION. Bit fields, little-endian bytes (R5, R6), two's complement and the CRC-32C
check word of R11, with the operations of sorted association lists. -/

namespace Sys2Proof

/-- Look a key up in an association list. -/
def aFind {α : Type} : Assoc α → Nat → Option α
  | [], _ => none
  | (k, v) :: r, x => if x = k then some v else aFind r x

/-- Set a key, keeping the keys strictly rising. -/
def aPut {α : Type} : Assoc α → Nat → α → Assoc α
  | [], x, w => [(x, w)]
  | (k, v) :: r, x, w =>
    if x < k then (x, w) :: (k, v) :: r
    else if x = k then (x, w) :: r
    else (k, v) :: aPut r x w

/-- Remove a key. -/
def aDel {α : Type} : Assoc α → Nat → Assoc α
  | [], _ => []
  | (k, v) :: r, x => if x = k then r else (k, v) :: aDel r x

/-- Bit `i` of a value (R6: bit 0 is the least significant). -/
def bit (v i : Nat) : Bool := Nat.testBit v i

/-- The field [hi:lo] of a value, both ends included (R6). -/
def field (v hi lo : Nat) : Nat := (v >>> lo) % 2 ^ (hi + 1 - lo)

/-- The value with bit `i` set to `b`. -/
def putBit (v i : Nat) (b : Bool) : Nat :=
  if bit v i = b then v else if b then v + 2 ^ i else v - 2 ^ i

/-- 1 for true, 0 for false. -/
def ofBool (b : Bool) : Nat := if b then 1 else 0

/-- `v` with the bits of `m` cleared. -/
def clearBits (v m : Nat) : Nat := v - (v &&& m)

/-- A 32-bit counter one higher; it wraps (R40: U32). -/
def inc32 (v : Nat) : Nat := (v + 1) % 2 ^ 32

/-- The two's complement reading of a raw value of `n` bits (R40). -/
def signed (n v : Nat) : Int := if v < 2 ^ (n - 1) then (v : Int) else (v : Int) - (2 ^ n : Nat)

/-- The raw value of `n` bits of an integer (R40). -/
def raw (n : Nat) (i : Int) : Nat := (i % ((2 ^ n : Nat) : Int)).toNat

/-- The least `n` bytes of a value, little-endian (R5). -/
def leBytes : Nat → Nat → Bytes
  | 0, _ => []
  | n + 1, v => BitVec.ofNat 8 v :: leBytes n (v / 256)

/-- The value of little-endian bytes (R5). -/
def leNat : Bytes → Nat
  | [] => 0
  | b :: r => b.toNat + 256 * leNat r

/-- The value of the field of `n` bytes at byte `off`. -/
def fieldAt (d : Bytes) (off n : Nat) : Nat := leNat ((d.drop off).take n)

/-- Byte `i` as a number, 0 beyond the end. -/
def byteAt (d : Bytes) (i : Nat) : Nat := ((d[i]?).getD 0#8).toNat

/-- `n` bytes of value 0. -/
def zeros (n : Nat) : Bytes := List.replicate n 0#8

/-- Data padded with zero bytes to the next multiple of 4 (R47). -/
def pad4 (d : Bytes) : Bytes := d ++ zeros ((4 - d.length % 4) % 4)

/-- The next multiple of 4. -/
def up4 (n : Nat) : Nat := (n + 3) / 4 * 4

/-- `n` divided by `d`, rounded up. -/
def ceilDiv (n d : Nat) : Nat := (n + d - 1) / d

/-- The nearest integer to `n / d`, halves away from zero. -/
def roundDiv (n : Int) (d : Nat) : Int :=
  if n < 0 then -((((-n) * 2 + d) / (2 * d : Nat))) else (n * 2 + d) / (2 * d : Nat)

/-- Bytes of `d` replaced from `off` on by `w`; the result is at least `off + w.length` long. -/
def splice (d : Bytes) (off : Nat) (w : Bytes) : Bytes :=
  d.take off ++ zeros (off - d.length) ++ w ++ d.drop (off + w.length)

/-- One bit of the reflected CRC-32C register (R11). -/
def crcBit (c : Nat) : Nat := if c % 2 = 1 then (c / 2) ^^^ 0x82F63B78 else c / 2

/-- Eight bits of the reflected CRC-32C register (R11). -/
def crcByte (c : Nat) (b : Byte) : Nat :=
  crcBit (crcBit (crcBit (crcBit (crcBit (crcBit (crcBit (crcBit (c ^^^ b.toNat))))))))

/-- A running CRC-32C register over some bytes. -/
def crcRun (c : Nat) (d : Bytes) : Nat := d.foldl crcByte c

/-- CRC-32C of some bytes, with the parameters of R11. -/
def crc32c (d : Bytes) : Nat := crcRun 0xFFFFFFFF d ^^^ 0xFFFFFFFF

/-- The numbers of the set bits of `v` below `n`, lowest first. -/
def setBits (v n : Nat) : List Nat := (List.range n).filter (fun i => bit v i)

end Sys2Proof
end

