-- ==== Sys2Proof/Config.lean ====
section
/-! DEFINITION. What the spec leaves open (free values, opaque: no proof can see what they are)
and what it takes from published standards outside it (R262, R283, R656, R670 name the standards; the functions are opaque here). -/

namespace Sys2Proof.Config

/-- FREE VALUE: a fresh value of the given width in bits, the `n`-th one the machine draws.
Used where the spec gives an effect and states no value for it. -/
opaque freeValue : Nat → Nat → Nat

/-- FREE VALUE: what a byte of memory reads as whose contents the spec calls unspecified
(R474, R476, R477): a function of the epoch in which the contents were lost and of the address. -/
opaque lostByte : Nat → Nat → Byte

/-- FREE VALUE: how many half-granule words beyond the bounds of R31 and R204 a condition line of a tile already
includes, fixed from one tile lock to the next (R31, R180, R204). Arguments: tile, number of locks so far. -/
opaque lineLead : Nat → Nat → Nat

/-- FREE VALUE: length in microwords of the FAULT handler (at most 48), the RING handler (at most 8) and the
SNAP handler (at most 24) of R269. Arguments: cause bit, trap number. -/
opaque handlerLength : Nat → Nat → Nat

/-- FREE VALUE: the control-store address of a word of the FAULT, RING or SNAP handler (R269). Arguments: cause bit,
number of the word. -/
opaque handlerAddr : Nat → Nat → Nat

/-- FREE VALUE: the 256 data bits of a word of the vendor ROM (R241), which the spec does not list. -/
opaque romWord : Nat → Nat

/-- FREE VALUE: the 16 check bits of a microword (R241, R242), whose code the spec does not give. -/
opaque checkBits : Nat → Nat

/-- FREE VALUE: an edge between two steps of a TMU's interpolation takes the later of them (R423). Arguments: channel,
the edge's time in 1/16 LSB. -/
opaque interpUp : Nat → Int → Bool

/-- FREE VALUE: the dispatch entries of the ROM for opcodes 0x00–0xDF (R256), which the spec does not list. -/
opaque romDispatch : Nat → Nat

/-- FREE VALUE: the KIND of the version 2 reply to a request of version 3 that is not accepted is that of a WRITE reply,
by the request's TAG (R46 gives the reply's other fields). -/
opaque batchKind : Nat → Bool

/-- SHA-512 (FIPS 180-4): a string's 64-byte digest. -/
opaque sha512 : Bytes → Bytes

/-- ECDSA over P-521 with SHA-512 (FIPS 186-5): public key, message, 132-byte signature. -/
opaque ecdsaVerify : Bytes → Bytes → Bytes → Bool

/-- ECDSA over P-521 with SHA-512: the signature of a message under the module's identity key. -/
opaque identitySign : Bytes → Bytes

/-- AES-256-GCM (SP 800-38D) under a device-class key slot: IV, additional data, ciphertext, tag. -/
opaque gcmOpen : Nat → Bytes → Bytes → Bytes → Bytes → Option Bytes

/-- A 133-byte string is an uncompressed point on P-521 (FIPS 186-5). -/
opaque onCurve : Bytes → Bool

/-- The subject public key of an X.509 certificate; none where the bytes are none. -/
opaque certKey : Bytes → Option Bytes

/-- The public part of the module's identity key. -/
opaque identPub : Bytes

/-- The vendor's firmware and patch public keys, by number (R283, R656). -/
opaque vendorKey : Nat → Bytes

end Sys2Proof.Config
end

