-- ==== Sys2Proof/Machine/Dict.lean ====
section
/-! DEFINITION. The object tables of the spec: one row for each sub-index of each object, with its
type, access attribute, default value, Sig flag, implemented bits (R8), write-one-to-clear bits and value range,
as the object table of the owning chapter states them (R38). A per-unit block (R12) is listed once, at unit 0. -/

namespace Sys2Proof

/-- The types of R40. -/
inductive Ty where
  | bool | u8 | u16 | u32 | u64 | i32 | i64 | f32 | q16 | octets | domain
  deriving DecidableEq, Repr

/-- The type codes of R40. -/
def Ty.code : Ty → Nat
  | .bool => 1 | .u8 => 2 | .u16 => 3 | .u32 => 4 | .u64 => 5 | .i32 => 6 | .i64 => 7
  | .f32 => 8 | .q16 => 9 | .octets => 10 | .domain => 11

/-- The sizes in bytes of R40; 0 for the two types of varying length. -/
def Ty.size : Ty → Nat
  | .bool => 1 | .u8 => 1 | .u16 => 2 | .u32 => 4 | .u64 => 8 | .i32 => 4 | .i64 => 8
  | .f32 => 4 | .q16 => 4 | .octets => 0 | .domain => 0

/-- A value of varying length. -/
def Ty.isBlob : Ty → Bool
  | .octets => true | .domain => true | _ => false

/-- The access attributes of R42 and their combinations (R43). -/
inductive Acc where
  | ro | rw | wo | cmd | lck | keyLck | cmdLck | cmdKey | cmdKeyLck
  deriving DecidableEq, Repr

/-- A read is permitted (R42). -/
def Acc.canRead : Acc → Bool
  | .wo => false | _ => true

/-- A write is permitted (R42). -/
def Acc.canWrite : Acc → Bool
  | .ro => false | _ => true

/-- The object carries KEY (R42, R43). -/
def Acc.isKey : Acc → Bool
  | .keyLck => true | .cmdKey => true | .cmdKeyLck => true | _ => false

/-- The object carries LCK (R42, R43). -/
def Acc.isLck : Acc → Bool
  | .lck => true | .keyLck => true | .cmdLck => true | .cmdKeyLck => true | _ => false

/-- The object carries CMD (R42). -/
def Acc.isCmd : Acc → Bool
  | .cmd => true | .cmdLck => true | .cmdKey => true | .cmdKeyLck => true | _ => false

/-- The value ranges the object tables state. -/
inductive Rng where
  | any
  | nat (lo hi : Nat)
  | sint (lo hi : Int) (step : Nat)
  | among (l : List Nat)
  /-- CNT_EVENT: line 0–47, mode not 3. -/
  | cntEvent
  /-- LINE_CFG: RESULT not 3 (R240). -/
  | lineCfg
  /-- UTRAP_VEC: 0, or 0x1800–0x1FFF. -/
  | trapVec
  /-- VPER: 8, 16, 32 or 64 × m, m 1–65,536. -/
  | vper
  /-- CONV_NODE: the nodes of R376. -/
  | convNode
  /-- START_SRC and STOP_SRC: the codes of R428. -/
  | tmuSrc
  /-- RING_CMD: at most one bit (R606). -/
  | oneBit
  deriving DecidableEq, Repr

/-- One row of an object table: sub-indices `sub` to `hi`. -/
structure ObjRow where
  sub : Nat
  hi : Nat
  ty : Ty
  acc : Acc
  dflt : Nat
  sig : Bool
  mask : Nat
  w1c : Nat
  rng : Rng
  max : Nat
  deriving DecidableEq, Repr

/-- The key of sub-index `s` of the object at index `i` in the object store. -/
def objKey (i s : Nat) : Nat := i * 256 + s

/-! The keys of the objects, per-unit ones at unit 0. -/

namespace K

/-- 0x1001.01 -/
abbrev STATUS : Nat := 0x100101
/-- 0x1001.02 -/
abbrev ATTN_EVENTS : Nat := 0x100102
/-- 0x1001.03 -/
abbrev ATTN_MASK : Nat := 0x100103
/-- 0x1002.01 -/
abbrev READY : Nat := 0x100201
/-- 0x1002.02 -/
abbrev READY_TIMES : Nat := 0x100202
/-- 0x1018.01 -/
abbrev VENDOR : Nat := 0x101801
/-- 0x1018.02 -/
abbrev PART : Nat := 0x101802
/-- 0x1018.03 -/
abbrev STEPPING : Nat := 0x101803
/-- 0x1018.04 -/
abbrev SERIAL : Nat := 0x101804
/-- 0x1018.05 -/
abbrev IDENT_PUB : Nat := 0x101805
/-- 0x1018.06 -/
abbrev IDENT_CERT : Nat := 0x101806
/-- 0x1018.07 -/
abbrev ROOT_HASH : Nat := 0x101807
/-- 0x1100.01 -/
abbrev SIG_LIVE : Nat := 0x110001
/-- 0x1100.02 -/
abbrev SIG_REF : Nat := 0x110002
/-- 0x1100.03 -/
abbrev SIG_COMMIT : Nat := 0x110003
/-- 0x1100.04 -/
abbrev SIG_PERIOD : Nat := 0x110004
/-- 0x1100.05 -/
abbrev SIG_MISMATCHES : Nat := 0x110005
/-- 0x1100.06 -/
abbrev SIG_GROUP : Nat := 0x110006
/-- 0x1100.07 -/
abbrev SIG_VALID : Nat := 0x110007
/-- 0x1100.08 -/
abbrev SIG_CURRENT : Nat := 0x110008
/-- 0x1200.01 -/
abbrev LOCK_SET : Nat := 0x120001
/-- 0x1201.01 -/
abbrev KEY_UNLOCK : Nat := 0x120101
/-- 0x1201.02 -/
abbrev UNLOCK_STATE : Nat := 0x120102
/-- 0x1201.03 -/
abbrev KEY_FAILS : Nat := 0x120103
/-- 0x1F00.01 -/
abbrev AUTH_PF0 : Nat := 0x1F0001
/-- 0x1F00.02 -/
abbrev AUTH_PF1 : Nat := 0x1F0002
/-- 0x1F00.03 -/
abbrev AUTH_E0 : Nat := 0x1F0003
/-- 0x1F00.04 -/
abbrev AUTH_E1 : Nat := 0x1F0004
/-- 0x1F00.05 -/
abbrev AUTH_JTAG : Nat := 0x1F0005
/-- 0x1F01.01 -/
abbrev NODE_ADDR : Nat := 0x1F0101
/-- 0x1F01.02 -/
abbrev E0_MODE : Nat := 0x1F0102
/-- 0x1F01.03 -/
abbrev E1_MODE : Nat := 0x1F0103
/-- 0x1F01.04 -/
abbrev E0_MAC : Nat := 0x1F0104
/-- 0x1F01.05 -/
abbrev E1_MAC : Nat := 0x1F0105
/-- 0x1F01.06 -/
abbrev VER_ENABLE : Nat := 0x1F0106
/-- 0x1F02.01 -/
abbrev BAR_WR_REJECT : Nat := 0x1F0201
/-- 0x1F02.02 -/
abbrev BAR_UNALIGNED : Nat := 0x1F0202
/-- 0x1F02.03 -/
abbrev BAR_LAST : Nat := 0x1F0203
/-- 0x1F02.04 -/
abbrev BAR_LAST_CODE : Nat := 0x1F0204
/-- 0x1F02.05 -/
abbrev NET_DROPPED : Nat := 0x1F0205
/-- 0x1F02.06 -/
abbrev BAR_RD_REJECT : Nat := 0x1F0206
/-- 0x2000.01 -/
abbrev SEQ_STATE : Nat := 0x200001
/-- 0x2000.02 -/
abbrev SEQ_CMD : Nat := 0x200002
/-- 0x2000.03 -/
abbrev IMAGE_ADDR : Nat := 0x200003
/-- 0x2000.04 -/
abbrev START_MODE : Nat := 0x200004
/-- 0x2000.05 -/
abbrev START_FILL : Nat := 0x200005
/-- 0x2000.06 -/
abbrev END_CAUSE : Nat := 0x200006
/-- 0x2000.07 -/
abbrev HALT_CODE : Nat := 0x200007
/-- 0x2000.08 -/
abbrev ERR_GRANULE : Nat := 0x200008
/-- 0x2000.09 -/
abbrev ERR_SEGMENT : Nat := 0x200009
/-- 0x2000.0A -/
abbrev DRY_SOURCE : Nat := 0x20000A
/-- 0x2000.0B -/
abbrev ISSUES : Nat := 0x20000B
/-- 0x2000.0C -/
abbrev SEQ_FLAGS : Nat := 0x20000C
/-- 0x2000.0D -/
abbrev LOOP_SNAPSHOT : Nat := 0x20000D
/-- 0x2000.0E -/
abbrev RUN_DISCARDED : Nat := 0x20000E
/-- 0x2000.0F -/
abbrev COND_LIVE : Nat := 0x20000F
/-- 0x2000.10 -/
abbrev COND_CFG0 : Nat := 0x200010
/-- 0x2000.20 -/
abbrev CNT_LOAD0 : Nat := 0x200020
/-- 0x2000.24 -/
abbrev CNT_EVENT0 : Nat := 0x200024
/-- 0x2000.28 -/
abbrev CNT_LIVE0 : Nat := 0x200028
/-- 0x2000.2C -/
abbrev HOST_FLAG : Nat := 0x20002C
/-- 0x2100.01 -/
abbrev JUMP_REQ : Nat := 0x210001
/-- 0x2100.02 -/
abbrev JUMP_STATE : Nat := 0x210002
/-- 0x2100.03 -/
abbrev JUMPS_LANDED : Nat := 0x210003
/-- 0x2100.04 -/
abbrev JUMPS_REPLACED : Nat := 0x210004
/-- 0x2100.05 -/
abbrev JUMPS_REJECTED : Nat := 0x210005
/-- 0x2100.06 -/
abbrev RING_JUMP_EN : Nat := 0x210006
/-- 0x2100.07 -/
abbrev CUR_SEGMENT : Nat := 0x210007
/-- 0x2100.08 -/
abbrev LOOP_DEPTH : Nat := 0x210008
/-- 0x2100.09 -/
abbrev CALL_DEPTH : Nat := 0x210009
/-- 0x2100.0A -/
abbrev HEADS_TOTAL : Nat := 0x21000A
/-- 0x2100.0B -/
abbrev HEADS_RESIDENT : Nat := 0x21000B
/-- 0x2100.0C -/
abbrev HEAD_BYTES : Nat := 0x21000C
/-- 0x2100.0D -/
abbrev RESTARTS : Nat := 0x21000D
/-- 0x2100.0E -/
abbrev CACHE_SPILLS : Nat := 0x21000E
/-- 0x2100.0F -/
abbrev LC_CORRECTED : Nat := 0x21000F
/-- 0x2100.10 -/
abbrev LC_UNCORRECTED : Nat := 0x210010
/-- 0x2100.11 -/
abbrev LC_BAD_ADDR : Nat := 0x210011
/-- 0x2200.01 -/
abbrev REF_SEL : Nat := 0x220001
/-- 0x2200.02 -/
abbrev REFIN_FREQ : Nat := 0x220002
/-- 0x2200.03 -/
abbrev REF_ACTIVE : Nat := 0x220003
/-- 0x2200.04 -/
abbrev TB_FLAGS : Nat := 0x220004
/-- 0x2200.05 -/
abbrev REFIN_PPB : Nat := 0x220005
/-- 0x2200.06 -/
abbrev OVEN_TEMP : Nat := 0x220006
/-- 0x2200.07 -/
abbrev OVEN_SETPOINT : Nat := 0x220007
/-- 0x2200.08 -/
abbrev WARM_SECONDS : Nat := 0x220008
/-- 0x2200.09 -/
abbrev REF_SWITCHES : Nat := 0x220009
/-- 0x2200.0A -/
abbrev REFIN_LOSSES : Nat := 0x22000A
/-- 0x2200.0B -/
abbrev TB_NOW : Nat := 0x22000B
/-- 0x2200.0C -/
abbrev REFOUT_EN : Nat := 0x22000C
/-- 0x2200.20 -/
abbrev TICK_MULT : Nat := 0x220020
/-- 0x2200.21 -/
abbrev TICK_NOM : Nat := 0x220021
/-- 0x2200.22 -/
abbrev TICK_STATE : Nat := 0x220022
/-- 0x2200.23 -/
abbrev TICK_RELOCKS : Nat := 0x220023
/-- 0x2200.24 -/
abbrev TICK_UNLOCKS : Nat := 0x220024
/-- 0x2300.01 -/
abbrev ROM_ID : Nat := 0x230001
/-- 0x2300.02 -/
abbrev PATCH_LEVEL : Nat := 0x230002
/-- 0x2300.03 -/
abbrev PATCH_STATUS : Nat := 0x230003
/-- 0x2300.04 -/
abbrev PATCH_IMAGE : Nat := 0x230004
/-- 0x2300.05 -/
abbrev UC_CMD : Nat := 0x230005
/-- 0x2300.06 -/
abbrev INSTALL_STATUS : Nat := 0x230006
/-- 0x2300.07 -/
abbrev CUST_IMAGE : Nat := 0x230007
/-- 0x2300.08 -/
abbrev CUST_STATUS : Nat := 0x230008
/-- 0x2300.09 -/
abbrev CUST_ERR_ADDR : Nat := 0x230009
/-- 0x2300.0A -/
abbrev UENTRY_MAP : Nat := 0x23000A
/-- 0x2300.0B -/
abbrev UC_DIGEST : Nat := 0x23000B
/-- 0x2300.0C -/
abbrev UC_ENFORCE : Nat := 0x23000C
/-- 0x2300.0D -/
abbrev UTRAP_VEC : Nat := 0x23000D
/-- 0x2300.0E -/
abbrev TRAP_CMD : Nat := 0x23000E
/-- 0x2300.0F -/
abbrev RING_TRAP_EN : Nat := 0x23000F
/-- 0x2300.10 -/
abbrev TRAP_PENDING : Nat := 0x230010
/-- 0x2300.11 -/
abbrev TRAPS : Nat := 0x230011
/-- 0x2300.12 -/
abbrev TRAP_CYCLES : Nat := 0x230012
/-- 0x2300.13 -/
abbrev TRAP_FRAME : Nat := 0x230013
/-- 0x2300.14 -/
abbrev SNAPSHOT : Nat := 0x230014
/-- 0x2300.15 -/
abbrev TIME_SNAP : Nat := 0x230015
/-- 0x2300.16 -/
abbrev USER_RESULT : Nat := 0x230016
/-- 0x2300.17 -/
abbrev USER_DONE : Nat := 0x230017
/-- 0x2300.18 -/
abbrev DEFER_OVERRUNS : Nat := 0x230018
/-- 0x2300.19 -/
abbrev TRAP_OVERRUNS : Nat := 0x230019
/-- 0x2300.1A -/
abbrev UR_CUT : Nat := 0x23001A
/-- 0x2300.1B -/
abbrev UC_CORRECTED : Nat := 0x23001B
/-- 0x2300.1C -/
abbrev UC_UNCORRECTED : Nat := 0x23001C
/-- 0x2300.1D -/
abbrev UC_BAD_ADDR : Nat := 0x23001D
/-- 0x2300.1E -/
abbrev UC_RD_ADDR : Nat := 0x23001E
/-- 0x2300.1F -/
abbrev UC_RD_DATA : Nat := 0x23001F
/-- 0x2400.01 -/
abbrev CH_CTRL : Nat := 0x240001
/-- 0x2400.02 -/
abbrev CH_CMD : Nat := 0x240002
/-- 0x2400.03 -/
abbrev HEAD_ADDR : Nat := 0x240003
/-- 0x2400.04 -/
abbrev HEAD_EP : Nat := 0x240004
/-- 0x2400.05 -/
abbrev HOP_LIMIT : Nat := 0x240005
/-- 0x2400.06 -/
abbrev CH_STATE : Nat := 0x240006
/-- 0x2400.07 -/
abbrev CH_ERR : Nat := 0x240007
/-- 0x2400.08 -/
abbrev CUR_DESC : Nat := 0x240008
/-- 0x2400.09 -/
abbrev CUR_I0 : Nat := 0x240009
/-- 0x2400.0C -/
abbrev HOPS : Nat := 0x24000C
/-- 0x2400.0D -/
abbrev BYTES : Nat := 0x24000D
/-- 0x2400.0E -/
abbrev DONE_COUNT : Nat := 0x24000E
/-- 0x2400.0F -/
abbrev LAST_TAG : Nat := 0x24000F
/-- 0x2400.10 -/
abbrev CRC_LAST : Nat := 0x240010
/-- 0x2400.11 -/
abbrev CRC_FAILS : Nat := 0x240011
/-- 0x2400.12 -/
abbrev REFETCHES : Nat := 0x240012
/-- 0x2400.13 -/
abbrev DB_IGNORED : Nat := 0x240013
/-- 0x2400.14 -/
abbrev ERR_ADDR : Nat := 0x240014
/-- 0x2400.15 -/
abbrev ERR_EP : Nat := 0x240015
/-- 0x2400.16 -/
abbrev DICT_CODE : Nat := 0x240016
/-- 0x2400.17 -/
abbrev CH_CLASS : Nat := 0x240017
/-- 0x2400.18 -/
abbrev DB_PENDING : Nat := 0x240018
/-- 0x2500.01 -/
abbrev PAT_STACKS : Nat := 0x250001
/-- 0x2500.02 -/
abbrev PAT_MIB : Nat := 0x250002
/-- 0x2500.03 -/
abbrev CIS_STACKS : Nat := 0x250003
/-- 0x2500.04 -/
abbrev CIS_MIB : Nat := 0x250004
/-- 0x2500.05 -/
abbrev SCR_STACKS : Nat := 0x250005
/-- 0x2500.06 -/
abbrev SCR_MIB : Nat := 0x250006
/-- 0x2500.07 -/
abbrev MAP_CMD : Nat := 0x250007
/-- 0x2500.08 -/
abbrev MAP_STATE : Nat := 0x250008
/-- 0x2500.09 -/
abbrev PAT_SIZE : Nat := 0x250009
/-- 0x2500.0A -/
abbrev CIS_SIZE : Nat := 0x25000A
/-- 0x2500.0B -/
abbrev SCR_SIZE : Nat := 0x25000B
/-- 0x2500.0C -/
abbrev STACK_STATE : Nat := 0x25000C
/-- 0x2500.0D -/
abbrev MEM_CE : Nat := 0x25000D
/-- 0x2500.0E -/
abbrev MEM_UE : Nat := 0x25000E
/-- 0x2500.0F -/
abbrev MEM_UE_ADDR : Nat := 0x25000F
/-- 0x2500.10 -/
abbrev CAP_MODE : Nat := 0x250010
/-- 0x2500.11 -/
abbrev CAP_CTRL : Nat := 0x250011
/-- 0x2500.12 -/
abbrev CAP_LEVEL : Nat := 0x250012
/-- 0x2500.13 -/
abbrev CAP_FLAGS : Nat := 0x250013
/-- 0x2500.14 -/
abbrev RECORDS : Nat := 0x250014
/-- 0x2500.15 -/
abbrev DEMOTED : Nat := 0x250015
/-- 0x2500.16 -/
abbrev LOST_RECORDS : Nat := 0x250016
/-- 0x2500.17 -/
abbrev REC_END : Nat := 0x250017
/-- 0x2500.18 -/
abbrev REC_OLDEST : Nat := 0x250018
/-- 0x2500.19 -/
abbrev STEP1_ISSUE : Nat := 0x250019
/-- 0x2500.1A -/
abbrev STEP2_ISSUE : Nat := 0x25001A
/-- 0x2500.1B -/
abbrev CQ_LEVEL : Nat := 0x25001B
/-- 0x2500.1C -/
abbrev CQ_MAX : Nat := 0x25001C
/-- 0x2500.20 -/
abbrev X_START : Nat := 0x250020
/-- 0x2500.21 -/
abbrev X_STEP : Nat := 0x250021
/-- 0x2500.22 -/
abbrev X_COUNT : Nat := 0x250022
/-- 0x2500.23 -/
abbrev Y_START : Nat := 0x250023
/-- 0x2500.24 -/
abbrev Y_STEP : Nat := 0x250024
/-- 0x2500.25 -/
abbrev Y_COUNT : Nat := 0x250025
/-- 0x2500.26 -/
abbrev R_ORDER : Nat := 0x250026
/-- 0x2500.27 -/
abbrev R_PINS_LO : Nat := 0x250027
/-- 0x2500.28 -/
abbrev R_PINS_HI : Nat := 0x250028
/-- 0x2500.29 -/
abbrev R_BLANK : Nat := 0x250029
/-- 0x2500.2A -/
abbrev R_STATE : Nat := 0x25002A
/-- 0x2500.2B -/
abbrev R_POINT : Nat := 0x25002B
/-- 0x2500.2C -/
abbrev R_POINTS_DONE : Nat := 0x25002C
/-- 0x2500.2D -/
abbrev R_STRAY : Nat := 0x25002D
/-- 0x2500.30 -/
abbrev MAP_EPOCH : Nat := 0x250030
/-- 0x2600.01 -/
abbrev RING_ROLE : Nat := 0x260001
/-- 0x2600.02 -/
abbrev RING_STATE : Nat := 0x260002
/-- 0x2600.03 -/
abbrev RING_POS : Nat := 0x260003
/-- 0x2600.04 -/
abbrev RING_SIZE : Nat := 0x260004
/-- 0x2600.05 -/
abbrev RING_CTRL : Nat := 0x260005
/-- 0x2600.06 -/
abbrev START_LEAD : Nat := 0x260006
/-- 0x2600.07 -/
abbrev RING_CMD : Nat := 0x260007
/-- 0x2600.08 -/
abbrev CMD_GROUP : Nat := 0x260008
/-- 0x2600.09 -/
abbrev CMD_ENTRY : Nat := 0x260009
/-- 0x2600.0A -/
abbrev LINK_OUT_PS : Nat := 0x26000A
/-- 0x2600.0B -/
abbrev LOOP_PS : Nat := 0x26000B
/-- 0x2600.0C -/
abbrev FLEET_OFS : Nat := 0x26000C
/-- 0x2600.0D -/
abbrev FLEET_NOW : Nat := 0x26000D
/-- 0x2600.0E -/
abbrev RING_CAUSE : Nat := 0x26000E
/-- 0x2600.0F -/
abbrev MSGS_RX : Nat := 0x26000F
/-- 0x2600.10 -/
abbrev CRC_ERRS : Nat := 0x260010
/-- 0x2600.11 -/
abbrev DROPS : Nat := 0x260011
/-- 0x2600.12 -/
abbrev START_IGNORED : Nat := 0x260012
/-- 0x2600.13 -/
abbrev START_LATE : Nat := 0x260013
/-- 0x2600.14 -/
abbrev START_REPLACED : Nat := 0x260014
/-- 0x2600.15 -/
abbrev JUMP_LATE : Nat := 0x260015
/-- 0x2600.16 -/
abbrev SCHED : Nat := 0x260016
/-- 0x2600.17 -/
abbrev PEER_TABLE : Nat := 0x260017
/-- 0x2600.18 -/
abbrev PEER_MISMATCHES : Nat := 0x260018
/-- 0x2600.19 -/
abbrev PEERS_STALE : Nat := 0x260019
/-- 0x2700.01 -/
abbrev CAL_CMD : Nat := 0x270001
/-- 0x2700.02 -/
abbrev CAL_MASK_LO : Nat := 0x270002
/-- 0x2700.03 -/
abbrev CAL_MASK_HI : Nat := 0x270003
/-- 0x2700.04 -/
abbrev CAL_STATE : Nat := 0x270004
/-- 0x2700.05 -/
abbrev CAL_FLAGS : Nat := 0x270005
/-- 0x2700.06 -/
abbrev ACTIVE_BANK : Nat := 0x270006
/-- 0x2700.07 -/
abbrev ACTIVE_SEQ : Nat := 0x270007
/-- 0x2700.08 -/
abbrev BANK_STATE : Nat := 0x270008
/-- 0x2700.09 -/
abbrev CERT_ID : Nat := 0x270009
/-- 0x2700.0A -/
abbrev FACTORY_DATE : Nat := 0x27000A
/-- 0x2700.0B -/
abbrev HOLD_V : Nat := 0x27000B
/-- 0x2700.0C -/
abbrev HOLD_C : Nat := 0x27000C
/-- 0x2700.0D -/
abbrev HOLD_E : Nat := 0x27000D
/-- 0x2700.0E -/
abbrev STORE_NEED : Nat := 0x27000E
/-- 0x2700.0F -/
abbrev STORES : Nat := 0x27000F
/-- 0x2700.10 -/
abbrev STORE_FAILS : Nat := 0x270010
/-- 0x2700.11 -/
abbrev SELF_RUNS : Nat := 0x270011
/-- 0x2700.12 -/
abbrev STORE_CMD : Nat := 0x270012
/-- 0x2700.20 -/
abbrev VREF_T0 : Nat := 0x270020
/-- 0x2700.30 -/
abbrev PI_CORR_T0 : Nat := 0x270030
/-- 0x2800.01 -/
abbrev DOM_EN : Nat := 0x280001
/-- 0x2800.02 -/
abbrev DOM_STATE : Nat := 0x280002
/-- 0x2800.03 -/
abbrev RESET_CAUSE : Nat := 0x280003
/-- 0x2800.04 -/
abbrev RESET_CMD : Nat := 0x280004
/-- 0x2800.05 -/
abbrev SUPPLY_OK : Nat := 0x280005
/-- 0x2800.06 -/
abbrev SUPPLY_FAILS : Nat := 0x280006
/-- 0x2800.07 -/
abbrev T_WARN : Nat := 0x280007
/-- 0x2800.08 -/
abbrev THERM_STATE : Nat := 0x280008
/-- 0x2800.09 -/
abbrev HUB_TEMP : Nat := 0x280009
/-- 0x2800.0A -/
abbrev STACK_TEMP0 : Nat := 0x28000A
/-- 0x2800.0E -/
abbrev PEAK_TEMP : Nat := 0x28000E
/-- 0x2800.0F -/
abbrev THROTTLES : Nat := 0x28000F
/-- 0x2800.10 -/
abbrev MODULE_PWR : Nat := 0x280010
/-- 0x2800.11 -/
abbrev UPTIME : Nat := 0x280011
/-- 0x2900.01 -/
abbrev FW_VERSION : Nat := 0x290001
/-- 0x2900.02 -/
abbrev FW_STATUS : Nat := 0x290002
/-- 0x2900.03 -/
abbrev FW_SLOT : Nat := 0x290003
/-- 0x2900.04 -/
abbrev FW_MEASURE : Nat := 0x290004
/-- 0x2900.05 -/
abbrev FW_IMAGE : Nat := 0x290005
/-- 0x2900.06 -/
abbrev FW_CMD : Nat := 0x290006
/-- 0x2900.07 -/
abbrev FW_INST_STATUS : Nat := 0x290007
/-- 0x2900.08 -/
abbrev ROLLBACK_CMD : Nat := 0x290008
/-- 0x2900.09 -/
abbrev FW_FLOOR : Nat := 0x290009
/-- 0x2900.0A -/
abbrev PATCH_FLOOR : Nat := 0x29000A
/-- 0x2900.0B -/
abbrev FW_SLOTS_LEFT : Nat := 0x29000B
/-- 0x2900.0C -/
abbrev PATCH_SLOTS_LEFT : Nat := 0x29000C
/-- 0x2900.0D -/
abbrev IDENT_STATUS : Nat := 0x29000D
/-- 0x2900.10 -/
abbrev ATT_NONCE : Nat := 0x290010
/-- 0x2900.11 -/
abbrev ATT_CMD : Nat := 0x290011
/-- 0x2900.12 -/
abbrev ATT_STATE : Nat := 0x290012
/-- 0x2900.13 -/
abbrev ATT_REPORT : Nat := 0x290013
/-- 0x2900.14 -/
abbrev ATT_COUNT : Nat := 0x290014
/-- 0x2900.20 -/
abbrev CUST_KEY0 : Nat := 0x290020
/-- 0x2900.28 -/
abbrev KEY_MAP : Nat := 0x290028
/-- 0x2900.29 -/
abbrev KEYS_SAVED : Nat := 0x290029
/-- 0x3000.01 -/
abbrev TILE_STATE : Nat := 0x300001
/-- 0x3000.02 -/
abbrev TILE_CMD : Nat := 0x300002
/-- 0x3000.03 -/
abbrev WAKE_LANES : Nat := 0x300003
/-- 0x3000.04 -/
abbrev TILE_WAKES : Nat := 0x300004
/-- 0x3000.10 -/
abbrev TILE_UPS : Nat := 0x300010
/-- 0x3000.11 -/
abbrev TILE_PWR : Nat := 0x300011
/-- 0x3001.01 -/
abbrev CONV_NODE : Nat := 0x300101
/-- 0x3001.02 -/
abbrev CONV_AVG : Nat := 0x300102
/-- 0x3001.03 -/
abbrev CONV_CMD : Nat := 0x300103
/-- 0x3001.04 -/
abbrev CONV_RESULT : Nat := 0x300104
/-- 0x3001.05 -/
abbrev CONV_FLAGS : Nat := 0x300105
/-- 0x3002.01 -/
abbrev TILE_TEMP : Nat := 0x300201
/-- 0x3002.02 -/
abbrev TILE_PEAK : Nat := 0x300202
/-- 0x3003.01 -/
abbrev WH_LEVEL : Nat := 0x300301
/-- 0x3003.02 -/
abbrev WH_MIN : Nat := 0x300302
/-- 0x3003.03 -/
abbrev WH_FETCH : Nat := 0x300303
/-- 0x3004.01 -/
abbrev LINE_CFG0 : Nat := 0x300401
/-- 0x3004.05 -/
abbrev LINE_LIVE : Nat := 0x300405
/-- 0x3005.01 -/
abbrev TILE_FENCED : Nat := 0x300501
/-- 0x3005.02 -/
abbrev TILE_CAUSE : Nat := 0x300502
/-- 0x4000.01 -/
abbrev ROLE : Nat := 0x400001
/-- 0x4000.02 -/
abbrev DIVISOR : Nat := 0x400002
/-- 0x4000.03 -/
abbrev VPER : Nat := 0x400003
/-- 0x4000.04 -/
abbrev PARK : Nat := 0x400004
/-- 0x4000.05 -/
abbrev PULSE_DROPS : Nat := 0x400005
/-- 0x4000.06 -/
abbrev EDGES_SKIPPED : Nat := 0x400006
/-- 0x4001.01 -/
abbrev VIH : Nat := 0x400101
/-- 0x4001.02 -/
abbrev VIL : Nat := 0x400102
/-- 0x4001.03 -/
abbrev VOD : Nat := 0x400103
/-- 0x4001.04 -/
abbrev VCM : Nat := 0x400104
/-- 0x4001.05 -/
abbrev PL0 : Nat := 0x400105
/-- 0x4001.09 -/
abbrev LEG_MODE : Nat := 0x400109
/-- 0x4002.01 -/
abbrev TERM_MODE : Nat := 0x400201
/-- 0x4002.02 -/
abbrev VTT : Nat := 0x400202
/-- 0x4003.01 -/
abbrev THR_HI : Nat := 0x400301
/-- 0x4003.02 -/
abbrev THR_LO : Nat := 0x400302
/-- 0x4003.03 -/
abbrev HYST : Nat := 0x400303
/-- 0x4003.04 -/
abbrev SLC0 : Nat := 0x400304
/-- 0x4003.07 -/
abbrev CMP_SRC : Nat := 0x400307
/-- 0x4004.01 -/
abbrev CMP_LIVE : Nat := 0x400401
/-- 0x4004.02 -/
abbrev ATTN_EN : Nat := 0x400402
/-- 0x4004.03 -/
abbrev ATTN_SEEN : Nat := 0x400403
/-- 0x4004.04 -/
abbrev ATTN_COUNT : Nat := 0x400404
/-- 0x4004.05 -/
abbrev BAND_PRESETS : Nat := 0x400405
/-- 0x4005.01 -/
abbrev DESKEW_DRV : Nat := 0x400501
/-- 0x4005.02 -/
abbrev DESKEW_CMP : Nat := 0x400502
/-- 0x4005.03 -/
abbrev STRB_ADJ : Nat := 0x400503
/-- 0x4005.04 -/
abbrev DESKEW_DRV_RES : Nat := 0x400504
/-- 0x4005.05 -/
abbrev DESKEW_CMP_RES : Nat := 0x400505
/-- 0x4005.06 -/
abbrev STRB_ADJ_RES : Nat := 0x400506
/-- 0x4005.07 -/
abbrev EARLY : Nat := 0x400507
/-- 0x4006.01 -/
abbrev DEF_TSET : Nat := 0x400601
/-- 0x4006.02 -/
abbrev ACTIVE_TSET : Nat := 0x400602
/-- 0x4007.01 -/
abbrev PRBS_POLY : Nat := 0x400701
/-- 0x4007.02 -/
abbrev PRBS_TAPS : Nat := 0x400702
/-- 0x4007.03 -/
abbrev PRBS_SEED : Nat := 0x400703
/-- 0x4007.04 -/
abbrev PRBS_CTRL : Nat := 0x400704
/-- 0x4007.05 -/
abbrev LOCK_RUN : Nat := 0x400705
/-- 0x4007.06 -/
abbrev LOSS_ERRS : Nat := 0x400706
/-- 0x4007.07 -/
abbrev CHK_STATE : Nat := 0x400707
/-- 0x4007.08 -/
abbrev RELOCKS : Nat := 0x400708
/-- 0x4008.01 -/
abbrev TMU_MODE : Nat := 0x400801
/-- 0x4008.02 -/
abbrev START_SRC : Nat := 0x400802
/-- 0x4008.03 -/
abbrev STOP_SRC : Nat := 0x400803
/-- 0x4008.04 -/
abbrev TMU_CTRL : Nat := 0x400804
/-- 0x4008.05 -/
abbrev TMU_COUNT : Nat := 0x400805
/-- 0x4008.06 -/
abbrev GATE : Nat := 0x400806
/-- 0x4008.07 -/
abbrev TMU_TMO : Nat := 0x400807
/-- 0x4008.08 -/
abbrev TMU_CMD : Nat := 0x400808
/-- 0x4008.09 -/
abbrev HIST_PERIOD : Nat := 0x400809
/-- 0x4008.0A -/
abbrev HIST_SHIFT : Nat := 0x40080A
/-- 0x4008.0B -/
abbrev HIST_OFFSET : Nat := 0x40080B
/-- 0x4009.01 -/
abbrev TMU_STATE : Nat := 0x400901
/-- 0x4009.02 -/
abbrev RESULT : Nat := 0x400902
/-- 0x4009.03 -/
abbrev RES_COUNT : Nat := 0x400903
/-- 0x4009.04 -/
abbrev RES_FREQ : Nat := 0x400904
/-- 0x4009.05 -/
abbrev RES_FLAGS : Nat := 0x400905
/-- 0x4009.06 -/
abbrev START_TS : Nat := 0x400906
/-- 0x4009.07 -/
abbrev END_TS : Nat := 0x400907
/-- 0x4009.08 -/
abbrev ORPHAN_STOP : Nat := 0x400908
/-- 0x4009.09 -/
abbrev RESULTS : Nat := 0x400909
/-- 0x4009.0A -/
abbrev ACC_N : Nat := 0x40090A
/-- 0x4009.0B -/
abbrev ACC_SUM : Nat := 0x40090B
/-- 0x4009.0C -/
abbrev ACC_MIN : Nat := 0x40090C
/-- 0x4009.0D -/
abbrev ACC_MAX : Nat := 0x40090D
/-- 0x4009.0E -/
abbrev TS_COUNT : Nat := 0x40090E
/-- 0x4009.0F -/
abbrev TS_MISSED : Nat := 0x40090F
/-- 0x4009.10 -/
abbrev TS_BUF : Nat := 0x400910
/-- 0x4009.11 -/
abbrev HIST : Nat := 0x400911
/-- 0x4009.12 -/
abbrev HIST_OUT : Nat := 0x400912
/-- 0x400A.01 -/
abbrev ERR_COUNT : Nat := 0x400A01
/-- 0x400A.02 -/
abbrev JUDGED : Nat := 0x400A02
/-- 0x400A.03 -/
abbrev INV_COUNT : Nat := 0x400A03
/-- 0x400A.04 -/
abbrev CNT_FLAGS : Nat := 0x400A04
/-- 0x400B.01 -/
abbrev FF_ISSUE : Nat := 0x400B01
/-- 0x400B.02 -/
abbrev FF_GRANULE : Nat := 0x400B02
/-- 0x400B.03 -/
abbrev FF_SEGMENT : Nat := 0x400B03
/-- 0x400B.04 -/
abbrev FF_WORD : Nat := 0x400B04
/-- 0x400C.01 -/
abbrev WAKE_EN : Nat := 0x400C01
/-- 0x400C.02 -/
abbrev WAKE_CMP : Nat := 0x400C02
/-- 0x400C.03 -/
abbrev WAKE_SLOPE : Nat := 0x400C03
/-- 0x400C.04 -/
abbrev WAKES : Nat := 0x400C04
/-- 0x400D.01 -/
abbrev SC_MODE : Nat := 0x400D01
/-- 0x400D.02 -/
abbrev SC_TIE : Nat := 0x400D02
/-- 0x400D.03 -/
abbrev SC_CMD : Nat := 0x400D03
/-- 0x400D.04 -/
abbrev SC_STATE : Nat := 0x400D04
/-- 0x400D.05 -/
abbrev SC_RESULT : Nat := 0x400D05
/-- 0x400E.01 -/
abbrev DRV_BASE : Nat := 0x400E01
/-- 0x400E.02 -/
abbrev CMP_BASE : Nat := 0x400E02
/-- 0x400E.03 -/
abbrev CAP_BASE : Nat := 0x400E03
/-- 0x400E.04 -/
abbrev DRV_DRIFT : Nat := 0x400E04
/-- 0x400E.05 -/
abbrev CMP_DRIFT : Nat := 0x400E05
/-- 0x400E.06 -/
abbrev CAP_DRIFT : Nat := 0x400E06
/-- 0x400E.07 -/
abbrev DAC_TRIM : Nat := 0x400E07
/-- 0x400E.08 -/
abbrev CMP_OFS : Nat := 0x400E08
/-- 0x400E.09 -/
abbrev BASE_SOURCE : Nat := 0x400E09
/-- 0x400E.0A -/
abbrev PENDING : Nat := 0x400E0A
/-- 0x400F.01 -/
abbrev CAL_STATUS : Nat := 0x400F01
/-- 0x400F.02 -/
abbrev CH_STALE : Nat := 0x400F02
/-- 0x400F.03 -/
abbrev LAST_CAL : Nat := 0x400F03
/-- 0x400F.04 -/
abbrev BUSY_COUNT : Nat := 0x400F04
/-- 0x400F.05 -/
abbrev CAL_FAIL_BITS : Nat := 0x400F05
/-- 0x5000.01 -/
abbrev STICKY_LO : Nat := 0x500001
/-- 0x5000.02 -/
abbrev STICKY_HI : Nat := 0x500002
/-- 0x5001.01 -/
abbrev REAL_LO : Nat := 0x500101
/-- 0x5001.02 -/
abbrev REAL_HI : Nat := 0x500102
/-- 0x5002.01 -/
abbrev INJ_LO : Nat := 0x500201
/-- 0x5002.02 -/
abbrev INJ_HI : Nat := 0x500202
/-- 0x5003.01 -/
abbrev REACT_s : Nat := 0x500301
/-- 0x5010.01 -/
abbrev INJ_SRC : Nat := 0x501001
/-- 0x5010.02 -/
abbrev INJ_CMD : Nat := 0x501002
/-- 0x5010.03 -/
abbrev INJ_REACT : Nat := 0x501003
/-- 0x5010.04 -/
abbrev INJ_FIRED : Nat := 0x501004
/-- 0x5020.01 -/
abbrev ALIVE_STATE : Nat := 0x502001
/-- 0x5020.02 -/
abbrev ALIVE_CHANGES : Nat := 0x502002
/-- 0x5030.01 -/
abbrev FENCE_CH_LO : Nat := 0x503001
/-- 0x5030.02 -/
abbrev FENCE_CH_HI : Nat := 0x503002
/-- 0x5030.03 -/
abbrev FENCE_TILE : Nat := 0x503003
/-- 0x5030.04 -/
abbrev FENCE_STACK : Nat := 0x503004
/-- 0x5030.05 -/
abbrev FENCE_UNIT : Nat := 0x503005
/-- 0x5030.06 -/
abbrev FENCE_CMD : Nat := 0x503006
/-- 0x5030.07 -/
abbrev FENCES : Nat := 0x503007
/-- 0x5040.01 -/
abbrev SEV_HIGH : Nat := 0x504001
/-- 0x5040.02 -/
abbrev SEV_MAP : Nat := 0x504002
/-- 0x5040.03 -/
abbrev FIRST_LO : Nat := 0x504003
/-- 0x5040.04 -/
abbrev FIRST_HI : Nat := 0x504004
/-- 0x5040.05 -/
abbrev OCCURRENCES : Nat := 0x504005
/-- 0x5040.06 -/
abbrev FAULT_ISSUE : Nat := 0x504006
/-- 0x5040.07 -/
abbrev FAULT_SEGMENT : Nat := 0x504007
/-- 0x5040.08 -/
abbrev SAFE : Nat := 0x504008
/-- 0x6000.01 -/
abbrev T_D0 : Nat := 0x600001
/-- 0x6000.02 -/
abbrev T_D1 : Nat := 0x600002
/-- 0x6000.03 -/
abbrev T_D2 : Nat := 0x600003
/-- 0x6000.04 -/
abbrev T_D3 : Nat := 0x600004
/-- 0x6000.05 -/
abbrev T_C0 : Nat := 0x600005
/-- 0x6000.06 -/
abbrev T_C1 : Nat := 0x600006
/-- 0x6000.07 -/
abbrev FORMAT : Nat := 0x600007
/-- 0x6000.08 -/
abbrev TS_CTRL : Nat := 0x600008
/-- 0xE000.01 -/
abbrev DIAG_SCRATCH : Nat := 0xE00001
/-- 0xE000.02 -/
abbrev DIAG_NOTE : Nat := 0xE00002
/-- 0xE000.03 -/
abbrev DIAG_WRITES : Nat := 0xE00003

end K

/-- The object table of 0x1001 (R83). -/
def rows1001 : List ObjRow := [
  -- STATUS
  ⟨0x01, 0x01, .u16, .ro, 0, false, 0xffff, 0, .any, 0⟩,
  -- ATTN_EVENTS
  ⟨0x02, 0x02, .u16, .rw, 0, false, 0xe00, 0xe00, .any, 0⟩,
  -- ATTN_MASK
  ⟨0x03, 0x03, .u16, .rw, 0, false, 0x1fc0, 0, .any, 0⟩]

/-- The object table of 0x1002 (R650). -/
def rows1002 : List ObjRow := [
  -- READY
  ⟨0x01, 0x01, .u32, .ro, 0, false, 0x3fffffff, 0, .any, 0⟩,
  -- READY_TIMES
  ⟨0x02, 0x02, .domain, .ro, 0, false, 0, 0, .any, 0⟩]

/-- The object table of 0x1018 (R667). -/
def rows1018 : List ObjRow := [
  -- VENDOR
  ⟨0x01, 0x01, .u32, .ro, 0x50480001, false, 0xffffffff, 0, .any, 0⟩,
  -- PART
  ⟨0x02, 0x02, .u32, .ro, 0x9612, false, 0xffffffff, 0, .any, 0⟩,
  -- STEPPING
  ⟨0x03, 0x03, .u8, .ro, 0xb0, false, 0xff, 0, .any, 0⟩,
  -- SERIAL
  ⟨0x04, 0x04, .u64, .ro, 0, false, 0xffffffffffffffff, 0, .any, 0⟩,
  -- IDENT_PUB
  ⟨0x05, 0x05, .octets, .ro, 0, false, 0, 0, .any, 256⟩,
  -- IDENT_CERT
  ⟨0x06, 0x06, .domain, .ro, 0, false, 0, 0, .any, 0⟩,
  -- ROOT_HASH
  ⟨0x07, 0x07, .octets, .ro, 0, false, 0, 0, .any, 256⟩]

/-- The object table of 0x1100 (R113). -/
def rows1100 : List ObjRow := [
  -- SIG_LIVE
  ⟨0x01, 0x01, .u32, .ro, 0, false, 0xffffffff, 0, .any, 0⟩,
  -- SIG_REF
  ⟨0x02, 0x02, .u32, .lck, 0, false, 0xffffffff, 0, .any, 0⟩,
  -- SIG_COMMIT
  ⟨0x03, 0x03, .u8, .cmdLck, 0, false, 1, 0, .any, 0⟩,
  -- SIG_PERIOD
  ⟨0x04, 0x04, .u8, .lck, 0x10, true, 0xff, 0, .nat 12 24, 0⟩,
  -- SIG_MISMATCHES
  ⟨0x05, 0x05, .u32, .rw, 0, false, 0xffffffff, 0, .any, 0⟩,
  -- SIG_GROUP
  ⟨0x06, 0x06, .u8, .rw, 0, false, 0xff, 0, .nat 0 63, 0⟩,
  -- SIG_VALID
  ⟨0x07, 0x07, .bool, .ro, 0, false, 0xff, 0, .any, 0⟩,
  -- SIG_CURRENT
  ⟨0x08, 0x08, .bool, .ro, 0, false, 0xff, 0, .any, 0⟩]

/-- The object table of 0x1200 (R104). -/
def rows1200 : List ObjRow := [
  -- LOCK_SET
  ⟨0x01, 0x01, .u32, .rw, 0, true, 0xff, 0, .any, 0⟩]

/-- The object table of 0x1201 (R105). -/
def rows1201 : List ObjRow := [
  -- KEY_UNLOCK
  ⟨0x01, 0x01, .u16, .wo, 0, false, 0xffff, 0, .any, 0⟩,
  -- UNLOCK_STATE
  ⟨0x02, 0x02, .u8, .ro, 0, false, 0xff, 0, .any, 0⟩,
  -- KEY_FAILS
  ⟨0x03, 0x03, .u32, .ro, 0, false, 0xffffffff, 0, .any, 0⟩]

/-- The object table of 0x1F00 (R99). -/
def rows1F00 : List ObjRow := [
  -- AUTH_PF0
  ⟨0x01, 0x01, .u8, .lck, 3, true, 0xff, 0, .nat 0 4, 0⟩,
  -- AUTH_PF1
  ⟨0x02, 0x02, .u8, .lck, 1, true, 0xff, 0, .nat 0 4, 0⟩,
  -- AUTH_E0
  ⟨0x03, 0x03, .u8, .lck, 2, true, 0xff, 0, .nat 0 4, 0⟩,
  -- AUTH_E1
  ⟨0x04, 0x04, .u8, .lck, 2, true, 0xff, 0, .nat 0 4, 0⟩,
  -- AUTH_JTAG
  ⟨0x05, 0x05, .u8, .lck, 4, true, 0xff, 0, .nat 0 4, 0⟩]

/-- The object table of 0x1F01 (R102). -/
def rows1F01 : List ObjRow := [
  -- NODE_ADDR
  ⟨0x01, 0x01, .u16, .lck, 0, false, 0xffff, 0, .nat 0 4094, 0⟩,
  -- E0_MODE
  ⟨0x02, 0x02, .u8, .lck, 3, true, 0xff, 0, .nat 0 4, 0⟩,
  -- E1_MODE
  ⟨0x03, 0x03, .u8, .lck, 3, true, 0xff, 0, .nat 0 4, 0⟩,
  -- E0_MAC
  ⟨0x04, 0x04, .octets, .ro, 0, false, 0, 0, .any, 256⟩,
  -- E1_MAC
  ⟨0x05, 0x05, .octets, .ro, 0, false, 0, 0, .any, 256⟩,
  -- VER_ENABLE
  ⟨0x06, 0x06, .u8, .lck, 7, true, 7, 0, .any, 0⟩]

/-- The object table of 0x1F02 (R103). -/
def rows1F02 : List ObjRow := [
  -- BAR_WR_REJECT
  ⟨0x01, 0x01, .u32, .rw, 0, false, 0xffffffff, 0, .any, 0⟩,
  -- BAR_UNALIGNED
  ⟨0x02, 0x02, .u32, .rw, 0, false, 0xffffffff, 0, .any, 0⟩,
  -- BAR_LAST
  ⟨0x03, 0x03, .u32, .ro, 0, false, 0xffffffff, 0, .any, 0⟩,
  -- BAR_LAST_CODE
  ⟨0x04, 0x04, .u8, .ro, 0, false, 0xff, 0, .any, 0⟩,
  -- NET_DROPPED
  ⟨0x05, 0x05, .u32, .rw, 0, false, 0xffffffff, 0, .any, 0⟩,
  -- BAR_RD_REJECT
  ⟨0x06, 0x06, .u32, .rw, 0, false, 0xffffffff, 0, .any, 0⟩]

/-- The object table of 0x2000 (R234). -/
def rows2000 : List ObjRow := [
  -- SEQ_STATE
  ⟨0x01, 0x01, .u8, .ro, 0, false, 0xff, 0, .any, 0⟩,
  -- SEQ_CMD
  ⟨0x02, 0x02, .u8, .cmd, 0, false, 3, 0, .any, 0⟩,
  -- IMAGE_ADDR
  ⟨0x03, 0x03, .u64, .rw, 0, true, 0xffffffffffffffff, 0, .any, 0⟩,
  -- START_MODE
  ⟨0x04, 0x04, .u8, .rw, 0, true, 0xff, 0, .nat 0 1, 0⟩,
  -- START_FILL
  ⟨0x05, 0x05, .u16, .rw, 0x400, true, 0xffff, 0, .nat 64 2032, 0⟩,
  -- END_CAUSE
  ⟨0x06, 0x06, .u8, .ro, 0, false, 0xff, 0, .any, 0⟩,
  -- HALT_CODE
  ⟨0x07, 0x07, .u8, .ro, 0, false, 0xff, 0, .any, 0⟩,
  -- ERR_GRANULE
  ⟨0x08, 0x08, .u32, .ro, 0, false, 0xffffffff, 0, .any, 0⟩,
  -- ERR_SEGMENT
  ⟨0x09, 0x09, .u16, .ro, 0, false, 0xffff, 0, .any, 0⟩,
  -- DRY_SOURCE
  ⟨0x0A, 0x0A, .u8, .ro, 0, false, 0xff, 0, .any, 0⟩,
  -- ISSUES
  ⟨0x0B, 0x0B, .u64, .ro, 0, false, 0xffffffffffffffff, 0, .any, 0⟩,
  -- SEQ_FLAGS
  ⟨0x0C, 0x0C, .u16, .rw, 0, false, 0x1f, 0x17, .any, 0⟩,
  -- LOOP_SNAPSHOT
  ⟨0x0D, 0x0D, .domain, .ro, 0, false, 0, 0, .any, 0⟩,
  -- RUN_DISCARDED
  ⟨0x0E, 0x0E, .u32, .rw, 0, false, 0xffffffff, 0, .any, 0⟩,
  -- COND_LIVE
  ⟨0x0F, 0x0F, .u32, .ro, 0, false, 0xffffff, 0, .any, 0⟩,
  -- COND_CFG0–COND_CFG15
  ⟨0x10, 0x1F, .u64, .rw, 0, true, 0x3ffffffffffffff, 0, .any, 0⟩,
  -- CNT_LOAD0–CNT_LOAD3
  ⟨0x20, 0x23, .u32, .rw, 0, true, 0xffffffff, 0, .any, 0⟩,
  -- CNT_EVENT0–CNT_EVENT3
  ⟨0x24, 0x27, .u8, .rw, 0, true, 0xff, 0, .cntEvent, 0⟩,
  -- CNT_LIVE0–CNT_LIVE3
  ⟨0x28, 0x2B, .u32, .ro, 0, false, 0xffffffff, 0, .any, 0⟩,
  -- HOST_FLAG
  ⟨0x2C, 0x2C, .bool, .rw, 0, false, 0xff, 0, .any, 0⟩]

/-- The object table of 0x2100 (R237). -/
def rows2100 : List ObjRow := [
  -- JUMP_REQ
  ⟨0x01, 0x01, .u8, .wo, 0, false, 0xf, 0, .any, 0⟩,
  -- JUMP_STATE
  ⟨0x02, 0x02, .u8, .ro, 0, false, 0x7f, 0, .any, 0⟩,
  -- JUMPS_LANDED
  ⟨0x03, 0x03, .u32, .rw, 0, false, 0xffffffff, 0, .any, 0⟩,
  -- JUMPS_REPLACED
  ⟨0x04, 0x04, .u32, .rw, 0, false, 0xffffffff, 0, .any, 0⟩,
  -- JUMPS_REJECTED
  ⟨0x05, 0x05, .u32, .rw, 0, false, 0xffffffff, 0, .any, 0⟩,
  -- RING_JUMP_EN
  ⟨0x06, 0x06, .bool, .rw, 1, true, 0xff, 0, .any, 0⟩,
  -- CUR_SEGMENT
  ⟨0x07, 0x07, .u16, .ro, 0, false, 0xffff, 0, .any, 0⟩,
  -- LOOP_DEPTH
  ⟨0x08, 0x08, .u8, .ro, 0, false, 0xff, 0, .any, 0⟩,
  -- CALL_DEPTH
  ⟨0x09, 0x09, .u8, .ro, 0, false, 0xff, 0, .any, 0⟩,
  -- HEADS_TOTAL
  ⟨0x0A, 0x0A, .u32, .ro, 0, false, 0xffffffff, 0, .any, 0⟩,
  -- HEADS_RESIDENT
  ⟨0x0B, 0x0B, .u32, .ro, 0, false, 0xffffffff, 0, .any, 0⟩,
  -- HEAD_BYTES
  ⟨0x0C, 0x0C, .u32, .ro, 0, false, 0xffffffff, 0, .any, 0⟩,
  -- RESTARTS
  ⟨0x0D, 0x0D, .u64, .ro, 0, false, 0xffffffffffffffff, 0, .any, 0⟩,
  -- CACHE_SPILLS
  ⟨0x0E, 0x0E, .u32, .rw, 0, false, 0xffffffff, 0, .any, 0⟩,
  -- LC_CORRECTED
  ⟨0x0F, 0x0F, .u32, .rw, 0, false, 0xffffffff, 0, .any, 0⟩,
  -- LC_UNCORRECTED
  ⟨0x10, 0x10, .u32, .rw, 0, false, 0xffffffff, 0, .any, 0⟩,
  -- LC_BAD_ADDR
  ⟨0x11, 0x11, .u32, .ro, 0xffffffff, false, 0xffffffff, 0, .any, 0⟩]

/-- The object table of 0x2200 (R292). -/
def rows2200 : List ObjRow := [
  -- REF_SEL
  ⟨0x01, 0x01, .u8, .rw, 0, true, 0xff, 0, .nat 0 1, 0⟩,
  -- REFIN_FREQ
  ⟨0x02, 0x02, .u8, .rw, 1, true, 0xff, 0, .nat 0 1, 0⟩,
  -- REF_ACTIVE
  ⟨0x03, 0x03, .u8, .ro, 0, false, 0xff, 0, .any, 0⟩,
  -- TB_FLAGS
  ⟨0x04, 0x04, .u16, .ro, 0, false, 0xffff, 0, .any, 0⟩,
  -- REFIN_PPB
  ⟨0x05, 0x05, .i32, .ro, 0, false, 0xffffffff, 0, .any, 0⟩,
  -- OVEN_TEMP
  ⟨0x06, 0x06, .i32, .ro, 0, false, 0xffffffff, 0, .any, 0⟩,
  -- OVEN_SETPOINT
  ⟨0x07, 0x07, .i32, .ro, 0, false, 0xffffffff, 0, .any, 0⟩,
  -- WARM_SECONDS
  ⟨0x08, 0x08, .u32, .ro, 0, false, 0xffffffff, 0, .any, 0⟩,
  -- REF_SWITCHES
  ⟨0x09, 0x09, .u32, .rw, 0, false, 0xffffffff, 0, .any, 0⟩,
  -- REFIN_LOSSES
  ⟨0x0A, 0x0A, .u32, .rw, 0, false, 0xffffffff, 0, .any, 0⟩,
  -- TB_NOW
  ⟨0x0B, 0x0B, .u64, .ro, 0, false, 0xffffffffffffffff, 0, .any, 0⟩,
  -- REFOUT_EN
  ⟨0x0C, 0x0C, .bool, .rw, 1, true, 0xff, 0, .any, 0⟩,
  -- TICK_MULT
  ⟨0x20, 0x20, .u64, .rw, 0x46000000000, true, 0xffffffffffffffff, 0, .nat 0x8C00000000 0x46000000000, 0⟩,
  -- TICK_NOM
  ⟨0x21, 0x21, .u64, .ro, 0x65dd08370000, false, 0xffffffffffffffff, 0, .any, 0⟩,
  -- TICK_STATE
  ⟨0x22, 0x22, .u8, .ro, 0, false, 0xff, 0, .any, 0⟩,
  -- TICK_RELOCKS
  ⟨0x23, 0x23, .u32, .rw, 0, false, 0xffffffff, 0, .any, 0⟩,
  -- TICK_UNLOCKS
  ⟨0x24, 0x24, .u32, .rw, 0, false, 0xffffffff, 0, .any, 0⟩]

/-- The object table of 0x2300 (R287). -/
def rows2300 : List ObjRow := [
  -- ROM_ID
  ⟨0x01, 0x01, .u32, .ro, 0xb00001, false, 0xffffffff, 0, .any, 0⟩,
  -- PATCH_LEVEL
  ⟨0x02, 0x02, .u32, .ro, 0, true, 0xffffffff, 0, .any, 0⟩,
  -- PATCH_STATUS
  ⟨0x03, 0x03, .u8, .ro, 0, false, 0xff, 0, .any, 0⟩,
  -- PATCH_IMAGE
  ⟨0x04, 0x04, .domain, .lck, 0, false, 0, 0, .any, 73984⟩,
  -- UC_CMD
  ⟨0x05, 0x05, .u8, .cmdLck, 0, false, 7, 0, .any, 0⟩,
  -- INSTALL_STATUS
  ⟨0x06, 0x06, .u8, .ro, 1, false, 0xff, 0, .any, 0⟩,
  -- CUST_IMAGE
  ⟨0x07, 0x07, .domain, .lck, 0, false, 0, 0, .any, 65792⟩,
  -- CUST_STATUS
  ⟨0x08, 0x08, .u8, .ro, 0, false, 0xff, 0, .any, 0⟩,
  -- CUST_ERR_ADDR
  ⟨0x09, 0x09, .u16, .ro, 0, false, 0xffff, 0, .any, 0⟩,
  -- UENTRY_MAP
  ⟨0x0A, 0x0A, .u32, .ro, 0, false, 0xffffffff, 0, .any, 0⟩,
  -- UC_DIGEST
  ⟨0x0B, 0x0B, .u32, .ro, 0, true, 0xffffffff, 0, .any, 0⟩,
  -- UC_ENFORCE
  ⟨0x0C, 0x0C, .bool, .keyLck, 1, true, 0xff, 0, .any, 0⟩,
  -- UTRAP_VEC
  ⟨0x0D, 0x0D, .u16, .lck, 0, true, 0xffff, 0, .trapVec, 0⟩,
  -- TRAP_CMD
  ⟨0x0E, 0x0E, .u8, .cmd, 0, false, 3, 0, .any, 0⟩,
  -- RING_TRAP_EN
  ⟨0x0F, 0x0F, .bool, .lck, 0, true, 0xff, 0, .any, 0⟩,
  -- TRAP_PENDING
  ⟨0x10, 0x10, .u8, .ro, 0, false, 0xff, 0, .any, 0⟩,
  -- TRAPS
  ⟨0x11, 0x11, .u32, .rw, 0, false, 0xffffffff, 0, .any, 0⟩,
  -- TRAP_CYCLES
  ⟨0x12, 0x12, .u64, .ro, 0, false, 0xffffffffffffffff, 0, .any, 0⟩,
  -- TRAP_FRAME
  ⟨0x13, 0x13, .domain, .ro, 0, false, 0, 0, .any, 0⟩,
  -- SNAPSHOT
  ⟨0x14, 0x14, .domain, .ro, 0, false, 0, 0, .any, 0⟩,
  -- TIME_SNAP
  ⟨0x15, 0x15, .domain, .ro, 0, false, 0, 0, .any, 0⟩,
  -- USER_RESULT
  ⟨0x16, 0x16, .u64, .ro, 0, false, 0xffffffffffffffff, 0, .any, 0⟩,
  -- USER_DONE
  ⟨0x17, 0x17, .u32, .ro, 0, false, 0xffffffff, 0, .any, 0⟩,
  -- DEFER_OVERRUNS
  ⟨0x18, 0x18, .u32, .rw, 0, false, 0xffffffff, 0, .any, 0⟩,
  -- TRAP_OVERRUNS
  ⟨0x19, 0x19, .u32, .rw, 0, false, 0xffffffff, 0, .any, 0⟩,
  -- UR_CUT
  ⟨0x1A, 0x1A, .u32, .rw, 0, false, 0xffffffff, 0, .any, 0⟩,
  -- UC_CORRECTED
  ⟨0x1B, 0x1B, .u32, .rw, 0, false, 0xffffffff, 0, .any, 0⟩,
  -- UC_UNCORRECTED
  ⟨0x1C, 0x1C, .u32, .rw, 0, false, 0xffffffff, 0, .any, 0⟩,
  -- UC_BAD_ADDR
  ⟨0x1D, 0x1D, .u16, .ro, 0xffff, false, 0xffff, 0, .any, 0⟩,
  -- UC_RD_ADDR
  ⟨0x1E, 0x1E, .u16, .rw, 0x1800, false, 0xffff, 0, .nat 0x1800 0x1FFF, 0⟩,
  -- UC_RD_DATA
  ⟨0x1F, 0x1F, .octets, .ro, 0, false, 0, 0, .any, 256⟩]

/-- The object table of 0x2400 (R507). -/
def rows2400 : List ObjRow := [
  -- CH_CTRL
  ⟨0x01, 0x01, .u8, .rw, 0, false, 3, 0, .any, 0⟩,
  -- CH_CMD
  ⟨0x02, 0x02, .u8, .cmd, 0, false, 0xf, 0, .any, 0⟩,
  -- HEAD_ADDR
  ⟨0x03, 0x03, .u64, .rw, 0, false, 0xffffffffffffffff, 0, .any, 0⟩,
  -- HEAD_EP
  ⟨0x04, 0x04, .u8, .rw, 1, false, 0xff, 0, .among [1, 3], 0⟩,
  -- HOP_LIMIT
  ⟨0x05, 0x05, .u32, .rw, 0x100000, true, 0xffffffff, 0, .nat 1 0xFFFFFFFF, 0⟩,
  -- CH_STATE
  ⟨0x06, 0x06, .u8, .ro, 0, false, 0xff, 0, .any, 0⟩,
  -- CH_ERR
  ⟨0x07, 0x07, .u8, .ro, 0, false, 0xff, 0, .any, 0⟩,
  -- CUR_DESC
  ⟨0x08, 0x08, .u64, .rw, 0, false, 0xffffffffffffffff, 0, .any, 0⟩,
  -- CUR_I0–CUR_I2
  ⟨0x09, 0x0B, .u32, .ro, 0, false, 0xffffffff, 0, .any, 0⟩,
  -- HOPS
  ⟨0x0C, 0x0C, .u32, .ro, 0, false, 0xffffffff, 0, .any, 0⟩,
  -- BYTES
  ⟨0x0D, 0x0D, .u64, .rw, 0, false, 0xffffffffffffffff, 0, .any, 0⟩,
  -- DONE_COUNT
  ⟨0x0E, 0x0E, .u32, .rw, 0, false, 0xffffffff, 0, .any, 0⟩,
  -- LAST_TAG
  ⟨0x0F, 0x0F, .u16, .ro, 0, false, 0xffff, 0, .any, 0⟩,
  -- CRC_LAST
  ⟨0x10, 0x10, .u32, .ro, 0, false, 0xffffffff, 0, .any, 0⟩,
  -- CRC_FAILS
  ⟨0x11, 0x11, .u32, .rw, 0, false, 0xffffffff, 0, .any, 0⟩,
  -- REFETCHES
  ⟨0x12, 0x12, .u32, .rw, 0, false, 0xffffffff, 0, .any, 0⟩,
  -- DB_IGNORED
  ⟨0x13, 0x13, .u32, .rw, 0, false, 0xffffffff, 0, .any, 0⟩,
  -- ERR_ADDR
  ⟨0x14, 0x14, .u64, .ro, 0, false, 0xffffffffffffffff, 0, .any, 0⟩,
  -- ERR_EP
  ⟨0x15, 0x15, .u8, .ro, 0, false, 0xff, 0, .any, 0⟩,
  -- DICT_CODE
  ⟨0x16, 0x16, .u8, .ro, 0, false, 0xff, 0, .any, 0⟩,
  -- CH_CLASS
  ⟨0x17, 0x17, .u8, .ro, 0, false, 0xff, 0, .any, 0⟩,
  -- DB_PENDING
  ⟨0x18, 0x18, .bool, .ro, 0, false, 0xff, 0, .any, 0⟩]

/-- The object table of 0x2500 (R416). -/
def rows2500 : List ObjRow := [
  -- PAT_STACKS
  ⟨0x01, 0x01, .u8, .rw, 0xf, true, 0xf, 0, .any, 0⟩,
  -- PAT_MIB
  ⟨0x02, 0x02, .u32, .rw, 0x4000, true, 0xffffffff, 0, .nat 0 32768, 0⟩,
  -- CIS_STACKS
  ⟨0x03, 0x03, .u8, .rw, 0xf, true, 0xf, 0, .any, 0⟩,
  -- CIS_MIB
  ⟨0x04, 0x04, .u32, .rw, 0x3000, true, 0xffffffff, 0, .nat 0 32768, 0⟩,
  -- SCR_STACKS
  ⟨0x05, 0x05, .u8, .rw, 0xf, true, 0xf, 0, .any, 0⟩,
  -- SCR_MIB
  ⟨0x06, 0x06, .u32, .rw, 0x1000, true, 0xffffffff, 0, .nat 0 32768, 0⟩,
  -- MAP_CMD
  ⟨0x07, 0x07, .u8, .cmd, 0, false, 1, 0, .any, 0⟩,
  -- MAP_STATE
  ⟨0x08, 0x08, .u8, .ro, 2, false, 0xff, 0, .any, 0⟩,
  -- PAT_SIZE
  ⟨0x09, 0x09, .u64, .ro, 0, false, 0xffffffffffffffff, 0, .any, 0⟩,
  -- CIS_SIZE
  ⟨0x0A, 0x0A, .u64, .ro, 0, false, 0xffffffffffffffff, 0, .any, 0⟩,
  -- SCR_SIZE
  ⟨0x0B, 0x0B, .u64, .ro, 0, false, 0xffffffffffffffff, 0, .any, 0⟩,
  -- STACK_STATE
  ⟨0x0C, 0x0C, .u8, .ro, 0, false, 0xff, 0, .any, 0⟩,
  -- MEM_CE
  ⟨0x0D, 0x0D, .u32, .rw, 0, false, 0xffffffff, 0, .any, 0⟩,
  -- MEM_UE
  ⟨0x0E, 0x0E, .u32, .rw, 0, false, 0xffffffff, 0, .any, 0⟩,
  -- MEM_UE_ADDR
  ⟨0x0F, 0x0F, .u64, .ro, 0xffffffffffffffff, false, 0xffffffffffffffff, 0, .any, 0⟩,
  -- CAP_MODE
  ⟨0x10, 0x10, .u8, .rw, 1, true, 0xff, 0, .nat 0 3, 0⟩,
  -- CAP_CTRL
  ⟨0x11, 0x11, .u8, .rw, 0, true, 3, 0, .any, 0⟩,
  -- CAP_LEVEL
  ⟨0x12, 0x12, .u8, .ro, 0, false, 0xff, 0, .any, 0⟩,
  -- CAP_FLAGS
  ⟨0x13, 0x13, .u16, .rw, 0, false, 0x1f, 0xf, .any, 0⟩,
  -- RECORDS
  ⟨0x14, 0x14, .u64, .ro, 0, false, 0xffffffffffffffff, 0, .any, 0⟩,
  -- DEMOTED
  ⟨0x15, 0x15, .u64, .ro, 0, false, 0xffffffffffffffff, 0, .any, 0⟩,
  -- LOST_RECORDS
  ⟨0x16, 0x16, .u64, .ro, 0, false, 0xffffffffffffffff, 0, .any, 0⟩,
  -- REC_END
  ⟨0x17, 0x17, .u64, .ro, 0x1000, false, 0xffffffffffffffff, 0, .any, 0⟩,
  -- REC_OLDEST
  ⟨0x18, 0x18, .u64, .ro, 0x1000, false, 0xffffffffffffffff, 0, .any, 0⟩,
  -- STEP1_ISSUE
  ⟨0x19, 0x19, .u64, .ro, 0xffffffffffffffff, false, 0xffffffffffffffff, 0, .any, 0⟩,
  -- STEP2_ISSUE
  ⟨0x1A, 0x1A, .u64, .ro, 0xffffffffffffffff, false, 0xffffffffffffffff, 0, .any, 0⟩,
  -- CQ_LEVEL
  ⟨0x1B, 0x1B, .u32, .ro, 0, false, 0xffffffff, 0, .any, 0⟩,
  -- CQ_MAX
  ⟨0x1C, 0x1C, .u32, .rw, 0, false, 0xffffffff, 0, .any, 0⟩,
  -- X_START
  ⟨0x20, 0x20, .i32, .rw, 0xffffff00, true, 0xffffffff, 0, .sint (-32768) 32768 1, 0⟩,
  -- X_STEP
  ⟨0x21, 0x21, .i32, .rw, 2, true, 0xffffffff, 0, .sint (-32768) 32768 1, 0⟩,
  -- X_COUNT
  ⟨0x22, 0x22, .u16, .rw, 0x100, true, 0xffff, 0, .nat 1 256, 0⟩,
  -- Y_START
  ⟨0x23, 0x23, .i32, .rw, 0xfffffc00, true, 0xffffffff, 0, .sint (-16383) 16383 1, 0⟩,
  -- Y_STEP
  ⟨0x24, 0x24, .i32, .rw, 8, true, 0xffffffff, 0, .sint (-16383) 16383 1, 0⟩,
  -- Y_COUNT
  ⟨0x25, 0x25, .u16, .rw, 0x100, true, 0xffff, 0, .nat 1 256, 0⟩,
  -- R_ORDER
  ⟨0x26, 0x26, .u8, .rw, 0, true, 0xff, 0, .nat 0 1, 0⟩,
  -- R_PINS_LO
  ⟨0x27, 0x27, .u64, .rw, 0, true, 0xffffffffffffffff, 0, .any, 0⟩,
  -- R_PINS_HI
  ⟨0x28, 0x28, .u32, .rw, 0, true, 0xffffffff, 0, .any, 0⟩,
  -- R_BLANK
  ⟨0x29, 0x29, .u8, .rw, 0, true, 0xff, 0, .any, 0⟩,
  -- R_STATE
  ⟨0x2A, 0x2A, .u8, .ro, 0, false, 0xff, 0, .any, 0⟩,
  -- R_POINT
  ⟨0x2B, 0x2B, .u32, .ro, 0, false, 0xffffffff, 0, .any, 0⟩,
  -- R_POINTS_DONE
  ⟨0x2C, 0x2C, .u32, .ro, 0, false, 0xffffffff, 0, .any, 0⟩,
  -- R_STRAY
  ⟨0x2D, 0x2D, .u32, .rw, 0, false, 0xffffffff, 0, .any, 0⟩,
  -- MAP_EPOCH
  ⟨0x30, 0x30, .u32, .ro, 0, false, 0xffffffff, 0, .any, 0⟩]

/-- The object table of 0x2600 (R620). -/
def rows2600 : List ObjRow := [
  -- RING_ROLE
  ⟨0x01, 0x01, .u8, .rw, 1, false, 0xff, 0, .nat 0 2, 0⟩,
  -- RING_STATE
  ⟨0x02, 0x02, .u8, .ro, 0, false, 0xff, 0, .any, 0⟩,
  -- RING_POS
  ⟨0x03, 0x03, .u16, .ro, 0xffff, false, 0xffff, 0, .any, 0⟩,
  -- RING_SIZE
  ⟨0x04, 0x04, .u16, .ro, 0, false, 0xffff, 0, .any, 0⟩,
  -- RING_CTRL
  ⟨0x05, 0x05, .u8, .rw, 1, true, 0xf, 0, .any, 0⟩,
  -- START_LEAD
  ⟨0x06, 0x06, .u32, .rw, 0x493e0, true, 0xffffffff, 0, .nat 2000 100000000, 0⟩,
  -- RING_CMD
  ⟨0x07, 0x07, .u8, .cmd, 0, false, 0xf, 0, .oneBit, 0⟩,
  -- CMD_GROUP
  ⟨0x08, 0x08, .u8, .rw, 0, false, 0x7f, 0, .any, 0⟩,
  -- CMD_ENTRY
  ⟨0x09, 0x09, .u8, .rw, 0, false, 0xf, 0, .any, 0⟩,
  -- LINK_OUT_PS
  ⟨0x0A, 0x0A, .u32, .ro, 0, false, 0xffffffff, 0, .any, 0⟩,
  -- LOOP_PS
  ⟨0x0B, 0x0B, .u32, .ro, 0, false, 0xffffffff, 0, .any, 0⟩,
  -- FLEET_OFS
  ⟨0x0C, 0x0C, .i64, .ro, 0, false, 0xffffffffffffffff, 0, .any, 0⟩,
  -- FLEET_NOW
  ⟨0x0D, 0x0D, .u64, .ro, 0, false, 0xffffffffffffffff, 0, .any, 0⟩,
  -- RING_CAUSE
  ⟨0x0E, 0x0E, .u8, .rw, 0, false, 0x7f, 0x7f, .any, 0⟩,
  -- MSGS_RX
  ⟨0x0F, 0x0F, .u32, .rw, 0, false, 0xffffffff, 0, .any, 0⟩,
  -- CRC_ERRS
  ⟨0x10, 0x10, .u32, .rw, 0, false, 0xffffffff, 0, .any, 0⟩,
  -- DROPS
  ⟨0x11, 0x11, .u32, .rw, 0, false, 0xffffffff, 0, .any, 0⟩,
  -- START_IGNORED
  ⟨0x12, 0x12, .u32, .rw, 0, false, 0xffffffff, 0, .any, 0⟩,
  -- START_LATE
  ⟨0x13, 0x13, .u32, .rw, 0, false, 0xffffffff, 0, .any, 0⟩,
  -- START_REPLACED
  ⟨0x14, 0x14, .u32, .rw, 0, false, 0xffffffff, 0, .any, 0⟩,
  -- JUMP_LATE
  ⟨0x15, 0x15, .u32, .rw, 0, false, 0xffffffff, 0, .any, 0⟩,
  -- SCHED
  ⟨0x16, 0x16, .u64, .ro, 0xffffffffffffffff, false, 0xffffffffffffffff, 0, .any, 0⟩,
  -- PEER_TABLE
  ⟨0x17, 0x17, .domain, .ro, 0, false, 0, 0, .any, 0⟩,
  -- PEER_MISMATCHES
  ⟨0x18, 0x18, .u32, .rw, 0, false, 0xffffffff, 0, .any, 0⟩,
  -- PEERS_STALE
  ⟨0x19, 0x19, .u16, .ro, 0, false, 0xffff, 0, .any, 0⟩]

/-- The object table of 0x2700 (R545). -/
def rows2700 : List ObjRow := [
  -- CAL_CMD
  ⟨0x01, 0x01, .u8, .cmd, 0, false, 3, 0, .any, 0⟩,
  -- CAL_MASK_LO
  ⟨0x02, 0x02, .u64, .rw, 0xffffffffffffffff, false, 0xffffffffffffffff, 0, .any, 0⟩,
  -- CAL_MASK_HI
  ⟨0x03, 0x03, .u32, .rw, 0xffffffff, false, 0xffffffff, 0, .any, 0⟩,
  -- CAL_STATE
  ⟨0x04, 0x04, .u8, .ro, 0, false, 0xff, 0, .any, 0⟩,
  -- CAL_FLAGS
  ⟨0x05, 0x05, .u16, .rw, 0, false, 0x7f, 0xf, .any, 0⟩,
  -- ACTIVE_BANK
  ⟨0x06, 0x06, .u8, .ro, 0, false, 0xff, 0, .any, 0⟩,
  -- ACTIVE_SEQ
  ⟨0x07, 0x07, .u32, .ro, 0, false, 0xffffffff, 0, .any, 0⟩,
  -- BANK_STATE
  ⟨0x08, 0x08, .u8, .ro, 0, false, 0xf, 0, .any, 0⟩,
  -- CERT_ID
  ⟨0x09, 0x09, .u64, .ro, 0, false, 0xffffffffffffffff, 0, .any, 0⟩,
  -- FACTORY_DATE
  ⟨0x0A, 0x0A, .u32, .ro, 0, false, 0xffffffff, 0, .any, 0⟩,
  -- HOLD_V
  ⟨0x0B, 0x0B, .u32, .ro, 0, false, 0xffffffff, 0, .any, 0⟩,
  -- HOLD_C
  ⟨0x0C, 0x0C, .u32, .ro, 0, false, 0xffffffff, 0, .any, 0⟩,
  -- HOLD_E
  ⟨0x0D, 0x0D, .u32, .ro, 0, false, 0xffffffff, 0, .any, 0⟩,
  -- STORE_NEED
  ⟨0x0E, 0x0E, .u32, .ro, 0x81e, false, 0xffffffff, 0, .any, 0⟩,
  -- STORES
  ⟨0x0F, 0x0F, .u32, .rw, 0, false, 0xffffffff, 0, .any, 0⟩,
  -- STORE_FAILS
  ⟨0x10, 0x10, .u32, .rw, 0, false, 0xffffffff, 0, .any, 0⟩,
  -- SELF_RUNS
  ⟨0x11, 0x11, .u32, .rw, 0, false, 0xffffffff, 0, .any, 0⟩,
  -- STORE_CMD
  ⟨0x12, 0x12, .u8, .cmdLck, 0, false, 7, 0, .any, 0⟩,
  -- VREF_T0–VREF_T11
  ⟨0x20, 0x2B, .i32, .lck, 0, false, 0xffffffff, 0, .sint (1180000) 1220000 1, 0⟩,
  -- PI_CORR_T0–PI_CORR_T11
  ⟨0x30, 0x3B, .octets, .ro, 0, false, 0, 0, .any, 256⟩]

/-- The object table of 0x2800 (R651). -/
def rows2800 : List ObjRow := [
  -- DOM_EN
  ⟨0x01, 0x01, .u32, .rw, 0xffffff, true, 0xffffff, 0, .any, 0⟩,
  -- DOM_STATE
  ⟨0x02, 0x02, .u64, .ro, 0, false, 0xffffffffffff, 0, .any, 0⟩,
  -- RESET_CAUSE
  ⟨0x03, 0x03, .u16, .ro, 0, false, 0xffff, 0, .any, 0⟩,
  -- RESET_CMD
  ⟨0x04, 0x04, .u8, .cmdKey, 0, false, 1, 0, .any, 0⟩,
  -- SUPPLY_OK
  ⟨0x05, 0x05, .u8, .ro, 0, false, 0xff, 0, .any, 0⟩,
  -- SUPPLY_FAILS
  ⟨0x06, 0x06, .u32, .rw, 0, false, 0xffffffff, 0, .any, 0⟩,
  -- T_WARN
  ⟨0x07, 0x07, .i32, .rw, 0x17318, true, 0xffffffff, 0, .sint (70000) 105000 1, 0⟩,
  -- THERM_STATE
  ⟨0x08, 0x08, .u8, .ro, 0, false, 0xff, 0, .any, 0⟩,
  -- HUB_TEMP
  ⟨0x09, 0x09, .i32, .ro, 0, false, 0xffffffff, 0, .any, 0⟩,
  -- STACK_TEMP0–STACK_TEMP3
  ⟨0x0A, 0x0D, .i32, .ro, 0, false, 0xffffffff, 0, .any, 0⟩,
  -- PEAK_TEMP
  ⟨0x0E, 0x0E, .i32, .rw, 0, false, 0xffffffff, 0, .any, 0⟩,
  -- THROTTLES
  ⟨0x0F, 0x0F, .u32, .rw, 0, false, 0xffffffff, 0, .any, 0⟩,
  -- MODULE_PWR
  ⟨0x10, 0x10, .u32, .ro, 0, false, 0xffffffff, 0, .any, 0⟩,
  -- UPTIME
  ⟨0x11, 0x11, .u64, .ro, 0, false, 0xffffffffffffffff, 0, .any, 0⟩]

/-- The object table of 0x2900 (R673). -/
def rows2900 : List ObjRow := [
  -- FW_VERSION
  ⟨0x01, 0x01, .u32, .ro, 0, false, 0xffffffff, 0, .any, 0⟩,
  -- FW_STATUS
  ⟨0x02, 0x02, .u8, .ro, 0, false, 0xff, 0, .any, 0⟩,
  -- FW_SLOT
  ⟨0x03, 0x03, .u8, .ro, 0, false, 0xff, 0, .any, 0⟩,
  -- FW_MEASURE
  ⟨0x04, 0x04, .octets, .ro, 0, false, 0, 0, .any, 256⟩,
  -- FW_IMAGE
  ⟨0x05, 0x05, .domain, .lck, 0, false, 0, 0, .any, 8389120⟩,
  -- FW_CMD
  ⟨0x06, 0x06, .u8, .cmdLck, 0, false, 1, 0, .any, 0⟩,
  -- FW_INST_STATUS
  ⟨0x07, 0x07, .u8, .ro, 1, false, 0xff, 0, .any, 0⟩,
  -- ROLLBACK_CMD
  ⟨0x08, 0x08, .u8, .cmdKeyLck, 0, false, 3, 0, .any, 0⟩,
  -- FW_FLOOR
  ⟨0x09, 0x09, .u32, .ro, 0, false, 0xffffffff, 0, .any, 0⟩,
  -- PATCH_FLOOR
  ⟨0x0A, 0x0A, .u32, .ro, 0, false, 0xffffffff, 0, .any, 0⟩,
  -- FW_SLOTS_LEFT
  ⟨0x0B, 0x0B, .u8, .ro, 0, false, 0xff, 0, .any, 0⟩,
  -- PATCH_SLOTS_LEFT
  ⟨0x0C, 0x0C, .u8, .ro, 0, false, 0xff, 0, .any, 0⟩,
  -- IDENT_STATUS
  ⟨0x0D, 0x0D, .u8, .ro, 0, false, 0xff, 0, .any, 0⟩,
  -- ATT_NONCE
  ⟨0x10, 0x10, .octets, .rw, 0, false, 0, 0, .any, 64⟩,
  -- ATT_CMD
  ⟨0x11, 0x11, .u8, .cmd, 0, false, 1, 0, .any, 0⟩,
  -- ATT_STATE
  ⟨0x12, 0x12, .u8, .ro, 0, false, 0xff, 0, .any, 0⟩,
  -- ATT_REPORT
  ⟨0x13, 0x13, .domain, .ro, 0, false, 0, 0, .any, 0⟩,
  -- ATT_COUNT
  ⟨0x14, 0x14, .u32, .ro, 0, false, 0xffffffff, 0, .any, 0⟩,
  -- CUST_KEY0–CUST_KEY7
  ⟨0x20, 0x27, .octets, .keyLck, 0, true, 0, 0, .any, 133⟩,
  -- KEY_MAP
  ⟨0x28, 0x28, .u8, .ro, 0, false, 0xff, 0, .any, 0⟩,
  -- KEYS_SAVED
  ⟨0x29, 0x29, .bool, .ro, 1, false, 0xff, 0, .any, 0⟩]

/-- The object table of 0x3000 (R362). -/
def rows3000 : List ObjRow := [
  -- TILE_STATE
  ⟨0x01, 0x01, .u8, .ro, 0, false, 0xff, 0, .any, 0⟩,
  -- TILE_CMD
  ⟨0x02, 0x02, .u8, .cmd, 0, false, 3, 0, .any, 0⟩,
  -- WAKE_LANES
  ⟨0x03, 0x03, .u8, .ro, 0, false, 0xff, 0, .any, 0⟩,
  -- TILE_WAKES
  ⟨0x04, 0x04, .u32, .rw, 0, false, 0xffffffff, 0, .any, 0⟩,
  -- TILE_UPS
  ⟨0x10, 0x10, .u32, .rw, 0, false, 0xffffffff, 0, .any, 0⟩,
  -- TILE_PWR
  ⟨0x11, 0x11, .u32, .ro, 0, false, 0xffffffff, 0, .any, 0⟩]

/-- The object table of 0x3001 (R379). -/
def rows3001 : List ObjRow := [
  -- CONV_NODE
  ⟨0x01, 0x01, .u8, .rw, 0x80, false, 0xff, 0, .convNode, 0⟩,
  -- CONV_AVG
  ⟨0x02, 0x02, .u8, .rw, 4, false, 0xff, 0, .nat 0 10, 0⟩,
  -- CONV_CMD
  ⟨0x03, 0x03, .u8, .cmd, 0, false, 1, 0, .any, 0⟩,
  -- CONV_RESULT
  ⟨0x04, 0x04, .i32, .ro, 0, false, 0xffffffff, 0, .any, 0⟩,
  -- CONV_FLAGS
  ⟨0x05, 0x05, .u8, .ro, 0, false, 7, 0, .any, 0⟩]

/-- The object table of 0x3002 (R653). -/
def rows3002 : List ObjRow := [
  -- TILE_TEMP
  ⟨0x01, 0x01, .i32, .ro, 0, false, 0xffffffff, 0, .any, 0⟩,
  -- TILE_PEAK
  ⟨0x02, 0x02, .i32, .rw, 0, false, 0xffffffff, 0, .any, 0⟩]

/-- The object table of 0x3003 (R239). -/
def rows3003 : List ObjRow := [
  -- WH_LEVEL
  ⟨0x01, 0x01, .u16, .ro, 0, false, 0xffff, 0, .any, 0⟩,
  -- WH_MIN
  ⟨0x02, 0x02, .u16, .rw, 0x7f0, false, 0xffff, 0, .any, 0⟩,
  -- WH_FETCH
  ⟨0x03, 0x03, .bool, .ro, 0, false, 0xff, 0, .any, 0⟩]

/-- The object table of 0x3004 (R240). -/
def rows3004 : List ObjRow := [
  -- LINE_CFG0–LINE_CFG3
  ⟨0x01, 0x04, .u16, .rw, 0, true, 0x7ff, 0, .lineCfg, 0⟩,
  -- LINE_LIVE
  ⟨0x05, 0x05, .u8, .ro, 0, false, 0xf, 0, .any, 0⟩]

/-- The object table of 0x3005 (R586). -/
def rows3005 : List ObjRow := [
  -- TILE_FENCED
  ⟨0x01, 0x01, .bool, .ro, 0, false, 0xff, 0, .any, 0⟩,
  -- TILE_CAUSE
  ⟨0x02, 0x02, .u8, .rw, 0, false, 0x1f, 0x1f, .any, 0⟩]

/-- The object table of 0x4000 (R293). -/
def rows4000 : List ObjRow := [
  -- ROLE
  ⟨0x01, 0x01, .u8, .rw, 0, true, 0xff, 0, .nat 0 7, 0⟩,
  -- DIVISOR
  ⟨0x02, 0x02, .u8, .rw, 1, true, 0xff, 0, .among [1, 2, 4, 8, 16, 32, 64], 0⟩,
  -- VPER
  ⟨0x03, 0x03, .u32, .rw, 0x40, true, 0xffffffff, 0, .vper, 0⟩,
  -- PARK
  ⟨0x04, 0x04, .u8, .rw, 0, true, 0xff, 0, .nat 0 3, 0⟩,
  -- PULSE_DROPS
  ⟨0x05, 0x05, .u32, .rw, 0, false, 0xffffffff, 0, .any, 0⟩,
  -- EDGES_SKIPPED
  ⟨0x06, 0x06, .u32, .rw, 0, false, 0xffffffff, 0, .any, 0⟩]

/-- The object table of 0x4001 (R344). -/
def rows4001 : List ObjRow := [
  -- VIH
  ⟨0x01, 0x01, .i32, .lck, 0x61a80, true, 0xffffffff, 0, .sint (-600000) 2000000 250, 0⟩,
  -- VIL
  ⟨0x02, 0x02, .i32, .lck, 0, true, 0xffffffff, 0, .sint (-600000) 2000000 250, 0⟩,
  -- VOD
  ⟨0x03, 0x03, .u32, .lck, 0x61a80, true, 0xffffffff, 0, .sint (100000) 1200000 500, 0⟩,
  -- VCM
  ⟨0x04, 0x04, .u32, .lck, 0x6ddd0, true, 0xffffffff, 0, .sint (0) 1200000 250, 0⟩,
  -- PL0–PL3
  ⟨0x05, 0x05, .i32, .lck, 0xfffb6c20, true, 0xffffffff, 0, .sint (-600000) 600000 500, 0⟩,
  -- PL0–PL3
  ⟨0x06, 0x06, .i32, .lck, 0xfffe7960, true, 0xffffffff, 0, .sint (-600000) 600000 500, 0⟩,
  -- PL0–PL3
  ⟨0x07, 0x07, .i32, .lck, 0x186a0, true, 0xffffffff, 0, .sint (-600000) 600000 500, 0⟩,
  -- PL0–PL3
  ⟨0x08, 0x08, .i32, .lck, 0x493e0, true, 0xffffffff, 0, .sint (-600000) 600000 500, 0⟩,
  -- LEG_MODE
  ⟨0x09, 0x09, .u8, .lck, 0, true, 0xff, 0, .nat 0 1, 0⟩]

/-- The object table of 0x4002 (R345). -/
def rows4002 : List ObjRow := [
  -- TERM_MODE
  ⟨0x01, 0x01, .u8, .lck, 0, true, 0xff, 0, .nat 0 1, 0⟩,
  -- VTT
  ⟨0x02, 0x02, .i32, .lck, 0, true, 0xffffffff, 0, .sint (-600000) 2000000 250, 0⟩]

/-- The object table of 0x4003 (R353). -/
def rows4003 : List ObjRow := [
  -- THR_HI
  ⟨0x01, 0x01, .u16, .lck, 0x199a, true, 0xffff, 0, .nat 0 16383, 0⟩,
  -- THR_LO
  ⟨0x02, 0x02, .u16, .lck, 0x1555, true, 0xffff, 0, .nat 0 16383, 0⟩,
  -- HYST
  ⟨0x03, 0x03, .u8, .lck, 0, true, 0xff, 0, .nat 0 15, 0⟩,
  -- SLC0–SLC2
  ⟨0x04, 0x04, .u16, .lck, 0xccd, true, 0xffff, 0, .nat 0 16383, 0⟩,
  -- SLC0–SLC2
  ⟨0x05, 0x05, .u16, .lck, 0x1111, true, 0xffff, 0, .nat 0 16383, 0⟩,
  -- SLC0–SLC2
  ⟨0x06, 0x06, .u16, .lck, 0x1555, true, 0xffff, 0, .nat 0 16383, 0⟩,
  -- CMP_SRC
  ⟨0x07, 0x07, .u8, .lck, 0, true, 0xff, 0, .nat 0 1, 0⟩]

/-- The object table of 0x4004 (R361). -/
def rows4004 : List ObjRow := [
  -- CMP_LIVE
  ⟨0x01, 0x01, .u8, .ro, 0, false, 0x7f, 0, .any, 0⟩,
  -- ATTN_EN
  ⟨0x02, 0x02, .u8, .rw, 0, true, 0xf, 0, .any, 0⟩,
  -- ATTN_SEEN
  ⟨0x03, 0x03, .u8, .rw, 0, false, 0xf, 0xf, .any, 0⟩,
  -- ATTN_COUNT
  ⟨0x04, 0x04, .u32, .rw, 0, false, 0xffffffff, 0, .any, 0⟩,
  -- BAND_PRESETS
  ⟨0x05, 0x05, .u32, .rw, 0, false, 0xffffffff, 0, .any, 0⟩]

/-- The object table of 0x4005 (R329). -/
def rows4005 : List ObjRow := [
  -- DESKEW_DRV
  ⟨0x01, 0x01, .i32, .lck, 0, false, 0xffffffff, 0, .sint (-2000000) 2000000 1, 0⟩,
  -- DESKEW_CMP
  ⟨0x02, 0x02, .i32, .lck, 0, false, 0xffffffff, 0, .sint (-2000000) 2000000 1, 0⟩,
  -- STRB_ADJ
  ⟨0x03, 0x03, .i32, .lck, 0, true, 0xffffffff, 0, .sint (-1000000) 1000000 1, 0⟩,
  -- DESKEW_DRV_RES
  ⟨0x04, 0x04, .i32, .ro, 0, false, 0xffffffff, 0, .any, 0⟩,
  -- DESKEW_CMP_RES
  ⟨0x05, 0x05, .i32, .ro, 0, false, 0xffffffff, 0, .any, 0⟩,
  -- STRB_ADJ_RES
  ⟨0x06, 0x06, .i32, .ro, 0, false, 0xffffffff, 0, .any, 0⟩,
  -- EARLY
  ⟨0x07, 0x07, .u8, .ro, 0, false, 0xff, 0, .any, 0⟩]

/-- The object table of 0x4006 (R330). -/
def rows4006 : List ObjRow := [
  -- DEF_TSET
  ⟨0x01, 0x01, .u8, .rw, 0, true, 0xff, 0, .nat 0 63, 0⟩,
  -- ACTIVE_TSET
  ⟨0x02, 0x02, .u8, .ro, 0, false, 0xff, 0, .any, 0⟩]

/-- The object table of 0x4007 (R331). -/
def rows4007 : List ObjRow := [
  -- PRBS_POLY
  ⟨0x01, 0x01, .u8, .rw, 4, true, 0xff, 0, .nat 0 5, 0⟩,
  -- PRBS_TAPS
  ⟨0x02, 0x02, .u32, .rw, 0x48000000, true, 0xffffffff, 0, .nat 1 0xFFFFFFFF, 0⟩,
  -- PRBS_SEED
  ⟨0x03, 0x03, .u32, .rw, 0xffffffff, true, 0xffffffff, 0, .any, 0⟩,
  -- PRBS_CTRL
  ⟨0x04, 0x04, .u8, .rw, 0, true, 3, 0, .any, 0⟩,
  -- LOCK_RUN
  ⟨0x05, 0x05, .u16, .rw, 0x40, true, 0xffff, 0, .nat 32 65535, 0⟩,
  -- LOSS_ERRS
  ⟨0x06, 0x06, .u16, .rw, 0x100, true, 0xffff, 0, .nat 1 1024, 0⟩,
  -- CHK_STATE
  ⟨0x07, 0x07, .u8, .ro, 0, false, 0xff, 0, .any, 0⟩,
  -- RELOCKS
  ⟨0x08, 0x08, .u32, .rw, 0, false, 0xffffffff, 0, .any, 0⟩]

/-- The object table of 0x4008 (R465). -/
def rows4008 : List ObjRow := [
  -- TMU_MODE
  ⟨0x01, 0x01, .u8, .rw, 0, true, 0xff, 0, .nat 0 6, 0⟩,
  -- START_SRC
  ⟨0x02, 0x02, .u8, .rw, 0xff, true, 0xff, 0, .tmuSrc, 0⟩,
  -- STOP_SRC
  ⟨0x03, 0x03, .u8, .rw, 0xff, true, 0xff, 0, .tmuSrc, 0⟩,
  -- TMU_CTRL
  ⟨0x04, 0x04, .u8, .rw, 0, true, 7, 0, .any, 0⟩,
  -- TMU_COUNT
  ⟨0x05, 0x05, .u32, .rw, 1, true, 0xffffffff, 0, .nat 1 16777216, 0⟩,
  -- GATE
  ⟨0x06, 0x06, .u32, .rw, 0x64, true, 0xffffffff, 0, .nat 1 0xFFFFFFFF, 0⟩,
  -- TMU_TMO
  ⟨0x07, 0x07, .u32, .rw, 0, true, 0xffffffff, 0, .any, 0⟩,
  -- TMU_CMD
  ⟨0x08, 0x08, .u8, .cmd, 0, false, 7, 0, .any, 0⟩,
  -- HIST_PERIOD
  ⟨0x09, 0x09, .u32, .rw, 0x40, true, 0xffffffff, 0, .nat 1 65536, 0⟩,
  -- HIST_SHIFT
  ⟨0x0A, 0x0A, .u8, .rw, 0, true, 0xff, 0, .nat 0 15, 0⟩,
  -- HIST_OFFSET
  ⟨0x0B, 0x0B, .u32, .rw, 0, true, 0xffffffff, 0, .any, 0⟩]

/-- The object table of 0x4009 (R468). -/
def rows4009 : List ObjRow := [
  -- TMU_STATE
  ⟨0x01, 0x01, .u8, .ro, 0, false, 0xff, 0, .any, 0⟩,
  -- RESULT
  ⟨0x02, 0x02, .i64, .ro, 0, false, 0xffffffffffffffff, 0, .any, 0⟩,
  -- RES_COUNT
  ⟨0x03, 0x03, .u32, .ro, 0, false, 0xffffffff, 0, .any, 0⟩,
  -- RES_FREQ
  ⟨0x04, 0x04, .u64, .ro, 0, false, 0xffffffffffffffff, 0, .any, 0⟩,
  -- RES_FLAGS
  ⟨0x05, 0x05, .u16, .ro, 0, false, 0xffff, 0, .any, 0⟩,
  -- START_TS
  ⟨0x06, 0x06, .u64, .ro, 0, false, 0xffffffffffffffff, 0, .any, 0⟩,
  -- END_TS
  ⟨0x07, 0x07, .u64, .ro, 0, false, 0xffffffffffffffff, 0, .any, 0⟩,
  -- ORPHAN_STOP
  ⟨0x08, 0x08, .u32, .rw, 0, false, 0xffffffff, 0, .any, 0⟩,
  -- RESULTS
  ⟨0x09, 0x09, .u32, .rw, 0, false, 0xffffffff, 0, .any, 0⟩,
  -- ACC_N
  ⟨0x0A, 0x0A, .u32, .ro, 0, false, 0xffffffff, 0, .any, 0⟩,
  -- ACC_SUM
  ⟨0x0B, 0x0B, .i64, .ro, 0, false, 0xffffffffffffffff, 0, .any, 0⟩,
  -- ACC_MIN
  ⟨0x0C, 0x0C, .i64, .ro, 0, false, 0xffffffffffffffff, 0, .any, 0⟩,
  -- ACC_MAX
  ⟨0x0D, 0x0D, .i64, .ro, 0, false, 0xffffffffffffffff, 0, .any, 0⟩,
  -- TS_COUNT
  ⟨0x0E, 0x0E, .u64, .ro, 0, false, 0xffffffffffffffff, 0, .any, 0⟩,
  -- TS_MISSED
  ⟨0x0F, 0x0F, .u32, .rw, 0, false, 0xffffffff, 0, .any, 0⟩,
  -- TS_BUF
  ⟨0x10, 0x10, .domain, .ro, 0, false, 0, 0, .any, 0⟩,
  -- HIST
  ⟨0x11, 0x11, .domain, .ro, 0, false, 0, 0, .any, 0⟩,
  -- HIST_OUT
  ⟨0x12, 0x12, .u32, .ro, 0, false, 0xffffffff, 0, .any, 0⟩]

/-- The object table of 0x400A (R419). -/
def rows400A : List ObjRow := [
  -- ERR_COUNT
  ⟨0x01, 0x01, .u64, .rw, 0, false, 0xffffffffffffffff, 0, .any, 0⟩,
  -- JUDGED
  ⟨0x02, 0x02, .u64, .rw, 0, false, 0xffffffffffffffff, 0, .any, 0⟩,
  -- INV_COUNT
  ⟨0x03, 0x03, .u32, .rw, 0, false, 0xffffffff, 0, .any, 0⟩,
  -- CNT_FLAGS
  ⟨0x04, 0x04, .u8, .ro, 0, false, 7, 0, .any, 0⟩]

/-- The object table of 0x400B (R420). -/
def rows400B : List ObjRow := [
  -- FF_ISSUE
  ⟨0x01, 0x01, .u64, .ro, 0xffffffffffffffff, false, 0xffffffffffffffff, 0, .any, 0⟩,
  -- FF_GRANULE
  ⟨0x02, 0x02, .u32, .ro, 0xffffffff, false, 0xffffffff, 0, .any, 0⟩,
  -- FF_SEGMENT
  ⟨0x03, 0x03, .u16, .ro, 0xffff, false, 0xffff, 0, .any, 0⟩,
  -- FF_WORD
  ⟨0x04, 0x04, .u8, .ro, 0xff, false, 0xff, 0, .any, 0⟩]

/-- The object table of 0x400C (R365). -/
def rows400C : List ObjRow := [
  -- WAKE_EN
  ⟨0x01, 0x01, .bool, .rw, 0, true, 0xff, 0, .any, 0⟩,
  -- WAKE_CMP
  ⟨0x02, 0x02, .u8, .rw, 0, true, 0xff, 0, .nat 0 1, 0⟩,
  -- WAKE_SLOPE
  ⟨0x03, 0x03, .u8, .rw, 0, true, 0xff, 0, .nat 0 2, 0⟩,
  -- WAKES
  ⟨0x04, 0x04, .u32, .rw, 0, false, 0xffffffff, 0, .any, 0⟩]

/-- The object table of 0x400D (R374). -/
def rows400D : List ObjRow := [
  -- SC_MODE
  ⟨0x01, 0x01, .u8, .rw, 0, false, 0xff, 0, .nat 0 3, 0⟩,
  -- SC_TIE
  ⟨0x02, 0x02, .u16, .rw, 0x1111, false, 0xffff, 0, .nat 0 16383, 0⟩,
  -- SC_CMD
  ⟨0x03, 0x03, .u8, .cmd, 0, false, 1, 0, .any, 0⟩,
  -- SC_STATE
  ⟨0x04, 0x04, .u8, .ro, 0, false, 0xff, 0, .any, 0⟩,
  -- SC_RESULT
  ⟨0x05, 0x05, .u32, .ro, 0, false, 0xffffffff, 0, .any, 0⟩]

/-- The object table of 0x400E (R547). -/
def rows400E : List ObjRow := [
  -- DRV_BASE
  ⟨0x01, 0x01, .i32, .lck, 0, false, 0xffffffff, 0, .any, 0⟩,
  -- CMP_BASE
  ⟨0x02, 0x02, .i32, .lck, 0, false, 0xffffffff, 0, .any, 0⟩,
  -- CAP_BASE
  ⟨0x03, 0x03, .i32, .lck, 0, false, 0xffffffff, 0, .any, 0⟩,
  -- DRV_DRIFT
  ⟨0x04, 0x04, .i32, .ro, 0, false, 0xffffffff, 0, .any, 0⟩,
  -- CMP_DRIFT
  ⟨0x05, 0x05, .i32, .ro, 0, false, 0xffffffff, 0, .any, 0⟩,
  -- CAP_DRIFT
  ⟨0x06, 0x06, .i32, .ro, 0, false, 0xffffffff, 0, .any, 0⟩,
  -- DAC_TRIM
  ⟨0x07, 0x07, .octets, .ro, 0, false, 0, 0, .any, 256⟩,
  -- CMP_OFS
  ⟨0x08, 0x08, .octets, .ro, 0, false, 0, 0, .any, 256⟩,
  -- BASE_SOURCE
  ⟨0x09, 0x09, .u8, .ro, 0, false, 0xff, 0, .any, 0⟩,
  -- PENDING
  ⟨0x0A, 0x0A, .bool, .ro, 0, false, 0xff, 0, .any, 0⟩]

/-- The object table of 0x400F (R548). -/
def rows400F : List ObjRow := [
  -- CAL_STATUS
  ⟨0x01, 0x01, .u8, .ro, 0, false, 0xff, 0, .any, 0⟩,
  -- CH_STALE
  ⟨0x02, 0x02, .bool, .ro, 0, false, 0xff, 0, .any, 0⟩,
  -- LAST_CAL
  ⟨0x03, 0x03, .u64, .ro, 0, false, 0xffffffffffffffff, 0, .any, 0⟩,
  -- BUSY_COUNT
  ⟨0x04, 0x04, .u32, .rw, 0, false, 0xffffffff, 0, .any, 0⟩,
  -- CAL_FAIL_BITS
  ⟨0x05, 0x05, .u8, .ro, 0, false, 7, 0, .any, 0⟩]

/-- The object table of 0x5000 (R580). -/
def rows5000 : List ObjRow := [
  -- STICKY_LO
  ⟨0x01, 0x01, .u64, .rw, 0, false, 0xffffffffffffffff, 0xffffffffffffffff, .any, 0⟩,
  -- STICKY_HI
  ⟨0x02, 0x02, .u64, .rw, 0, false, 0xffffffffffffffff, 0xffffffffffffffff, .any, 0⟩]

/-- The object table of 0x5001 (R580). -/
def rows5001 : List ObjRow := [
  -- REAL_LO
  ⟨0x01, 0x01, .u64, .ro, 0, false, 0xffffffffffffffff, 0, .any, 0⟩,
  -- REAL_HI
  ⟨0x02, 0x02, .u64, .ro, 0, false, 0xffffffffffffffff, 0, .any, 0⟩]

/-- The object table of 0x5002 (R580). -/
def rows5002 : List ObjRow := [
  -- INJ_LO
  ⟨0x01, 0x01, .u64, .ro, 0, false, 0xffffffffffffffff, 0, .any, 0⟩,
  -- INJ_HI
  ⟨0x02, 0x02, .u64, .ro, 0, false, 0xffffffffffffffff, 0, .any, 0⟩]

/-- The object table of 0x5003 (R549). -/
def rows5003 : List ObjRow := [
  -- REACT_s
  ⟨0x01, 0x80, .u8, .lck, 0, true, 0xff, 0, .any, 0⟩]

/-- The object table of 0x5010 (R582). -/
def rows5010 : List ObjRow := [
  -- INJ_SRC
  ⟨0x01, 0x01, .u8, .lck, 0, false, 0xff, 0, .nat 0 127, 0⟩,
  -- INJ_CMD
  ⟨0x02, 0x02, .u8, .cmdLck, 0, false, 1, 0, .any, 0⟩,
  -- INJ_REACT
  ⟨0x03, 0x03, .bool, .lck, 0, true, 0xff, 0, .any, 0⟩,
  -- INJ_FIRED
  ⟨0x04, 0x04, .u32, .rw, 0, false, 0xffffffff, 0, .any, 0⟩]

/-- The object table of 0x5020 (R583). -/
def rows5020 : List ObjRow := [
  -- ALIVE_STATE
  ⟨0x01, 0x01, .u8, .ro, 0, false, 0xff, 0, .any, 0⟩,
  -- ALIVE_CHANGES
  ⟨0x02, 0x02, .u32, .rw, 0, false, 0xffffffff, 0, .any, 0⟩]

/-- The object table of 0x5030 (R584). -/
def rows5030 : List ObjRow := [
  -- FENCE_CH_LO
  ⟨0x01, 0x01, .u64, .ro, 0, false, 0xffffffffffffffff, 0, .any, 0⟩,
  -- FENCE_CH_HI
  ⟨0x02, 0x02, .u32, .ro, 0, false, 0xffffffff, 0, .any, 0⟩,
  -- FENCE_TILE
  ⟨0x03, 0x03, .u16, .ro, 0, false, 0xfff, 0, .any, 0⟩,
  -- FENCE_STACK
  ⟨0x04, 0x04, .u8, .ro, 0, false, 0xf, 0, .any, 0⟩,
  -- FENCE_UNIT
  ⟨0x05, 0x05, .u8, .rw, 0, false, 0xff, 0, .nat 0 0x6F, 0⟩,
  -- FENCE_CMD
  ⟨0x06, 0x06, .u8, .cmd, 0, false, 3, 0, .any, 0⟩,
  -- FENCES
  ⟨0x07, 0x07, .u32, .rw, 0, false, 0xffffffff, 0, .any, 0⟩]

/-- The object table of 0x5040 (R585). -/
def rows5040 : List ObjRow := [
  -- SEV_HIGH
  ⟨0x01, 0x01, .u8, .ro, 0, false, 0xff, 0, .any, 0⟩,
  -- SEV_MAP
  ⟨0x02, 0x02, .domain, .ro, 0, false, 0, 0, .any, 0⟩,
  -- FIRST_LO
  ⟨0x03, 0x03, .u64, .ro, 0, false, 0xffffffffffffffff, 0, .any, 0⟩,
  -- FIRST_HI
  ⟨0x04, 0x04, .u64, .ro, 0, false, 0xffffffffffffffff, 0, .any, 0⟩,
  -- OCCURRENCES
  ⟨0x05, 0x05, .u32, .rw, 0, false, 0xffffffff, 0, .any, 0⟩,
  -- FAULT_ISSUE
  ⟨0x06, 0x06, .u64, .ro, 0xffffffffffffffff, false, 0xffffffffffffffff, 0, .any, 0⟩,
  -- FAULT_SEGMENT
  ⟨0x07, 0x07, .u16, .ro, 0xffff, false, 0xffff, 0, .any, 0⟩,
  -- SAFE
  ⟨0x08, 0x08, .bool, .ro, 0, false, 0xff, 0, .any, 0⟩]

/-- The object table of 0x6000 (R332). -/
def rows6000 : List ObjRow := [
  -- T_D0
  ⟨0x01, 0x01, .u32, .lck, 0, true, 0x7fffffff, 0, .any, 0⟩,
  -- T_D1
  ⟨0x02, 0x02, .u32, .lck, 0, true, 0x7fffffff, 0, .any, 0⟩,
  -- T_D2
  ⟨0x03, 0x03, .u32, .lck, 0, true, 0x7fffffff, 0, .any, 0⟩,
  -- T_D3
  ⟨0x04, 0x04, .u32, .lck, 0, true, 0x7fffffff, 0, .any, 0⟩,
  -- T_C0
  ⟨0x05, 0x05, .u32, .lck, 0x100, true, 0x7fffffff, 0, .any, 0⟩,
  -- T_C1
  ⟨0x06, 0x06, .u32, .lck, 0x100, true, 0x7fffffff, 0, .any, 0⟩,
  -- FORMAT
  ⟨0x07, 0x07, .u8, .lck, 0, true, 0xff, 0, .nat 0 4, 0⟩,
  -- TS_CTRL
  ⟨0x08, 0x08, .u8, .lck, 1, true, 7, 0, .any, 0⟩]

/-- The object table of 0xE000 (R99). -/
def rowsE000 : List ObjRow := [
  -- DIAG_SCRATCH
  ⟨0x01, 0x01, .u64, .rw, 0, false, 0xffffffffffffffff, 0, .any, 0⟩,
  -- DIAG_NOTE
  ⟨0x02, 0x02, .octets, .rw, 0, false, 0, 0, .any, 64⟩,
  -- DIAG_WRITES
  ⟨0x03, 0x03, .u32, .rw, 0, false, 0xffffffff, 0, .any, 0⟩]

/-- The rows of the object whose block of unit 0 lies at index `b`. -/
def tableAt (b : Nat) : List ObjRow :=
  if b = 0x1001 then rows1001 else
  if b = 0x1002 then rows1002 else
  if b = 0x1018 then rows1018 else
  if b = 0x1100 then rows1100 else
  if b = 0x1200 then rows1200 else
  if b = 0x1201 then rows1201 else
  if b = 0x1F00 then rows1F00 else
  if b = 0x1F01 then rows1F01 else
  if b = 0x1F02 then rows1F02 else
  if b = 0x2000 then rows2000 else
  if b = 0x2100 then rows2100 else
  if b = 0x2200 then rows2200 else
  if b = 0x2300 then rows2300 else
  if b = 0x2400 then rows2400 else
  if b = 0x2500 then rows2500 else
  if b = 0x2600 then rows2600 else
  if b = 0x2700 then rows2700 else
  if b = 0x2800 then rows2800 else
  if b = 0x2900 then rows2900 else
  if b = 0x3000 then rows3000 else
  if b = 0x3001 then rows3001 else
  if b = 0x3002 then rows3002 else
  if b = 0x3003 then rows3003 else
  if b = 0x3004 then rows3004 else
  if b = 0x3005 then rows3005 else
  if b = 0x4000 then rows4000 else
  if b = 0x4001 then rows4001 else
  if b = 0x4002 then rows4002 else
  if b = 0x4003 then rows4003 else
  if b = 0x4004 then rows4004 else
  if b = 0x4005 then rows4005 else
  if b = 0x4006 then rows4006 else
  if b = 0x4007 then rows4007 else
  if b = 0x4008 then rows4008 else
  if b = 0x4009 then rows4009 else
  if b = 0x400A then rows400A else
  if b = 0x400B then rows400B else
  if b = 0x400C then rows400C else
  if b = 0x400D then rows400D else
  if b = 0x400E then rows400E else
  if b = 0x400F then rows400F else
  if b = 0x5000 then rows5000 else
  if b = 0x5001 then rows5001 else
  if b = 0x5002 then rows5002 else
  if b = 0x5003 then rows5003 else
  if b = 0x5010 then rows5010 else
  if b = 0x5020 then rows5020 else
  if b = 0x5030 then rows5030 else
  if b = 0x5040 then rows5040 else
  if b = 0x6000 then rows6000 else
  if b = 0xE000 then rowsE000 else
  []

/-- The index at unit 0 of an index that lies in a per-unit block (R12); an index in no block is itself.
An unused offset of a block maps to an index with no rows (R10). -/
def baseIndex (i : Nat) : Nat :=
  if 0x2400 ≤ i ∧ i ≤ 0x24FF then 0x2400 + (i - 0x2400) % 0x10
  else if 0x3000 ≤ i ∧ i ≤ 0x30BF then 0x3000 + (i - 0x3000) % 0x10
  else if 0x4000 ≤ i ∧ i ≤ 0x4BFF then 0x4000 + (i - 0x4000) % 0x20
  else if 0x6000 ≤ i ∧ i ≤ 0x77FF then 0x6000
  else i

/-- The unit of an index that lies in a per-unit block (R12); the timing sets give 0x40 × channel + set. -/
def unitOf (i : Nat) : Nat :=
  if 0x2400 ≤ i ∧ i ≤ 0x24FF then (i - 0x2400) / 0x10
  else if 0x3000 ≤ i ∧ i ≤ 0x30BF then (i - 0x3000) / 0x10
  else if 0x4000 ≤ i ∧ i ≤ 0x4BFF then (i - 0x4000) / 0x20
  else if 0x6000 ≤ i ∧ i ≤ 0x77FF then i - 0x6000
  else 0

/-- The rows of the object at an index; none where no object lies (R10, R12). -/
def rowsOf (i : Nat) : List ObjRow := tableAt (baseIndex i)

/-- The row of a sub-index. -/
def rowIn (rows : List ObjRow) (s : Nat) : Option ObjRow :=
  rows.find? (fun r => r.sub ≤ s && s ≤ r.hi)

/-- The highest sub-index of the rows (R39). -/
def topSub (rows : List ObjRow) : Nat := rows.foldl (fun m r => Nat.max m r.hi) 0

/-- The row of an object's sub-index; sub-index 0 of every object is a U8 RO value outside the signature
that holds the highest sub-index (R39). -/
def objRow (i s : Nat) : Option ObjRow :=
  let rows := rowsOf i
  if rows.isEmpty then none
  else if s = 0 then some ⟨0, 0, .u8, .ro, topSub rows, false, 0xFF, 0, .any, 0⟩
  else rowIn rows s

/-- The key of a tile object's sub-index, given its key at T0 (R12). -/
def atTile (k t : Nat) : Nat := k + 0x1000 * t

/-- The key of a channel object's sub-index, given its key at ch0 (R12). -/
def atCh (k c : Nat) : Nat := k + 0x2000 * c

/-- The key of a pump channel object's sub-index, given its key at P0 (R12). -/
def atPump (k p : Nat) : Nat := k + 0x1000 * p

/-- The key of a timing-set sub-index, given its key at set 0 of ch0 (R12). -/
def atSet (k c n : Nat) : Nat := k + 0x100 * (0x40 * c + n)

end Sys2Proof
end

