-- ==== Sys2Proof/Machine/State.lean ====
section
/-! DEFINITION. The state of the module: the object store, the buffers, queues, stacks and engines the spec
names, the queue of waiting commands, and the state after reset. Plain data throughout. -/

namespace Sys2Proof.Machine

/-- The reasons a step can stop with a fault. No command of this block stops so: the spec gives every command an
effect, and a command whose condition does not hold has none. -/
inductive Fault where
  /-- Raised by nobody; safe. -/
  | none
  deriving DecidableEq, Repr

/-- The reasons a command can be refused. -/
inductive Refusal where
  /-- Raised by the dispatch for a command whose meaning has not been written; safe. -/
  | notModelled (mnemonic : String)
  deriving DecidableEq, Repr

/-! ### Outputs: what the module sends out, in order (the model's own record of it) -/

/-- What a driver does at a land (R134, R295, R308, R338–R342). -/
inductive Drive where
  /-- driver off -/
  | off
  /-- electrical idle at VTT -/
  | idle
  /-- data 0 -/
  | low
  /-- data 1 -/
  | high
  /-- PAM4 symbol -/
  | sym (v : Nat)
  deriving DecidableEq, Repr

/-- One thing the module sends out. -/
inductive Out where
  /-- a posted write to host memory by a function -/
  | hostWrite (pf addr : Nat) (data : Bytes)
  /-- an MSI-X message of a function -/
  | msix (pf vector : Nat)
  /-- an Ethernet frame with an Onpel Link reply: port, destination MAC, VLAN tag, payload -/
  | ether (port mac : Nat) (vlan : Option Nat) (frame : Bytes)
  /-- the completion of a BAR0 read; none is Completer Abort -/
  | bar0 (pf : Nat) (value : Option Nat)
  /-- the completion of a BAR2 read; none is Completer Abort -/
  | bar2 (pf : Nat) (value : Option Nat)
  /-- the word loaded at Capture-DR of DICT_FRAME or RECOVERY, or the five cells of the boundary-scan register -/
  | jtag (word : Nat)
  /-- a marker pulse to the TMUs of some tiles, with its tick -/
  | marker (number issue tick tiles : Nat)
  /-- levels a stream drive path plays: channel, start and UI length in fine steps from the burst's origin -/
  | stream (ch : Nat) (start : Int) (len : Nat) (levels : List Drive)
  /-- a change at an edge-path pin: channel, time in fine steps from the burst's origin -/
  | edge (ch : Nat) (time : Int) (level : Drive)
  /-- every pin of every powered tile drives its park code from here on -/
  | park
  /-- a message sent on the ring -/
  | ring (block : Bytes)
  /-- the ring link's calibration pulse or forwarded block -/
  | calBlock
  deriving DecidableEq, Repr

/-! ### PCIe -/

/-- The BAR0 registers, staging register and reply queue of one physical function (R61–R69, R91, R102). -/
structure PcieFn where
  cmdBase : Nat
  cmdSize : Nat
  cmdTail : Nat
  cmdHead : Nat
  rplBase : Nat
  rplSize : Nat
  rplTail : Nat
  rplHead : Nat
  rplWb : Nat
  ringCtrl : Nat
  /-- R701: fetching has stopped at CMD_HEAD until the next write of CMD_TAIL -/
  stopped : Bool
  /-- replies waiting to be written, oldest first -/
  replies : List Bytes
  /-- R91: the staged slot address and low half -/
  stage : Option (Nat × Nat)
  /-- the 72 dwords of the MSI-X table -/
  msixTable : List Nat
  /-- MSI-X pending bits -/
  pba : Nat
  /-- the class of the function that BAR0 writes are checked against (R102) -/
  cls : Nat
  /-- ATTN as the function has seen it last (R26, R83) -/
  attn : Bool
  deriving DecidableEq, Repr

/-! ### The sequencer -/

/-- One entry of the segment table (R123). -/
structure Seg where
  start : Nat
  len : Nat
  tgts : List Nat
  bt : Bool
  holdoff : Bool
  deriving DecidableEq, Repr

/-- One fetched granule: where it stands, its instruction and its plane words (key 2c + p).
`lost` is the DRY_SOURCE code of data that were not delivered (R219, R220), or 0x80 when they were delivered;
`late` are the tiles whose wellheads its data have yet to reach (R215). -/
structure Granule where
  seg : Nat
  off : Nat
  entry : Nat
  word : Nat
  planes : Assoc Nat
  lost : Nat
  late : List Nat
  /-- the instruction itself was not delivered (R232) -/
  blind : Bool
  deriving DecidableEq, Repr

/-- An entry of the loop stack (R152): passes not yet completed minus 1, and the segment of its LOOP. -/
structure LoopEntry where
  rem : Nat
  seg : Nat
  deriving DecidableEq, Repr

/-- The fetch front (R182): where it goes on, with its own copies of the stacks. -/
structure Front where
  seg : Nat
  off : Nat
  entry : Nat
  loops : List LoopEntry
  calls : List (Option Nat)
  stopped : Bool
  /-- the front arrived by the loop-back of an ENDL (R152) -/
  back : Bool
  /-- granules the front still reads from a resident head, and the head's segment (R192) -/
  head : Nat
  headSeg : Nat
  /-- since a restart at a resident head the front has read the loop cache alone (R193) -/
  sure : Bool
  deriving DecidableEq, Repr

/-- One target of a priming set: its first 16 granules once primed (R188, R190). -/
structure PrimeTarget where
  seg : Nat
  ready : Bool
  data : List Granule
  deriving DecidableEq, Repr

/-- One of the two priming sets (R188): the segment entry whose targets it holds. -/
structure PrimeSet where
  owner : Nat
  supplying : Bool
  targets : List PrimeTarget
  deriving DecidableEq, Repr

/-- A pending jump request (R175): its entry, its source, and the issues made since its latch (R173). -/
structure JumpReq where
  entry : Nat
  ring : Bool
  d : Nat
  deriving DecidableEq, Repr

/-- The jump reserve of the wellheads (R194). -/
structure Reserve where
  seg : Nat
  ready : Bool
  data : List Granule
  deriving DecidableEq, Repr

/-- A resident head (R183): its segment and the copy of its granules that the loop cache holds, in region order. -/
structure Head where
  seg : Nat
  data : List Granule
  deriving DecidableEq, Repr

/-- A cacheable loop body (R171, R209, R210): the depth of the loop stack at its entry, its segments, its footprint,
the copies the loop cache holds by instruction-region index, and whether it has spilled (R211). -/
structure Body where
  depth : Nat
  segs : List Nat
  bytes : Nat
  held : Assoc Granule
  spilled : Bool
  deriving DecidableEq, Repr

/-- What the issue in progress waits for beyond its last issue. -/
inductive Wait where
  /-- nothing -/
  | none
  /-- RPT has made its last issue (R151) -/
  | repeatDone
  /-- MATCH or SYNCW has made its last permitted issue without its test holding (R158, R161) -/
  | timedOut
  /-- the last issue chose the missing successor (R129, R170) -/
  | fallOff
  deriving DecidableEq, Repr

/-- The sequencer's image, position, stacks and buffers. -/
structure Seq where
  /-- image address, and offsets and table of the checked image (R120–R123) -/
  image : Nat
  instrOff : Nat
  planeOff : Nat
  granules : Nat
  imageLen : Nat
  entrySeg : Nat
  jtValid : Nat
  jumpTable : List Nat
  segs : List Seg
  /-- channels whose planes are fetched (R132, R133) -/
  fetchCh : List Nat
  /-- LOADING has carried out its steps (R223) -/
  loaded : Bool
  /-- position of the issue due: segment, offset and entry number -/
  seg : Nat
  off : Nat
  entry : Nat
  /-- control arrived by the loop-back of an ENDL (R152) -/
  back : Bool
  /-- issues already made of the granule due (R145) -/
  made : Nat
  wait : Wait
  /-- SYNCW: a MARK with its MARK_ID has arrived since its first issue (R161) -/
  markSeen : Bool
  /-- the granule issued last -/
  last : Option Granule
  loops : List LoopEntry
  calls : List (Option Nat)
  /-- SEQCLK cycles since the first issue, issues and trap cycles together -/
  cycle : Nat
  /-- priming sideband or jump reserve granules still to be played (R181) -/
  side : List Granule
  /-- the instruction queue and the stream part of every wellhead (R181, R182) -/
  stream : List Granule
  front : Front
  /-- segment entries the front has reached whose targets have not started priming (R188) -/
  primeQueue : List (Nat × Nat)
  primed : List PrimeSet
  jump : Option JumpReq
  reserve : Option Reserve
  /-- segments with a head, in load order (R184), the resident heads, and the evicted ones whose reload a release
  has made due (R185) -/
  headOrder : List Nat
  heads : List Head
  evicted : List Nat
  reload : Bool
  bodies : List Body
  /-- cycles replayed in traps since the last issue (R394) -/
  replays : Nat
  /-- counters CNT0–CNT3 (R202), flags RING_MARK and RING_TIME (R201) -/
  cnt : List Nat
  ringMark : Bool
  ringTime : Bool
  deriving DecidableEq, Repr

/-! ### The control store -/

/-- A trap in progress (R269–R277): its causes, the cycles replayed, the handlers still to run, lowest cause first,
the words the first of them has run, the restore cycles done, and the micro-registers and flags of the frame. -/
structure Trap where
  causes : Nat
  gone : Nat
  todo : List Nat
  ran : Nat
  restored : Nat
  /-- the address of USER's next word -/
  pc : Nat
  /-- USER has run 256 words without END (R276) -/
  overran : Bool
  u : List Nat
  z : Bool
  n : Bool
  c : Bool
  deriving DecidableEq, Repr

/-- Microcode state: the writable words, dispatch entries, micro-registers and trap context. -/
structure Micro where
  /-- words of patch RAM and the customer region that are not 0 (R241) -/
  store : Assoc Nat
  /-- dispatch entries a patch has overwritten (R256) -/
  dispatch : Assoc Nat
  /-- words with an uncorrectable error the scrubber has found (R247) -/
  bad : List Nat
  /-- next word the scrubber reads (R243) -/
  scrub : Nat
  u : List Nat
  z : Bool
  n : Bool
  c : Bool
  /-- the customer routine in progress: address of its next word -/
  routine : Option Nat
  /-- the operand of the user opcode being run (R248) -/
  operand : Nat
  /-- address of the microword executed at the last issue, for the trap frame (R273) -/
  lastUpc : Nat
  /-- word k had END clear (R273) -/
  inRoutine : Bool
  /-- TRAP_DEFER: microwords it has been set for, none when clear (R280) -/
  deferred : Option Nat
  /-- the trap in progress -/
  trap : Option Trap
  /-- UTRAP_VEC at the write that raised the pending USER cause (R279) -/
  userVec : Nat
  /-- ISSUES and CUR_SEGMENT at the TIME event that raised the RING cause (R287) -/
  timeAt : Nat × Nat
  /-- a halt was latched during the trap (R277): its cause code -/
  haltAfter : Option Nat
  deriving DecidableEq, Repr

/-! ### Pins -/

/-- One judgement whose half-granule word has not been reached yet (R196, R303, R381). -/
structure Judgement where
  issue : Nat
  /-- 0 for the issue itself, k for the k-th replayed cycle of a trap (R381) -/
  cyc : Nat
  word : Nat
  slot : Nat
  fail : Bool
  inv : Bool
  /-- a PRBS checker's, which counts in its block (R327) -/
  chk : Bool
  deriving DecidableEq, Repr

/-- The vector in progress of an EDGE pin (R138–R141, R306–R315). -/
structure Vector where
  code : Nat
  tset : Nat
  /-- the issue it started in -/
  issue : Nat
  slot : Nat
  /-- its length in ticks and the ticks already played -/
  len : Nat
  gone : Nat
  /-- the outputs CMP_H and CMP_L at C0, and whether they have stayed unchanged -/
  atC0 : Option (Bool × Bool × Bool)
  /-- the next edge that applies a level turns the driver on (R309) -/
  await : Bool
  deriving DecidableEq, Repr

/-- What a channel's tile electronics hold. -/
structure Chan where
  /-- the voltages of the P and N pads in µV, as the environment last brought them (R346) -/
  pad : Pad
  cmpH : Bool
  cmpL : Bool
  validH : Bool
  validL : Bool
  /-- the window comparators are powered (R364) -/
  powered : Bool
  /-- what the driver does (R296, R309) -/
  drive : Drive
  /-- the data value last driven in the burst (R141, R308) -/
  dataVal : Bool
  /-- the code a KEEP repeats (R141) -/
  keep : Nat
  vec : Option Vector
  /-- an edge-path change not yet known to last 20 ps (R312): its time, the level before and the level after -/
  short : Option (Int × Drive × Drive)
  /-- R703: the granules of a discarded path that the drive path still plays (none where none was fed), the one it
  played last if it was such a granule (R272), its own vector, KEEP code and data value, and the granules of the new
  path that the compare path does not judge -/
  fed : List (Option Granule)
  hold : Option (Option Granule)
  alt : Option (Option Vector × Nat × Bool)
  skipCmp : Nat
  /-- active timing set of a stream compare pin (R304) -/
  tset : Nat
  /-- generator: bits made so far and the last n of them (R323) -/
  genCount : Nat
  genReg : Nat
  /-- checker: 0 idle, 1 ACQUIRE, 2 LOCKED; bits seen, the last n bits received, the last n of its own sequence, run,
  and its block (R326, R327) -/
  chk : Nat
  chkCount : Nat
  chkRx : Nat
  chkReg : Nat
  chkRun : Nat
  blkN : Nat
  blkFails : Nat
  /-- results of half-granule words not yet visible in the hub: 1 judged, 2 failed, 4 neutral, 8 not valid
  (R196, R197, R703) -/
  words : Assoc Nat
  /-- judgements in later words -/
  later : List Judgement
  deriving DecidableEq, Repr

/-! ### Fail capture -/

/-- What one pin showed in an issue (R396): decisions and failed positions. -/
structure PinCap where
  data : Nat
  failw : Nat
  deriving DecidableEq, Repr

/-- An issue whose judgements have not all been made or recorded (R394, R395). -/
structure IssueCap where
  issue : Nat
  granule : Nat
  seg : Nat
  /-- 0 for the issue itself, k for the k-th cycle replayed after it in traps (R394) -/
  cyc : Nat
  pins : Assoc PinCap
  inv : Nat
  /-- the capture level when its last judgement was made (R413) -/
  level : Option Nat
  deriving DecidableEq, Repr

/-- An item of the cistern queue (R412): its bytes with their offsets in the region, its size,
the record's offset (none for a point), and whether it wraps before it. -/
structure CqItem where
  size : Nat
  writes : List (Nat × Bytes)
  record : Option (Nat × Nat)
  deriving DecidableEq, Repr

/-- A raster point that has left force and still takes judgements of earlier words (R408): its number, its words
(first, one past last), the first not blanked, its dwell and its bins. -/
structure EyePoint where
  point : Nat
  start : Nat
  stop : Nat
  blankTo : Nat
  dwell : Nat
  bins : Assoc Nat
  deriving DecidableEq, Repr

/-- What the summary reports of the moment the burst ended (R391): CAP_MODE, CAP_LEVEL, CAP_FLAGS and R_STATE. -/
structure EndNote where
  mode : Nat
  level : Nat
  flags : Nat
  raster : Nat
  deriving DecidableEq, Repr

/-- Fail capture and the eye raster. -/
structure Cistern where
  caps : List IssueCap
  queue : List CqItem
  /-- where the next record goes, and the whole records in memory, oldest first (R398, R399) -/
  next : Nat
  recs : List (Nat × Nat)
  /-- records of the burst are lost for want of room (R398) -/
  full : Bool
  /-- a burst has made its first issue and CAP_DONE has not been set since (R392, R393) -/
  summaryDue : Bool
  /-- LOADING found the region short (R389) -/
  short : Bool
  endNote : EndNote
  /-- raster points that have left force, oldest first -/
  closed : List EyePoint
  /-- the raster point's first word, and the first word not blanked (R407) -/
  startWord : Nat
  blankTo : Nat
  /-- issues made while the point was in force (R410) -/
  dwell : Nat
  /-- errors and flags of each covered pin at the point (R409) -/
  bins : Assoc Nat
  deriving DecidableEq, Repr

/-! ### Memory -/

/-- Contents that became unspecified: addresses from `lo` up to below `hi` whose 4 KiB block number, counted from `lo`,
is `index` modulo `period`, and the epoch of the loss (R472, R474, R476). -/
structure Loss where
  lo : Nat
  hi : Nat
  period : Nat
  index : Nat
  epoch : Nat
  deriving DecidableEq, Repr

/-- The four stacks, addressed by module memory address (R470). -/
structure Mem where
  /-- bytes that differ from what an unlisted address reads as, addresses strictly rising -/
  cells : List Host.Cell
  /-- what became unspecified (R474, R476), newest first -/
  lost : List Loss
  /-- epochs used so far -/
  epochs : Nat
  /-- 32-byte blocks that hold an uncorrectable error (R480, R702), by address div 32 -/
  bad : List Nat
  /-- stacks that a fence has taken out of the map until an APPLY selects them, bit m for Mm (R569, R571) -/
  out : Nat
  /-- the map in force: mask and per-stack MiB of PATTERN, CISTERN and SCRATCH (R473) -/
  patMask : Nat
  patMib : Nat
  cisMask : Nat
  cisMib : Nat
  scrMask : Nat
  scrMib : Nat
  deriving DecidableEq, Repr

/-! ### Faults -/

/-- What the fault collector and the ALIVE logic hold beside their objects. -/
structure Faults where
  /-- signals that have reached the synchronisers: source, injected (R552, R564) -/
  arrived : List (Nat × Bool)
  /-- units that the pending FAULT trap fences (R559), and those that the trap in progress fences -/
  fenceWait : List Nat
  fenceNext : List Nat
  /-- the firmware has refreshed the watchdog since the last reset (R578) -/
  refreshed : Bool
  /-- the levels of ALIVE_P and ALIVE_N (R577) -/
  aliveP : Bool
  aliveN : Bool
  deriving DecidableEq, Repr

/-! ### Power -/

/-- What the power, reset and thermal logic hold beside their objects. -/
structure Power where
  /-- D00 has stopped: VAUX is absent (R638) -/
  stopped : Bool
  /-- D00 runs from VHOLD alone (R544) -/
  holding : Bool
  /-- recovery (R659) -/
  recovery : Bool
  /-- the management core is locked up (R576) -/
  locked : Bool
  /-- a soft reset is in progress (R642) -/
  softReset : Bool
  /-- SEQ has set since the last reset (R630) -/
  seqOnce : Bool
  /-- PERST# is asserted, and a link-down event holds the link (R640) -/
  perst : Bool
  /-- the safe state was entered at a shutdown threshold (R649), and the samples since with every sensor cool -/
  thermal : Bool
  cool : Nat
  /-- a supply fault has acted since the previous reset (R652) -/
  supplyActed : Bool
  /-- sensors whose T_WARN warning, and whose tile or stack limit, is in force (R647): 0 hub, 1 + t, 13 + m -/
  warned : List Nat
  limited : List Nat
  /-- MGMTCLK cycles since the last reset (R651), and how many had passed when first every supply was valid (R629,
  R650) -/
  cycles : Nat
  start : Option Nat
  /-- the partition has been applied or found invalid since the last reset (R475) -/
  mapTried : Bool
  deriving DecidableEq, Repr

/-! ### Tiles: listen state, self-check and the converter -/

/-- What the tiles' slow logic holds beside its objects. -/
structure Slow where
  /-- wake settings held on entry into listen state, by channel: WAKE_EN, WAKE_CMP, WAKE_SLOPE (R366) -/
  wake : Assoc (Nat × Nat × Nat)
  /-- SC_MODE and SC_TIE saved by a running built-in test (R373) -/
  saved : Assoc (Nat × Nat)
  /-- how often a tile's PLL has locked (R31, R180) -/
  locks : Assoc Nat
  /-- CMP_LIVE at the moment calibration of the channel began (R515) -/
  snap : Assoc Nat
  /-- node and average of a conversion in progress, by tile (R377) -/
  conv : Assoc (Nat × Nat)
  deriving DecidableEq, Repr

/-! ### Time measurement -/

/-- A TMU's measurement in progress. Timestamps are in 1/16 LSB (R424). -/
structure Tmu where
  start : Option Int
  stop : Option Int
  /-- edges counted since the start, and the slope of the start edge -/
  count : Nat
  falling : Bool
  /-- conditions of R461 that held at any moment since arming, as bits of RES_FLAGS -/
  cond : Nat
  /-- edges before this time fall in the dead time (R449) -/
  deadTo : Option Int
  /-- the time of the ARM or re-arm, from which the timeout counts (R434) -/
  armAt : Int
  /-- with CONT set, the time of the re-arm that follows a result (R436) -/
  rearm : Option Int
  /-- edges the prescaler has taken since its last output (R444) -/
  presc : Nat
  /-- calibration interrupted an armed unit (R438) -/
  wasArmed : Bool
  deriving DecidableEq, Repr

/-- What the time base holds beside its objects. -/
structure TimeBase where
  /-- the epoch has been fixed since D02 powered up (R427) -/
  epoch : Bool
  /-- the synthesiser is locked at the rate in force, and the tiles whose PLLs have yet to lock (R290) -/
  synth : Bool
  plls : List Nat
  /-- TB_WARM has been set since D01 powered up (R459) -/
  wasWarm : Bool
  /-- the time of the first tick of the last burst's first issue, or of the last tick lock, in 1/16 LSB
  (R298, R426, R450) -/
  origin : Int
  /-- the measurements of the 96 units; an unlisted one has nothing in progress -/
  tmus : Assoc Tmu
  deriving DecidableEq, Repr

/-! ### Pump -/

/-- A pump channel's work beside its object. -/
structure PumpCh where
  /-- the descriptor in execution; none while its fetch is under way (R487) -/
  desc : Option Bytes
  /-- elements of it moved, and the running check word (R494) -/
  done : Nat
  crc : Nat
  /-- STOP waits for the end of the element (R497) -/
  stopAsked : Bool
  /-- the fetch under way is a re-fetch (R500), or a resumption (R491) -/
  refetch : Bool
  resume : Bool
  /-- the endpoint of the chain's descriptors (R487) -/
  ep : Nat
  deriving DecidableEq, Repr

/-- The pump: its channels and its 1 MiB of SRAM, bytes that differ from what an unlisted one reads as (R482). -/
structure Pump where
  chs : Assoc PumpCh
  sram : List Host.Cell
  /-- 0 while an unlisted byte reads 0 (R483); otherwise the epoch in which the contents were lost with D05 -/
  epoch : Nat
  deriving DecidableEq, Repr

/-! ### Calibration -/

/-- One channel's trim set (R510): bases, drifts, DAC and comparator trims. -/
structure Trims where
  drv : Int
  cmp : Int
  cap : Int
  dDrv : Int
  dCmp : Int
  dCap : Int
  dac : Bytes
  ofs : Bytes
  deriving DecidableEq, Repr

/-- Calibration beside its objects. -/
structure Cal where
  /-- the channels whose self calibration has not ended (R519) -/
  todo : List Nat
  /-- the channels that the SELF in progress runs on and that have not ended (R523) -/
  chosen : List Nat
  /-- pending trim sets by channel, and pending interpolator corrections by tile (R513) -/
  pending : Assoc Trims
  pendPi : Assoc Bytes
  /-- Ldrv and Lcmp of the last completed self calibration (R526) -/
  readings : Assoc (Int × Int)
  /-- LDRV_REF and LCMP_REF held with the base (R511) -/
  refs : Assoc (Int × Int)
  /-- the contents of banks A and B; empty for erased (R530) -/
  bankA : Bytes
  bankB : Bytes
  /-- the active record, empty for none (R535) -/
  record : Bytes
  /-- the REF A frequency trim in 0.001 ppb, from the active record (R510, R536) -/
  refTrim : Int
  /-- the record being stored (R539) -/
  job : Option Bytes
  deriving DecidableEq, Repr

/-! ### The ring -/

/-- One entry of PEER_TABLE (R623). -/
structure Peer where
  live : Nat
  ref : Nat
  mism : Nat
  group : Nat
  flags : Nat
  rx : Nat
  deriving DecidableEq, Repr

/-- The ring port beside its object. -/
structure Ring where
  /-- own messages waiting (R597) -/
  queue : List Bytes
  /-- a pending START: it arrived after its T_SCHED (R610); T_SCHED is in SCHED -/
  startLate : Bool
  /-- a scheduled JUMP: its entry and T_SCHED (R611) -/
  jump : Option (Nat × Nat)
  /-- TIME events to come: T_EVENT in fleet time (R605) -/
  events : List Nat
  /-- the master's next TIMEs carry CAL_OK 1 (R600) -/
  calOk : Bool
  /-- the reflection procedure is under way (R599) -/
  calBusy : Bool
  /-- the master awaits the return of its check TIME (R600) -/
  check : Bool
  /-- the step of R604 has been made -/
  stepped : Bool
  /-- PEER_TABLE by position (R623) -/
  peers : Assoc Peer
  deriving DecidableEq, Repr

/-! ### Trust -/

/-- One fuse slot of a floor (R663, R664): its value, its valid fuse, used up. -/
structure FloorSlot where
  value : Nat
  valid : Bool
  used : Bool
  deriving DecidableEq, Repr

/-- The non-volatile store, the fuses and the crypto engine's jobs. -/
structure Trust where
  /-- firmware slots A and B, empty for erased (R655) -/
  fwA : Bytes
  fwB : Bytes
  /-- the two slots of the patch store (R285) -/
  patchA : Bytes
  patchB : Bytes
  /-- the customer keys in the non-volatile store (R669) -/
  keys : List Bytes
  /-- IDENT_CERT in the non-volatile store (R665) -/
  cert : Bytes
  /-- fuses: the root hash, the serial number, the MAC addresses (R654) -/
  rootHash : Bytes
  serial : Nat
  mac0 : Bytes
  mac1 : Bytes
  /-- the 16 slots of the firmware floor and of the patch floor (R663) -/
  fwFloor : List FloorSlot
  patchFloor : List FloorSlot
  /-- a fuse programming in progress: patch floor or not, the value (R663) -/
  fuse : Option (Bool × Nat)
  /-- a firmware install and a patch install in progress: the image (R286, R661) -/
  fwJob : Option Bytes
  patchJob : Option Bytes
  /-- the report being signed (R670) -/
  report : Option Bytes
  /-- firmware slots A and B hold uncorrectable errors, as the last check found (R657) -/
  badA : Bool
  badB : Bool
  deriving DecidableEq, Repr

/-! ### The management core -/

/-- The request whose SIG_COMMIT holds its reply (R117): the items of its batch still to run, and the reply items of
those already run with the first code that is not 0. -/
structure Held where
  req : Req
  rest : List BatchItem
  done : Nat
  items : Bytes
  code : Nat
  deriving DecidableEq, Repr

/-- The management core beside its objects. -/
structure Mgmt where
  /-- a scan is in progress (R114) -/
  scanning : Bool
  /-- SIG_MISMATCH (R116) -/
  mismatch : Bool
  /-- the request whose reply is held (R117) -/
  held : Option Held
  /-- requests that wait behind it, oldest first -/
  waiting : List Req
  /-- the source served last (R95) -/
  turn : Nat
  /-- requests of PF0 and of PF1 fetched before their ring was disabled, whose replies are discarded (R69) -/
  mute0 : Nat
  mute1 : Nat
  deriving DecidableEq, Repr

/-- The JTAG port (R694, R695). -/
structure Jtag where
  /-- the request and the reply of DICT_FRAME (R694) -/
  req : Bytes
  reply : List Nat
  /-- the firmware image shifted into RECOVERY so far, and the status of the last one checked (R695) -/
  image : Bytes
  status : Option Nat
  /-- the instruction register, and the output cells of the boundary-scan register: ALIVE_P, ALIVE_N and ALIVE control
  as bits 0 to 2 (R693, R696) -/
  ir : Nat
  cells : Nat
  deriving DecidableEq, Repr

/-- The state of the module. -/
structure State where
  /-- the commands that are waiting, first in, first out -/
  pending : List Instr
  /-- values of the objects of fixed size, by key; an unlisted object holds its default -/
  objs : Assoc Nat
  /-- values of the OCTET_STRING and DOMAIN objects, by key; an unlisted one holds its default -/
  blobs : Assoc Bytes
  pf0 : PcieFn
  pf1 : PcieFn
  seq : Seq
  uc : Micro
  /-- the channels' tile electronics; an unlisted channel is as at power-up -/
  chans : Assoc Chan
  cis : Cistern
  mem : Mem
  flt : Faults
  pwr : Power
  slow : Slow
  tb : TimeBase
  pump : Pump
  cal : Cal
  ring : Ring
  trust : Trust
  mgmt : Mgmt
  jtag : Jtag
  /-- fresh values drawn so far (the model's own) -/
  freeCtr : Nat
  /-- what the module has sent out, oldest first (the model's own) -/
  out : List Out
  deriving DecidableEq, Repr

/-! ### Reset -/

/-- The registers of a function after reset (R68, R69), with the class its port has by default (R96, R102) and ATTN as the
status word has it after reset (R81). Every MSI-X vector starts masked, as PCIe has it (PRESUMED, log entry 30). -/
def PcieFn.init (cls : Nat) : PcieFn :=
  { cmdBase := 0, cmdSize := 6, cmdTail := 0, cmdHead := 0, rplBase := 0, rplSize := 6, rplTail := 0, rplHead := 0,
    rplWb := 0, ringCtrl := 0, stopped := false, replies := [], stage := none,
    msixTable := (List.range 72).map (fun i => if i % 4 = 3 then 1 else 0), pba := 0, cls := cls, attn := true }

/-- The fetch front before any burst. -/
def Front.init : Front :=
  { seg := 0, off := 0, entry := 0, loops := [], calls := [], stopped := true, back := false, head := 0, headSeg := 0,
    sure := false }

/-- The sequencer before any burst. -/
def Seq.init : Seq :=
  { image := 0, instrOff := 0, planeOff := 0, granules := 0, imageLen := 0, entrySeg := 0, jtValid := 0, jumpTable := [],
    segs := [], fetchCh := [], loaded := false, seg := 0, off := 0, entry := 0, back := false, made := 0, wait := .none,
    markSeen := false, last := none, loops := [], calls := [], cycle := 0, side := [], stream := [],
    front := Front.init, primeQueue := [], primed := [], jump := none, reserve := none, headOrder := [], heads := [],
    evicted := [], reload := false, bodies := [], replays := 0, cnt := [0, 0, 0, 0], ringMark := false, ringTime := false }

/-- The control store after reset (R241). -/
def Micro.init : Micro :=
  { store := [], dispatch := [], bad := [], scrub := 0, u := List.replicate 16 0, z := false, n := false, c := false,
    routine := none, operand := 0, lastUpc := 0, inRoutine := false, deferred := none, trap := none, userVec := 0,
    timeAt := (0, 0), haltAfter := none }

/-- Fail capture after reset. -/
def Cistern.init : Cistern :=
  { caps := [], queue := [], next := 0, recs := [], full := false, summaryDue := false, short := false,
    endNote := ⟨0, 0, 0, 0⟩, closed := [], startWord := 0, blankTo := 0, dwell := 0, bins := [] }

/-- Memory with nothing written and no map in force. -/
def Mem.init : Mem :=
  { cells := [], lost := [], epochs := 0, bad := [], out := 0, patMask := 0, patMib := 0, cisMask := 0, cisMib := 0,
    scrMask := 0, scrMib := 0 }

/-- The fault collector after reset. -/
def Faults.init : Faults :=
  { arrived := [], fenceWait := [], fenceNext := [], refreshed := false, aliveP := false, aliveN := false }

/-- The power logic after reset. -/
def Power.init : Power :=
  { stopped := false, holding := false, recovery := false, locked := false, softReset := false, seqOnce := false,
    perst := false, thermal := false, cool := 0, supplyActed := false, warned := [], limited := [], cycles := 0,
    start := none, mapTried := false }

/-- The time base after reset. -/
def TimeBase.init : TimeBase := { epoch := false, synth := false, plls := [], wasWarm := false, origin := 0, tmus := [] }

/-- Calibration after reset, both banks erased. -/
def Cal.init : Cal :=
  { todo := [], chosen := [], pending := [], pendPi := [], readings := [], refs := [], bankA := [], bankB := [],
    record := [], refTrim := 0, job := none }

/-- The ring port after reset. -/
def Ring.init : Ring :=
  { queue := [], startLate := false, jump := none, events := [], calOk := false, calBusy := false, check := false,
    stepped := false, peers := [] }

/-- The stores and fuses the model starts from: erased, and no fuse set (DESIGN CHOICE, log entry 3). -/
def Trust.init : Trust :=
  { fwA := [], fwB := [], patchA := [], patchB := [], keys := List.replicate 8 [], cert := [], rootHash := List.replicate 64 0,
    serial := 0, mac0 := List.replicate 6 0, mac1 := List.replicate 6 0, fwFloor := List.replicate 16 ⟨0, false, false⟩,
    patchFloor := List.replicate 16 ⟨0, false, false⟩, fuse := none, fwJob := none, patchJob := none, report := none,
    badA := false, badB := false }

/-- Objects whose value at reset is no default of their table: VAUX is valid and D00 on (R628, R639), and no slot of a
floor is used (R664). Slot A is taken as the one that runs (DESIGN CHOICE, log entry 3). -/
def resetObjs : Assoc Nat :=
  [(K.DOM_STATE, 2), (K.SUPPLY_OK, 1), (K.FW_STATUS, 16), (K.FW_SLOT, 1), (K.FW_SLOTS_LEFT, 16),
   (K.PATCH_SLOTS_LEFT, 16)]

/-- The machine right after reset (R45, R640): every object at its default, every buffer empty. -/
def State.reset : State :=
  { pending := [], objs := resetObjs, blobs := [], pf0 := PcieFn.init 3, pf1 := PcieFn.init 1, seq := Seq.init, uc := Micro.init,
    chans := [], cis := Cistern.init, mem := Mem.init, flt := Faults.init, pwr := Power.init,
    slow := ⟨[], [], [], [], []⟩, tb := TimeBase.init, pump := ⟨[], [], 0⟩, cal := Cal.init, ring := Ring.init,
    trust := Trust.init, mgmt := ⟨false, false, none, [], 0, 0, 0⟩, jtag := ⟨[], [], [], none, 1, 0⟩, freeCtr := 0, out := [] }

end Sys2Proof.Machine
end

