-- ==== Sys2Proof/Machine/Ops.lean ====
section
/-! DEFINITION. The named operations over the state: objects, blobs, outputs, fault arrivals, events and free values. -/

namespace Sys2Proof.Machine

/-! ### Reactions (R549) -/

/-- The default severity of a fault source: 0 for S0 to 4 for S4. -/
def reactDefault (n : Nat) : Nat :=
  if n ≤ 0x6B then 0
  else if n ≤ 0x72 then 2
  else if n = 0x73 then 1
  else if n ≤ 0x75 then 2
  else if n = 0x76 then 0
  else if n = 0x77 then 1
  else if n = 0x78 then 0
  else if n = 0x79 then 1
  else if n ≤ 0x7B then 0
  else if n = 0x7C then 1
  else if n = 0x7D then 2
  else 0

/-- The severities a fault source may be given. -/
def reactAllowed (n : Nat) : List Nat :=
  if n ≤ 0x6B then [0, 1, 2, 3, 4]
  else if n ≤ 0x6F then [1, 2, 3, 4]
  else if n = 0x70 then [0, 1, 2, 4]
  else if n = 0x71 then [2, 4]
  else if n = 0x72 then [1, 2, 4]
  else if n = 0x73 then [0, 1, 2]
  else if n = 0x74 then [2, 4]
  else if n = 0x75 then [0, 1, 2, 4]
  else if n = 0x76 then [0, 1, 2]
  else if n = 0x77 then [0, 1, 2, 4]
  else if n = 0x78 then [0, 1]
  else if n ≤ 0x7A then [0, 1, 2, 4]
  else if n = 0x7B then [0, 1, 2]
  else if n = 0x7C then [1, 2, 4]
  else if n = 0x7D then [2, 4]
  else if n = 0x7E then [0, 1]
  else [0, 1, 4]

/-! ### Objects -/

/-- The default value of an object (R38, R45): what its table states. -/
def dfltNum (k : Nat) : Nat :=
  if k / 256 = 0x5003 then reactDefault (k % 256 - 1)
  else match objRow (k / 256) (k % 256) with
    | some r => r.dflt
    | none => 0

/-- The value of an object of fixed size. -/
def State.num (s : State) (k : Nat) : Nat := (aFind s.objs k).getD (dfltNum k)

/-- Set the value of an object of fixed size. -/
def State.setNum (s : State) (k v : Nat) : State := { s with objs := aPut s.objs k v }

/-- Set several objects. -/
def State.setNums (s : State) (l : List (Nat × Nat)) : State := l.foldl (fun s p => s.setNum p.1 p.2) s

/-- Increment a U32 counter (R94: a counter). -/
def State.inc (s : State) (k : Nat) : State := s.setNum k (inc32 (s.num k))

/-- Add to a counter of `n` bits. -/
def State.add (s : State) (n k d : Nat) : State := s.setNum k ((s.num k + d) % 2 ^ n)

/-- One bit of an object. -/
def State.flag (s : State) (k i : Nat) : Bool := bit (s.num k) i

/-- Set one bit of an object. -/
def State.setFlag (s : State) (k i : Nat) (b : Bool) : State := s.setNum k (putBit (s.num k) i b)

/-- An I32 object as an integer. -/
def State.int32 (s : State) (k : Nat) : Int := signed 32 (s.num k)

/-- The number of bytes of an object whose value the module fills, and the byte it holds by default (R86): the length its
table states; 0 where the object is empty by default. -/
def filled (k : Nat) : Nat × Byte :=
  let u := objKey (baseIndex (k / 256)) (k % 256)
  if u = K.READY_TIMES then (128, 0xFF#8)
  else if u = K.SEV_MAP then (128, 0xFF#8)
  else if u = K.LOOP_SNAPSHOT then (128, 0#8)
  else if u = K.TRAP_FRAME then (144, 0#8)
  else if u = K.SNAPSHOT then (176, 0#8)
  else if u = K.TIME_SNAP then (16, 0#8)
  else if u = K.FW_MEASURE then (64, 0#8)
  else if u = K.ATT_REPORT then (316, 0#8)
  else if u = K.TS_BUF ∨ u = K.HIST then (1024, 0#8)
  else if u = K.DAC_TRIM then (48, 0#8)
  else if u = K.CMP_OFS then (10, 0#8)
  else if K.PI_CORR_T0 ≤ u ∧ u ≤ K.PI_CORR_T0 + 11 then (64, 0#8)
  else (0, 0#8)

/-- The default value of a DOMAIN or OCTET_STRING object. -/
def dfltBlob (k : Nat) : Bytes := List.replicate (filled k).1 (filled k).2

/-- The value of an OCTET_STRING or DOMAIN object. -/
def State.blob (s : State) (k : Nat) : Bytes := (aFind s.blobs k).getD (dfltBlob k)

/-- Set the value of an OCTET_STRING or DOMAIN object. -/
def State.setBlob (s : State) (k : Nat) (v : Bytes) : State := { s with blobs := aPut s.blobs k v }

/-! ### Parts of the state -/

/-- Change the sequencer. -/
def State.setSeq (s : State) (x : Seq) : State := { s with seq := x }
/-- Change the microcode state. -/
def State.setUc (s : State) (x : Micro) : State := { s with uc := x }
/-- Change fail capture. -/
def State.setCis (s : State) (x : Cistern) : State := { s with cis := x }
/-- Change memory. -/
def State.setMem (s : State) (x : Mem) : State := { s with mem := x }
/-- Change the fault collector. -/
def State.setFlt (s : State) (x : Faults) : State := { s with flt := x }
/-- Change the power and reset logic. -/
def State.setPwr (s : State) (x : Power) : State := { s with pwr := x }
/-- Change the tiles' slow logic. -/
def State.setSlow (s : State) (x : Slow) : State := { s with slow := x }
/-- Change the time base. -/
def State.setTb (s : State) (x : TimeBase) : State := { s with tb := x }
/-- Change the pump. -/
def State.setPump (s : State) (x : Pump) : State := { s with pump := x }
/-- Change calibration. -/
def State.setCal (s : State) (x : Cal) : State := { s with cal := x }
/-- Change the ring port. -/
def State.setRing (s : State) (x : Ring) : State := { s with ring := x }
/-- Change the stores, fuses and jobs. -/
def State.setTrust (s : State) (x : Trust) : State := { s with trust := x }
/-- Change the management core. -/
def State.setMgmt (s : State) (x : Mgmt) : State := { s with mgmt := x }
/-- Change the JTAG port. -/
def State.setJtag (s : State) (x : Jtag) : State := { s with jtag := x }

/-! ### Outputs and free values -/

/-- Send something out. -/
def State.emit (s : State) (o : Out) : State := { s with out := s.out ++ [o] }

/-- The next fresh value, of `n` bits, and the state that has drawn it. -/
def State.fresh (s : State) (n : Nat) : Nat × State :=
  (Config.freeValue n s.freeCtr % 2 ^ n, { s with freeCtr := s.freeCtr + 1 })

/-! ### Faults and events -/

/-- A signal of a fault source reaches the collector's synchroniser (R26, R552). -/
def State.raise (s : State) (src : Nat) : State :=
  s.setFlt { s.flt with arrived := s.flt.arrived ++ [(src, false)] }

/-- Set EV_BURST (R81, R222). -/
def State.evBurst (s : State) : State := s.setFlag K.ATTN_EVENTS 11 true
/-- Set EV_PUMP (R81). -/
def State.evPump (s : State) : State := s.setFlag K.ATTN_EVENTS 10 true
/-- Set EV_CAL (R81, R546). -/
def State.evCal (s : State) : State := s.setFlag K.ATTN_EVENTS 9 true

end Sys2Proof.Machine
end

