-- ==== Sys2Proof/Machine/Timing.lean ====
section
/-! DEFINITION. Ticks, fine steps and granules (R3, R288), deskew conversion (R317) and half-granule words. -/

namespace Sys2Proof.Machine

/-- Fine steps in one tick (R305). -/
def fineTick : Nat := 512
/-- Fine steps in one half-granule word of 32 ticks (R196). -/
def fineWord : Nat := 32 * 512
/-- Fine steps in one granule (R3). -/
def fineGranule : Nat := 64 * 512

/-- Femtoseconds in one tick times TICK_MULT: 2^32 × 10^7 (R288). -/
def tickScale : Nat := 2 ^ 32 * 10 ^ 7

/-- The tick multiplier in force. -/
def State.mult (s : State) : Nat := s.num K.TICK_MULT

/-- The nominal tick rate in mHz, rounded to the nearest mHz (R288, R292). -/
def tickNom (m : Nat) : Nat := (2 * (100000000000 * m) + 2 ^ 32) / (2 * 2 ^ 32)

/-- Femtoseconds to fine steps of the current tick, nearest, ties away from zero (R317). -/
def State.fine (s : State) (fs : Int) : Int := roundDiv (fs * (512 * s.mult : Nat)) tickScale

/-- The early-feed count n = ceil(−d / t_g) of a negative deskew in fs; 0 otherwise (R35, R317). -/
def State.earlyOf (s : State) (d : Int) : Nat :=
  if d < 0 then ceilDiv ((-d).toNat * s.mult) (64 * tickScale) else 0

/-- Convert the three values of a channel to fine steps and set EARLY (R317). -/
def deskewApply (s : State) (c : Nat) : State :=
  let drv := s.int32 (atCh K.DESKEW_DRV c)
  let cmp := s.int32 (atCh K.DESKEW_CMP c)
  let adj := s.int32 (atCh K.STRB_ADJ c)
  s.setNums [(atCh K.DESKEW_DRV_RES c, raw 32 (s.fine drv)),
             (atCh K.DESKEW_CMP_RES c, raw 32 (s.fine cmp)),
             (atCh K.STRB_ADJ_RES c, raw 32 (s.fine adj)),
             (atCh K.EARLY c, s.earlyOf drv + 16 * s.earlyOf cmp)]

/-- Convert the deskew of every channel, at a tick lock (R317). -/
def deskewAll (s : State) : State := (List.range 96).foldl deskewApply s

/-- The early-feed count of the drive path. -/
def earlyDrv (s : State) (c : Nat) : Nat := s.num (atCh K.EARLY c) % 16
/-- The early-feed count of the compare path. -/
def earlyCmp (s : State) (c : Nat) : Nat := s.num (atCh K.EARLY c) / 16

/-- Half-granule words in a time given in fs, rounded up. -/
def State.wordsIn (s : State) (fs : Nat) : Nat := ceilDiv (fs * s.mult) (32 * tickScale)

/-- Whole half-granule words in a time given in fs. -/
def State.wordsWithin (s : State) (fs : Nat) : Nat := fs * s.mult / (32 * tickScale)

/-- A span of fine steps is shorter than 20 ps (R312). -/
def State.shortSpan (s : State) (fine : Int) : Bool := decide (fine * tickScale < (20000 * 512 * s.mult : Nat))

/-- The half-granule word, counted from the first issue, that holds a time in fine steps (R303). -/
def wordAt (t : Int) : Nat := (t / fineWord).toNat

end Sys2Proof.Machine
end

