-- ==== Sys2Proof/Machine/Pins.lean ====
section
/-! DEFINITION. Channels and tiles: readiness and fencing, drive levels and terminations (R338–R343), the window
comparators and slicers (R346–R357), and the PRBS recurrence (R321–R324). -/

namespace Sys2Proof.Machine

/-- A channel's electronics at power-up. -/
def chanInit : Chan :=
  { pad := (0, 0), cmpH := false, cmpL := false, validH := false, validL := false, powered := false, drive := .off,
    dataVal := false, keep := 5, vec := none, short := none, fed := [], hold := none, alt := none, skipCmp := 0, tset := 0,
    genCount := 0, genReg := 0, chk := 0, chkCount := 0, chkRx := 0, chkReg := 0, chkRun := 0, blkN := 0, blkFails := 0,
    words := [], later := [] }

/-- The electronics of a channel. -/
def State.chan (s : State) (c : Nat) : Chan := (aFind s.chans c).getD chanInit

/-- Set the electronics of a channel. -/
def State.setChan (s : State) (c : Nat) (x : Chan) : State := { s with chans := aPut s.chans c x }

/-- The tile of a channel (R13). -/
def tileOf (c : Nat) : Nat := c / 8

/-- TILE_STATE of a tile (R362). -/
def tileState (s : State) (t : Nat) : Nat := s.num (atTile K.TILE_STATE t)

/-- The tile is on and ready. -/
def tileReady (s : State) (t : Nat) : Bool := tileState s t == 2

/-- The tile's live values exist: it is neither off, starting, fenced, waking nor in listen state (R29). -/
def tileLive (s : State) (t : Nat) : Bool := tileReady s t

/-- The channel's own fence (R584). -/
def chFenced (s : State) (c : Nat) : Bool :=
  if c < 64 then s.flag K.FENCE_CH_LO c else s.flag K.FENCE_CH_HI (c - 64)

/-- The tile's fence. -/
def tileFenced (s : State) (t : Nat) : Bool := s.flag K.FENCE_TILE t

/-- ROLE of a channel (R132). -/
def roleOf (s : State) (c : Nat) : Nat := s.num (atCh K.ROLE c)

/-- The role as R567 counts it: a fenced channel, and a channel of a fenced tile, is UNUSED. -/
def liveRole (s : State) (c : Nat) : Nat :=
  if chFenced s c || tileFenced s (tileOf c) then 0 else roleOf s c

/-- PAM4 is set in PRBS_CTRL. -/
def prbsPam4 (s : State) (c : Nat) : Bool := s.flag (atCh K.PRBS_CTRL c) 1

/-- The role carries PAM4 symbols (R132, R294). -/
def pam4Role (s : State) (c : Nat) : Bool :=
  let r := roleOf s c
  r == 2 || r == 4 || ((r == 5 || r == 6) && prbsPam4 s c)

/-! ### Levels -/

/-- The levels of the P and N legs in µV; none is a leg that does not drive (R338–R341). -/
def legLevels (s : State) (c : Nat) : Drive → Option Int × Option Int
  | .off => (none, none)
  | .idle => let v := s.int32 (atCh K.VTT c); (some v, some v)
  | .low =>
    if roleOf s c = 7 then
      let n := if s.num (atCh K.LEG_MODE c) = 0 then some (s.int32 (atCh K.VIH c)) else none
      (some (s.int32 (atCh K.VIL c)), n)
    else
      let m : Int := s.num (atCh K.VCM c)
      let d : Int := s.num (atCh K.VOD c) / 4
      (some (m - d), some (m + d))
  | .high =>
    if roleOf s c = 7 then
      let n := if s.num (atCh K.LEG_MODE c) = 0 then some (s.int32 (atCh K.VIL c)) else none
      (some (s.int32 (atCh K.VIH c)), n)
    else
      let m : Int := s.num (atCh K.VCM c)
      let d : Int := s.num (atCh K.VOD c) / 4
      (some (m + d), some (m - d))
  | .sym v =>
    let m : Int := s.num (atCh K.VCM c)
    let d : Int := s.int32 (atCh K.PL0 c + v) / 2
    (some (m + d), some (m - d))

/-- The load a leg that does not drive presents: its termination voltage through 50 Ω, or none for
high impedance (R343), as on every land of a tile that is off or fenced (R686). -/
def termination (s : State) (c : Nat) : Option Int :=
  let t := tileState s (tileOf c)
  if t ≠ 0 ∧ t ≠ 5 ∧ s.num (atCh K.TERM_MODE c) = 1 then some (s.int32 (atCh K.VTT c)) else none

/-- What a parked pin does (R295, R342). -/
def parkDrive (s : State) (c : Nat) : Drive :=
  let p := s.num (atCh K.PARK c)
  if p = 0 then .off
  else if p = 1 then .idle
  else
    let r := roleOf s c
    let pam := r == 2 || (r == 5 && prbsPam4 s c)
    if p = 2 then (if pam then .sym 0 else .low) else (if pam then .sym 3 else .high)

/-! ### Comparators -/

/-- 16,384 times the voltage in µV of a threshold code (R335). -/
def codeVolt (k : Nat) : Int := -800000 * 16384 + 3000000 * (k : Int)

/-- A code with an offset, held at the nearer end outside 0–16,383 (R352). -/
def offsetCode (k : Nat) (o : Int) : Nat := (min (max ((k : Int) + o) 0) 16383).toNat

/-- An offset takes a code outside 0–16,383 (R352, R402). -/
def codeHeld (k : Nat) (o : Int) : Bool := decide ((k : Int) + o < 0) || decide ((k : Int) + o > 16383)

/-- The raster's covered pins (R400). -/
def covered (s : State) (c : Nat) : Bool :=
  (if c < 64 then s.flag K.R_PINS_LO c else s.flag K.R_PINS_HI (c - 64)) &&
  (liveRole s c == 3 || liveRole s c == 4 || liveRole s c == 6)

/-- The raster runs: CAP_MODE EYE and R_STATE RUNNING (R403). -/
def rasterOn (s : State) : Bool := s.num K.CAP_MODE == 3 && s.num K.R_STATE == 1

/-- Coordinates of raster point i (R401). -/
def pointXY (s : State) (i : Nat) : Nat × Nat :=
  let nx := s.num K.X_COUNT
  let ny := s.num K.Y_COUNT
  if s.num K.R_ORDER = 0 then (i % nx, i / nx) else (i / ny, i % ny)

/-- The unheld strobe offset in fine steps of the point in force (R401). -/
def strobeRaw (s : State) : Int :=
  s.int32 K.X_START + (pointXY s (s.num K.R_POINT)).1 * s.int32 K.X_STEP

/-- The threshold offset in codes of the point in force (R401). -/
def thrOffset (s : State) : Int :=
  s.int32 K.Y_START + (pointXY s (s.num K.R_POINT)).2 * s.int32 K.Y_STEP

/-- The strobe offset on a pin: 0 unless the raster covers it; held at ±32,768 (R302, R402). -/
def rasterStrobe (s : State) (c : Nat) : Int :=
  if rasterOn s && covered s c then min (max (strobeRaw s) (-32768)) 32768 else 0

/-- The threshold offset on a pin (R352). -/
def rasterCode (s : State) (c : Nat) : Int := if rasterOn s && covered s c then thrOffset s else 0

/-- Vs in µV: the difference of the pads, or the P pad alone (R346). -/
def padVs (s : State) (c : Nat) (v : Pad) : Int := if s.num (atCh K.CMP_SRC c) = 0 then v.1 - v.2 else v.1

/-- What the comparators of a channel sense, times 16,384: Vs, or the tie voltage (R346, R370). Exchanged inputs change
nothing but the sign of an offset (R370). -/
def sensed (s : State) (c : Nat) (v : Pad) : Int :=
  let m := s.num (atCh K.SC_MODE c)
  if m = 1 ∨ m = 3 then codeVolt (s.num (atCh K.SC_TIE c)) else padVs s c v * 16384

/-- Half the hysteresis band, times 16,384 µV (R347). -/
def halfBand (s : State) (c : Nat) : Int := (s.num (atCh K.HYST c) : Int) * 1250 * 16384

/-- The input lies above the band of threshold object `k`. -/
def aboveBand (s : State) (c k : Nat) (v : Pad) : Bool :=
  decide (sensed s c v > codeVolt (offsetCode (s.num (atCh k c)) (rasterCode s c)) + halfBand s c)

/-- The input lies below the band of threshold object `k`. -/
def belowBand (s : State) (c k : Nat) (v : Pad) : Bool :=
  decide (sensed s c v < codeVolt (offsetCode (s.num (atCh k c)) (rasterCode s c)) - halfBand s c)

/-- The pads of a channel are at `v`: each window comparator takes its side of the band, or holds (R347, R356). -/
def senseVs (s : State) (c : Nat) (v : Pad) : State :=
  let x := s.chan c
  let ha := aboveBand s c K.THR_HI v
  let hb := belowBand s c K.THR_HI v
  let la := aboveBand s c K.THR_LO v
  let lb := belowBand s c K.THR_LO v
  s.setChan c { x with
    pad := v,
    cmpH := if ha then true else if hb then false else x.cmpH,
    validH := x.validH || ha || hb,
    cmpL := if la then true else if lb then false else x.cmpL,
    validL := x.validL || la || lb }

/-- Enable one window comparator (R355); with HYST 0 it is valid at once. -/
def enableOne (s : State) (c : Nat) (high : Bool) : State :=
  let k := if high then K.THR_HI else K.THR_LO
  let v := (s.chan c).pad
  let a := aboveBand s c k v
  let valid := a || belowBand s c k v || s.num (atCh K.HYST c) == 0
  let s := if valid then s else s.inc (atCh K.BAND_PRESETS c)
  let x := s.chan c
  s.setChan c (if high then { x with cmpH := a, validH := valid, powered := true }
               else { x with cmpL := a, validL := valid, powered := true })

/-- Enable both window comparators of a channel (R354). -/
def enableCmp (s : State) (c : Nat) : State := enableOne (enableOne s c true) c false

/-- The comparators of a channel have power: its tile is ready, or it is a wake channel of a tile in listen state
(R364). -/
def cmpPowered (s : State) (c : Nat) : Bool := tileReady s (tileOf c) || (s.chan c).powered

/-- A channel's comparators are enabled where they have power (R354). -/
def enablePowered (s : State) (c : Nat) (h l : Bool) : State :=
  if !cmpPowered s c then s
  else
    let s := if h then enableOne s c true else s
    if l then enableOne s c false else s

/-- The pin is valid (R357). -/
def pinValid (s : State) (c : Nat) : Bool := (s.chan c).validH && (s.chan c).validL

/-- The channel is being calibrated (R515). -/
def calibrating (s : State) (c : Nat) : Bool := s.num (atCh K.CAL_STATUS c) == 1

/-- The channel produces TMU edges and attention events: it is valid, not fenced, in NORMAL, neither tested nor
calibrated, and its tile is ready (R357, R360, R373). -/
def producesEdges (s : State) (c : Nat) : Bool :=
  tileReady s (tileOf c) && !chFenced s c && s.num (atCh K.SC_MODE c) == 0 && s.num (atCh K.SC_STATE c) != 1 &&
  !calibrating s c && pinValid s c

/-- The edges between two states of a channel's outputs: 0 H rising, 1 H falling, 2 L rising, 3 L falling (R361). -/
def outputEdges (x y : Chan) : List Nat :=
  (if x.cmpH = y.cmpH then [] else [if y.cmpH then 0 else 1]) ++
  (if x.cmpL = y.cmpL then [] else [if y.cmpL then 2 else 3])

/-- An edge that ATTN_EN selects is recorded, and the first one raises the channel's source (R359). -/
def attnRecord (c : Nat) (s : State) (e : Nat) : State :=
  if s.flag (atCh K.ATTN_EN c) e then
    let first := s.num (atCh K.ATTN_SEEN c) == 0
    let s := (s.setFlag (atCh K.ATTN_SEEN c) e true).inc (atCh K.ATTN_COUNT c)
    if first then s.raise c else s
  else s

/-- The pads of a channel are at `v`: the outputs follow, and a change of a valid pin's output is an edge (R347, R356,
R359, R360). -/
def senseEdge (s : State) (c : Nat) (v : Pad) : State :=
  let t := senseVs s c v
  if producesEdges s c then (outputEdges (s.chan c) (t.chan c)).foldl (attnRecord c) t else t

/-- The output of slicer j for an input (R350, R352). -/
def slicer (s : State) (c j : Nat) (v : Pad) : Bool :=
  decide (sensed s c v > codeVolt (offsetCode (s.num (atCh K.SLC0 c + j)) (rasterCode s c)))

/-- The decided bit of an NRZ pin (R351). -/
def decideBit (s : State) (c : Nat) (v : Pad) : Bool := slicer s c 1 v

/-- The decided symbol of a PAM4 pin: the number of slicers at 1 (R351). -/
def decideSym (s : State) (c : Nat) (v : Pad) : Nat :=
  ofBool (slicer s c 0 v) + ofBool (slicer s c 1 v) + ofBool (slicer s c 2 v)

/-- CMP_LIVE (R361). -/
def cmpLive (s : State) (c : Nat) : Nat :=
  let x := s.chan c
  ofBool x.cmpH + 2 * ofBool x.cmpL + 4 * ofBool x.validH + 8 * ofBool x.validL +
  16 * ofBool (slicer s c 0 x.pad) + 32 * ofBool (slicer s c 1 x.pad) + 64 * ofBool (slicer s c 2 x.pad)

/-! ### PRBS -/

/-- The tap word of a channel (R321, R322). -/
def tapWord (s : State) (c : Nat) : Nat :=
  let p := s.num (atCh K.PRBS_POLY c)
  if p = 0 then 0x60 else if p = 1 then 0x110 else if p = 2 then 0x6000 else if p = 3 then 0x420000
  else if p = 4 then 0x48000000 else s.num (atCh K.PRBS_TAPS c)

/-- The degree of a tap word: the position of its highest set bit plus one (R322). -/
def degree (t : Nat) : Nat := if t = 0 then 0 else Nat.log2 t + 1

/-- Parity of the low 32 bits. -/
def parity (v : Nat) : Bool := (setBits v 32).length % 2 == 1

/-- The next bit of the recurrence; bit i − 1 of `reg` is b(t − i) (R321). -/
def nextBit (taps reg : Nat) : Bool := parity (taps &&& reg)

/-- The register after a bit. -/
def pushBit (n reg : Nat) (b : Bool) : Nat := (2 * reg + ofBool b) % 2 ^ n

/-- The generator's start bits: the low n bits of PRBS_SEED, all ones in place of 0 (R323). -/
def seedBits (s : State) (c n : Nat) : Nat :=
  let v := s.num (atCh K.PRBS_SEED c) % 2 ^ n
  if v = 0 then 2 ^ n - 1 else v

/-- One generator bit before INVERT, and the generator after it (R323). -/
def genBit (s : State) (c : Nat) (x : Chan) : Bool × Chan :=
  let t := tapWord s c
  let n := degree t
  let b := if x.genCount < n then bit (seedBits s c n) x.genCount else nextBit t x.genReg
  (b, { x with genCount := x.genCount + 1, genReg := pushBit n x.genReg b })

/-- `k` generator bits as presented, with INVERT (R323). -/
def genBits (s : State) (c : Nat) : Nat → Chan → List Bool × Chan
  | 0, x => ([], x)
  | k + 1, x =>
    let (b, x1) := genBit s c x
    let (r, x2) := genBits s c k x1
    ((b != s.flag (atCh K.PRBS_CTRL c) 0) :: r, x2)

end Sys2Proof.Machine
end

