-- ==== Sys2Proof/Machine/Judge.lean ====
section
/-! DEFINITION. Judgements: where each goes (R381–R385, R394, R408), the half-granule word results (R196, R197),
the condition lines (R198), the conditions and counters (R199–R204). -/

namespace Sys2Proof.Machine

/-! ### Counters, first fail, bins and records -/

/-- A 48-bit counter that stops at its limit, with its saturation flag (R382). -/
def satCount (s : State) (k flags i : Nat) : State :=
  let v := s.num k + 1
  if v ≥ 2 ^ 48 - 1 then (s.setNum k (2 ^ 48 - 1)).setFlag flags i true else s.setNum k v

/-- Where an issue stands: its instruction-region index and segment, from the captured issues. -/
def capOf (s : State) (issue cyc : Nat) : Option IssueCap :=
  s.cis.caps.find? (fun x => x.issue == issue && x.cyc == cyc)

/-- Change the captured entry of an issue. -/
def capMap (s : State) (issue cyc : Nat) (f : IssueCap → IssueCap) : State :=
  let caps := s.cis.caps.map (fun x => if x.issue == issue && x.cyc == cyc then f x else x)
  s.setCis { s.cis with caps := caps }

/-- Mark a failed position of a pin in its issue's entry (R395, R396). -/
def capFail (s : State) (c : Nat) (j : Judgement) : State :=
  capMap s j.issue j.cyc (fun x =>
    let p := (aFind x.pins c).getD ⟨0, 0⟩
    let pins := aPut x.pins c { p with failw := putBit p.failw j.slot true }
    { x with pins := pins, inv := if j.inv then putBit x.inv c true else x.inv })

/-- Set the result bits of a half-granule word of a pin (R196). -/
def wordMark (s : State) (c w bits : Nat) : State :=
  let x := s.chan c
  s.setChan c { x with words := aPut x.words w ((aFind x.words w).getD 0 ||| bits) }

/-- The first failed judgement of a burst on a channel (R383). Judgements settle in the order of their words, so that of
several failures of one issue the first stands in the lower word. -/
def firstFail (s : State) (c : Nat) (j : Judgement) : State :=
  let k := atCh K.FF_ISSUE c
  if s.num k = 2 ^ 64 - 1 then
    let cap := (capOf s j.issue j.cyc).getD ⟨j.issue, 0, 0, 0, [], 0, none⟩
    s.setNums [(k, j.issue), (atCh K.FF_GRANULE c, cap.granule), (atCh K.FF_SEGMENT c, cap.seg),
               (atCh K.FF_WORD c, j.word % 2)]
  else s

/-- INVALID_SEEN follows INV_COUNT (R419). -/
def invSeen (s : State) (c : Nat) : State :=
  s.setFlag (atCh K.CNT_FLAGS c) 2 (s.num (atCh K.INV_COUNT c) != 0)

/-- One judgement on a channel the raster does not cover (R382–R385). -/
def countJudgement (s : State) (c : Nat) (j : Judgement) : State :=
  let s := satCount s (atCh K.JUDGED c) (atCh K.CNT_FLAGS c) 1
  if j.fail then
    let s := satCount s (atCh K.ERR_COUNT c) (atCh K.CNT_FLAGS c) 0
    let s := if j.inv then invSeen (s.inc (atCh K.INV_COUNT c)) c else s
    firstFail s c j
  else s

/-- A raster point that has left force holds a word. -/
def EyePoint.has (p : EyePoint) (w : Nat) : Bool := decide (p.start ≤ w) && decide (w < p.stop)

/-- The raster point in force at the start of a word on a covered pin (R408): none outside a raster, `some none` the point
now in force, `some (some p)` one that has left force. -/
def pointAt (s : State) (c w : Nat) : Option (Option EyePoint) :=
  if !covered s c then none
  else if rasterOn s && decide (s.cis.startWord ≤ w) then some none
  else match s.cis.closed.find? (fun p => p.has w) with
    | some p => some (some p)
    | none => none

/-- The raster covers the pin at a word (R385, R408). -/
def underRaster (s : State) (c w : Nat) : Bool := (pointAt s c w).isSome

/-- The word is blanked on the pin (R407). -/
def blanked (s : State) (c w : Nat) : Bool :=
  match pointAt s c w with
  | none => false
  | some none => decide (w < s.cis.blankTo)
  | some (some p) => decide (w < p.blankTo)

/-- Change the bin of a channel at the point of a word (R408, R409). -/
def binMap (s : State) (c w : Nat) (f : Nat → Nat) : State :=
  let put (b : Assoc Nat) : Assoc Nat := aPut b c (f ((aFind b c).getD 0))
  if rasterOn s && decide (s.cis.startWord ≤ w) then s.setCis { s.cis with bins := put s.cis.bins }
  else s.setCis { s.cis with closed := s.cis.closed.map (fun p => if p.has w then { p with bins := put p.bins } else p) }

/-- One judgement of a covered pin in the bin of its word's point (R408, R409). -/
def binJudgement (s : State) (c : Nat) (j : Judgement) : State :=
  binMap s c j.word (fun b =>
    let e := b % 2 ^ 30
    2 ^ 30 * (b / 2 ^ 30) + (if j.fail ∧ e < 2 ^ 30 - 1 then e + 1 else e))

/-- In an unblanked word, a covered pin that is not valid or whose checker is in ACQUIRE makes its bin
SUSPECT (R409). -/
def suspectMark (s : State) (c w : Nat) : State :=
  if underRaster s c w && !blanked s c w && (!pinValid s c || (roleOf s c == 6 && (s.chan c).chk == 1)) then
    binMap s c w (fun b => putBit b 30 true)
  else s

/-- One checker judgement in its block of 1,024 (R327). -/
def blockJudgement (s : State) (c : Nat) (fail : Bool) : State :=
  let x := s.chan c
  if x.chk ≠ 2 then s
  else
    let f := x.blkFails + ofBool fail
    if f ≥ s.num (atCh K.LOSS_ERRS c) then
      (s.setChan c { x with chk := 1, chkRun := 0, blkN := 0, blkFails := 0 }).inc (atCh K.RELOCKS c)
    else if x.blkN + 1 = 1024 then s.setChan c { x with blkN := 0, blkFails := 0 }
    else s.setChan c { x with blkN := x.blkN + 1, blkFails := f }

/-- One judgement goes where it belongs: to no place in a blanked word (R407); otherwise to its block, and to the eye bin
or the counters and the issue's record (R327, R385, R408). -/
def settleOne (s : State) (c : Nat) (j : Judgement) : State :=
  if blanked s c j.word then s
  else
    let s := wordMark s c j.word (1 + 2 * ofBool j.fail)
    let s := if j.chk then blockJudgement s c j.fail else s
    if underRaster s c j.word then binJudgement s c j
    else
      let s := countJudgement s c j
      if j.fail then capFail s c j else s

/-- A judgement whose word has been reached by granule `m` settles now, another waits (R303, R408). -/
def judge (s : State) (c m : Nat) (j : Judgement) : State :=
  if j.word < 2 * (m + 1) then settleOne s c j
  else
    let x := s.chan c
    s.setChan c { x with later := x.later ++ [j] }

/-- The waiting judgements of a channel whose words granule `m` reaches settle. -/
def settleLater (s : State) (m c : Nat) : State :=
  let x := s.chan c
  if x.later.isEmpty then s
  else
    let now := x.later.filter (fun j => decide (j.word < 2 * (m + 1)))
    let s := s.setChan c { x with later := x.later.filter (fun j => !decide (j.word < 2 * (m + 1))) }
    now.foldl (fun s j => settleOne s c j) s

/-- A channel has yet to make a judgement that belongs to an entry's issue (R394). -/
def capWaits (s : State) (x : IssueCap) : Bool := (List.range 96).any (fun c =>
  let ch := s.chan c
  ch.later.any (fun j => j.issue == x.issue && j.cyc == x.cyc) ||
  (match ch.vec with | some v => v.issue == x.issue && x.cyc == 0 && decide (v.gone < v.len) | none => false))

/-- The entry holds a failed judgement. -/
def capFailed (x : IssueCap) : Bool := x.pins.any (fun p => p.2.failw != 0)

/-- The captured issues that are complete and hold nothing to record are dropped; one that is complete takes the capture
level in force (R394, R413). -/
def capPrune (s : State) : State :=
  let kept := s.num K.CAP_MODE == 1 || s.num K.CAP_MODE == 2
  let caps := s.cis.caps.filter (fun x => (kept && capFailed x) || capWaits s x)
  let stamp (x : IssueCap) : IssueCap :=
    if x.level.isNone && !capWaits s x then { x with level := some (s.num K.CAP_LEVEL) } else x
  s.setCis { s.cis with caps := caps.map stamp }

/-! ### Condition lines -/

/-- FAIL, PASS and MATCH of a pin in a word; none when the pin is neutral (R196, R197, R357). -/
def wordResult (s : State) (c w : Nat) : Option (Bool × Bool × Bool) :=
  let r := liveRole s c
  let b := (aFind (s.chan c).words w).getD 0
  if r ≠ 3 ∧ r ≠ 4 ∧ r ≠ 6 ∧ r ≠ 7 then none
  else if bit b 2 then none
  else if bit b 3 then some (true, false, false)
  else if r = 7 ∧ !bit b 0 then none
  else some (bit b 1, !bit b 1, bit b 0 && !bit b 1)

/-- The result LINE_CFG chooses (R240). -/
def pickResult (sel : Nat) (r : Bool × Bool × Bool) : Bool :=
  if sel = 0 then r.1 else if sel = 1 then r.2.1 else r.2.2

/-- Line i of a tile in a word (R198). -/
def lineValue (s : State) (t i w : Nat) : Bool :=
  let cfg := s.num (atTile K.LINE_CFG0 t + i)
  let pins := setBits cfg 8
  if pins.isEmpty then false
  else if bit cfg 10 then
    pins.all (fun j => match wordResult s (8 * t + j) w with | some r => pickResult (field cfg 9 8) r | none => true)
  else
    pins.any (fun j => match wordResult s (8 * t + j) w with | some r => pickResult (field cfg 9 8) r | none => false)

/-- The latest half-granule word a condition of cycle m includes on a tile's lines, none before the first:
the bounds of R31 and R204 plus the lead the spec leaves open, which is fixed from one tile lock to the next. The drive
that a branch of cycle m changes begins with cycle m + 1, so R31 asks for every word w with
w / 2 + 3.5 + 3.0 ns / t_g < m + 2; each of them is in by the K_C of R204. The lead is fixed from one lock of the tile's PLL to the next (R31, R180). -/
def lastWord (s : State) (t m : Nat) : Option Nat :=
  let lag := 4 + s.wordsWithin 3000000
  let early := ((List.range 8).map (fun j => earlyCmp s (8 * t + j))).foldl max 0
  let lead := min (Config.lineLead t ((aFind s.slow.locks t).getD 0)) (lag - 1 - 2 * early)
  if lag ≤ 2 * m + lead then some (2 * m + lead - lag) else none

/-- Forget the word results of a tile's pins up to word w. -/
def dropWords (s : State) (t w : Nat) : State :=
  (List.range 8).foldl (fun s j =>
    let x := s.chan (8 * t + j)
    if x.words.isEmpty then s
    else s.setChan (8 * t + j) { x with words := x.words.filter (fun p => decide (w < p.1)) }) s

/-- The lines of a tile take the values of word w; the rising edges are added to `up` (R198, R202). -/
def tileWord (t w : Nat) (acc : State × List Nat) : State × List Nat :=
  let s := acc.1
  let old := s.num (atTile K.LINE_LIVE t)
  let vals := (List.range 4).map (fun i => lineValue s t i w)
  let new := vals.foldr (fun b v => 2 * v + ofBool b) 0
  let up := (List.range 4).filter (fun i => bit new i && !bit old i)
  (s.setNum (atTile K.LINE_LIVE t) new, acc.2 ++ up.map (4 * t + ·))

/-- The lines of one tile over the two words that become visible in cycle m. -/
def tileCycle (m : Nat) (acc : State × List Nat) (t : Nat) : State × List Nat :=
  if !tileReady acc.1 t then acc
  else match lastWord acc.1 t m with
  | none => acc
  | some w =>
    let acc := if w = 0 then acc else tileWord t (w - 1) acc
    let acc := tileWord t w acc
    (dropWords acc.1 t w, acc.2)

/-- All lines over one SEQCLK cycle, with the lines that rose, once for each edge. -/
def linesCycle (s : State) (m : Nat) : State × List Nat :=
  (List.range 12).foldl (tileCycle m) (s, [])

/-! ### Conditions -/

/-- The flags of R200. -/
def condFlags (s : State) : Nat :=
  let z (i : Nat) : Bool := (s.seq.cnt[i]?).getD 0 == 0
  ofBool s.seq.ringMark + 2 * ofBool s.seq.ringTime + 4 * s.num K.HOST_FLAG + 8 * ofBool s.seq.jump.isSome +
  16 * ofBool (z 0) + 32 * ofBool (z 1) + 64 * ofBool (z 2) + 128 * ofBool (z 3)

/-- All condition lines: bit 4t + i. -/
def allLines (s : State) : Nat :=
  (List.range 12).foldl (fun v t => v + s.num (atTile K.LINE_LIVE t) % 16 * 16 ^ t) 0

/-- Condition C_k (R199, R236). -/
def condition (s : State) (k : Nat) : Bool :=
  let cfg := s.num (K.COND_CFG0 + k)
  let sel := cfg % 2 ^ 56
  let have_ := allLines s + 2 ^ 48 * condFlags s
  if sel = 0 then false
  else
    let v := if bit cfg 56 then sel &&& have_ == sel else sel &&& have_ != 0
    v != bit cfg 57

/-- Sampling condition C_k clears the ring flags it selects (R201). -/
def consume (s : State) (k : Nat) : State :=
  let cfg := s.num (K.COND_CFG0 + k)
  (s.setSeq { s.seq with ringMark := s.seq.ringMark && !bit cfg 48,
                               ringTime := s.seq.ringTime && !bit cfg 49 })

/-- COND_LIVE (R234). -/
def condLive (s : State) : Nat :=
  (List.range 16).foldl (fun v k => v + ofBool (condition s k) * 2 ^ k) 0 + 2 ^ 16 * condFlags s

/-- Decrement the counters for an issue and for the lines that rose (R202). -/
def countersCycle (s : State) (issue : Bool) (up : List Nat) : State :=
  let step (n v : Nat) : Nat :=
    let e := s.num (K.CNT_EVENT0 + n)
    let d := if field e 7 6 = 1 then (up.filter (· == field e 5 0)).length
             else if field e 7 6 = 2 then ofBool issue else 0
    v - d
  s.setSeq { s.seq with cnt := s.seq.cnt.mapIdx step }

end Sys2Proof.Machine
end

