-- ==== Sys2Proof/Machine/MemMap.lean ====
section
/-! DEFINITION. The memory stacks: the map in force (R470–R472), what an unlisted byte reads as, reading and
writing bytes in the canonical form, and uncorrectable blocks (R479, R480, R702). -/

namespace Sys2Proof.Machine

/-- A loss covers an address. -/
def Loss.covers (l : Loss) (a : Nat) : Bool :=
  decide (l.lo ≤ a) && decide (a < l.hi) && (a - l.lo) / 4096 % l.period == l.index

/-- What an unlisted byte reads as: 0 until contents were lost, then a free value (R474, R476). -/
def memFill (m : Mem) (a : Nat) : Byte :=
  match m.lost.find? (fun l => l.covers a) with
  | some l => Config.lostByte l.epoch a
  | none => 0#8

/-- The byte at a module memory address. -/
def memByte (m : Mem) (a : Nat) : Byte := (aFind m.cells a).getD (memFill m a)

/-- Write one byte, keeping the canonical form. -/
def memPut (m : Mem) (a : Nat) (b : Byte) : Mem :=
  { m with cells := if b = memFill m a then aDel m.cells a else aPut m.cells a b }

/-- `n` bytes from an address. -/
def memRead (m : Mem) (a n : Nat) : Bytes := (List.range n).map (fun i => memByte m (a + i))

/-- Write bytes from an address. -/
def memWrite (m : Mem) (a : Nat) : Bytes → Mem
  | [] => m
  | b :: r => memWrite (memPut m a b) (a + 1) r

/-- A little-endian value of `n` bytes at an address (R5). -/
def memNat (m : Mem) (a n : Nat) : Nat := leNat (memRead m a n)

/-- The contents from `lo` up to below `hi`, in the blocks of 4 KiB that are `index` modulo `period`, become
unspecified. -/
def memLosePart (m : Mem) (lo hi period index : Nat) : Mem :=
  let l : Loss := ⟨lo, hi, period, index, m.epochs⟩
  { m with cells := m.cells.filter (fun c => !l.covers c.1), lost := l :: m.lost, epochs := m.epochs + 1 }

/-- The contents from `lo` up to below `hi` become unspecified. -/
def memLose (m : Mem) (lo hi : Nat) : Mem := memLosePart m lo hi 1 0

/-- The window bases of R470. -/
def winPat : Nat := 0
def winCis : Nat := 0x4000000000
def winScr : Nat := 0x8000000000

/-- Number of stacks in a mask. -/
def maskCount (mask : Nat) : Nat := (setBits mask 4).length

/-- The mask and per-stack MiB of region 0 PATTERN, 1 CISTERN, 2 SCRATCH in the map in force. -/
def regionMap (m : Mem) (r : Nat) : Nat × Nat :=
  if r = 0 then (m.patMask, m.patMib) else if r = 1 then (m.cisMask, m.cisMib) else (m.scrMask, m.scrMib)

/-- The size in bytes of a region in force (R472). -/
def regionSize (m : Mem) (r : Nat) : Nat :=
  0x100000 * (maskCount (regionMap m r).1 * (regionMap m r).2)

/-- The region and offset of a module memory address; none where it is unmapped (R470). -/
def regionOf (m : Mem) (a : Nat) : Option (Nat × Nat) :=
  if a < regionSize m 0 then some (0, a)
  else if winCis ≤ a ∧ a < winCis + regionSize m 1 then some (1, a - winCis)
  else if winScr ≤ a ∧ a < winScr + regionSize m 2 then some (2, a - winScr)
  else none

/-- The window base of a region. -/
def winBase (r : Nat) : Nat := if r = 0 then winPat else if r = 1 then winCis else winScr

/-- The stack that holds an offset of a region (R472). -/
def stackOf (m : Mem) (r off : Nat) : Nat :=
  let l := setBits (regionMap m r).1 4
  (l[(off / 4096) % l.length]?).getD 0

/-- What region r holds of a stack becomes unspecified: the blocks that the stack holds (R472, R476). -/
def memLoseStack (k : Nat) (m : Mem) (r : Nat) : Mem :=
  let l := setBits (regionMap m r).1 4
  if l.contains k then memLosePart m (winBase r) (winBase r + 0x4000000000) l.length (l.idxOf k) else m

/-- The stack-local address of an offset of a region (R471, R472). -/
def stackAddr (m : Mem) (r off : Nat) : Nat :=
  let l := setBits (regionMap m r).1 4
  let k := stackOf m r off
  let before (q : Nat) : Nat := if q < r ∧ bit (regionMap m q).1 k then 0x100000 * (regionMap m q).2 else 0
  before 0 + before 1 + 4096 * ((off / 4096) / l.length) + off % 4096

/-- A stack is ready and not fenced (R477). -/
def stackReady (s : State) (k : Nat) : Bool := s.flag K.STACK_STATE k && !s.flag K.STACK_STATE (4 + k)

/-- A stack holds its part of the map: a fenced one rejoins at the next APPLY that selects it (R477, R569, R571). -/
def stackMapped (s : State) (k : Nat) : Bool := stackReady s k && !bit s.mem.out k

/-- Every stack of a region's mask holds its part. -/
def regionReady (s : State) (r : Nat) : Bool :=
  (setBits (regionMap s.mem r).1 4).all (fun k => stackMapped s k)

/-- Bytes `a` to `a + n - 1` lie in one region within its size (R483). -/
def inRegion (m : Mem) (r a n : Nat) : Bool :=
  decide (winBase r ≤ a) && decide (a + n ≤ winBase r + regionSize m r)

/-- The first 32-byte block of `a` to `a + n - 1` that holds an uncorrectable error. -/
def badBlock (m : Mem) (a n : Nat) : Option Nat :=
  (List.range ((a + n - 1) / 32 - a / 32 + 1)).map (· + a / 32) |>.find? (fun b => m.bad.contains b)

/-- The source of the stack that holds a mapped address is raised. -/
def memFault (s : State) (a : Nat) : State :=
  match regionOf s.mem a with
  | some (r, off) => s.raise (0x6C + stackOf s.mem r off)
  | none => s

/-- An uncorrectable read of the block that holds an address (R480). -/
def memUE (s : State) (a : Nat) : State :=
  let b := a / 32
  let s := s.setMem { s.mem with bad := if s.mem.bad.contains b then s.mem.bad else b :: s.mem.bad }
  memFault ((s.inc K.MEM_UE).setNum K.MEM_UE_ADDR (b * 32)) a

/-- Write to mapped memory under R702: a whole 32-byte block becomes good, a part of a bad block is not written.
Answers whether every part was written. -/
def memStore (s : State) (a : Nat) (d : Bytes) : Bool × State :=
  let first := a / 32
  let blocks := if d.isEmpty then [] else (List.range ((a + d.length - 1) / 32 - first + 1)).map (· + first)
  blocks.foldl (fun (acc : Bool × State) b =>
    let lo := max a (b * 32)
    let hi := min (a + d.length) (b * 32 + 32)
    let part := (d.drop (lo - a)).take (hi - lo)
    if part.length < 32 ∧ acc.2.mem.bad.contains b then (false, memUE acc.2 (b * 32))
    else
      let m := memWrite acc.2.mem lo part
      (acc.1, (acc.2.setMem { m with bad := m.bad.filter (· != b) }))) (true, s)

end Sys2Proof.Machine
end

