-- ==== Sys2Proof/Machine/Image.lean ====
section
/-! DEFINITION. The pattern image (R119–R128): header, segment table, granules, and the checks of R126 and R224. -/

namespace Sys2Proof.Machine

/-- The header bytes of an image (R120). -/
def imageHeader (s : State) (a : Nat) : Bytes := memRead s.mem a 256

/-- Two byte ranges (first, length) do not overlap. -/
def disjoint (a b : Nat × Nat) : Bool := decide (a.1 + a.2 ≤ b.1) || decide (b.1 + b.2 ≤ a.1)

/-- The regions of an image as R121 asks. -/
def imageRegionsOk (h : Bytes) : Bool :=
  let segs := fieldAt h 8 4
  let gran := fieldAt h 16 4
  let so := fieldAt h 24 8
  let io := fieldAt h 32 8
  let po := fieldAt h 40 8
  let len := fieldAt h 48 8
  let rs : List (Nat × Nat) := [(0, 256), (so, segs * 16), (io, gran * 8), (po, ceilDiv gran 8 * 12288)]
  [so, io, po].all (fun o => o != 0 && o % 4096 == 0) &&
  (rs.tail).all (fun r => decide (r.1 + r.2 ≤ len)) &&
  (rs.zipIdx).all (fun p => (rs.zipIdx).all (fun q => p.2 == q.2 || disjoint p.1 q.1))

/-- Check 0x10 HEADER of R126. -/
def headerOk (h : Bytes) : Bool :=
  h.take 4 == [0x59#8, 0x42#8, 0x50#8, 0x49#8] && fieldAt h 4 2 == 1 && fieldAt h 6 2 == 0 &&
  fieldAt h 60 4 == 0 && (h.drop 96).take 32 == zeros 32 && (h.drop 224).take 28 == zeros 28 &&
  ((h.drop 128).take 96).all (fun b => b.toNat / 16 == 0) &&
  decide (32 ≤ fieldAt h 16 4) && fieldAt h 252 4 == crc32c (h.take 252) && imageRegionsOk h

/-- The bytes of entry i of a segment table (R123). -/
def segEntry (t : Bytes) (i : Nat) : Bytes := (t.drop (16 * i)).take 16

/-- One segment table entry (R123). -/
def parseSeg (e : Bytes) : Seg :=
  let fl := fieldAt e 14 2
  { start := fieldAt e 0 4, len := fieldAt e 4 4 + 1,
    tgts := (List.range (min 3 (field fl 3 2))).map (fun k => fieldAt e (8 + 2 * k) 2),
    bt := bit fl 0, holdoff := bit fl 1 }

/-- The segments of an image's table. -/
def parseSegs (t : Bytes) (n : Nat) : List Seg := (List.range n).map (fun i => parseSeg (segEntry t i))

/-- The targets of an entry as check 0x14 TARGET_LIST asks. -/
def targetsOk (segs : List Seg) (e : Bytes) : Bool :=
  let fl := fieldAt e 14 2
  let sg := parseSeg e
  decide (fl < 16) &&
  sg.tgts.all (fun t => match segs[t]? with | some x => x.bt | none => false) &&
  decide sg.tgts.Nodup &&
  (List.range 3).all (fun k => decide (k < sg.tgts.length) || fieldAt e (8 + 2 * k) 2 == 0)

/-- Check 0x16 ROLE of R126. -/
def rolesOk (s : State) (h : Bytes) : Bool :=
  (List.range 96).all (fun c =>
    let r := byteAt h (128 + c)
    decide (r ≤ 7) && (chFenced s c || roleOf s c == r))

/-- The first check of R126 that fails for the image whose header and table are given, as its cause code. -/
def imageCheck (s : State) (a : Nat) (h t : Bytes) : Option Nat :=
  let n := fieldAt h 8 4
  let segs := parseSegs t n
  let gran := fieldAt h 16 4
  if !headerOk h then some 0x10
  else if !inRegion s.mem 0 a (fieldAt h 48 8) then some 0x17
  else if fieldAt h 56 4 != crc32c t then some 0x11
  else if !segs.all (fun x => decide (32 ≤ x.len)) then some 0x12
  else if !(segs.all (fun x => decide (x.start + x.len ≤ gran)) && decide (1 ≤ n) && decide (n ≤ 65536) &&
            decide (fieldAt h 12 2 < n)) then some 0x13
  else if !(List.range n).all (fun i => targetsOk segs (segEntry t i)) then some 0x14
  else if !(List.range 16).all (fun j =>
      let v := fieldAt h (64 + 2 * j) 2
      if bit (fieldAt h 14 2) j then (match segs[v]? with | some x => x.bt | none => false) else v == 0) then some 0x15
  else if !rolesOk s h then some 0x16
  else none

/-- The channels whose planes are fetched (R132, R133). -/
def fetchChannels (s : State) : List Nat :=
  (List.range 96).filter (fun c =>
    let r := liveRole s c
    r == 1 || r == 2 || r == 3 || r == 4 || r == 7)

/-- The sequencer with a checked image loaded. -/
def loadImage (s : State) (a : Nat) (h t : Bytes) : Seq :=
  { s.seq with
    image := a, instrOff := fieldAt h 32 8, planeOff := fieldAt h 40 8, granules := fieldAt h 16 4,
    imageLen := fieldAt h 48 8, entrySeg := fieldAt h 12 2, jtValid := fieldAt h 14 2,
    jumpTable := (List.range 16).map (fun j => fieldAt h (64 + 2 * j) 2),
    segs := parseSegs t (fieldAt h 8 4), fetchCh := fetchChannels s }

/-- A segment of the image in use. -/
def Seq.segAt (q : Seq) (i : Nat) : Seg := (q.segs[i]?).getD ⟨0, 32, [], false, false⟩

/-- The instruction-region index of a granule. -/
def Seq.index (q : Seq) (seg off : Nat) : Nat := (q.segAt seg).start + off

/-- The fall-through successor of a segment (R129). -/
def Seq.after (q : Seq) (seg : Nat) : Option Nat := if seg + 1 < q.segs.length then some (seg + 1) else none

/-- The planes fetched per granule, P of R171. -/
def Seq.planesPer (q : Seq) : Nat := 2 * q.fetchCh.length

/-- Bytes a granule costs (R171). -/
def Seq.granuleBytes (q : Seq) : Nat := 8 + 8 * q.planesPer

/-- Address of the plane word of granule g, channel c, plane p (R125). -/
def planeAddr (q : Seq) (g c p : Nat) : Nat :=
  q.image + q.planeOff + g / 8 * 12288 + (2 * c + p) * 64 + g % 8 * 8

/-- The instruction word of granule g (R124). -/
def instrWord (s : State) (g : Nat) : Nat := memNat s.mem (s.seq.image + s.seq.instrOff + 8 * g) 8

/-- The channels whose planes are fetched now: none of a fenced channel or tile (R133). -/
def fetchNow (s : State) : List Nat := s.seq.fetchCh.filter (fun c => !chFenced s c && !tileFenced s (tileOf c))

/-- The words a fetch of a granule reads: address and the DRY_SOURCE code that its loss gives (R219). -/
def granuleAddrs (s : State) (g : Nat) : List (Nat × Nat) :=
  let q := s.seq
  (q.image + q.instrOff + 8 * g, 0x10) ::
    (fetchNow s).flatMap (fun c => [(planeAddr q g c 0, tileOf c), (planeAddr q g c 1, tileOf c)])

/-- The tile fetches planes in this burst (R239). -/
def tileFetches (q : Seq) (t : Nat) : Bool := q.fetchCh.any (fun c => tileOf c == t)

/-- A granule read from the image: its instruction and the planes fetched (R124, R125, R133). -/
def readGranule (s : State) (seg off entry : Nat) : Granule :=
  let g := s.seq.index seg off
  { seg := seg, off := off, entry := entry, word := instrWord s g, lost := 0x80, late := [], blind := false,
    planes := (fetchNow s).flatMap (fun c =>
      [(2 * c, memNat s.mem (planeAddr s.seq g c 0) 8), (2 * c + 1, memNat s.mem (planeAddr s.seq g c 1) 8)]) }

/-- A stack out of the map, or an unmapped address, holds the word (R477). -/
def deadWord (s : State) (a : Nat) : Bool :=
  match regionOf s.mem a with
  | some (r, o) => !stackMapped s (stackOf s.mem r o)
  | none => true

/-- The uncorrectable read among the words a fetch misses, when a mapped stack holds it (R480). -/
def fetchUE (s : State) (gone : List (Nat × Nat)) : State :=
  match gone.find? (fun p => !deadWord s p.1) with
  | some p => memUE s p.1
  | none => s

/-- Fetching a granule from memory: what a stack that is fenced or not ready, or an uncorrectable block, should
have delivered is missing (R477, R480); DRY_SOURCE names the lowest code (R219). -/
def fetchMemory (s : State) (seg off entry : Nat) : Granule × State :=
  let gr := readGranule s seg off entry
  let addrs := granuleAddrs s (s.seq.index seg off)
  let bad (p : Nat × Nat) : Bool := deadWord s p.1 || s.mem.bad.contains (p.1 / 32)
  let gone := addrs.filter bad
  let code := (gone.map Prod.snd).foldl min 0x80
  ({ gr with lost := code, blind := gone.any (fun p => p.2 == 0x10) }, fetchUE s gone)

end Sys2Proof.Machine
end

