-- ==== Sys2Proof/Machine/Play.lean ====
section
/-! DEFINITION. Playing one granule at the pins: the stream path (R299–R304), the edge path (R305–R315),
PRBS generators and checkers (R323–R328), and the early feed of R703. -/

namespace Sys2Proof.Machine

/-- What an issue or replayed cycle asks of the pins: cycle number, issue number, replayed cycle (0 for an issue), the
granule, and whether the drive path plays it and the compare path judges it. -/
structure PlayCtx where
  m : Nat
  issue : Nat
  cyc : Nat
  g : Granule
  drv : Bool
  jdg : Bool
  deriving DecidableEq, Repr

/-- Plane A or B of a channel in a granule (R125, R134). -/
def planeOf (g : Granule) (c p : Nat) : Nat := (aFind g.planes (2 * c + p)).getD 0

/-- The environment's values for a channel in an issue. -/
def ioOf (io : List (Nat × List (List Pad))) (c : Nat) : List (List Pad) :=
  match io.find? (fun p => p.1 == c) with
  | some p => p.2
  | none => []

/-- The i-th value of the environment, the input standing at its last value where none is given. -/
def vsAt {α : Type} (vs : List α) (last : α) (i : Nat) : α := (vs[i]?).getD ((vs.getLast?).getD last)

/-- The start of granule m in fine steps from the burst's origin. -/
def granuleStart (m : Nat) : Int := (m * fineGranule : Nat)

/-! ### Stream drive -/

/-- UIs or symbols a granule carries and their length in ticks (R135, R136). -/
def slots (s : State) (c : Nat) : Nat × Nat :=
  let d := s.num (atCh K.DIVISOR c)
  if pam4Role s c then (32 / d, 2 * d) else (64 / d, d)

/-- A drive path plays its levels from the granule's origin with its deskew (R299–R301). -/
def streamOut (s : State) (c : Nat) (m : Nat) (levels : List Drive) : State :=
  let start := granuleStart m + s.int32 (atCh K.DESKEW_DRV_RES c)
  let x := s.chan c
  let s := s.setChan c { x with drive := (levels.getLast?).getD x.drive }
  s.emit (.stream c start ((slots s c).2 * fineTick) levels)

/-- The levels of a DRIVE pin (R299, R300). -/
def driveLevels (s : State) (c : Nat) (g : Granule) : List Drive :=
  let a := planeOf g c 0
  let b := planeOf g c 1
  (List.range (slots s c).1).map (fun u =>
    if !bit b u then .idle
    else if roleOf s c = 2 then .sym (a >>> (2 * u) % 4)
    else if bit a u then .high else .low)

/-- Bits in pairs, the first more significant (R324). -/
def pairUp : List Bool → List Nat
  | a :: b :: r => (2 * ofBool a + ofBool b) :: pairUp r
  | _ => []

/-- A generator plays the next bits of its sequence (R301, R323, R324). -/
def genPlay (s : State) (c m : Nat) : State :=
  let n := (slots s c).1
  if prbsPam4 s c then
    let (bits, x) := genBits s c (2 * n) (s.chan c)
    streamOut (s.setChan c x) c m ((pairUp bits).map Drive.sym)
  else
    let (bits, x) := genBits s c n (s.chan c)
    streamOut (s.setChan c x) c m (bits.map (fun b => if b then .high else .low))

/-! ### Stream compare -/

/-- The sample point of UI u, in fine steps from the burst's origin (R302). -/
def samplePoint (s : State) (c m u : Nat) : Int :=
  let l := (slots s c).2 * fineTick
  let c0 := s.num (atSet K.T_C0 c (s.chan c).tset) % l
  granuleStart m + (u * l + c0 : Nat) + s.int32 (atCh K.DESKEW_CMP_RES c) + s.int32 (atCh K.STRB_ADJ_RES c)
    + rasterStrobe s c

/-- Put the decisions of a pin into its issue's entry (R396, R397). -/
def capData (s : State) (c : Nat) (x : PlayCtx) (data : Nat) : State :=
  capMap s x.issue x.cyc (fun k =>
    let p := (aFind k.pins c).getD ⟨0, 0⟩
    { k with pins := aPut k.pins c { p with data := data } })

/-- A half-granule word begins at a compare pin: one that is not valid gives FAIL in it (R197), and a covered one that is
not valid or in ACQUIRE is suspect (R409). -/
def wordStart (s : State) (c w : Nat) : State :=
  suspectMark (if pinValid s c then s else wordMark s c w 8) c w

/-- The word that begins with slot u of n, where one does. -/
def slotStart (s : State) (c m n u : Nat) : State :=
  if u = 0 then wordStart s c (2 * m) else if 2 * u = n then wordStart s c (2 * m + 1) else suspectMark s c (2 * m + 2 * u / n)

/-- The judgement of slot u of a stream compare pin; `chk` for a checker's. -/
def streamJudge (c : Nat) (x : PlayCtx) (chk : Bool) (s : State) (u slot : Nat) (ok : Bool) : State :=
  let inv := !pinValid s c
  judge s c x.m ⟨x.issue, x.cyc, wordAt (samplePoint s c x.m u), slot, inv || !ok, inv, chk⟩

/-- A COMPARE-NRZ or COMPARE-PAM4 pin samples every UI and judges those its mask selects (R134, R302, R351, R357).
A replayed cycle makes no judgement (R272). -/
def comparePlay (s : State) (c : Nat) (x : PlayCtx) (io : List (List Pad)) : State :=
  let a := planeOf x.g c 0
  let b := planeOf x.g c 1
  let pam := roleOf s c == 4
  let vs := io.flatten
  let last := (s.chan c).pad
  let n := (slots s c).1
  let r := (List.range n).foldl (fun (acc : State × Nat) u =>
    let v := vsAt vs last u
    let s := senseEdge (slotStart acc.1 c x.m n u) c v
    let d := if pam then decideSym s c v else ofBool (decideBit s c v)
    let want := if pam then a >>> (2 * u) % 4 else ofBool (bit a u)
    let data := if pam then acc.2 + d * 4 ^ u else acc.2 + d * 2 ^ u
    (if x.cyc = 0 ∧ bit b u then streamJudge c x false s u u (d == want) else s, data)) (s, 0)
  if x.cyc = 0 then capData r.1 c x r.2 else r.1

/-- The checker takes one received bit: in LOCKED it predicts from its own sequence, in ACQUIRE from the n bits received
before it (R326–R328). -/
def checkBit (c : Nat) (x : PlayCtx) (s : State) (u slot : Nat) (received : Bool) : State :=
  let ch := s.chan c
  let t := tapWord s c
  let n := degree t
  let rx := pushBit n ch.chkRx received
  if ch.chk = 2 then
    let want := nextBit t ch.chkReg
    let s := s.setChan c { ch with
      chkRx := rx, chkReg := pushBit n ch.chkReg want, chkCount := ch.chkCount + 1 }
    streamJudge c x true s u slot (want == received)
  else
    let run := if ch.chkCount < n then 0 else if nextBit t ch.chkRx == received then ch.chkRun + 1 else 0
    let lock := decide (s.num (atCh K.LOCK_RUN c) ≤ run)
    s.setChan c { ch with
      chkRx := rx, chkReg := rx, chkCount := ch.chkCount + 1, chkRun := run,
      chk := if lock then 2 else 1, blkN := if lock then 0 else ch.blkN, blkFails := if lock then 0 else ch.blkFails }

/-- A PRBS-CHK pin checks every bit of the granule, replayed cycles included (R272, R326, R327). -/
def checkPlay (s : State) (c : Nat) (x : PlayCtx) (io : List (List Pad)) : State :=
  let pam := prbsPam4 s c
  let inv := s.flag (atCh K.PRBS_CTRL c) 0
  let vs := io.flatten
  let last := (s.chan c).pad
  let n := (slots s c).1
  let r := (List.range n).foldl (fun (acc : State × Nat) u =>
    let v := vsAt vs last u
    let s := senseEdge (slotStart acc.1 c x.m n u) c v
    if pam then
      let d := decideSym s c v
      let s := checkBit c x s u (2 * u) (bit d 1 != inv)
      (checkBit c x s u (2 * u + 1) (bit d 0 != inv), acc.2 + d * 4 ^ u)
    else
      let d := decideBit s c v
      (checkBit c x s u u (d != inv), acc.2 + ofBool d * 2 ^ u)) (s, 0)
  capData r.1 c x r.2

/-! ### Edge path -/

/-- A change of level on the edge path, under the minimum-pulse rule of R312. -/
def edgeChange (s : State) (c : Nat) (t : Int) (new : Drive) : State :=
  let x := s.chan c
  if new = x.drive then s
  else match x.short with
  | some (t0, before, after) =>
    if s.shortSpan (t - t0) then
      let s := s.inc (atCh K.PULSE_DROPS c)
      if new = before then s.setChan c { x with drive := new, short := none }
      else s.setChan c { x with drive := new, short := some (t, before, new) }
    else (s.setChan c { x with drive := new, short := some (t, after, new) }).emit (.edge c t0 after)
  | none => s.setChan c { x with drive := new, short := some (t, x.drive, new) }

/-- A waiting change that no later change can shorten any more takes place (R312). -/
def edgeFlush (s : State) (c m : Nat) : State :=
  let x := s.chan c
  match x.short with
  | some (t0, _, after) =>
    if s.shortSpan (granuleStart (m + 1) + s.int32 (atCh K.DESKEW_DRV_RES c) - t0) then s
    else (s.setChan c { x with short := none }).emit (.edge c t0 after)
  | none => s

/-- The pin codes that drive data (R140). -/
def isDriveCode (code : Nat) : Bool := code == 0 || code == 1 || code == 9
/-- The pin codes that judge (R140). -/
def isCompareCode (code : Nat) : Bool := code == 2 || code == 3 || code == 4 || code == 7

/-- Whether an EDGE code passes with these outputs (R348). -/
def codePasses (code : Nat) (h l : Bool) : Bool :=
  if code = 2 then !l else if code = 3 then h else if code = 4 then l && !h else h || !l

/-- The level a format applies at D0, D1 and D2 (R308); none where the edge applies none. -/
def formatLevel (f e : Nat) (prev b : Bool) : Option Bool :=
  if f = 0 then (if e = 0 then some prev else if e = 1 then some b else none)
  else if f = 1 then (if e = 0 then some prev else if e = 2 then some b else none)
  else if f = 2 then (if e = 1 then some b else some false)
  else if f = 3 then (if e = 1 then some b else some true)
  else (if e = 1 then some b else some (!b))

/-- One drive event of a vector: its position, its edge number 0–3, and the level it applies (none: driver off). -/
abbrev EdgeEvent := Nat × Nat × Option Bool

/-- Insert an event in the order of R311: by position, equal positions D0, D1, D2, D3. -/
def edgeInsert (e : EdgeEvent) : List EdgeEvent → List EdgeEvent
  | [] => [e]
  | f :: r => if e.1 < f.1 ∨ (e.1 = f.1 ∧ e.2.1 < f.2.1) then e :: f :: r else f :: edgeInsert e r

/-- The drive events a vector's code, set and data value ask for, in order (R306–R311). -/
def vectorEvents (s : State) (c tset code : Nat) (prev b : Bool) : List EdgeEvent :=
  let pos (e : Nat) : Nat := s.num (atSet (K.T_D0 + e) c tset)
  let f := s.num (atSet K.FORMAT c tset)
  let d3 : List EdgeEvent := if s.flag (atSet K.TS_CTRL c tset) 1 then [(pos 3, 3, none)] else []
  if isDriveCode code then
    let lv (e : Nat) : List EdgeEvent :=
      match formatLevel f e prev b with | some v => [(pos e, e, some v)] | none => []
    (lv 0 ++ lv 1 ++ lv 2 ++ d3).foldl (fun l e => edgeInsert e l) []
  else if code = 6 then [(pos 3, 3, none)]
  else []

/-- Whether the next edge that applies a level turns the driver of the vector in progress on. -/
def setAwait (s : State) (c : Nat) (b : Bool) : State :=
  let x := s.chan c
  s.setChan c { x with vec := x.vec.map (fun v => { v with await := b }) }

/-- One drive event at its time (R309): a driver that is on takes the level; D0 turns one that is off on when D0_EN is
set, and otherwise leaves that to the first edge after it that applies a level. -/
def edgeApply (c tset : Nat) (t : Int) (e : EdgeEvent) (s : State) : State :=
  match e.2.2 with
  | none => edgeChange s c t .off
  | some v =>
    let level : Drive := if v then .high else .low
    if (s.chan c).drive != .off then edgeChange s c t level
    else if e.2.1 = 0 then
      if s.flag (atSet K.TS_CTRL c tset) 0 then edgeChange s c t level else setAwait s c true
    else if (match (s.chan c).vec with | some w => w.await | none => false) then edgeChange (setAwait s c false) c t level
    else s

/-- A vector starts: its code is resolved (R140–R142), edges that lie beyond it are skipped (R307), and a compare
code or X turns the driver off (R310). -/
def vectorStart (s : State) (c : Nat) (x : PlayCtx) (t : Int) (field_ tset slot len : Nat) : State :=
  let s := if 0xA ≤ field_ then s.raise c else s
  let code := if 0xA ≤ field_ then 5 else if field_ = 8 then (s.chan c).keep else field_
  let ch := s.chan c
  let prev := ch.dataVal
  let b := if code = 9 then !prev else code == 1
  let k := len * fineTick
  let ctrl := s.num (atSet K.TS_CTRL c tset)
  let evs := vectorEvents s c tset code prev b
  let cs : List Nat := if isCompareCode code then
      s.num (atSet K.T_C0 c tset) :: (if bit ctrl 2 then [s.num (atSet K.T_C1 c tset)] else []) else []
  let skipped := (if x.drv then (evs.filter (fun e => decide (k ≤ e.1))).length else 0) +
    (if x.jdg then (cs.filter (fun p => decide (k ≤ p))).length else 0)
  let s := s.add 32 (atCh K.EDGES_SKIPPED c) skipped
  let ch := s.chan c
  let s := s.setChan c { ch with keep := code, vec := some ⟨code, tset, x.issue, slot, len, 0, none, false⟩ }
  if x.drv && (isCompareCode code || code == 5) then edgeChange s c t .off else s

/-- The judgement of an EDGE vector at its deciding edge (R313, R314, R348, R357). -/
def vectorJudge (s : State) (c : Nat) (x : PlayCtx) (v : Vector) (t : Int) (pass : Bool) : State :=
  let inv := !pinValid s c
  let ch := s.chan c
  let w := wordAt (t + s.int32 (atCh K.DESKEW_CMP_RES c) + s.int32 (atCh K.STRB_ADJ_RES c))
  let s := capMap s v.issue 0 (fun k =>
    let p := (aFind k.pins c).getD ⟨0, 0⟩
    let d := p.data + ofBool ch.cmpL * 2 ^ (2 * v.slot) + ofBool ch.cmpH * 2 ^ (2 * v.slot + 1)
    { k with pins := aPut k.pins c { p with data := d } })
  judge s c x.m ⟨v.issue, 0, w, v.slot, inv || !pass, inv, false⟩

/-- The inputs of a window change the outputs of the comparators, or leave them (R313, R349). -/
def windowSense (s : State) (c : Nat) (h l : Bool) (vs : List Pad) : State × Bool :=
  vs.foldl (fun (acc : State × Bool) v =>
    let s := senseEdge acc.1 c v
    (s, acc.2 && (s.chan c).cmpH == h && (s.chan c).cmpL == l)) (s, true)

/-- The input takes some values, the last of them at the sample point: the outputs follow every one (R347). -/
def senseAll (s : State) (c : Nat) (vs : List Pad) : State := vs.foldl (fun s v => senseEdge s c v) s

/-- The compare edges of the vector in progress within a stretch of `n` ticks that starts at time t
(R307, R313, R314). It takes a list of the environment's values up to C0 and, of a window, one from there to C1 or to
the stretch's end; the lists left over are answered. -/
def vectorCompare (s : State) (c : Nat) (x : PlayCtx) (t : Int) (n : Nat) (ls : List (List Pad)) :
    State × List (List Pad) :=
  match (s.chan c).vec with
  | none => (s, ls)
  | some v =>
    let k := v.len * fineTick
    let lo := v.gone * fineTick
    let hi := lo + n * fineTick
    let c0 := s.num (atSet K.T_C0 c v.tset)
    let c1 := s.num (atSet K.T_C1 c v.tset)
    let window := s.flag (atSet K.TS_CTRL c v.tset) 2 && decide (c0 < c1) && decide (c1 < k)
    if !isCompareCode v.code || decide (k ≤ c0) then (s, ls)
    else if lo ≤ c0 ∧ c0 < hi then
      let s := senseAll s c (ls.headD [])
      let ls := ls.tail
      let ch := s.chan c
      if !window then
        (if x.jdg then vectorJudge s c x v (t + (c0 - lo : Nat)) (codePasses v.code ch.cmpH ch.cmpL) else s, ls)
      else
        let r := windowSense s c ch.cmpH ch.cmpL (ls.headD [])
        if c1 < hi then
          let ok := r.2 && codePasses v.code ch.cmpH ch.cmpL
          (if x.jdg then vectorJudge r.1 c x v (t + (c1 - lo : Nat)) ok else r.1, ls.tail)
        else
          let ch' := r.1.chan c
          (r.1.setChan c { ch' with vec := some { v with atC0 := some (ch.cmpH, ch.cmpL, r.2) } }, ls.tail)
    else match v.atC0 with
    | some (h, l, ok) =>
      if lo ≤ c1 then
        let r := windowSense s c h l (ls.headD [])
        if c1 < hi then
          let pass := ok && r.2 && codePasses v.code h l
          let s := if x.jdg then vectorJudge r.1 c x v (t + (c1 - lo : Nat)) pass else r.1
          let ch' := s.chan c
          (s.setChan c { ch' with vec := some { v with atC0 := none } }, ls.tail)
        else
          let ch' := r.1.chan c
          (r.1.setChan c { ch' with vec := some { v with atC0 := some (h, l, ok && r.2) } }, ls.tail)
      else (s, ls)
    | none => (s, ls)

/-- The drive edges of the vector in progress within a stretch of `n` ticks (R309, R311, R318). -/
def vectorDrive (s : State) (c : Nat) (t : Int) (n : Nat) : State :=
  match (s.chan c).vec with
  | none => s
  | some v =>
    let lo := v.gone * fineTick
    let hi := lo + n * fineTick
    let prev := (s.chan c).dataVal
    let b := if v.code = 9 then !prev else v.code == 1
    let evs := (vectorEvents s c v.tset v.code prev b).filter (fun e =>
      decide (lo ≤ e.1) && decide (e.1 < hi) && decide (e.1 < v.len * fineTick))
    evs.foldl (fun s e => edgeApply c v.tset (t + (e.1 - lo : Nat) + s.int32 (atCh K.DESKEW_DRV_RES c)) e s) s

/-- The vector in progress has played `n` more ticks; at its end a drive vector leaves its data value (R141). -/
def vectorAge (s : State) (c n : Nat) : State :=
  let ch := s.chan c
  match ch.vec with
  | none => s
  | some v =>
    let gone := v.gone + n
    let b := if v.code = 9 then !ch.dataVal else v.code == 1
    let done := decide (v.len ≤ gone) && isDriveCode v.code
    s.setChan c { ch with vec := some { v with gone := gone }, dataVal := if done then b else ch.dataVal }

/-- One stretch of a vector: compare edges, drive edges, age. -/
def vectorPlay (x : PlayCtx) (c : Nat) (t : Int) (n : Nat) (acc : State × List (List Pad)) : State × List (List Pad) :=
  let r := vectorCompare acc.1 c x t n acc.2
  let s := if x.drv then vectorDrive r.1 c t n else r.1
  (vectorAge s c n, r.2)

/-- An EDGE pin plays a granule (R138, R139); in a replayed cycle a vector longer than 64 ticks only waits (R315). -/
def edgePlay (s : State) (c : Nat) (x : PlayCtx) (io : List (List Pad)) : State :=
  let k := s.num (atCh K.VPER c)
  let a := planeOf x.g c 0
  let b := planeOf x.g c 1
  let t := granuleStart x.m
  let drvT := s.int32 (atCh K.DESKEW_DRV_RES c)
  let s := wordStart s c (2 * x.m)
  if 64 < k ∧ x.cyc ≠ 0 then wordStart s c (2 * x.m + 1)
  else
    let s :=
      if k < 64 then
        ((List.range (64 / k)).foldl (fun (acc : State × List (List Pad)) v =>
          let tv := t + (v * k * fineTick : Nat)
          let s := if v * k = 32 then wordStart acc.1 c (2 * x.m + 1) else acc.1
          let s := vectorStart s c x (tv + drvT) (a >>> (4 * v) % 16) (b >>> (6 * v) % 64) v k
          vectorPlay x c tv k (s, acc.2)) (s, io)).1
      else
        let s := wordStart s c (2 * x.m + 1)
        let fresh := match (s.chan c).vec with | some v => decide (v.len ≤ v.gone) | none => true
        let s := if fresh || x.cyc ≠ 0 then vectorStart s c x (t + drvT) (a % 16) (b % 64) 0 k else s
        (vectorPlay x c t 64 (s, io)).1
    edgeFlush s c x.m

/-- A drive edge path plays a granule of a discarded path, with the vector, KEEP code and data value of that path; those
of the issues stay (R146, R703). -/
def edgeFed (s : State) (c : Nat) (x : PlayCtx) (d : Granule) : State :=
  let own := s.chan c
  let old := own.alt.getD (own.vec, own.keep, own.dataVal)
  let s := s.setChan c { own with vec := old.1, keep := old.2.1, dataVal := old.2.2 }
  let s := edgePlay s c { x with g := d, drv := true, jdg := false } []
  let fed := s.chan c
  s.setChan c { fed with
    alt := some (fed.vec, fed.keep, fed.dataVal), vec := own.vec, keep := own.keep, dataVal := own.dataVal }

/-! ### All pins -/

/-- The first of the two words in which a compare path's granule m mostly falls. -/
def cmpWord (s : State) (c m : Nat) : Nat :=
  wordAt (granuleStart m + s.int32 (atCh K.DESKEW_CMP_RES c) + (fineWord / 2 : Nat))

/-- A compare path that was fed early is neutral in a granule that it does not judge (R197, R703). -/
def neutralPlay (s : State) (c m : Nat) : State :=
  let w := cmpWord s c m
  wordMark (wordMark s c w 4) c (w + 1) 4

/-- What a drive path plays in place of a granule (R272, R703): none where it plays the granule. -/
def fedNow (x : PlayCtx) (ch : Chan) : Option (Option Granule) := if x.cyc = 0 then ch.fed.head? else ch.hold

/-- After an issue the paths that were fed early are one granule further (R703). -/
def fedPass (s : State) (c : Nat) : State :=
  let ch := s.chan c
  s.setChan c { ch with fed := ch.fed.tail, hold := ch.fed.head?, skipCmp := ch.skipCmp - 1 }

/-- A pin of a ready tile plays one granule: its drive path this granule or the one it was fed, its compare path unless
it was fed early (R272, R703). -/
def pinPlay (x : PlayCtx) (io : List (Nat × List (List Pad))) (s : State) (c : Nat) : State :=
  if !tileReady s (tileOf c) then s
  else
    let r := liveRole s c
    let ch := s.chan c
    let fed := fedNow x ch
    let mute := x.cyc == 0 && ch.skipCmp != 0
    let x1 : PlayCtx := { x with drv := fed.isNone, jdg := x.cyc == 0 && !mute }
    let s :=
      if r = 1 ∨ r = 2 then
        match fed with
        | none => streamOut s c x.m (driveLevels s c x.g)
        | some (some d) => streamOut s c x.m (driveLevels s c d)
        | some none => s
      else if r = 3 ∨ r = 4 then (if mute then neutralPlay s c x.m else comparePlay s c x (ioOf io c))
      else if r = 5 then genPlay s c x.m
      else if r = 6 then checkPlay s c x (ioOf io c)
      else if r = 7 then
        let s := edgePlay (if mute then neutralPlay s c x.m else s) c x1 (ioOf io c)
        match fed with
        | some (some d) => edgeFed s c x d
        | _ => s
      else s
    if x.cyc = 0 then fedPass s c else s

/-- Every pin plays one granule: the judgements due settle first, then the pins play (R145, R179, R272). -/
def playAll (s : State) (x : PlayCtx) (io : List (Nat × List (List Pad))) : State :=
  let s := (List.range 96).foldl (fun s c => settleLater s x.m c) s
  (List.range 96).foldl (pinPlay x io) s

/-- At a restart a path that was fed early holds the granules that follow the deciding issue, and skips as many of the
new path; what an earlier restart left it comes first (R703). -/
def earlyFeed (s : State) (discarded : List Granule) : State :=
  (List.range 96).foldl (fun s c =>
    let r := liveRole s c
    if r = 0 ∨ r = 5 ∨ r = 6 then s
    else
      let ch := s.chan c
      let fed := (List.range (earlyDrv s c)).map (fun j => (ch.fed[j]?).getD (discarded[j]?))
      let alt := if ch.fed.isEmpty then some (ch.vec, ch.keep, ch.dataVal) else ch.alt
      s.setChan c { ch with fed := fed, alt := alt, skipCmp := earlyCmp s c }) s

/-- The driver of a pin changes to `new` outside its program: a level that the change cuts below 20 ps is suppressed
(R312). -/
def pinTo (s : State) (c : Nat) (new : Drive) : State :=
  let t := granuleStart s.seq.cycle + s.int32 (atCh K.DESKEW_DRV_RES c)
  let s := if (s.chan c).short.isNone then s else edgeChange s c t new
  let s := match (s.chan c).short with
    | some (t0, _, after) => if t0 < t then s.emit (.edge c t0 after) else s
    | none => s
  let x := s.chan c
  s.setChan c { x with drive := new, vec := none, short := none, fed := [], hold := none, alt := none, skipCmp := 0 }

/-- A pin drives its park code (R296). -/
def parkPin (s : State) (c : Nat) : State := pinTo s c (parkDrive s c)

/-- Every pin of every powered tile drives its park code (R296). -/
def parkAll (s : State) : State :=
  ((List.range 96).foldl (fun s c => if tileReady s (tileOf c) then parkPin s c else s) s).emit .park

end Sys2Proof.Machine
end

