-- ==== Sys2Proof/Machine/Fetch.lean ====
section
/-! DEFINITION. Where granules come from: the loop cache with heads and bodies (R183–R186, R209–R211, R220),
the fetch front (R182), priming (R188–R190), the jump reserve (R194) and restarts (R191–R192). -/

namespace Sys2Proof.Machine

/-! ### Heads -/

/-- Granules of a segment's head (R183). -/
def headLen (q : Seq) (seg : Nat) : Nat := min 128 (q.granules - (q.segAt seg).start)

/-- Bytes a head occupies in the loop cache (R183). -/
def headBytes (q : Seq) (seg : Nat) : Nat := headLen q seg * q.granuleBytes + 16

/-- The order in which heads are loaded (R184): primed targets, jump-table targets, the other BT segments,
each class ascending, each once. -/
def headOrder (q : Seq) : List Nat :=
  let all := List.range q.segs.length
  let prime := all.filter (fun i => q.segs.any (fun x => x.tgts.contains i) && (q.segAt i).bt)
  let jump := all.filter (fun i =>
    (List.range 16).any (fun j => bit q.jtValid j && (q.jumpTable[j]?).getD 0 == i) && !prime.contains i)
  let rest := all.filter (fun i => (q.segAt i).bt && !prime.contains i && !jump.contains i)
  prime ++ jump ++ rest

/-- The loop cache holds 32 MiB. -/
def cacheBytes : Nat := 33554432

/-- Bytes of the loop cache held by heads, and by open bodies that have not spilled. -/
def headsHeld (q : Seq) : Nat := (q.heads.map (fun h => headBytes q h.seg)).sum
def bodiesHeld (q : Seq) : Nat := ((q.bodies.filter (fun b => !b.spilled)).map Body.bytes).sum

/-- The segments whose heads are resident. -/
def Seq.resident (q : Seq) : List Nat := q.heads.map Head.seg

/-- The heads that fit, in order, until the first that does not (R184). -/
def loadHeads (q : Seq) : List Nat → List Nat → List Nat
  | [], have_ => have_
  | h :: r, have_ =>
    if have_.contains h then loadHeads q r have_
    else if (have_.map (headBytes q)).sum + headBytes q h + bodiesHeld q ≤ cacheBytes then
      loadHeads q r (have_ ++ [h])
    else have_

/-- Report the heads: HEADS_TOTAL, HEADS_RESIDENT, HEAD_BYTES and HEAD_ABSENT (R235, R237). -/
def reportHeads (s : State) : State :=
  let s := s.setNums [(K.HEADS_TOTAL, s.seq.headOrder.length), (K.HEADS_RESIDENT, s.seq.heads.length),
                      (K.HEAD_BYTES, headsHeld s.seq)]
  s.setFlag K.SEQ_FLAGS 3 (decide (s.seq.heads.length < s.seq.headOrder.length))

/-- The first word of a head that memory does not deliver (R477, R480). -/
def headHurt (s : State) (h : Nat) : Option Nat :=
  let x := s.seq.segAt h
  let addrs := (List.range (headLen s.seq h)).flatMap (fun o => (granuleAddrs s (x.start + o)).map Prod.fst)
  addrs.find? (fun a => deadWord s a || s.mem.bad.contains (a / 32))

/-- A head is read from memory into the loop cache; one that memory does not deliver stays absent (R184, R220, R480). -/
def loadHead (s : State) (h : Nat) : State :=
  match headHurt s h with
  | some a => if deadWord s a then s else memUE s a
  | none =>
    let data := (List.range (headLen s.seq h)).map (fun o => readGranule s h o 0)
    s.setSeq { s.seq with heads := s.seq.heads ++ [⟨h, data⟩] }

/-! ### Loop bodies -/

/-- The last granule of a segment holds an ENDL with the given START_SEG (R171). -/
def endsLoop (s : State) (i start : Nat) : Bool :=
  let x := s.seq.segAt i
  let w := instrWord s (x.start + x.len - 1)
  w % 256 == 3 && field w 31 16 == start

/-- The segments of the body of a LOOP in segment `l`; none when it cannot be determined (R171). -/
def bodySegs (s : State) (l : Nat) : Option (List Nat) :=
  match ((List.range s.seq.segs.length).drop l).find? (fun i => endsLoop s i l) with
  | some e => some ((List.range (e + 1)).drop l)
  | none => none

/-- The footprint of a body (R171). -/
def footprint (q : Seq) (segs : List Nat) : Nat := (segs.map (fun i => (q.segAt i).len)).sum * q.granuleBytes

/-- Evict resident heads, last loaded first, until `need` bytes fit (R185). -/
def evictHeads (q : Seq) (need : Nat) : Nat → List Head → List Head
  | 0, h => h
  | n + 1, h =>
    if (h.map (fun x => headBytes q x.seg)).sum + bodiesHeld q + need ≤ cacheBytes then h
    else evictHeads q need n h.dropLast

/-- Keep only the first resident heads: the others are evicted (R185). -/
def Seq.keepHeads (q : Seq) (l : List Head) : Seq :=
  { q with heads := l, evicted := q.evicted ++ (q.heads.drop l.length).map Head.seg }

/-- LOOP with CACHE set, its entry on the stack, opens its body in the loop cache, evicting heads, or the body spills
(R171, R185, R209, R211). -/
def openBody (s : State) (l : Nat) : State :=
  match bodySegs s l with
  | none => s
  | some segs =>
    let need := footprint s.seq segs
    if cacheBytes < need then s
    else
      let q := s.seq
      let nested := q.bodies.any (fun b => !b.spilled && segs.all (fun i => b.segs.contains i))
      let need := if nested then 0 else need
      if bodiesHeld q + need ≤ cacheBytes then
        let q := q.keepHeads (evictHeads q need q.heads.length q.heads)
        reportHeads (s.setSeq { q with bodies := q.bodies ++ [⟨q.loops.length, segs, need, [], false⟩] })
      else
        let q := q.keepHeads []
        let s := s.setSeq { q with bodies := q.bodies ++ [⟨q.loops.length, segs, 0, [], true⟩] }
        reportHeads ((s.setFlag K.SEQ_FLAGS 4 true).inc K.CACHE_SPILLS)

/-- The bodies whose entries no longer stand on the loop stack are released, and evicted heads are due to be loaded again
(R185, R210). -/
def releaseBodies (s : State) : State :=
  let q := s.seq
  let left := q.bodies.filter (fun b => decide (b.depth ≤ q.loops.length))
  s.setSeq { q with
    bodies := left, reload := q.reload || (decide (left.length < q.bodies.length) && !q.evicted.isEmpty) }

/-- The evicted heads that fit are loaded again, in load order (R185). -/
def reloadHeads (s : State) : State :=
  let q := s.seq
  let back := q.headOrder.filter (fun h => q.evicted.contains h || q.resident.contains h)
  let fresh := (loadHeads q back q.resident).filter (fun h => !q.resident.contains h)
  let s := fresh.foldl loadHead s
  let ordered := back.filterMap (fun h => s.seq.heads.find? (fun x => x.seg == h))
  reportHeads (s.setSeq { s.seq with
    heads := ordered, evicted := q.evicted.filter (fun h => !fresh.contains h), reload := false })

/-- An uncorrectable loop-cache read of a head, or of the bodies that hold granule `g` of the region (R220). -/
def cacheUE (s : State) (addr g : Nat) (head : Option Nat) : State :=
  let s := ((s.inc K.LC_UNCORRECTED).setNum K.LC_BAD_ADDR (addr / 32 * 32)).raise 0x74
  match head with
  | some h => reportHeads (s.setSeq { s.seq with heads := s.seq.heads.filter (fun x => x.seg != h) })
  | none =>
    let hit (b : Body) : Bool := !b.spilled && (aFind b.held g).isSome
    let n := (s.seq.bodies.filter hit).length
    let bodies := s.seq.bodies.map (fun b => if hit b then { b with spilled := true, bytes := 0, held := [] } else b)
    let s := s.setSeq { s.seq with bodies := bodies }
    if n = 0 then s else (s.setFlag K.SEQ_FLAGS 4 true).add 32 K.CACHE_SPILLS n

/-- A read upset the environment brings: to a stack or to the loop cache, corrected or not (R220, R479, R480). -/
def applyUpset (s : State) : Upset → State
  | .memCorrected => s.inc K.MEM_CE
  | .memUncorrectable a =>
    if s.mem.bad.contains (a / 32) then s else s.setMem { s.mem with bad := (a / 32) :: s.mem.bad }
  | .cacheCorrected => s.inc K.LC_CORRECTED
  | .cacheUncorrectable _ _ _ => s

/-- An uncorrectable upset of the loop cache: its address, the first granule the failing 32 bytes cover, of those the
command reads, and how many of 8 bytes or more they cover. -/
def cacheUpset : List Upset → Option (Nat × Nat × Nat)
  | [] => none
  | .cacheUncorrectable a first n :: _ => some (a, first, min n 4)
  | _ :: r => cacheUpset r

/-- The upset as the granules after the first `k` see it. -/
def upsetAfter (k : Nat) (u : Option (Nat × Nat × Nat)) : Option (Nat × Nat × Nat) :=
  match u with
  | some (a, first, n) => if k ≤ first then some (a, first - k, n) else none
  | none => none

/-- Granule i of a read is among those a failing read covers (R220). -/
def upsetCovers (u : Option (Nat × Nat × Nat)) (i : Nat) : Bool :=
  match u with
  | some (_, first, n) => decide (first ≤ i) && decide (i < first + n)
  | none => false

/-- A granule whose loop-cache data were lost (R220). -/
def Granule.cacheLost (g : Granule) : Granule := { g with lost := 0x13, blind := true }

/-! ### The fetch front -/

/-- The front goes to another segment, entered anew; none is the missing successor (R182). It reads on from the head it
is in while the region runs on, and otherwise from the segment's own head where that is resident (R186, R192, R193). -/
def frontTo (s : State) (t : Option Nat) (back : Bool) : State :=
  let q := s.seq
  match t with
  | none => s.setSeq { q with front := { q.front with stopped := true } }
  | some t =>
    let f := q.front
    let next := (q.segAt f.seg).start + f.off + 1
    let f := { f with seg := t, off := 0, entry := f.entry + 1, back := back }
    let f := if (q.segAt t).start = next ∧ 1 < f.head then { f with head := f.head - 1 }
      else if q.resident.contains t then { f with head := headLen q t, headSeg := t }
      else { f with head := 0 }
    s.setSeq { q with front := f, primeQueue := q.primeQueue ++ [(f.entry, t)] }

/-- The front goes on past a HALT: within a resident head the granules follow in region order (R192). -/
def frontPastHalt (q : Seq) : Bool :=
  let f := q.front
  let x := q.segAt f.seg
  decide (1 < f.head) && (decide (f.off + 1 < x.len) ||
    (match q.after f.seg with | some t => (q.segAt t).start == x.start + x.len | none => false))

/-- The front passes the granule it has just fetched, along the path R182 predicts. -/
def frontPass (s : State) (w : Nat) : State :=
  let q := s.seq
  let f := q.front
  let x := q.segAt f.seg
  let op := w % 256
  let f := if op = 2 ∧ f.off = 0 ∧ !f.back then { f with loops := ⟨field w 63 32, f.seg⟩ :: f.loops } else f
  let s := s.setSeq { q with front := f }
  if op = 0x0F ∧ !frontPastHalt q then frontTo s none false
  else if f.off + 1 < x.len then
    s.setSeq { q with front := { f with off := f.off + 1, head := f.head - 1 } }
  else
    let fall := q.after f.seg
    if op = 3 then
      match f.loops with
      | e :: r =>
        if e.rem = 0 then frontTo (s.setSeq { s.seq with front := { f with loops := r } }) fall false
        else frontTo (s.setSeq { s.seq with front := { f with loops := ⟨e.rem - 1, e.seg⟩ :: r } })
          (some (field w 31 16)) true
      | [] => frontTo s none false
    else if op = 4 then
      frontTo (s.setSeq { s.seq with front := { f with calls := fall :: f.calls } }) (some (field w 31 16)) false
    else if op = 5 then
      match f.calls with
      | t :: r => frontTo (s.setSeq { s.seq with front := { f with calls := r } }) t false
      | [] => frontTo s none false
    else if op = 6 then frontTo s (some (field w 31 16)) false
    else frontTo s fall false

/-- The loop cache's copy of the front's next granule, and the resident head that holds it; without one, an open body
does (R186, R192, R209). -/
def cachedAt (q : Seq) : Option (Granule × Option Nat) :=
  let f := q.front
  let g := q.index f.seg f.off
  match if 0 < f.head then q.heads.find? (fun h => h.seg == f.headSeg) else none with
  | some h => (h.data[g - (q.segAt f.headSeg).start]?).map (fun x => (x, some f.headSeg))
  | none =>
    match q.bodies.find? (fun b => !b.spilled && (aFind b.held g).isSome) with
    | some b => (aFind b.held g).map (fun x => (x, none))
    | none => none

/-- Every open body with room of its own that holds the granule's segment takes a copy at its first fetch (R209). -/
def bodiesTake (q : Seq) (gr : Granule) : List Body :=
  let g := q.index gr.seg gr.off
  q.bodies.map (fun b =>
    if !b.spilled && b.bytes != 0 && gr.lost == 0x80 && b.segs.contains gr.seg && (aFind b.held g).isNone then
      { b with held := aPut b.held g gr }
    else b)

/-- A granule the front has fetched joins the instruction queue and the wellheads, and the front passes it. -/
def frontTake (s : State) (gr : Granule) (cached : Bool) : State :=
  let q := s.seq
  let f := { q.front with sure := q.front.sure && cached }
  frontPass (s.setSeq { q with stream := q.stream ++ [gr], bodies := bodiesTake q gr, front := f }) gr.word

/-- Bring one more granule into the instruction queue and the wellheads (R182): from the loop cache, whose read at `bad`
fails, or from memory. `late` are the tiles that its data reach later; `lost` says a failing read covered it. -/
def fetchOne (bad : Option Nat) (lost : Bool) (late : List Nat) (s : State) : State :=
  let q := s.seq
  let f := q.front
  if f.stopped || decide (2032 ≤ q.side.length + q.stream.length) then s
  else match cachedAt q with
  | some (x, head) =>
    let gr := { x with seg := f.seg, off := f.off, entry := f.entry, late := if f.sure then [] else late }
    match bad with
    | some a => frontTake (cacheUE s a (q.index f.seg f.off) head) gr.cacheLost true
    | none => frontTake s (if lost then gr.cacheLost else gr) true
  | none =>
    let r := fetchMemory s f.seg f.off f.entry
    let gr := { r.1 with late := late }
    frontTake r.2 (if lost then gr.cacheLost else gr) false

/-- Bring `n` granules, an upset of the loop cache meeting some of them. -/
def fetchMany (late : List Nat) : Option (Nat × Nat × Nat) → Nat → State → State
  | _, 0, s => s
  | u, n + 1, s =>
    match u with
    | some (a, 0, k + 1) =>
      if (cachedAt s.seq).isSome then fetchLost late k n (fetchOne (some a) true late s)
      else fetchMany late none n (fetchOne none false late s)
    | u => fetchMany late (upsetAfter 1 u) n (fetchOne none false late s)
where
  /-- The next `k` granules are covered by the read that has failed. -/
  fetchLost (late : List Nat) : Nat → Nat → State → State
  | _, 0, s => s
  | 0, n + 1, s => fetchLost late 0 n (fetchOne none false late s)
  | k + 1, n + 1, s => fetchLost late k n (fetchOne none true late s)

/-- The data of waiting granules reach every tile but those in `late` (R215). -/
def arrive (s : State) (late : List Nat) : State :=
  s.setSeq { s.seq with stream := s.seq.stream.map (fun g => { g with late := g.late.filter late.contains }) }

/-- WH_LEVEL: the stream granules a tile's wellhead holds (R214). -/
def whLevel (q : Seq) (t : Nat) : Nat := (q.stream.filter (fun g => !g.late.contains t)).length

/-- WH_MIN follows the lowest WH_LEVEL while RUNNING (R214, R239). -/
def whReport (s : State) : State :=
  if s.num K.SEQ_STATE = 4 then
    (List.range 12).foldl (fun s t =>
      let k := atTile K.WH_MIN t
      let v := whLevel s.seq t
      if tileFetches s.seq t && decide (v < s.num k) then s.setNum k v else s) s
  else s

/-! ### Priming and the jump reserve -/

/-- The first 16 granules of a segment as they are read for priming or the jump reserve, from its resident head or
from memory; an upset of the loop cache loses those it covers (R188, R194, R220). -/
def readFirst (s : State) (seg : Nat) (u : Option (Nat × Nat × Nat)) : List Granule × State :=
  match s.seq.heads.find? (fun h => h.seg == seg) with
  | some h =>
    let data := (h.data.take 16).zipIdx.map (fun p => if upsetCovers u p.2 then p.1.cacheLost else p.1)
    (data, match u with
      | some (a, first, n) => if first < 16 ∧ n ≠ 0 then cacheUE s a (s.seq.index seg first) (some seg) else s
      | none => s)
  | none =>
    (List.range 16).foldl (fun (acc : List Granule × State) o =>
      let r := fetchMemory acc.2 seg o 0
      (acc.1 ++ [r.1], r.2)) ([], s)

/-- Priming of the next waiting segment entry starts when a set is free (R188). -/
def primeStart (s : State) : State :=
  let q := s.seq
  match q.primeQueue with
  | (entry, seg) :: r =>
    if q.primed.length < 2 then
      let set : PrimeSet := ⟨entry, false, (q.segAt seg).tgts.map (fun t => ⟨t, false, []⟩)⟩
      s.setSeq { q with primeQueue := r, primed := q.primed ++ [set] }
    else s
  | [] => s

/-- The first 16 granules of target `k` of the set owned by `entry` are in the priming buffers (R190). -/
def primeComplete (s : State) (entry k : Nat) (u : Option (Nat × Nat × Nat)) : State :=
  match s.seq.primed.find? (fun p => p.owner == entry && !p.supplying) with
  | none => s
  | some p =>
    match p.targets[k]? with
    | none => s
    | some t =>
      if t.ready then s
      else
        let r := readFirst s t.seg u
        let p' := { p with targets := p.targets.set k ⟨t.seg, true, r.1⟩ }
        let sets := r.2.seq.primed.map (fun x => if x.owner == entry && !x.supplying then p' else x)
        r.2.setSeq { r.2.seq with primed := sets }

/-- A new fill of the jump reserve begins (R194). -/
def reserveStart (s : State) (seg : Nat) : State := s.setSeq { s.seq with reserve := some ⟨seg, false, []⟩ }

/-- The jump reserve finishes filling (R194). -/
def reserveFill (s : State) (u : Option (Nat × Nat × Nat)) : State :=
  match s.seq.reserve with
  | some r =>
    if r.ready then s
    else
      let d := readFirst s r.seg u
      d.2.setSeq { d.2.seq with reserve := some ⟨r.seg, true, d.1⟩ }
  | none => s

/-- Issue leaves a segment for a predicted one: the entry number advances and sets of earlier entries
become free (R188). -/
def enterSegment (s : State) (seg : Nat) (back : Bool) : State :=
  let q := s.seq
  let e := q.entry + 1
  s.setSeq { q with
    seg := seg, off := 0, entry := e, made := 0, back := back, markSeen := false,
    primed := q.primed.filter (fun p => p.supplying || decide (e ≤ p.owner)) }

/-- A restart at target `t`, whose first 16 granules are `data` (R189, R191, R192, R703); `supply` keeps the set
that supplies them. The front reads on from the target's head where that is resident. -/
def restart (s : State) (t : Nat) (data : List Granule) (supply : Bool) : State :=
  let q := s.seq
  let s := earlyFeed s (q.side ++ q.stream).tail
  let e := q.entry + 1
  let q := s.seq
  let resident := q.resident.contains t
  let keep := if supply then (q.primed.filter (fun p => p.owner == q.entry && !p.supplying)).map
    (fun p => { p with supplying := true }) else []
  let w := ((data.head?).map Granule.word).getD 0
  let loops := if w % 256 = 2 then ⟨field w 63 32, t⟩ :: q.loops else q.loops
  let f : Front :=
    { seg := t, off := 16, entry := e, loops := loops, calls := q.calls, stopped := false, back := false,
      head := if resident then headLen q t - 16 else 0, headSeg := t, sure := resident }
  let s := s.setSeq { q with
    seg := t, off := 0, entry := e, made := 0, back := false, markSeen := false,
    side := data.map (fun g => { g with seg := t, entry := e }), stream := [], front := f,
    primeQueue := [(e, t)], primed := keep }
  whReport (s.add 64 K.RESTARTS 1)

end Sys2Proof.Machine
end

