-- ==== Sys2Proof/Machine/Micro.lean ====
section
/-! DEFINITION. Microwords (R248–R255): fields, ALU, micro-conditions, the next micro-address, and the frame and
snapshot records (R273, R278). -/

namespace Sys2Proof.Machine

/-- The microword at an address (R241): a word of the ROM, or of patch RAM or the customer region, where words never
written are 0. -/
def microWord (s : State) (a : Nat) : Nat :=
  if a < 0x1000 then Config.romWord a % 2 ^ 256 else (aFind s.uc.store a).getD 0

/-- The check bits the control store holds with a word (R241, R242). -/
def microCheck (s : State) (a : Nat) : Nat := Config.checkBits (microWord s a) % 2 ^ 16

/-- Micro-register j. -/
def ureg (s : State) (j : Nat) : Nat := (s.uc.u[j]?).getD 0

/-- Set micro-register j to a 64-bit value. -/
def setUreg (s : State) (j v : Nat) : State := s.setUc { s.uc with u := s.uc.u.set j (v % 2 ^ 64) }

/-- The segment of the current issue (R237). -/
def curSegment (s : State) : Nat := match s.seq.last with | some g => g.seg | none => 0

/-- Operand A: SRC_A, or what SPEC_SRC names (R248). -/
def operandA (s : State) (w : Nat) : Nat :=
  let sp := field w 79 76
  if sp = 0 then ureg s (field w 34 31)
  else if sp = 1 then s.uc.operand
  else if sp = 2 then s.num K.ISSUES
  else if sp ≤ 6 then (s.seq.cnt[sp - 3]?).getD 0
  else if sp = 7 then condLive s
  else if sp = 8 then curSegment s
  else if sp = 9 then allLines s
  else 0

/-- Operand B: SRC_B, or IMM (R248). -/
def operandB (s : State) (w : Nat) : Nat := if bit w 43 then field w 75 44 else ureg s (field w 38 35)

/-- The ALU (R249): result and carry of operation `op`. MOV passes operand A. -/
def alu (op a b : Nat) : Nat × Bool :=
  let m := 2 ^ 64
  if op = 1 then ((a + b) % m, decide (m ≤ a + b))
  else if op = 2 ∨ op = 9 then ((a + m - b) % m, decide (b ≤ a))
  else if op = 3 then (a &&& b, false)
  else if op = 4 then (a ||| b, false)
  else if op = 5 then (a ^^^ b, false)
  else if op = 6 then (a <<< (b % 64) % m, decide (b % 64 ≠ 0) && bit a (64 - b % 64))
  else if op = 7 then (a >>> (b % 64), false)
  else (a, false)

/-- Carry out the ALU operation of a word (R248, R249). R249 states no C for AND, OR, XOR and MOV: a free value. -/
def aluStep (s : State) (w : Nat) : State :=
  let op := field w 30 27
  if op = 0 ∨ 9 < op then s
  else
    let r := alu op (operandA s w) (operandB s w)
    let s := if op = 9 then s else setUreg s (field w 42 39) r.1
    let c : Nat × State := if op = 3 ∨ op = 4 ∨ op = 5 ∨ op = 8 then s.fresh 1 else (ofBool r.2, s)
    c.2.setUc { c.2.uc with z := r.1 == 0, n := bit r.1 63, c := c.1 == 1 }

/-- The micro-condition of a word before inversion (R250); in the trap context C0–C15 read 0 (R251). -/
def microCond (s : State) (w : Nat) (trap lastG : Bool) : Bool :=
  let k := field w 20 16
  let v := if k < 16 then !trap && condition s k
    else if k = 16 then s.uc.z else if k = 17 then s.uc.n else if k = 18 then s.uc.c
    else if k = 19 then lastG else if k = 20 then s.seq.jump.isSome else k == 31
  v != bit w 21

/-- The word tests its micro-condition: CJUMP or TARGET_IF. -/
def testsCond (w : Nat) : Bool := field w 15 13 == 2 || field w 23 22 == 2

/-- Sampling C0–C15 consumes the ring flags as a JIF does (R251). -/
def microConsume (s : State) (w : Nat) (trap : Bool) : State :=
  if !trap && testsCond w && decide (field w 20 16 < 16) then consume s (field w 20 16) else s

/-- The next micro-address (R248), given the micro-condition. -/
def nextUpc (s : State) (pc w : Nat) (cond : Bool) : Nat :=
  let op := field w 15 13
  let na := field w 12 0
  if op = 1 then na else if op = 2 then (if cond then na else pc + 1) else if op = 3 then na
  else if op = 4 then field (ureg s 15) 12 0 else pc + 1

/-- LINK writes the return address (R248). -/
def linkStep (s : State) (pc w : Nat) : State := if field w 15 13 = 3 then setUreg s 15 (pc + 1) else s

/-- An address of the customer region (R261). -/
def customerAddr (a : Nat) : Bool := decide (0x1800 ≤ a) && decide (a ≤ 0x1FFF)

/-- The dispatch entry of an opcode (R256). -/
def dispatchEntry (s : State) (op : Nat) : Nat :=
  if 0xE0 ≤ op then 0x1800 + (op - 0xE0) else (aFind s.uc.dispatch op).getD (Config.romDispatch op % 0x2000)

/-- The trap frame (R273): resumption address, resume granule and segment, causes. -/
def frameBytes (s : State) (upc flags causes g seg : Nat) : Bytes :=
  leBytes 2 upc ++ leBytes 1 s.seq.loops.length ++ leBytes 1 s.seq.calls.length ++ leBytes 2 flags ++
  leBytes 1 causes ++ leBytes 1 0 ++ leBytes 4 g ++ leBytes 2 seg ++ leBytes 2 0 ++
  (s.uc.u.flatMap (leBytes 8))

/-- The flags Z, N, C as UFLAGS holds them. -/
def znc (s : State) : Nat := ofBool s.uc.z + 2 * ofBool s.uc.n + 4 * ofBool s.uc.c

/-- What SNAPSHOT adds to a frame (R287). -/
def snapTail (s : State) : Bytes :=
  leBytes 8 (s.num K.ISSUES) ++ leBytes 2 (curSegment s) ++ leBytes 2 0 ++ (s.seq.cnt.flatMap (leBytes 4)) ++
  leBytes 1 s.seq.loops.length ++ leBytes 1 s.seq.calls.length ++ leBytes 2 0

/-- SNAPSHOT of the present state in place of a frame (R278). -/
def snapNow (s : State) : State :=
  s.setBlob K.SNAPSHOT (frameBytes s 0 (znc s) 0x04 0xFFFFFFFF 0xFFFF ++ snapTail s)

/-- TIME_SNAP: ISSUES and CUR_SEGMENT at the TIME arrival (R287). -/
def timeSnap (s : State) : State :=
  s.setBlob K.TIME_SNAP (leBytes 8 s.uc.timeAt.1 ++ leBytes 2 s.uc.timeAt.2 ++ zeros 6)

/-- The burst position of a reaction (R557). -/
def recordPosition (s : State) : State :=
  s.setNums [(K.FAULT_ISSUE, s.num K.ISSUES), (K.FAULT_SEGMENT, curSegment s)]

/-- UC_DIGEST: CRC-32C of the customer region as stored (R268). -/
def ucDigest (s : State) : Nat :=
  crc32c ((List.range 2048).flatMap (fun i => leBytes 32 (microWord s (0x1800 + i))))

end Sys2Proof.Machine
end

