-- ==== Sys2Proof/Machine/RingLink.lean ====
section
/-! DEFINITION. Ring messages (R591, R592), the queue of own messages (R597), causes (R619, R622) and fleet time
(R602–R604). -/

namespace Sys2Proof.Machine

/-- The block of 28 bytes with its check word (R591). -/
def ringSeal (b : Bytes) : Bytes := b ++ leBytes 4 (crc32c b)

/-- A message from its fields (R591). -/
def ringMsg (ty group origin hops a16 a b acc : Nat) : Bytes :=
  ringSeal (leBytes 1 ty ++ leBytes 1 group ++ leBytes 2 origin ++ leBytes 2 hops ++ leBytes 2 a16 ++ leBytes 8 a ++
    leBytes 8 b ++ leBytes 4 acc)

/-- Delay calibration is no longer under way, and RING_CMD.CAL has completed (R42, R599). -/
def ringCalStop (s : State) : State := (s.setRing { s.ring with calBusy := false }).setFlag K.RING_CMD 3 false

/-- The port leaves its ring for a state, with position and size unknown: DOWN at a restart, OFF without a role or with D07
off (R598, R620). Peers, TIME events and scheduled events are kept. -/
def portRest (s : State) (st : Nat) : State :=
  let s := ringCalStop (s.setRing { s.ring with queue := [], calOk := false, check := false, stepped := false })
  s.setNums [(K.RING_STATE, st), (K.RING_POS, 0xFFFF), (K.RING_SIZE, 0)]

/-- A cause sets its bit and raises 0x79 (R619). -/
def ringCause (s : State) (i : Nat) : State := (s.setFlag K.RING_CAUSE i true).raise 0x79

/-- A message of the module's own joins the queue, or is dropped when the queue holds 32 (R597). A port that is OFF
queues nothing. -/
def ringQueue (s : State) (m : Bytes) : State :=
  if s.num K.RING_STATE = 0 then s
  else if 32 ≤ s.ring.queue.length then ringCause (s.inc K.DROPS) 2
  else s.setRing { s.ring with queue := s.ring.queue ++ [m] }

/-- The module is the ring's master. -/
def ringMaster (s : State) : Bool := s.num K.RING_ROLE == 2

/-- The position a message of the module's own carries as its origin (R591); the master's is 0. -/
def ringOrigin (s : State) : Nat := if ringMaster s then 0 else s.num K.RING_POS % 1024

/-- A message of the module's own: HOPS 0 and ACC its LINK_OUT_PS (R593). -/
def ringOwn (s : State) (ty group a16 a b : Nat) : Bytes :=
  ringMsg ty group (ringOrigin s) 0 a16 a b (s.num K.LINK_OUT_PS)

/-- One MARK message to the module's own group (R161, R592). -/
def ringMark (s : State) (id : Nat) : State :=
  ringQueue s (ringOwn s 4 (s.num K.SIG_GROUP % 64) (id % 256) 0 0)

/-- A HALT message to the module's own group, after a fault reaction has latched a halt (R613). -/
def ringFaultHalt (s : State) : State :=
  if s.flag K.RING_CTRL 1 then ringQueue s (ringOwn s 2 (s.num K.SIG_GROUP % 64) 0 0 0) else s

/-- FLEET_OFS as an integer. -/
def fleetOfs (s : State) : Int := signed 64 (s.num K.FLEET_OFS)

/-- TB_NOW is fleet time: on the master, and once the step of R604 has been made. -/
def fleetOwn (s : State) : Bool := ringMaster s || (s.flag K.RING_CTRL 2 && s.ring.stepped)

/-- Fleet time in LSB (R603, R604). -/
def fleetNow (s : State) : Nat :=
  if fleetOwn s then s.num K.TB_NOW
  else raw 64 ((s.num K.TB_NOW : Int) + fleetOfs s)

/-- The least multiple of 35,840 LSB at or after a time (R602, R607). -/
def nextMarker (t : Nat) : Nat := 35840 * ceilDiv t 35840

end Sys2Proof.Machine
end

