-- ==== Sys2Proof/Machine/Fence.lean ====
section
/-! DEFINITION. Domains and READY bits (R625, R629, R632), the interruption of a channel's or tile's own work,
fences (R566–R569), and the calibration of one channel as it begins and ends (R515–R525). -/

namespace Sys2Proof.Machine

/-! ### READY and domains -/

/-- MGMTCLK cycles since the moment from which R629 counts a READY bit: VAUX valid for MGMT and NVS, every supply valid for
the others. -/
def readyCycles (s : State) (b : Nat) : Nat :=
  if b = 0 ∨ b = 10 then s.pwr.cycles else s.pwr.cycles - s.pwr.start.getD s.pwr.cycles

/-- Set a READY bit; READY_TIMES takes the first setting since the reset, in µs (R632, R650). -/
def setReady (s : State) (b : Nat) : State :=
  let t := s.blob K.READY_TIMES
  let s := if fieldAt t (4 * b) 4 = 0xFFFFFFFF then
    s.setBlob K.READY_TIMES (splice t (4 * b) (leBytes 4 (readyCycles s b / 400))) else s
  s.setFlag K.READY b true

/-- Clear some READY bits (R632). -/
def clearReady (s : State) (l : List Nat) : State := l.foldl (fun s b => s.setFlag K.READY b false) s

/-- DOM_STATE of a domain: 0 OFF, 1 STARTING, 2 ON, 3 LISTEN (R651). -/
def domState (s : State) (d : Nat) : Nat := s.num K.DOM_STATE / 4 ^ d % 4

/-- Set DOM_STATE of a domain. -/
def setDom (s : State) (d v : Nat) : State :=
  s.setNum K.DOM_STATE (s.num K.DOM_STATE - domState s d * 4 ^ d + v * 4 ^ d)

/-- The supplies a domain draws on, as SUPPLY_OK bits (R624, R625). -/
def domSupplies (d : Nat) : List Nat :=
  if d = 0 then [0] else if d = 1 then [0, 6] else if d = 2 then [1, 3] else if d = 3 then [1] else if d = 4 then [1]
  else if d ≤ 7 then [1, 3] else if d ≤ 11 then [1, 4, 5] else [2, 3]

/-- The READY bits of a domain (R629). -/
def domReady (d : Nat) : List Nat :=
  if d = 0 then [0, 10, 11, 29] else if d = 1 then [1, 28] else if d = 2 then [2] else if d = 3 then [3]
  else if d = 4 then [4] else if d = 5 then [5, 6] else if d = 6 then [7, 8] else if d = 7 then [9]
  else if d ≤ 11 then [d + 4] else [d + 4]

/-- Every supply of a domain is valid. -/
def suppliesOk (s : State) (d : Nat) : Bool := (domSupplies d).all (fun b => s.flag K.SUPPLY_OK b)

/-- The domain is fenced: a fenced tile or stack stays off (R635). -/
def domFenced (s : State) (d : Nat) : Bool :=
  if 12 ≤ d then tileFenced s (d - 12) else if 8 ≤ d then s.flag K.FENCE_STACK (d - 8) else false

/-- The domain is on, or in listen state. -/
def domOn (s : State) (d : Nat) : Bool := domState s d == 2

/-! ### A channel's own work -/

/-- TB_NOW in 1/16 LSB (R424, R427). -/
def now16 (s : State) : Int := (16 * s.num K.TB_NOW : Nat)

/-- The time from `a` to `b` in 1/16 LSB, on the time base's circle of 2^64 LSB (R427). -/
def span (a b : Int) : Int := signed 68 (raw 68 (b - a))

/-- A TMU with nothing in progress. -/
def tmuInit : Tmu :=
  { start := none, stop := none, count := 0, falling := false, cond := 0, deadTo := none, armAt := 0, rearm := none,
    presc := 0, wasArmed := false }

/-- The TMU of a channel. -/
def State.tmu (s : State) (c : Nat) : Tmu := (aFind s.tb.tmus c).getD tmuInit

/-- Set the TMU of a channel. -/
def State.setTmu (s : State) (c : Nat) (x : Tmu) : State := { s with tb := { s.tb with tmus := aPut s.tb.tmus c x } }

/-- The TMU is ARMED or STARTED. -/
def tmuArmed (s : State) (c : Nat) : Bool :=
  let v := s.num (atCh K.TMU_STATE c)
  v == 2 || v == 3

/-- A TMU's measurement in progress is discarded and the unit goes to IDLE, or stays OFF (R433, R437). -/
def tmuIdle (s : State) (c : Nat) : State :=
  let st := if s.num (atCh K.TMU_MODE c) = 0 then 0 else 1
  (s.setTmu c tmuInit).setNum (atCh K.TMU_STATE c) st

/-- Calibration holds a TMU: the measurement in progress is discarded and STALE is 1 (R438). A unit whose re-arm under R436
falls into the calibration counts as armed. -/
def tmuHold (s : State) (c : Nat) : State :=
  let armed := tmuArmed s c || (s.num (atCh K.TMU_STATE c) == 4 && s.flag (atCh K.TMU_CTRL c) 2 && (s.tmu c).rearm.isSome)
  let s := s.setTmu c { tmuInit with wasArmed := armed }
  s.setFlag (atCh K.RES_FLAGS c) 4 true

/-- Calibration lets a TMU go: STALE clears, and a unit that was armed returns to ARMED with its timeout count restarted
(R438). -/
def tmuRelease (s : State) (c : Nat) : State :=
  let was := (s.tmu c).wasArmed || tmuArmed s c
  let s := (s.setTmu c { tmuInit with armAt := now16 s }).setFlag (atCh K.RES_FLAGS c) 4 false
  if was then s.setNum (atCh K.TMU_STATE c) 2 else s

/-! ### Conditions a measurement carries -/

/-- TB_FLAGS bits. -/
def tbLocked (s : State) : Bool := s.flag K.TB_FLAGS 0
def tbWarm (s : State) : Bool := s.flag K.TB_FLAGS 1
def tbHoldover (s : State) : Bool := s.flag K.TB_FLAGS 4
def tbSlewing (s : State) : Bool := s.flag K.TB_FLAGS 5

/-- NOT_WARM, REF_SWITCHED and HOLDOVER as they hold now, as bits 3, 5 and 6 (R461). -/
def tbCond (s : State) : Nat :=
  8 * ofBool (s.num K.REF_ACTIVE == 0 && !tbWarm s) + 32 * ofBool (tbSlewing s) + 64 * ofBool (tbHoldover s)

/-- Every armed unit notes the conditions that hold now (R461). -/
def tmuNote (s : State) (more : Nat) : State :=
  (List.range 96).foldl (fun s c =>
    if tmuArmed s c then
      let x := s.tmu c
      s.setTmu c { x with cond := x.cond ||| (tbCond s ||| more) }
    else s) s

/-! ### Calibration of one channel -/

/-- Any channel of the tile is being calibrated. -/
def tileCalibrating (s : State) (t : Nat) : Bool := (List.range 8).any (fun j => calibrating s (8 * t + j))

/-- Step 1 of a channel's calibration begins: its outputs go stale, its driver is off (R515, R519). -/
def calBegin (s : State) (c : Nat) : State :=
  let s := s.setSlow { s.slow with snap := aPut s.slow.snap c (cmpLive s c) }
  let s := s.setNums [(atCh K.CAL_STATUS c, 1), (atCh K.CH_STALE c, 1), (atCh K.CAL_FAIL_BITS c, 0)]
  let s := s.setFlag (atTile K.CONV_FLAGS (tileOf c)) 1 true
  let x := s.chan c
  tmuHold (s.setChan c { x with drive := .off }) c

/-- Within each tile the lowest channel still to calibrate begins when none of its tile is being calibrated (R519). -/
def calNext (s : State) : State :=
  (List.range 12).foldl (fun s t =>
    if tileCalibrating s t then s
    else match s.cal.todo.find? (fun c => tileOf c == t) with
      | some c => calBegin s c
      | none => s) s

/-- Self calibration ends when every selected channel has ended (R523). -/
def calFinish (s : State) : State :=
  if s.num K.CAL_STATE = 1 ∧ s.cal.chosen = [] then
    ((s.setNums [(K.CAL_STATE, 0), (K.CAL_CMD, 0)]).inc K.SELF_RUNS).evCal
  else s

/-- Channels are calibrated no longer, and wait no longer for it. -/
def calDrop (s : State) (p : Nat → Bool) : State :=
  s.setCal { s.cal with todo := s.cal.todo.filter (!p ·), chosen := s.cal.chosen.filter (!p ·) }

/-- A channel that waits to be calibrated is not; one that SELF selected reads SKIPPED (R518). -/
def calSkip (s : State) (c : Nat) : State :=
  let s := if s.cal.chosen.contains c then s.setNum (atCh K.CAL_STATUS c) 5 else s
  calFinish (calDrop s (· == c))

/-- Calibration of a channel ends with a status: CH_STALE clears, its comparators are enabled, and the next channel of
its tile proceeds (R516, R519). -/
def calEnd (s : State) (c status : Nat) : State :=
  let s := (calDrop s (· == c)).setSlow { s.slow with snap := aDel s.slow.snap c }
  let s := s.setNums [(atCh K.CAL_STATUS c, status), (atCh K.CH_STALE c, 0)]
  let s := if tileState s (tileOf c) = 0 then s
    else
      let x := s.chan c
      enableCmp (s.setChan c { x with drive := parkDrive s c }) c
  let s := calNext (tmuRelease s c)
  calFinish (s.setFlag (atTile K.CONV_FLAGS (tileOf c)) 1 (tileCalibrating s (tileOf c)))

/-! ### Domains off -/

/-- A tile's work ends as its domain turns off: pins high impedance, TMUs idle, converter and tests stopped
(R437, R686). -/
def tileDown (s : State) (t : Nat) : State :=
  let s := (List.range 8).foldl (fun s j =>
    let c := 8 * t + j
    let s := if calibrating s c || s.cal.chosen.contains c then
        s.setNums [(atCh K.CAL_STATUS c, 5), (atCh K.CH_STALE c, 0)]
      else s
    let s := if s.num (atCh K.SC_STATE c) = 1 then s.setNums [(atCh K.SC_STATE c, 0), (atCh K.SC_CMD c, 0)] else s
    let s := pinTo ((tmuIdle s c).setFlag (atCh K.RES_FLAGS c) 4 false) c .off
    s.setChan c { chanInit with pad := (s.chan c).pad }) s
  let s := (calDrop s (tileOf · == t)).setSlow { s.slow with conv := aDel s.slow.conv t }
  let s := s.setNums [(atTile K.CONV_CMD t, 0), (atTile K.TILE_CMD t, 0)]
  calFinish ((s.setFlag (atTile K.CONV_FLAGS t) 1 false).setNum (atTile K.TILE_STATE t)
    (if tileFenced s t then 5 else 0))

/-- A stack loses its power: what the regions hold in it becomes unspecified (R472, R476). -/
def stackDown (s : State) (k : Nat) : State :=
  let s := s.setFlag K.STACK_STATE k false
  s.setMem ([0, 1, 2].foldl (memLoseStack k) s.mem)

/-- A domain turns off: its READY bits clear and its work ends (R632, R633). -/
def domDown (s : State) (d : Nat) : State :=
  if domState s d = 0 then s
  else
    let s := clearReady (setDom s d 0) (domReady d)
    if 12 ≤ d then tileDown s (d - 12)
    else if 8 ≤ d then stackDown s (d - 8)
    else if d = 1 then
      let was := tbWarm s
      let s := (s.setTb { s.tb with wasWarm := false }).setNum K.WARM_SECONDS 0
      if was then tmuNote ((s.setFlag K.TB_FLAGS 1 false).raise 0x78) 0 else s
    else if d = 2 then
      let s := s.setTb { s.tb with epoch := false }
      (s.setNum K.TICK_STATE 0).setNum K.TB_FLAGS (clearBits (s.num K.TB_FLAGS) 0x31)
    else if d = 4 then reportHeads (s.setSeq { s.seq with heads := [], evicted := [], reload := false })
    else if d = 5 then
      let e := s.mem.epochs + 1
      ((s.setPump { s.pump with sram := [], epoch := e }).setMem { s.mem with epochs := e })
    else if d = 7 then portRest s 0
    else s

/-! ### Fences -/

/-- The fence bit of a channel. -/
def setChFence (s : State) (c : Nat) (b : Bool) : State :=
  if c < 64 then s.setFlag K.FENCE_CH_LO c b else s.setFlag K.FENCE_CH_HI (c - 64) b

/-- A channel is fenced: it drives its park code, and its calibration ends SKIPPED (R312, R525, R566). -/
def fenceChannel (s : State) (c : Nat) : State :=
  let s := setChFence s c true
  let s := if tileReady s (tileOf c) then parkPin s c else s
  if calibrating s c then calEnd s c 5 else calSkip s c

/-- The unit is fenced already (R570). -/
def unitFenced (s : State) (u : Nat) : Bool :=
  if u < 0x60 then chFenced s u else if u < 0x6C then tileFenced s (u - 0x60) else s.flag K.FENCE_STACK (u - 0x6C)

/-- The unit of a fault source is fenced (R566, R568, R569). -/
def fenceUnit (s : State) (u : Nat) : State :=
  if unitFenced s u then s
  else
    let s := s.inc K.FENCES
    if u < 0x60 then fenceChannel s u
    else if u < 0x6C then
      let t := u - 0x60
      let s := (List.range 8).foldl (fun s j => fenceChannel s (8 * t + j)) s
      let s := (s.setFlag K.FENCE_TILE t true).setNum (atTile K.TILE_FENCED t) 1
      (domDown s (12 + t)).setNum (atTile K.TILE_STATE t) 5
    else
      let k := u - 0x6C
      let s := (s.setFlag K.FENCE_STACK k true).setFlag K.STACK_STATE (4 + k) true
      let s := s.setMem { s.mem with out := putBit s.mem.out k true }
      domDown s (8 + k)

/-- Several units are fenced. -/
def fenceUnits (s : State) (l : List Nat) : State := l.foldl fenceUnit s

/-- Units that waited are fenced; once none waits any more FENCE_CMD.SET has completed (R44, R561, R570). -/
def fenceWaited (s : State) (l : List Nat) : State :=
  let s := fenceUnits s l
  if s.flt.fenceWait.isEmpty then s.setFlag K.FENCE_CMD 0 false else s

/-- The module is degraded (R577). -/
def degraded (s : State) : Bool :=
  s.num K.FENCE_CH_LO != 0 || s.num K.FENCE_CH_HI != 0 || s.num K.FENCE_TILE != 0 || s.num K.FENCE_STACK != 0

end Sys2Proof.Machine
end

