-- ==== Sys2Proof/Machine/Tmu.lean ====
section
/-! DEFINITION. The time-measurement units (R422–R451, R461): arming, re-arming and the timeout, capture edges by mode,
and results. Times are in 1/16 LSB on the time base's circle of 2^64 LSB (R424, R427). -/

namespace Sys2Proof.Machine

/-! ### Times -/

/-- The interpolation step q times TICK_MULT: q is 17,920 × 2^32 / TICK_MULT in 1/16 LSB (R423). -/
def qScale : Nat := 17920 * 2 ^ 32

/-- The distance between two marker edges: 35,840 LSB (R422, R423). -/
def markerStep : Nat := 573440

/-- A time as a TMU places it: the marker edge before it and whole steps q from there (R423). Which of the two steps around
an edge is taken is open. -/
def tmuStamp (s : State) (c : Nat) (t : Int) : Int :=
  let u := (t % (markerStep : Int)).toNat
  let k := u * s.mult / qScale
  let k := if u * s.mult % qScale ≠ 0 ∧ Config.interpUp c t then k + 1 else k
  t - u + roundDiv (k * qScale : Nat) s.mult

/-- The position of a time in units of 1/32 tick from the origin of tick 0 (R450). -/
def tickPos (s : State) (t : Int) : Nat := raw 68 (t - s.tb.origin) * s.mult / qScale

/-- The time at which tick `tick` of the granule of cycle `m` begins at the lands with zero deskew (R298, R426). -/
def markTime (s : State) (m tick : Nat) : Int :=
  s.tb.origin + roundDiv ((64 * m + tick) * 32 * qScale : Nat) s.mult

/-- A time of a unit's, shifted. -/
def Tmu.shift (x : Tmu) (d : Int) : Tmu :=
  { x with start := x.start.map (· + d), stop := x.stop.map (· + d), deadTo := x.deadTo.map (· + d),
           armAt := x.armAt + d, rearm := x.rearm.map (· + d) }

/-- TB_NOW steps by `d` LSB (R427, R604): every moment that the time base holds keeps its distance from the present. -/
def tbStep (s : State) (d : Int) : State :=
  let s := s.setTb { s.tb with
    origin := s.tb.origin + 16 * d, tmus := s.tb.tmus.map (fun p => (p.1, p.2.shift (16 * d))) }
  s.setNum K.TB_NOW (raw 64 ((s.num K.TB_NOW : Int) + d))

/-! ### Arming -/

/-- The unit is put in ARMED at a time; a re-arm sees no earlier edge (R432, R436). The edges until the prescaler's first
output are open (R444). -/
def tmuEnter (s : State) (c : Nat) (at_ : Int) (again : Bool) : State :=
  let r : Nat × State := if s.flag (atCh K.TMU_CTRL c) 1 then s.fresh 3 else (0, s)
  let s := r.2
  let s := s.setTmu c { tmuInit with
    cond := tbCond s, armAt := at_, rearm := if again then some at_ else none, presc := r.1 }
  s.setNum (atCh K.TMU_STATE c) 2

/-- TMU_CMD.ARM (R432). -/
def tmuArm (s : State) (c : Nat) : State :=
  tmuEnter (s.setNum (atCh K.RES_FLAGS c) (clearBits (s.num (atCh K.RES_FLAGS c)) 0x6F)) c (now16 s) false

/-- The result stands that the unit completed at this moment or later: no time has passed since its completing edge
(R433). -/
def tmuJustDone (s : State) (c : Nat) : Bool :=
  let m := s.num (atCh K.TMU_MODE c)
  s.num (atCh K.TMU_STATE c) == 4 && decide (1 ≤ m) && decide (m ≤ 4) &&
  decide (0 ≤ span (now16 s) (16 * s.num (atCh K.END_TS c) : Nat))

/-- TMU_CMD.DISARM (R433): a result completed at this moment stands and no re-arm follows. -/
def tmuDisarm (s : State) (c : Nat) : State :=
  if tmuJustDone s c then s.setTmu c { s.tmu c with rearm := none } else tmuIdle s c

/-- TMU_CMD.CLEAR (R451). -/
def tmuClear (s : State) (c : Nat) : State :=
  let s := s.setNums [(atCh K.ACC_N c, 0), (atCh K.ACC_SUM c, 0), (atCh K.ACC_MIN c, 0), (atCh K.ACC_MAX c, 0),
                      (atCh K.TS_COUNT c, 0), (atCh K.HIST_OUT c, 0)]
  let s := (s.setBlob (atCh K.TS_BUF c) (zeros 1024)).setBlob (atCh K.HIST c) (zeros 1024)
  s.setFlag (atCh K.RES_FLAGS c) 7 false

/-- The unit works: its tile is ready with its clock running, and its channel is not being calibrated (R30, R438). -/
def tmuRuns (s : State) (c : Nat) : Bool :=
  tileReady s (tileOf c) && decide (2 ≤ s.num K.TICK_STATE) && !calibrating s c

/-- The time of the re-arm that a DONE unit awaits with CONT set (R436). -/
def tmuRearmAt (s : State) (c : Nat) : Option Int :=
  if s.num (atCh K.TMU_STATE c) = 4 ∧ s.flag (atCh K.TMU_CTRL c) 2 then (s.tmu c).rearm else none

/-- With CONT set a unit in DONE re-arms (R436). -/
def tmuRearm (s : State) (c : Nat) : State :=
  match tmuRearmAt s c with
  | some r => if tmuRuns s c then tmuEnter s c r true else s
  | none => s

/-- The marker edge at which the timeout expires; none without a timeout (R434). -/
def tmuExpiry (s : State) (c : Nat) : Option Int :=
  let n := s.num (atCh K.TMU_TMO c)
  if tmuArmed s c ∧ n ≠ 0 then some (((s.tmu c).armAt / (markerStep : Int) + n) * (markerStep : Int)) else none

/-- The timeout ends an incomplete measurement, and with it continuous operation; in TIMESTAMP and HISTOGRAM modes it
ends collection (R434–R436). -/
def tmuExpire (s : State) (c : Nat) : State :=
  let s := s.setTmu c tmuInit
  if 5 ≤ s.num (atCh K.TMU_MODE c) then s.setNum (atCh K.TMU_STATE c) 4
  else
    let s := (s.setFlag (atCh K.RES_FLAGS c) 2 true).setFlag (atCh K.RES_FLAGS c) 0 false
    s.setNum (atCh K.TMU_STATE c) 5

/-- The time base has reached the unit's expiring marker edge (R434). -/
def tmuExpired (s : State) (c : Nat) : Bool :=
  match tmuExpiry s c with
  | some e => tmuRuns s c && decide (0 ≤ span e (now16 s))
  | none => false

/-- The arm timeout expires on an incomplete measurement (R434, R435). -/
def tmuTimeout (s : State) (c : Nat) : State := if tmuExpired s c then tmuExpire s c else s

/-! ### Completion -/

/-- A timestamp in LSB, rounded to the nearest (R424). -/
def toLsb (t : Int) : Int := roundDiv t 16

/-- A result joins the accumulators (R436, R468). -/
def tmuAccumulate (s : State) (c : Nat) (r : Int) : State :=
  let n := s.num (atCh K.ACC_N c)
  let lim : Int := 2 ^ 63
  let sum := signed 64 (s.num (atCh K.ACC_SUM c)) + r
  let held := min (max sum (-lim)) (lim - 1)
  let s := if held = sum then s else s.setFlag (atCh K.RES_FLAGS c) 7 true
  let lo := if n = 0 then r else min (signed 64 (s.num (atCh K.ACC_MIN c))) r
  let hi := if n = 0 then r else max (signed 64 (s.num (atCh K.ACC_MAX c))) r
  s.setNums [(atCh K.ACC_N c, inc32 n), (atCh K.ACC_SUM c, raw 64 held), (atCh K.ACC_MIN c, raw 64 lo),
             (atCh K.ACC_MAX c, raw 64 hi)]

/-- The frequency of a count over an interval in mHz (R446). -/
def freqOf (count k : Nat) (r : Int) : Nat := (roundDiv ((count * k * 3584000000000000 : Nat) : Int) r.toNat).toNat

/-- A measurement from `a` to `b` completes at the edge `e` with a count; with CONT set a re-arm follows 1.0 ns after the
edge (R436, R439, R442, R446). -/
def tmuComplete (s : State) (c : Nat) (a b e : Int) (count : Nat) : State :=
  let d := span a b
  let coin := decide (-16 < d) && decide (d < 16)
  let r := if coin then 0 else toLsb d
  let x := s.tmu c
  let fl := s.num (atCh K.RES_FLAGS c) &&& 0x90
  let s := s.setNum (atCh K.RES_FLAGS c) (fl + 1 + 2 * ofBool coin + (x.cond ||| tbCond s))
  let s := s.setNums [(atCh K.RESULT c, raw 64 r), (atCh K.RES_COUNT c, count), (atCh K.START_TS c, raw 64 (toLsb a)),
                      (atCh K.END_TS c, raw 64 (toLsb e)), (atCh K.TMU_STATE c, 4)]
  let s := if s.num (atCh K.TMU_MODE c) = 3 then
      s.setNum (atCh K.RES_FREQ c) (freqOf count (if s.flag (atCh K.TMU_CTRL c) 1 then 8 else 1) r)
    else s
  let s := tmuAccumulate (s.inc (atCh K.RESULTS c)) c r
  s.setTmu c { tmuInit with rearm := if s.flag (atCh K.TMU_CTRL c) 2 then some (e + 57344) else none }

/-! ### Edges -/

/-- A source code selects an edge's own code (R428). -/
def srcMatch (cfg edge : Nat) : Bool :=
  if cfg < 0x30 then decide (edge < 0x20) && edge % 16 == cfg % 16 && (cfg / 16 == 2 || cfg / 16 == edge / 16)
  else cfg == edge && cfg != 0xFF

/-- The start of a measurement is captured. -/
def tmuStart (s : State) (c : Nat) (t : Int) (falling : Bool) : State :=
  (s.setTmu c { s.tmu c with start := some t, falling := falling, count := 0 }).setNum (atCh K.TMU_STATE c) 3

/-- The stop edge of an ordered measurement: one no more than 1 LSB before the start completes it, another is counted in
ORPHAN_STOP (R440). -/
def tmuStop (s : State) (c : Nat) (a t : Int) : State :=
  if -16 < span a t then tmuComplete s c a t t 1 else s.inc (atCh K.ORPHAN_STOP c)

/-- INTERVAL mode (R440–R443): `st` and `sp` say which sources select the edge. -/
def tmuInterval (s : State) (c : Nat) (t : Int) (st sp : Bool) : State :=
  let x := s.tmu c
  if s.flag (atCh K.TMU_CTRL c) 0 then
    if st && x.start.isNone then
      match x.stop with
      | some b => tmuComplete s c t b t 1
      | none => tmuStart s c t false
    else if sp && x.stop.isNone then
      match x.start with
      | some a => tmuComplete s c a t t 1
      | none => (s.setTmu c { x with stop := some t }).setNum (atCh K.TMU_STATE c) 3
    else s
  else match x.start with
    | none => if st then tmuStart s c t false else if sp then s.inc (atCh K.ORPHAN_STOP c) else s
    | some a => if sp then tmuStop s c a t else s

/-- PERIOD and FREQUENCY modes: the first edge starts, and the edge that ends the count or the gate completes (R439). -/
def tmuCounted (s : State) (c : Nat) (t : Int) : State :=
  let x := s.tmu c
  match x.start with
  | none => tmuStart s c t false
  | some a =>
    let n := x.count + 1
    let gate : Int := (s.num (atCh K.GATE c) * markerStep : Nat)
    let done := if s.num (atCh K.TMU_MODE c) = 2 then decide (s.num (atCh K.TMU_COUNT c) ≤ n)
      else decide (gate ≤ span a t)
    if done then tmuComplete s c a t t n else s.setTmu c { x with count := n }

/-- The ÷8 prescaler takes an edge: with PRESC set one of eight reaches the counter (R444). -/
def tmuPrescaled (s : State) (c : Nat) (t : Int) : State :=
  if s.flag (atCh K.TMU_CTRL c) 1 then
    let x := s.tmu c
    let s := s.setTmu c { x with presc := (x.presc + 1) % 8 }
    if x.presc = 7 then tmuCounted s c t else s
  else tmuCounted s c t

/-- WIDTH mode: the stop is the next edge of the opposite slope on the same comparator; one that comes before a start is
counted in ORPHAN_STOP (R440, R447). -/
def tmuWidth (s : State) (c edge : Nat) (t : Int) : State :=
  let cfg := s.num (atCh K.START_SRC c)
  let x := s.tmu c
  let opposite := decide (edge < 0x20) && edge % 16 == cfg % 16 && edge / 16 != cfg / 16
  match x.start with
  | none =>
    if srcMatch cfg edge then tmuStart s c t (edge / 16 == 1)
    else if opposite then s.inc (atCh K.ORPHAN_STOP c) else s
  | some a => if opposite then tmuStop s c a t else s

/-- The dead time that follows a captured edge (R449): false where the edge falls in it. -/
def tmuAlive (s : State) (c : Nat) (t : Int) : Bool :=
  match (s.tmu c).deadTo with
  | some d => decide (0 ≤ span d t)
  | none => true

/-- A timestamp entry (R448). -/
def tsEntry (s : State) (t : Int) (falling : Bool) : Bytes :=
  let k := tbCond s
  leBytes 8 (raw 64 (toLsb t)) ++
  leBytes 1 (ofBool falling + 2 * ofBool (bit k 3) + 4 * ofBool (bit k 5) + 8 * ofBool (bit k 6)) ++ zeros 7

/-- The bin of a position in 1/32 tick; none where the edge falls outside (R450). -/
def histBin (s : State) (c x : Nat) : Nat :=
  let m := 32 * s.num (atCh K.HIST_PERIOD c)
  let p := (x % m + (m - s.num (atCh K.HIST_OFFSET c) % m)) % m
  p / 2 ^ s.num (atCh K.HIST_SHIFT c)

/-- TIMESTAMP and HISTOGRAM modes (R448–R450). `x` is the edge's position in 1/32 tick. -/
def tmuCollect (s : State) (c : Nat) (t : Int) (falling : Bool) (x : Nat) : State :=
  if !tmuAlive s c t then s.inc (atCh K.TS_MISSED c)
  else
    let s := s.setTmu c { s.tmu c with deadTo := some (t + 57344) }
    if s.num (atCh K.TMU_MODE c) = 5 then
      let n := s.num (atCh K.TS_COUNT c)
      let buf := s.blob (atCh K.TS_BUF c)
      let buf := buf ++ zeros (1024 - buf.length)
      (s.setBlob (atCh K.TS_BUF c) (splice buf (n % 64 * 16) (tsEntry s t falling))).add 64 (atCh K.TS_COUNT c) 1
    else
      let b := histBin s c x
      if 256 ≤ b then s.inc (atCh K.HIST_OUT c)
      else
        let h := s.blob (atCh K.HIST c)
        let h := h ++ zeros (1024 - h.length)
        let v := fieldAt h (4 * b) 4
        let s := if v + 1 ≥ 2 ^ 32 - 1 then s.setFlag (atCh K.RES_FLAGS c) 7 true else s
        s.setBlob (atCh K.HIST c) (splice h (4 * b) (leBytes 4 (min (v + 1) (2 ^ 32 - 1))))

/-- An armed unit takes an edge by its mode (R439): the edge's own code, its timestamp, its position in 1/32 tick. -/
def tmuTake (s : State) (c edge : Nat) (t : Int) (x : Nat) : State :=
  let mode := s.num (atCh K.TMU_MODE c)
  let st := srcMatch (s.num (atCh K.START_SRC c)) edge
  let sp := srcMatch (s.num (atCh K.STOP_SRC c)) edge
  if mode = 1 then tmuInterval s c t st sp
  else if mode = 4 then tmuWidth s c edge t
  else if !st then s
  else if mode = 2 then tmuCounted s c t
  else if mode = 3 then tmuPrescaled s c t
  else if mode = 5 ∨ mode = 6 then tmuCollect s c t (edge / 16 == 1) x
  else s

/-- What has fallen due at a unit by a timestamp: its re-arm, then its timeout, where the expiring marker edge lies before
it (R434, R436). -/
def tmuCatchUp (s : State) (c : Nat) (t : Int) : State :=
  let s := match tmuRearmAt s c with
    | some r => if 0 ≤ span r t then tmuEnter s c r true else s
    | none => s
  match tmuExpiry s c with
  | some e => if 0 < span e t then tmuExpire s c else s
  | none => s

/-- The unit sees an edge with this timestamp: it is armed, and no re-arm lies after the edge (R436). -/
def tmuSees (s : State) (c : Nat) (t : Int) : Bool :=
  tmuArmed s c && (match (s.tmu c).rearm with | some r => decide (0 ≤ span r t) | none => true)

/-- A capture edge of some code reaches a TMU at a time (R423, R434, R436, R439). -/
def tmuCapture (edge : Nat) (t : Int) (s : State) (c : Nat) : State :=
  if !tmuRuns s c then s
  else
    let p := tmuStamp s c t
    let s := tmuCatchUp s c p
    if tmuSees s c p then tmuTake s c edge p (tickPos s t) else s

/-- A capture edge reaches the TMUs of some channels. -/
def tmuCaptureAll (edge : Nat) (t : Int) (l : List Nat) (s : State) : State := l.foldl (tmuCapture edge t) s

/-- The channels of a tile (R13). -/
def lanesOf (t : Nat) : List Nat := (List.range 8).map (8 * t + ·)

/-- The pads of a channel are at `v` at a time: the outputs follow, and each edge of a lane that produces them is an attention
event and reaches the TMUs of the tile (R347, R356, R359, R360, R428, R429). -/
def laneMoves (s : State) (c : Nat) (v : Pad) (t : Int) : State :=
  let s' := senseEdge s c v
  if producesEdges s c then
    (outputEdges (s.chan c) (s'.chan c)).foldl
      (fun s e => tmuCaptureAll (16 * (e % 2) + 8 * (e / 2) + c % 8) t (lanesOf (tileOf c)) s) s'
  else s'

end Sys2Proof.Machine
end

