-- ==== Sys2Proof/Machine/Burst.lean ====
section
/-! DEFINITION. One SEQCLK cycle of a burst, the eye raster's steps, segment ends with jump landings, program errors,
and how a burst ends (R129–R131, R145, R170–R178, R216, R231, R232, R403–R411). -/

namespace Sys2Proof.Machine

/-! ### State of the burst -/

/-- SEQ_STATE (R221). -/
def seqState (s : State) : Nat := s.num K.SEQ_STATE
/-- SEQ_STATE is IDLE or OFF. -/
def seqQuiet (s : State) : Bool := seqState s == 0 || seqState s == 1
/-- The burst runs and no trap is in progress. -/
def running (s : State) : Bool := seqState s == 4 && s.uc.trap.isNone

/-- The granule at the head of its source, when it is the one due (R181). -/
def dueHead (s : State) : Option Granule :=
  let q := s.seq
  let h := match q.side with
    | g :: _ => some g
    | [] => q.stream.head?
  match h with
  | some g => if g.seg = q.seg ∧ g.off = q.off ∧ g.entry = q.entry then some g else none
  | none => none

/-- The lowest tile of those that hold, 0x80 for none. -/
def lowestTile (p : Nat → Bool) : Nat := (((List.range 12).filter p).head?).getD 0x80

/-- The tile fetches planes now (R133, R239). -/
def tileFetchesNow (s : State) (t : Nat) : Bool := (fetchNow s).any (fun c => tileOf c == t)

/-- The lowest tile that fetches planes and is not ready: it lacks every granule (R563). -/
def deafTile (s : State) : Nat := lowestTile (fun t => tileFetchesNow s t && !tileReady s t)

/-- The lowest tile whose wellhead a granule's data have yet to reach (R215). -/
def lateTile (s : State) (g : Granule) : Nat := lowestTile (fun t => tileFetchesNow s t && g.late.contains t)

/-- The granule due has its instruction and all its data (R215). -/
def dueGranule (s : State) : Option Granule :=
  match dueHead s with
  | some g => if g.lost = 0x80 ∧ g.late.isEmpty ∧ deafTile s = 0x80 then some g else none
  | none => none

/-- The granule due whose instruction is known, its data delivered or not (R232). -/
def dueWord (s : State) : Option Nat :=
  match dueHead s with
  | some g => if g.blind then none else some g.word
  | none => none

/-- The offset due is the last of its segment. -/
def atLast (s : State) : Bool := s.seq.off + 1 == (s.seq.segAt s.seq.seg).len

/-! ### Program errors (R143, R147–R150, R153–R155, R167, R170) -/

/-- The bits of an instruction that are assigned to fields (R144). -/
def fieldMask (op : Nat) : Nat :=
  let hi := 0xFFFFFFFF00000000
  let tgt := 0xFFFF0000
  if op = 0x00 then 0xFF else if op = 0x01 then 0xFF + hi else if op = 0x02 then 0x1FF + hi
  else if op = 0x03 then 0xFF + tgt else if op = 0x04 then 0xFF + tgt else if op = 0x05 then 0xFF
  else if op = 0x06 then 0xFF + tgt else if op = 0x07 then 0x1FFF + tgt else if op = 0x08 then 0x1FFF + tgt + hi
  else if op = 0x09 then 0xFF else if op = 0x0A then 0x0FFF3FFF else if op = 0x0B then 0xFFFF + tgt + hi
  else if op = 0x0C then 0xFFFF else if op = 0x0D then 0x00000FFF003F03FF else if op = 0x0E then 0x3FF
  else if op = 0x0F then 0xFFFF else if 0xE0 ≤ op then 0xFFFFFFFFFFFFFFFF else 0

/-- The instruction is illegal: reserved opcode, bit or encoding, or an unpopulated user opcode (R143, R167). -/
def illegalOp (s : State) (w : Nat) : Bool :=
  let op := w % 256
  (decide (0x10 ≤ op) && decide (op < 0xE0)) || clearBits w (fieldMask op) != 0 ||
  (op == 0x0E && field w 9 8 == 3) || (decide (0xE0 ≤ op) && !s.flag K.UENTRY_MAP (op - 0xE0))

/-- The instruction stands at an offset R147 does not allow. -/
def misplaced (s : State) (w : Nat) : Bool :=
  let op := w % 256
  if op = 2 then s.seq.off != 0
  else if op = 7 ∨ op = 8 ∨ op = 0x0B then decide (s.seq.off < 16)
  else if op = 3 ∨ op = 4 ∨ op = 5 ∨ op = 6 ∨ op = 9 then !atLast s
  else false

/-- A branch target is one of the primed targets of the segment (R148). -/
def primedTarget (s : State) (t : Nat) : Bool := (s.seq.segAt s.seq.seg).tgts.contains t

/-- A CALL or JMP target has BT set (R149). -/
def btTarget (s : State) (t : Nat) : Bool := decide (t < s.seq.segs.length) && (s.seq.segAt t).bt

/-- The cause code of the program error an instruction is, if it is one. -/
def programCause (s : State) (w : Nat) : Option Nat :=
  let op := w % 256
  let t := field w 31 16
  if illegalOp s w then some 1
  else if misplaced s w then some 2
  else if (op == 7 || op == 8 || op == 0x0B) && !primedTarget s t then some 3
  else if (op == 4 || op == 6) && !btTarget s t then some 3
  else if op == 2 && !s.seq.back && decide (16 ≤ s.seq.loops.length) then some 4
  else if op == 3 then
    match s.seq.loops with
    | [] => some 5
    | e :: _ => if e.seg = t then none else some 8
  else if op == 4 && decide (16 ≤ s.seq.calls.length) then some 6
  else if op == 5 && s.seq.calls.isEmpty then some 7
  else none

/-! ### The eye raster (R400–R411) -/

/-- Put an item into the cistern queue, or lose it whole (R412, R413). -/
def cqPut (s : State) (it : CqItem) : Bool × State :=
  let lvl := s.num K.CQ_LEVEL
  if lvl + it.size ≤ 262144 then
    let s := s.setCis { s.cis with queue := s.cis.queue ++ [it] }
    let s := s.setNum K.CQ_LEVEL (lvl + it.size)
    (true, s.setNum K.CQ_MAX (max (s.num K.CQ_MAX) (lvl + it.size)))
  else
    (false, (s.add 64 K.LOST_RECORDS 1).setFlag K.CAP_FLAGS 0 true)

/-- A covered pin's offsets at the point in force are held (R402). -/
def pinHeld (s : State) (c : Nat) : Bool :=
  decide (strobeRaw s < -32768) || decide (32768 < strobeRaw s) ||
  [K.THR_HI, K.THR_LO, K.SLC0, K.SLC0 + 1, K.SLC0 + 2].any (fun k => codeHeld (s.num (atCh k c)) (thrOffset s))

/-- The channels the raster covers. -/
def coveredList (s : State) : List Nat := (List.range 96).filter (covered s)

/-- Put raster point `i` in force from granule `m` on: empty bins, HELD marks, blanking (R402, R407). -/
def pointEnter (s : State) (i m : Nat) : State :=
  let s := s.setNums [(K.R_POINT, i), (K.R_STATE, 1)]
  let b := max (s.num K.R_BLANK) (s.wordsIn 8000000)
  let bins := (coveredList s).map (fun c => (c, if pinHeld s c then 2 ^ 31 else 0))
  s.setCis { s.cis with startWord := 2 * m, blankTo := 2 * m + b, dwell := 0, bins := bins }

/-- A point is written: one dwell entry and one bin for each covered pin, or lost (R409–R413). -/
def pointWrite (s : State) (p : EyePoint) : State :=
  let (x, y) := pointXY s p.point
  let at_ := 4 * (256 * y + x)
  let ws := (4096 + at_, leBytes 4 (min p.dwell (2 ^ 32 - 1))) ::
    (coveredList s).map (fun c => (266240 + 262144 * c + at_, leBytes 4 ((aFind p.bins c).getD 0)))
  if s.num K.CAP_LEVEL = 3 then (cqPut s ⟨4 * ws.length, ws, none⟩).2
  else (s.add 64 K.LOST_RECORDS 1).setFlag K.CAP_FLAGS 0 true

/-- The point in force leaves it at granule `m`: judgements that fall in its words are still to come (R408). -/
def pointClose (s : State) (m : Nat) : State :=
  let x := s.cis
  let p : EyePoint := ⟨s.num K.R_POINT, x.startWord, 2 * m, x.blankTo, x.dwell, x.bins⟩
  s.setCis { x with closed := x.closed ++ [p] }

/-- The points that have left force before word `w` are written, oldest first (R411). -/
def pointsWrite (s : State) (w : Nat) : State :=
  let done := s.cis.closed.filter (fun p => decide (p.stop ≤ w))
  let s := s.setCis { s.cis with closed := s.cis.closed.filter (fun p => !decide (p.stop ≤ w)) }
  done.foldl pointWrite s

/-- How many granules before its issue a judgement of a covered pin can fall: its deskew, its adjustment and a raster
offset of up to a granule (R302, R402). -/
def eyeReach (s : State) : Nat :=
  ((coveredList s).map (fun c =>
    ceilDiv (-(s.int32 (atCh K.DESKEW_CMP_RES c) + s.int32 (atCh K.STRB_ADJ_RES c))).toNat fineGranule)).foldl max 0 + 1

/-- After an issue, the points are written that no judgement can reach any more (R408, R411). -/
def eyeFlush (s : State) : State :=
  if s.cis.closed.isEmpty then s else pointsWrite s (2 * (s.seq.cycle - eyeReach s))

/-- An EYE action at granule `m` (R403, R404). -/
def eyeAction (s : State) (act m : Nat) : State :=
  if s.num K.CAP_MODE ≠ 3 ∨ (act ≠ 0 ∧ s.num K.R_STATE ≠ 1) then s.inc K.R_STRAY
  else
    let was := s.num K.R_STATE == 1
    let s := if was then pointClose s m else s
    if act = 0 then pointEnter s 0 m
    else if act = 2 then s.setNum K.R_STATE 3
    else
      let i := s.num K.R_POINT + 1
      if s.num K.X_COUNT * s.num K.Y_COUNT ≤ i then s.setNum K.R_STATE 2 else pointEnter s i m

/-! ### One cycle -/

/-- TSET: the active timing set of the stream compare pins of the selected tiles (R163, R304). -/
def tsetAction (s : State) (set tiles : Nat) : State :=
  (List.range 96).foldl (fun s c =>
    let r := roleOf s c
    if bit tiles (tileOf c) && (r == 3 || r == 4 || r == 6) then s.setChan c { s.chan c with tset := set } else s) s

/-- MARK: a marker pulse to the TMUs of the selected tiles, at the time its tick begins (R164, R426, R428). -/
def markAction (s : State) (number tick tiles : Nat) : State :=
  let s := s.emit (.marker number (s.num K.ISSUES) tick tiles)
  tmuCaptureAll (0x40 + number % 4) (markTime s s.seq.cycle tick)
    ((List.range 96).filter (fun c => bit tiles (tileOf c))) s

/-- The cycle begins: lines take their new words; answers the lines that rose (R198, R202). -/
def cycleBegin (s : State) : State × List Nat := linesCycle s s.seq.cycle

/-- The channels that are not valid, bit c for ch(c) (R396). -/
def invMap (s : State) : Nat := ((List.range 96).filter (fun c => !pinValid s c)).foldl (fun m c => m + 2 ^ c) 0

/-- An entry opens for the issue, or for a replayed cycle of the last one (R381, R394, R396). -/
def capOpen (s : State) (g : Granule) (cyc : Nat) : State :=
  let e : IssueCap :=
    ⟨s.num K.ISSUES - (if cyc = 0 then 0 else 1), s.seq.index g.seg g.off, g.seg, cyc, [], invMap s, none⟩
  s.setCis { s.cis with caps := s.cis.caps ++ [e] }

/-- The issue plays and is counted: ISSUES, the cycle, the jump distance, the dwell and the counters
(R145, R173, R179, R202, R410). -/
def cyclePlay (s : State) (up : List Nat) (g : Granule) (io : List (Nat × List (List Pad))) : State :=
  let s := capOpen s g 0
  let s := playAll s ⟨s.seq.cycle, s.num K.ISSUES, 0, g, true, true⟩ io
  let s := if rasterOn s then (s.setCis { s.cis with dwell := s.cis.dwell + 1 }) else s
  let s := countersCycle s true up
  let s := s.add 64 K.ISSUES 1
  let q := s.seq
  let s := s.setSeq { q with
    cycle := q.cycle + 1, last := some g, replays := 0, jump := q.jump.map (fun j => { j with d := j.d + 1 }) }
  eyeFlush (capPrune s)

/-- The granule due leaves its source (R181); a supplying set is free after its sixteenth granule (R188), and WH_MIN
follows the wellheads (R214). -/
def popGranule (s : State) : State :=
  let q := s.seq
  match q.side with
  | [_] => s.setSeq { q with side := [], primed := q.primed.filter (fun p => !p.supplying) }
  | _ :: r => s.setSeq { q with side := r }
  | [] => whReport (s.setSeq { q with stream := q.stream.tail })

/-! ### Ends of segments -/

/-- A pending request lands here: not HOLDOFF, and D ≥ 8 (R174). -/
def lands (s : State) : Bool :=
  match s.seq.jump with
  | some j => !(s.seq.segAt s.seq.seg).holdoff && decide (8 ≤ j.d)
  | none => false

/-- JUMP_STATE as it reads (R237). -/
def jumpState (s : State) : Nat :=
  match s.seq.jump with
  | some j => j.entry + 16 + 32 * ofBool j.ring +
      64 * ofBool (match s.seq.reserve with | some r => r.ready | none => false)
  | none => 0

/-- A granule that is not there, with its DRY_SOURCE code. -/
def lostGranule (s : State) (seg code : Nat) : Granule := { readGranule s seg 0 0 with lost := code, blind := true }

/-- The pending request lands: both stacks empty and the target issues next from the jump reserve, or the case of
R195 arises (R176, R192, R210). -/
def landJump (s : State) : State :=
  match s.seq.jump with
  | none => s
  | some j =>
    let t := (s.seq.jumpTable[j.entry]?).getD 0
    let data := match s.seq.reserve with
      | some r => if r.ready && r.seg == t then r.data else [lostGranule s t 0x12]
      | none => [lostGranule s t 0x12]
    let s := s.setSeq { s.seq with jump := none, reserve := none, loops := [], calls := [] }
    restart (releaseBodies (s.inc K.JUMPS_LANDED)) t data false

/-- The segment ends with the successor its last instruction chose: a landing replaces it (R131, R176), the missing
successor waits for FALL_OFF (R129, R170). -/
def endTo (s : State) (t : Option Nat) (back : Bool) : State :=
  if lands s then landJump s
  else match t with
    | some t => enterSegment (popGranule s) t back
    | none => s.setSeq { s.seq with wait := .fallOff }

/-- A taken branch: a landing replaces it; otherwise a restart from the primed target, or the case of R195 (R176,
R191, R195). -/
def endBranch (s : State) (t : Nat) : State :=
  if lands s then landJump s
  else
    let set : Option PrimeSet := s.seq.primed.find? (fun p => p.owner == s.seq.entry && !p.supplying)
    let tgt : Option PrimeTarget := match set with
      | some p => p.targets.find? (fun (x : PrimeTarget) => x.seg == t)
      | none => none
    match tgt with
    | some x => restart s t (if x.ready then x.data else [lostGranule s t 0x11]) true
    | none => restart s t [lostGranule s t 0x11] true

/-- Control goes to the next granule of the segment, or past its last one to the fall-through successor (R129). -/
def goNext (s : State) : State :=
  if atLast s then endTo s (s.seq.after s.seq.seg) false
  else
    let s := popGranule s
    s.setSeq { s.seq with off := s.seq.off + 1, made := 0, back := false, markSeen := false }

/-! ### The end of a burst -/

/-- A pending jump request is discarded at the end of the burst (R177, R231). -/
def discardJump (s : State) : State :=
  if s.seq.jump.isSome then
    let s := s.setSeq { s.seq with jump := none, reserve := none }
    (s.inc K.JUMPS_REPLACED).setFlag K.SEQ_FLAGS 2 true
  else s

/-- The raster's point in force is written and stops (R405); a USER cause is discarded and a SNAP cause served
(R278); units that a FAULT trap was to fence are fenced now (R559). -/
def burstTail (s : State) : State :=
  let s := (List.range 96).foldl (fun s c => settleLater s (s.seq.cycle + 2 ^ 20) c) s
  let s := if rasterOn s then (pointClose s (s.seq.cycle + 2 ^ 20)).setNum K.R_STATE 3 else s
  let s := pointsWrite s (2 * (s.seq.cycle + 2 ^ 20))
  let s := discardJump s
  let pend := s.num K.TRAP_PENDING
  let s := if bit pend 2 then snapNow s else s
  let s := if bit pend 1 then timeSnap s else s
  let s := if bit pend 0 then recordPosition s else s
  let s := s.setNums [(K.TRAP_PENDING, 0), (K.TRAP_CMD, 0)]
  let s := s.setUc { s.uc with routine := none, deferred := none, trap := none, haltAfter := none }
  let q : Seq := { s.seq with
    bodies := [], reload := s.seq.reload || (!s.seq.bodies.isEmpty && !s.seq.evicted.isEmpty),
    wait := .none, made := 0, side := [], stream := [] }
  let s := s.setSeq { q with primed := [], primeQueue := [] }
  let l := s.flt.fenceNext ++ s.flt.fenceWait
  fenceWaited (s.setFlt { s.flt with fenceWait := [], fenceNext := [] }) l

/-- No vector goes on past the end of a burst, and the entries of its issues are complete. -/
def vectorsEnd (s : State) : State :=
  (List.range 96).foldl (fun s c => let x := s.chan c; if x.vec.isNone then s else s.setChan c { x with vec := none }) s

/-- What the summary reports of the burst's end is noted (R391). -/
def endNoted (s : State) : State :=
  s.setCis { s.cis with endNote := ⟨s.num K.CAP_MODE, s.num K.CAP_LEVEL, s.num K.CAP_FLAGS % 16, s.num K.R_STATE⟩ }

/-- The burst is over: its open work ends, the pins park, and its last judgements are in (R296, R391, R394). -/
def burstOver (s : State) : State := endNoted (capPrune (vectorsEnd (parkAll (burstTail s))))

/-- The burst ends with a cause: no further issue, the pins park, and DRAINING begins (R221, R232, R296). -/
def endBurst (s : State) (cause : Nat) : State :=
  (burstOver s).setNums [(K.SEQ_STATE, 5), (K.END_CAUSE, cause)]

/-- ERR_GRANULE and ERR_SEGMENT name a granule. -/
def errAt (s : State) (seg off : Nat) : State :=
  s.setNums [(K.ERR_GRANULE, s.seq.index seg off), (K.ERR_SEGMENT, seg)]

/-- A program error at the granule due (R170): it does not issue, the pins park, 0x70 is raised. -/
def programError (s : State) (cause : Nat) : State :=
  endBurst ((errAt s s.seq.seg s.seq.off).raise 0x70) cause

/-- LOOP_SNAPSHOT: entry e at byte 8e, entries at and above the loop depth 0 (R234). -/
def loopSnapshot (s : State) : Bytes :=
  let l := s.seq.loops.reverse
  (List.range 16).flatMap (fun i => match l[i]? with
    | some e => leBytes 4 e.rem ++ leBytes 2 e.seg ++ zeros 2
    | none => zeros 8)

/-- A dry well at the granule due with a DRY_SOURCE code (R216, R219, R220). -/
def dryWell (s : State) (code : Nat) : State :=
  let s := (errAt s s.seq.seg s.seq.off).setNum K.DRY_SOURCE code
  let s := s.setBlob K.LOOP_SNAPSHOT (loopSnapshot s)
  endBurst (if code = 0x13 then s else s.raise 0x75) 0x24

/-- The boundary after a last issue that chose the missing successor (R170). -/
def fallOffEnd (s : State) : State :=
  let s := match s.seq.last with
    | some g => errAt s g.seg g.off
    | none => s
  endBurst (s.raise 0x70) 9

/-- A halt is latched with its cause code (R227): it stops the issue at once, waits for the handlers of a trap
(R277), and returns LOADING and ARMED to IDLE, where a pending START is discarded (R610). A FALL_OFF that is due at the
same boundary takes precedence (R170, R232). -/
def haltLatch (s : State) (cause : Nat) : State :=
  let st := seqState s
  if st = 4 then
    if s.uc.trap.isSome then
      let before := s.uc.haltAfter.getD 0
      let c := max before cause
      s.setUc { s.uc with haltAfter := some c }
    else if s.seq.wait == .fallOff then fallOffEnd s
    else endBurst s cause
  else if st = 2 then (s.setNum K.SEQ_STATE 1).evBurst
  else if st = 3 then (s.setNums [(K.SEQ_STATE, 1), (K.SCHED, 2 ^ 64 - 1)]).evBurst
  else s

/-- The issue due is judged: a program error ends the burst; an illegal instruction whose data are missing is still
judged first (R232). Answers none when the issue may be made. -/
def judgeDue (s : State) : Option State :=
  match dueWord s with
  | some w => match programCause s w with
    | some c => some (programError s c)
    | none => none
  | none => none

end Sys2Proof.Machine
end

