-- ==== Sys2Proof/Machine/Summary.lean ====
section
/-! DEFINITION. The burst summary (R390–R392, R412, R413). -/

namespace Sys2Proof.Machine

/-- The PIN entry of a channel in the summary (R391). -/
def summaryPin (s : State) (c : Nat) : Bytes :=
  let fl := s.num (atCh K.CNT_FLAGS c)
  leBytes 6 (s.num (atCh K.ERR_COUNT c)) ++
  leBytes 1 (ofBool (bit fl 0) + 2 * ofBool (bit fl 2) + 4 * ofBool (chFenced s c || tileFenced s (tileOf c))) ++
  zeros 1 ++ leBytes 8 (s.num (atCh K.FF_ISSUE c))

/-- The burst summary but for its check word (R391). -/
def summaryBody (s : State) : Bytes :=
  let n (w k : Nat) : Bytes := leBytes w (s.num k)
  let e := s.cis.endNote
  let head : Bytes := [0x43#8, 0x53#8, 0x55#8, 0x4D#8] ++ leBytes 1 e.mode ++ leBytes 1 e.level ++ n 1 K.END_CAUSE ++
    n 1 K.HALT_CODE ++ n 8 K.ISSUES ++ n 4 K.ERR_GRANULE ++ n 2 K.ERR_SEGMENT ++ n 1 K.DRY_SOURCE ++
    leBytes 1 e.flags
  let mid : Bytes := n 8 K.RECORDS ++ n 8 K.DEMOTED ++ n 8 K.LOST_RECORDS ++ n 8 K.STEP1_ISSUE ++ n 8 K.STEP2_ISSUE ++
    n 8 K.REC_END ++ n 8 K.REC_OLDEST ++ n 4 K.R_POINTS_DONE ++ leBytes 1 e.raster ++ zeros 43
  let snap := s.blob K.LOOP_SNAPSHOT
  head ++ mid ++ (snap ++ zeros 128).take 128 ++ ((List.range 96).flatMap (summaryPin s)) ++ zeros 2300

/-- The burst summary (R391). -/
def summaryBytes (s : State) : Bytes :=
  let b := summaryBody s
  b ++ leBytes 4 (crc32c b)

/-- The summary goes through the cistern queue into the region, where the stack that holds it is mapped (R390, R412, R413,
R477). -/
def summaryStore (s : State) : State :=
  if 4096 ≤ regionSize s.mem 1 ∧ stackMapped s (stackOf s.mem 1 0) then
    let s := s.setNum K.CQ_MAX (max (s.num K.CQ_MAX) (s.num K.CQ_LEVEL + 4096))
    (memStore s winCis (summaryBytes s)).2
  else s

/-- The summary of the burst is no longer due, and CAP_DONE sets (R392). -/
def captureDone (s : State) : State := (s.setCis { s.cis with summaryDue := false }).setFlag K.CAP_FLAGS 4 true

end Sys2Proof.Machine
end

