-- ==== Sys2Proof/Machine/Issue.lean ====
section
/-! DEFINITION. The instructions of a pattern program as they issue (R143–R170), customer routines (R252–R261), and
the commands of the fetch front, priming and the jump reserve (R181–R220). -/

namespace Sys2Proof.Machine

/-! ### The control store read of an issue -/

/-- The read was corrected (R244). -/
def ucRead (s : State) (n : Nat) : State := if n = 1 then s.inc K.UC_CORRECTED else s

/-- An uncorrectable control-store read at an address (R245). -/
def ucBad (s : State) (a : Nat) : State :=
  ((s.inc K.UC_UNCORRECTED).setNum K.UC_BAD_ADDR a).raise 0x71

/-- The word at an address cannot be read: the granule plays, and from the next boundary the pins park (R245). -/
def ucDeath (s : State) (g : Granule) (io : Io) (a : Nat) : State :=
  let r := cycleBegin s
  let s := cyclePlay r.1 r.2 g io.pins
  endBurst (ucBad s a) 0x23

/-- TRAP_DEFER has been set for 64 microwords (R280). -/
def deferDue (s : State) : Bool := match s.uc.deferred with | some n => decide (64 ≤ n) | none => false

/-! ### Issuing -/

/-- The granule plays as VEC does. -/
def playOne (s : State) (io : Io) (g : Granule) : State :=
  let r := cycleBegin s
  cyclePlay r.1 r.2 g io.pins

/-- The granule issues again (R145, R146). -/
def goAgain (s : State) : State := s.setSeq { s.seq with made := s.seq.made + 1 }

/-! ### Microwords of the stream context -/

/-- TILE_CMD (R248, R255). -/
def tileCmdStep (s : State) (w : Nat) : State :=
  let arg := field w 107 100
  let tiles := field w 99 88
  let k := field w 87 84
  if k = 1 then tsetAction s (arg % 64) tiles
  else if k = 2 then markAction s (arg / 64) (arg % 64) tiles
  else if k = 3 then eyeAction s (arg % 4) s.seq.cycle
  else s

/-- RING_OP (R248). -/
def ringOpStep (s : State) (w : Nat) : State :=
  if field w 115 112 = 1 then ringMark s (field w 107 100) else s

/-- FLAG_OP 1 and 2, of vendor words, set MATCH_TIMEOUT and SYNCW_TIMEOUT (R248). -/
def flagOpStep (s : State) (w : Nat) : State :=
  let k := field w 111 108
  if k = 1 then s.setFlag K.SEQ_FLAGS 0 true else if k = 2 then s.setFlag K.SEQ_FLAGS 1 true else s

/-- TRAP_DEFER after a microword of the stream context (R280). -/
def deferNext (d : Option Nat) (w : Nat) : Option Nat :=
  if bit w 24 then none
  else if field w 26 25 = 2 then none
  else match d with
    | some n => some (n + 1)
    | none => if field w 26 25 = 1 then some 0 else none

/-- The next micro-address leaves the customer region: the issue has played, and the error is taken at the next boundary,
at the granule that would have issued (R261). -/
def microError (s : State) (cause : Nat) : State :=
  let q := s.seq
  let s := if atLast s then
      match q.after q.seg with
      | some t => errAt s t 0
      | none => errAt s q.seg q.off
    else errAt s q.seg (q.off + 1)
  endBurst (s.raise 0x70) cause

/-- The program error that a taken TARGET_IF is at the granule due, as a JIF there would be (R253). -/
def targetError (s : State) (w target : Nat) (cond : Bool) : Option Nat :=
  if field w 23 22 = 2 ∧ cond then
    if s.seq.off < 16 then some 2 else if primedTarget s target then none else some 3
  else none

/-- The issue after a stream word: SAME, of vendor words, the same granule; a taken TARGET_IF the target; else the next
granule (R252). -/
def streamNext (s : State) (w target : Nat) (cond : Bool) : State :=
  let k := field w 23 22
  if k = 2 ∧ cond then endBranch s target else if k = 1 then goAgain s else goNext s

/-- The stream context executes the word at `pc` in the cycle of granule `g` (R248–R261). Addresses in U13 and U15 are
taken as earlier words left them. A taken TARGET_IF that is a program error leaves the granule unissued (R170, R253). -/
def streamWord (s : State) (io : Io) (g : Granule) (pc : Nat) : State :=
  let w := microWord s pc
  let r := cycleBegin s
  let cond := microCond r.1 w false (atLast r.1)
  match targetError s w (ureg s 13 % 65536) cond with
  | some c => programError s c
  | none =>
  let s := r.1.setSeq { r.1.seq with last := some g }
  let next := nextUpc s pc w cond
  let target := ureg s 13 % 65536
  let s := flagOpStep (ringOpStep (tileCmdStep (microConsume s w false) w) w) w
  let s := cyclePlay (linkStep (aluStep s w) pc w) r.2 g io.pins
  if field w 111 108 = 3 then endBurst (s.setNum K.HALT_CODE (field w 107 100)) 0x20
  else
    let s := s.setUc { s.uc with
      routine := if bit w 24 then none else some (if customerAddr pc then next else next % 0x2000), lastUpc := pc,
      inRoutine := !bit w 24, deferred := deferNext s.uc.deferred w }
    if !(field w 23 22 == 2 && cond) && !bit w 24 && customerAddr pc && !customerAddr next then microError s 1
    else streamNext s w target cond

/-- The issue due is of a class: judged first (R170, R232), then, with its data there, carried out by `body`, or by the
word at its opcode's dispatch entry where a patch has overwritten that entry (R256, R257). -/
def issueRow (s : State) (io : Io) (cls : Nat → Bool) (body : State → Nat → Granule → State) : State :=
  if !running s || s.seq.wait != .none || s.uc.routine.isSome || deferDue s then s
  else match dueWord s with
  | none => s
  | some w =>
    if !cls w then s
    else match programCause s w with
    | some c => programError s c
    | none =>
      match dueGranule s with
      | none => s
      | some g =>
        let a := dispatchEntry s (w % 256)
        if io.uc = 2 then ucDeath s g io a
        else
          let s := ucRead s io.uc
          if (aFind s.uc.dispatch (w % 256)).isSome then streamWord (s.setUc { s.uc with operand := w >>> 8 }) io g a
          else body (s.setUc { s.uc with lastUpc := a, inRoutine := false }) w g

/-- Opcodes of R144. -/
def opIs (k : Nat) (w : Nat) : Bool := w % 256 == k

/-- VEC, and every encoding that no other row's class takes: reserved opcodes and EYE ACTION 3 (R143). -/
def vecClass (w : Nat) : Bool :=
  let op := w % 256
  op == 0 || (decide (0x10 ≤ op) && decide (op < 0xE0)) || (op == 0x0E && field w 9 8 == 3)

/-- VEC (R144). -/
def vec (s : State) (io : Io) : State :=
  issueRow s io vecClass (fun s _ g => goNext (playOne s io g))

/-- One issue of RPT (R151). -/
def rpt (s : State) (io : Io) : State :=
  issueRow s io (opIs 1) (fun s w g =>
    let s := playOne s io g
    if s.seq.made = field w 63 32 then s.setSeq { s.seq with wait := .repeatDone } else goAgain s)

/-- After the last repeat control continues to the next granule (R151). -/
def rptCountEnd (s : State) : State :=
  if running s && s.seq.wait == .repeatDone then goNext (s.setSeq { s.seq with wait := .none }) else s

/-- LOOP: entered from outside it pushes an entry and may open its body in the loop cache (R152, R171, R209). -/
def loop (s : State) (io : Io) : State :=
  issueRow s io (opIs 2) (fun s w g =>
    let s := playOne s io g
    let s := if s.seq.back then s
      else
        let l := s.seq.seg
        let s := s.setSeq { s.seq with loops := ⟨field w 63 32, l⟩ :: s.seq.loops }
        if bit w 8 then openBody s l else s
    goNext s)

/-- ENDL (R154, R210). -/
def endl (s : State) (io : Io) : State :=
  issueRow s io (opIs 3) (fun s w g =>
    let s := playOne s io g
    match s.seq.loops with
    | [] => s
    | e :: r =>
      if e.rem = 0 then
        endTo (releaseBodies (s.setSeq { s.seq with loops := r })) (s.seq.after s.seq.seg) false
      else
        let s := s.setSeq { s.seq with loops := ⟨e.rem - 1, e.seg⟩ :: r }
        endTo s (some (field w 31 16)) true)

/-- CALL (R155). -/
def call (s : State) (io : Io) : State :=
  issueRow s io (opIs 4) (fun s w g =>
    let s := playOne s io g
    let s := s.setSeq { s.seq with calls := s.seq.after s.seq.seg :: s.seq.calls }
    endTo s (some (field w 31 16)) false)

/-- RET (R155). -/
def ret (s : State) (io : Io) : State :=
  issueRow s io (opIs 5) (fun s _ g =>
    let s := playOne s io g
    match s.seq.calls with
    | [] => s
    | t :: r => endTo (s.setSeq { s.seq with calls := r }) t false)

/-- JMP (R156). -/
def jmp (s : State) (io : Io) : State :=
  issueRow s io (opIs 6) (fun s w g => endTo (playOne s io g) (some (field w 31 16)) false)

/-- Sample the condition of a JIF or MATCH in the cycle of its issue, and play it: the test, and the state after
(R157, R201). -/
def sampleAndPlay (s : State) (io : Io) (w : Nat) (g : Granule) : Bool × State :=
  let r := cycleBegin s
  let k := field w 11 8
  let v := condition r.1 k != bit w 12
  (v, cyclePlay (consume r.1 k) r.2 g io.pins)

/-- JIF (R157). -/
def jif (s : State) (io : Io) : State :=
  issueRow s io (opIs 7) (fun s w g =>
    let r := sampleAndPlay s io w g
    if r.1 then endBranch r.2 (field w 31 16) else goNext r.2)

/-- Whether a waiting instruction has made its last permitted issue (R158, R159). -/
def waitOn (s : State) (w : Nat) (test : Bool) : State :=
  if test then goNext s
  else if s.seq.made = field w 63 32 then s.setSeq { s.seq with wait := .timedOut }
  else goAgain s

/-- One issue of MATCH (R158, R159). -/
def matchIssue (s : State) (io : Io) : State :=
  issueRow s io (opIs 8) (fun s w g =>
    let r := sampleAndPlay s io w g
    waitOn r.2 w r.1)

/-- The word of the instruction that has timed out, when it is of opcode `k`. -/
def timedOutWord (s : State) (k : Nat) : Option Nat :=
  if running s && s.seq.wait == .timedOut then
    match dueWord s with
    | some w => if w % 256 = k then some w else none
    | none => none
  else none

/-- A MATCH or SYNCW has timed out: its flag is set and control goes to TARGET, or a jump lands (R158, R176). -/
def timeoutTo (s : State) (k flag : Nat) : State :=
  match timedOutWord s k with
  | some w =>
    let s := (s.setSeq { s.seq with wait := .none, markSeen := false }).setFlag K.SEQ_FLAGS flag true
    endBranch s (field w 31 16)
  | none => s

/-- MATCH times out (R158). -/
def matchTimeout (s : State) : State := timeoutTo s 8 0

/-- One issue of SYNCW (R161). -/
def syncw (s : State) (io : Io) : State :=
  issueRow s io (opIs 0x0B) (fun s w g =>
    let seen := s.seq.markSeen
    let s := playOne s io g
    let s := if seen then s.setSeq { s.seq with markSeen := false } else s
    waitOn s w seen)

/-- SYNCW times out (R161). -/
def syncwTimeout (s : State) : State := timeoutTo s 0x0B 1

/-- SYNCS: one MARK message, starting in the cycle of its issue (R161). -/
def syncs (s : State) (io : Io) : State :=
  issueRow s io (opIs 0x0C) (fun s w g => goNext (playOne (ringMark s (field w 15 8)) io g))

/-- A HOLD that has issued ends: a jump request is pending with D of 8 or more (R178). -/
def holdOver (s : State) : Bool :=
  decide (1 ≤ s.seq.made) && (match s.seq.jump with | some j => decide (8 ≤ j.d) | none => false)

/-- One issue of HOLD (R162). -/
def hold (s : State) (io : Io) : State :=
  issueRow s io (fun w => opIs 9 w && !holdOver s) (fun s _ g => goAgain (playOne s io g))

/-- HOLD ends its segment (R178). -/
def holdEnd (s : State) : State :=
  match dueWord s with
  | some w => if running s && s.seq.wait == .none && opIs 9 w && holdOver s then goNext s else s
  | none => s

/-- TSET (R163). -/
def tset (s : State) (io : Io) : State :=
  issueRow s io (opIs 0x0A) (fun s w g =>
    goNext (playOne (tsetAction s (field w 13 8) (field w 27 16)) io g))

/-- MARK (R164). -/
def mark (s : State) (io : Io) : State :=
  issueRow s io (opIs 0x0D) (fun s w g =>
    goNext (playOne (markAction s (field w 9 8) (field w 21 16) (field w 43 32)) io g))

/-- EYE with an action (R165, R403). -/
def eye (act : Nat) (s : State) (io : Io) : State :=
  issueRow s io (fun w => opIs 0x0E w && field w 9 8 == act) (fun s _ g =>
    goNext (playOne (eyeAction s act s.seq.cycle) io g))

/-- HALT (R166). -/
def halt (s : State) (io : Io) : State :=
  issueRow s io (opIs 0x0F) (fun s w g =>
    endBurst ((playOne s io g).setNum K.HALT_CODE (field w 15 8)) 0x20)

/-- The boundary after a last issue that chose the missing successor (R170). -/
def fallOff (s : State) : State := if running s && s.seq.wait == .fallOff then fallOffEnd s else s

/-! ### Customer routines -/

/-- A user opcode dispatches to its entry and passes OPERAND (R167, R257). -/
def userOpcode (s : State) (io : Io) : State :=
  issueRow s io (fun w => decide (0xE0 ≤ w % 256)) (fun s w g =>
    streamWord (s.setUc { s.uc with operand := w >>> 8 }) io g (0x1800 + (w % 256 - 0xE0)))

/-- A shadow granule issues and the routine's next word runs (R259); at the last granule of the segment the routine
ends first and the granule's own instruction is dispatched (R260). -/
def shadowGranule (s : State) (io : Io) : State :=
  if !running s || s.seq.wait != .none || deferDue s then s
  else match s.uc.routine with
  | none => s
  | some pc =>
    if atLast s then
      (s.inc K.UR_CUT).setUc { s.uc with routine := none, deferred := none }
    else match dueGranule s with
    | none => s
    | some g => if io.uc = 2 then ucDeath s g io pc else streamWord (ucRead s io.uc) io g pc

/-! ### Fetching -/

/-- SEQ_STATE in which granules are fetched. -/
def fetching (s : State) : Bool := seqState s == 3 || seqState s == 4

/-- Data in flight reach the wellheads but for those of the tiles in `late`, and the fetch front brings `n` further granules,
whose data these tiles receive later (R182, R215). -/
def granuleFetch (s : State) (n : Nat) (late : List Nat) (ups : List Upset) : State :=
  if fetching s then
    let late := late.filter (tileFetchesNow s)
    fetchMany late (cacheUpset ups) n (arrive (ups.foldl applyUpset s) late)
  else s

/-- Priming of the next segment entry's targets starts (R188). -/
def primingStart (s : State) : State := if fetching s then primeStart s else s

/-- A target is primed (R190). -/
def primingComplete (s : State) (entry k : Nat) (ups : List Upset) : State :=
  if fetching s then primeComplete (ups.foldl applyUpset s) entry k (cacheUpset ups) else s

/-- The jump reserve is full (R194). -/
def jumpReserveFilled (s : State) (ups : List Upset) : State :=
  if fetching s then reserveFill (ups.foldl applyUpset s) (cacheUpset ups) else s

/-- Evicted heads are loaded again after a body's release, while the loop cache has power (R185). -/
def headReload (s : State) : State :=
  if s.seq.reload && s.flag K.READY 4 && decide (seqState s ≠ 0) && decide (seqState s ≠ 2) then reloadHeads s else s

/-- The missing granule comes from the loop cache in time: since a restart at a resident head the front has read the cache
alone (R193). -/
def cacheSure (s : State) : Bool :=
  let f := s.seq.front
  f.sure && !f.stopped && (cachedAt s.seq).isSome && s.seq.side.isEmpty && s.seq.stream.isEmpty

/-- The DRY_SOURCE code of the issue due, when something it needs is missing (R193, R215, R219). -/
def dryCode (s : State) : Option Nat :=
  match dueHead s with
  | some g =>
    let c := min g.lost (min (deafTile s) (lateTile s g))
    if c = 0x80 then none else some c
  | none => if cacheSure s then none else some (min 0x10 (lowestTile (tileFetchesNow s)))

/-- An issue falls due without its instruction, its data, its priming or its reserve (R215, R216, R232). -/
def dryWellRow (s : State) : State :=
  if !running s || s.seq.wait != .none then s
  else match dryCode s with
  | none => s
  | some c =>
    match if s.uc.routine.isSome then none else judgeDue s with
    | some s' => s'
    | none => dryWell s c

end Sys2Proof.Machine
end

