-- ==== Sys2Proof/Machine/Trap.lean ====
section
/-! DEFINITION. Micro-traps (R269–R282) and the control store's other commands: TRAP_CMD, the scrubber, customer
images and patches (R243–R247, R262–R268, R283–R286). -/

namespace Sys2Proof.Machine

/-! ### Taking a trap -/

/-- The length of a vendor handler, within the bound of R269: FAULT, RING and SNAP. -/
def handlerLen (s : State) (cause : Nat) : Nat :=
  let longest := if cause = 0 then 48 else if cause = 1 then 8 else 24
  Config.handlerLength cause (s.num K.TRAPS) % longest + 1

/-- A trap can be taken: a cause is pending, TRAP_DEFER is clear, and the stream context has chosen its next granule
(R270). -/
def trapReady (s : State) : Bool :=
  running s && s.num K.TRAP_PENDING != 0 && s.uc.deferred.isNone && s.seq.wait == .none && s.seq.last.isSome

/-- The word the stream context executes on resumption (R273). -/
def resumeUpc (s : State) : Nat :=
  match s.uc.routine with
  | some pc => pc
  | none => dispatchEntry s ((dueWord s).getD (instrWord s (s.seq.index s.seq.seg s.seq.off)) % 256)

/-- The frame saved at a trap for some causes (R273). -/
def trapFrame (s : State) (causes : Nat) : Bytes :=
  let flags := znc s + 8 * ofBool s.uc.inRoutine + 16 * ofBool (customerAddr s.uc.lastUpc)
  frameBytes s (resumeUpc s) flags causes (s.seq.index s.seq.seg s.seq.off) s.seq.seg

/-- A trap is taken for every pending cause: the frame is saved, and the handlers are to run in the order of R269. A SYNCW
that has not issued sees no message of this cycle or an earlier one (R161). -/
def trapTake (s : State) : State :=
  if !trapReady s then s
  else
    let causes := s.num K.TRAP_PENDING
    let s := ((s.setBlob K.TRAP_FRAME (trapFrame s causes)).setNum K.TRAP_PENDING 0).inc K.TRAPS
    let s := if bit causes 0 then
        s.setFlt { s.flt with fenceNext := s.flt.fenceNext ++ s.flt.fenceWait, fenceWait := [] } else s
    let s := s.setSeq { s.seq with markSeen := s.seq.markSeen && decide (s.seq.made ≠ 0) }
    s.setUc { s.uc with trap := some {
      causes := causes, gone := 0, todo := setBits causes 4, ran := 0, restored := 0, pc := s.uc.userVec, overran := false,
      u := s.uc.u, z := s.uc.z, n := s.uc.n, c := s.uc.c } }

/-! ### A trap's cycles (R271) -/

/-- The trap in progress has changed. -/
def setTrap (s : State) (t : Trap) : State := s.setUc { s.uc with trap := some t }

/-- The handler at the front has ended; the next one follows. -/
def handlerDone (s : State) (t : Trap) : State := setTrap s { t with todo := t.todo.tail, ran := 0 }

/-- What a vendor handler has done when its last word has run: FAULT writes the burst position, RING TIME_SNAP, SNAP
SNAPSHOT (R269, R278, R287, R557). -/
def vendorEffect (s : State) (cause : Nat) : State :=
  if cause = 0 then recordPosition s
  else if cause = 1 then timeSnap s
  else (s.setBlob K.SNAPSHOT (s.blob K.TRAP_FRAME ++ snapTail s)).setFlag K.TRAP_CMD 0 false

/-- The trap context reads the word at an address: corrected it is counted; uncorrectable it is not executed and the burst
ends (R244, R245). -/
def trapRead (s : State) (uc a : Nat) (f : State → State) : State :=
  if uc = 2 then endBurst (ucBad s a) 0x23 else f (ucRead s uc)

/-- One word of a vendor handler. -/
def vendorWord (s : State) (t : Trap) (cause : Nat) : State :=
  if t.ran + 1 < handlerLen s cause then setTrap s { t with ran := t.ran + 1 } else handlerDone (vendorEffect s cause) t

/-- One word of the USER handler (R275, R276): at END its result is copied; at its 256th word without END it waits for
TRAP_OVERRUN; a next address outside the customer region is a program error (R261). -/
def userWord (s : State) (t : Trap) : State :=
  let w := microWord s t.pc
  let next := nextUpc s t.pc w (microCond s w true false)
  let s := linkStep (aluStep (ringOpStep s w) w) t.pc w
  if bit w 24 then
    handlerDone (((s.setNum K.USER_RESULT (ureg s 0)).inc K.USER_DONE).setFlag K.TRAP_CMD 1 false) t
  else if !customerAddr next then programError s 1
  else setTrap s { t with ran := t.ran + 1, pc := next, overran := t.ran + 1 == 256 }

/-- One cycle of the trap context: the frame is saved in two, each handler word takes one, the frame is restored in two, and
then the stream context goes on and the fences the trap carries apply (R271, R274, R561). -/
def trapStep (s : State) (uc : Nat) (t : Trap) : State :=
  if t.gone < 2 then setTrap s { t with gone := t.gone + 1 }
  else match t.todo with
  | 3 :: _ => trapRead s uc t.pc (fun s => userWord s t)
  | k :: _ => trapRead s uc (Config.handlerAddr k t.ran % 0x1800) (fun s => vendorWord s t k)
  | [] =>
    if t.restored = 0 then setTrap s { t with restored := 1 }
    else
      let l := s.flt.fenceNext
      let s := s.setUc { s.uc with u := t.u, z := t.z, n := t.n, c := t.c, trap := none }
      fenceWaited (s.setFlt { s.flt with fenceNext := [] }) l

/-- The handlers have all run. -/
def trapServed (t : Trap) : Bool := decide (2 ≤ t.gone) && t.todo.isEmpty

/-- With the handlers served a halt latched during the trap ends the burst: the frame is discarded (R277). -/
def trapHalt (s : State) : State :=
  match s.uc.trap, s.uc.haltAfter with
  | some t, some c => if trapServed t then endBurst s c else s
  | _, _ => s

/-- A cycle without an issue: the lines move, the trap context makes its step, the pins replay the hold granule (R203,
R271, R272). -/
def trapCycle (s : State) (io : Io) (g : Granule) (t : Trap) : State :=
  let r := cycleBegin s
  let k := s.seq.replays + 1
  let s := playAll (capOpen r.1 g k) ⟨s.seq.cycle, s.num K.ISSUES - 1, k, g, true, true⟩ io.pins
  let s := capPrune (s.setSeq { s.seq with cycle := s.seq.cycle + 1, replays := k })
  let s := trapStep (s.add 64 K.TRAP_CYCLES 1) io.uc t
  trapHalt (countersCycle s false r.2)

/-- The trap goes on for at most some cycles: until it ends, or until USER has run 256 words without END. -/
def trapRun : Nat → List Io → State → State
  | 0, _, s => s
  | n + 1, ios, s =>
    match s.uc.trap, s.seq.last with
    | some t, some g => if t.overran then s else trapRun n ios.tail (trapCycle s (ios.headD ⟨[], 0⟩) g t)
    | _, _ => s

/-- TRAP_TAKEN: a trap is taken where one can be, and its first two cycles save the frame while the pins replay the hold
granule (R270–R273). -/
def trapTaken (s : State) (ios : List Io) : State := if trapReady s then trapRun 2 ios (trapTake s) else s

/-- TRAP_RESUME: the other cycles of the trap pass, no more than 48 + 8 + 24 + 256 of handlers and 2 of the restore (R269,
R271, R274). -/
def trapResume (s : State) (ios : List Io) : State := trapRun 338 ios s

/-- A USER handler that has run 256 words without END is ended, and the trap continues (R276). -/
def trapOverrun (s : State) : State :=
  match s.uc.trap with
  | some t =>
    if t.overran then
      trapHalt (handlerDone ((s.inc K.TRAP_OVERRUNS).setFlag K.TRAP_CMD 1 false) { t with overran := false })
    else s
  | none => s

/-- TRAP_DEFER has been set for 64 microwords: it clears, and a pending trap is taken (R281). -/
def deferOverrun (s : State) (ios : List Io) : State :=
  if running s && deferDue s then trapTaken ((s.inc K.DEFER_OVERRUNS).setUc { s.uc with deferred := none }) ios else s

/-! ### TRAP_CMD -/

/-- TRAP_CMD.SNAP: a cause in RUNNING; in any other state it is served at once and its bit clears (R278, R279). -/
def snapCmd (s : State) : State :=
  if seqState s = 4 then (s.setFlag K.TRAP_PENDING 2 true).setFlag K.TRAP_CMD 0 true
  else ((snapNow s).setFlag K.TRAP_PENDING 2 false).setFlag K.TRAP_CMD 0 false

/-- TRAP_CMD.USER: the cause takes the present UTRAP_VEC (R279). -/
def userCmd (s : State) : State :=
  if s.flag K.TRAP_PENDING 3 then s
  else
    let s := s.setUc { s.uc with userVec := s.num K.UTRAP_VEC }
    (s.setFlag K.TRAP_PENDING 3 true).setFlag K.TRAP_CMD 1 true

/-! ### The scrubber -/

/-- The scrubber reads its next word: clean, corrected, or uncorrectable (R243, R244, R247). -/
def scrubRead (s : State) (outcome : Nat) : State :=
  if domState s 3 = 0 then s
  else
    let a := s.uc.scrub
    let s := s.setUc { s.uc with scrub := (a + 1) % 0x2000 }
    if outcome = 1 then s.inc K.UC_CORRECTED
    else if outcome = 2 ∨ s.uc.bad.contains a then
      let s := s.setUc { s.uc with bad := if s.uc.bad.contains a then s.uc.bad else a :: s.uc.bad }
      clearReady (ucBad s a) [3]
    else s

/-- Words were rewritten: errors in them are gone, and SEQ sets again when none is left (R247). -/
def ucRewritten (s : State) (p : Nat → Bool) : State :=
  let had := !s.uc.bad.isEmpty
  let s := s.setUc { s.uc with bad := s.uc.bad.filter (fun a => !p a) }
  if had && s.uc.bad.isEmpty && domOn s 3 then setReady s 3 else s

/-! ### Customer images -/

/-- A customer microword passes the field check (R263). -/
def fieldsOk (w : Nat) : Bool :=
  let op := field w 15 13
  let alu_ := field w 30 27
  let iss := field w 23 22
  let uc := field w 20 16
  let flag := field w 111 108
  field w 255 128 == 0 && field w 127 116 == 0 && field w 83 80 == 0 && decide (op ≤ 4) &&
  (decide (uc ≤ 20) || uc == 31) && (iss == 0 || (iss == 2 && bit w 24)) && decide (field w 26 25 ≤ 2) &&
  decide (alu_ ≤ 9) && decide (field w 79 76 ≤ 9) && decide (field w 87 84 ≤ 3) &&
  !(field w 87 84 == 3 && field w 101 100 == 3) && (flag == 0 || flag == 3) && decide (field w 115 112 ≤ 1) &&
  (!(op == 1 || op == 2 || op == 3) || decide (0x1800 ≤ field w 12 0))

/-- The words of a customer image (R262). -/
def imageWords (d : Bytes) : List Nat :=
  (List.range (fieldAt d 6 2)).map (fun i => fieldAt d (256 + 32 * i) 32)

/-- Check 1 of R264. -/
def custHeaderOk (d : Bytes) : Bool :=
  d.take 4 == [0x55#8, 0x43#8, 0x49#8, 0x4D#8] && fieldAt d 4 2 == 1 && fieldAt d 10 2 == 0 &&
  (d.drop 24).take 100 == zeros 100 && d.length == 256 + 32 * fieldAt d 6 2

/-- Check 2 of R264. -/
def custRangeOk (d : Bytes) : Bool :=
  let n := fieldAt d 6 2
  let b := fieldAt d 8 2
  decide (1 ≤ n) && decide (n ≤ 2048) && decide (0x1800 ≤ b) && decide (b + n ≤ 0x2000) &&
  (setBits (fieldAt d 12 4) 32).all (fun k => decide (b ≤ 0x1800 + k) && decide (0x1800 + k < b + n))

/-- The first check of R264 that an image fails: CUST_STATUS and CUST_ERR_ADDR; 0 when all pass. -/
def custCheck (s : State) (d : Bytes) : Nat × Nat :=
  let key := s.blob (K.CUST_KEY0 + fieldAt d 16 4)
  let forced := s.num K.UC_ENFORCE == 1
  if !custHeaderOk d then (1, 0)
  else if !custRangeOk d then (2, 0)
  else if fieldAt d 20 4 != crc32c (d.drop 256) then (3, 0)
  else if forced && (decide (8 ≤ fieldAt d 16 4) || key.isEmpty) then (4, 0)
  else if forced && !Config.ecdsaVerify key (d.take 124 ++ d.drop 256) ((d.drop 124).take 132) then (5, 0)
  else match (imageWords d).findIdx? (fun w => !fieldsOk w) with
    | some i => (6, fieldAt d 8 2 + i)
    | none => (0, 0)

/-- The customer region is set to 0 and UENTRY_MAP cleared (R265). -/
def custClear (s : State) : State :=
  let s := s.setUc { s.uc with store := s.uc.store.filter (fun p => !customerAddr p.1) }
  let s := s.setNum K.UENTRY_MAP 0
  ucRewritten s customerAddr

/-- Write words from an address on; words of 0 stay unlisted. -/
def storeWords (m : Assoc Nat) (a : Nat) : List Nat → Assoc Nat
  | [] => m
  | w :: r => storeWords (if w = 0 then aDel m a else aPut m a w) (a + 1) r

/-- CUST_LOAD: answers whether every check passed (R264). -/
def custLoad (s : State) : Bool × State :=
  let d := s.blob K.CUST_IMAGE
  let r := custCheck s d
  let s := s.setNum K.CUST_STATUS r.1
  if r.1 ≠ 0 then (false, if r.1 = 6 then s.setNum K.CUST_ERR_ADDR r.2 else s)
  else
    let s := custClear s
    let s := s.setUc { s.uc with store := storeWords s.uc.store (fieldAt d 8 2) (imageWords d) }
    (true, s.setNum K.UENTRY_MAP (fieldAt d 12 4))

/-! ### Patches -/

/-- Check 2 HEADER of R284. -/
def patchHeaderOk (d : Bytes) : Bool :=
  d.take 4 == [0x53#8, 0x4B#8, 0x50#8, 0x43#8] && fieldAt d 4 2 == 1 && fieldAt d 6 2 == 256 &&
  (d.drop 56).take 68 == zeros 68 && decide (4 ≤ fieldAt d 20 4) && decide (fieldAt d 20 4 ≤ 73728) &&
  decide (256 + fieldAt d 20 4 ≤ d.length)

/-- Check 3 MISMATCH. -/
def patchTargetOk (s : State) (d : Bytes) : Bool :=
  fieldAt d 8 4 == 0x961200B0 && fieldAt d 12 4 == s.num K.ROM_ID

/-- The ciphertext of a container. -/
def patchBody (d : Bytes) : Bytes := (d.drop 256).take (fieldAt d 20 4)

/-- The plaintext of a container, when its tag is correct under its key slot (R283, R654). -/
def patchPlain (d : Bytes) : Option Bytes :=
  if 4 ≤ fieldAt d 52 4 then none
  else Config.gcmOpen (fieldAt d 52 4) ((d.drop 24).take 12) (d.take 124) (patchBody d) ((d.drop 36).take 16)

/-- Apply the records of a plaintext to patch RAM and the dispatch table; none where one is out of range or the
plaintext does not end in a record of COUNT 0 (R283, R284). -/
def patchRecords : Nat → Bytes → Assoc Nat × Assoc Nat → Option (Assoc Nat × Assoc Nat)
  | 0, _, _ => none
  | fuel + 1, d, acc =>
    let a := fieldAt d 0 2
    let n := fieldAt d 2 2
    if d.length < 4 then none
    else if n = 0 then some acc
    else if a = 0xFFFF then
      let es := (List.range n).map (fun i => (fieldAt d (4 + 4 * i) 1, fieldAt d (5 + 4 * i) 1, fieldAt d (6 + 4 * i) 2))
      if d.length < 4 + 4 * n ∨ es.any (fun e => decide (0xE0 ≤ e.1) || e.2.1 != 0 || decide (0x2000 ≤ e.2.2)) then none
      else patchRecords fuel (d.drop (4 + 4 * n)) (acc.1, es.foldl (fun t e => aPut t e.1 e.2.2) acc.2)
    else if 0x1000 ≤ a ∧ a + n ≤ 0x1800 ∧ 4 + 32 * n ≤ d.length then
      let ws := (List.range n).map (fun i => fieldAt d (4 + 32 * i) 32)
      patchRecords fuel (d.drop (4 + 32 * n)) (storeWords acc.1 a ws, acc.2)
    else none

/-- The PATCH_STATUS of a container under checks 2–7 of R284, with what its records write when it is 0. -/
def patchCheck (s : State) (d : Bytes) : Nat × Option (Assoc Nat × Assoc Nat) :=
  if !patchHeaderOk d then (2, none)
  else if !patchTargetOk s d then (3, none)
  else if fieldAt d 16 4 < s.num K.PATCH_FLOOR then (4, none)
  else if !Config.ecdsaVerify (Config.vendorKey 1) (d.take 124 ++ patchBody d) ((d.drop 124).take 132) then (5, none)
  else match patchPlain d with
    | none => (6, none)
    | some p =>
      match patchRecords (p.length + 1) p ([], []) with
      | none => (7, none)
      | some r => (0, some r)

/-- A slot of the patch store: slot A is `true`. -/
def patchSlot (s : State) (a : Bool) : Bytes := if a then s.trust.patchA else s.trust.patchB

/-- The slot cannot be read: bit 0 of `bad` is slot A's, bit 1 slot B's (check 8 of R284). -/
def slotBad (bad : Nat) (a : Bool) : Bool := bit bad (if a then 0 else 1)

/-- The slot holds a container that passes checks 2, 3 and 8 (R285). -/
def patchCandidate (s : State) (bad : Nat) (a : Bool) : Bool :=
  !slotBad bad a && patchHeaderOk (patchSlot s a) && patchTargetOk s (patchSlot s a)

/-- The slot of the newest patch; none without a candidate (R285). -/
def patchNewest (s : State) (bad : Nat) : Option Bool :=
  let level (a : Bool) : Nat := fieldAt (patchSlot s a) 16 4
  match patchCandidate s bad true, patchCandidate s bad false with
  | true, true => some (decide (level false ≤ level true))
  | true, false => some true
  | false, true => some false
  | false, false => none

/-- The slot that does not hold the newest patch (R286). -/
def patchTarget (s : State) (bad : Nat) : Bool := !(patchNewest s bad).getD false

/-- Load what a container's records write (R284). -/
def patchApply (s : State) (d : Bytes) (r : Assoc Nat × Assoc Nat) : State :=
  let keep := s.uc.store.filter (fun p => customerAddr p.1)
  let s := s.setUc { s.uc with store := keep.foldl (fun m p => aPut m p.1 p.2) r.1, dispatch := r.2 }
  s.setNums [(K.PATCH_LEVEL, fieldAt d 16 4), (K.PATCH_STATUS, 0)]

/-- The PATCH_STATUS of a slot under checks 2–8: the records it loads when it is 0. -/
def slotCheck (s : State) (bad : Nat) (a : Bool) : Nat × Option (Assoc Nat × Assoc Nat) :=
  let r := patchCheck s (patchSlot s a)
  if r.1 = 0 ∧ slotBad bad a then (8, none) else r

/-- No container is loaded: PATCH_STATUS says why, and the check that failed raises its source (R284). -/
def patchFailed (s : State) (c : Nat) : State := (s.setNum K.PATCH_STATUS c).raise (if c = 8 then 0x7E else 0x7F)

/-- At a start that loads the firmware the boot firmware checks the newest patch, and the other slot once when it fails
a later check (R284, R285). Patch RAM is rewritten whatever the outcome (R247). -/
def patchLoad (s : State) (bad : Nat) : State :=
  let s := s.setUc { s.uc with store := s.uc.store.filter (fun p => customerAddr p.1), dispatch := [] }
  let s := s.setNum K.PATCH_LEVEL 0
  match patchNewest s bad with
  | some a =>
    let r := slotCheck s bad a
    match r.2, (slotCheck s bad !a).2 with
    | some x, _ => patchApply s (patchSlot s a) x
    | none, some x => patchApply s (patchSlot s !a) x
    | none, none => patchFailed s r.1
  | none =>
    if (patchSlot s true).isEmpty && (patchSlot s false).isEmpty then s.setNum K.PATCH_STATUS 1
    else
      let c := (patchCheck s (patchSlot s (!(patchSlot s true).isEmpty))).1
      patchFailed s (if c = 2 ∨ c = 3 then c else 8)

/-- PATCH_INSTALL: the container is checked against checks 2–7; one that passes is written, and the outcome waits for the
end of the write (R286). -/
def patchInstall (s : State) : State :=
  let d := s.blob K.PATCH_IMAGE
  let s := s.setFlag K.UC_CMD 0 true
  s.setTrust { s.trust with patchJob := some d }

/-- The write of a container that passed is in the slot that does not hold the newest patch (R286). -/
def patchPut (s : State) (bad : Nat) (d : Bytes) : Trust :=
  if patchTarget s bad then { s.trust with patchA := d } else { s.trust with patchB := d }

/-- The write completes, the slots readable or not: the bit clears and INSTALL_STATUS reports the outcome (R286). -/
def patchInstallDone (s : State) (bad : Nat) : State :=
  match s.trust.patchJob with
  | none => s
  | some d =>
    let c := (patchCheck s d).1
    let code := if c = 0 ∧ slotBad bad (patchTarget s bad) then 8 else c
    let tr := if c = 0 then patchPut s bad d else s.trust
    ((s.setTrust { tr with patchJob := none }).setNum K.INSTALL_STATUS code).setFlag K.UC_CMD 0 false

/-- A power cut during a write of the patch store: the slot being written holds no container any more, the other is intact
(R286). -/
def patchCut (s : State) : Trust :=
  match s.trust.patchJob with
  | some d => if (patchCheck s d).1 = 0 then patchPut s 0 [0#8] else s.trust
  | none => s.trust

end Sys2Proof.Machine
end

