-- ==== Sys2Proof/Machine/Run.lean ====
section
/-! DEFINITION. Run, halt and jump requests (R226–R231), LOADING (R223, R224, R389), the first issue (R202, R384, R387,
R417), the end of DRAINING (R221) and a domain lost during a burst (R704). -/

namespace Sys2Proof.Machine

/-! ### Requests -/

/-- A run request in IDLE: LOADING, every channel in NORMAL (R226, R371). Answers whether it was accepted. -/
def runRequest (s : State) : Bool × State :=
  if seqState s ≠ 1 then (false, s.inc K.RUN_DISCARDED)
  else
    let s := (List.range 96).foldl (fun s c =>
      if s.num (atCh K.SC_MODE c) = 0 then s
      else enablePowered (s.setNum (atCh K.SC_MODE c) 0) c true true) s
    (true, (s.setSeq { s.seq with loaded := false }).setNum K.SEQ_STATE 2)

/-- A halt request of the host (R227, R232). -/
def hostHalt (s : State) : State := haltLatch s 0x21

/-- A request that finds a ring request latched in the same cycle gives way to it (R231). -/
def ringPrecedes (s : State) (ring : Bool) : Bool :=
  match s.seq.jump with
  | some j => j.ring && j.d == 0 && !ring
  | none => false

/-- A jump request of an entry from the host or the ring: the reply code, 0 where it is not rejected (R172, R175, R194,
R229–R231). Outside RUNNING the code is 7 whatever the entry (DESIGN CHOICE, log entry 110). -/
def jumpRequest (s : State) (entry : Nat) (ring : Bool) : Nat × State :=
  if seqState s ≠ 4 then (7, s.inc K.JUMPS_REJECTED)
  else if !bit s.seq.jtValid entry then (8, s.inc K.JUMPS_REJECTED)
  else if ring && s.num K.RING_JUMP_EN == 0 then (7, s.inc K.JUMPS_REJECTED)
  else if ringPrecedes s ring then (0, s.inc K.JUMPS_REPLACED)
  else
    let s := if s.seq.jump.isSome then s.inc K.JUMPS_REPLACED else s
    let s := s.setSeq { s.seq with jump := some ⟨entry, ring, 0⟩ }
    (0, reserveStart s ((s.seq.jumpTable[entry]?).getD 0))

/-! ### LOADING -/

/-- A wait of R393, R514 or R648 holds LOADING before its first step. -/
def loadingHeld (s : State) : Bool :=
  s.cis.summaryDue || !s.cal.todo.isEmpty || !s.cal.pending.isEmpty || !s.cal.pendPi.isEmpty ||
  s.num K.THERM_STATE == 1

/-- The run is refused with a cause: IDLE without an issue (R224). -/
def refuseRun (s : State) (cause : Nat) : State :=
  (s.setNums [(K.SEQ_STATE, 1), (K.END_CAUSE, cause)]).evBurst

/-- The domains, stacks and tiles a run needs are there (R224). -/
def runDomainsOk (s : State) : Bool :=
  s.num K.TICK_STATE == 2 && s.flag K.READY 3 && s.flag K.READY 4 && regionReady s 0 &&
  (List.range 96).all (fun c => liveRole s c == 0 || tileReady s (tileOf c))

/-- The least cistern size for a capture mode (R389). -/
def cisMinimum (mode : Nat) : Nat := if mode = 0 then 4096 else if mode = 3 then 25432064 else 8192

/-- The cistern region is short (R389). -/
def cisShort (s : State) : Bool :=
  !regionReady s 1 || decide (regionSize s.mem 1 < cisMinimum (s.num K.CAP_MODE))

/-- LOADING notes whether the region is short; a short one sets SHORT_REGION and OVERFLOW (R389). -/
def checkCistern (s : State) : State :=
  let short := cisShort s
  let s := s.setCis { s.cis with short := short }
  if short then (s.setFlag K.CAP_FLAGS 3 true).setFlag K.CAP_FLAGS 0 true else s

/-- Heads are loaded in class order until the first that does not fit; one that memory does not deliver stays absent
(R184, R220). -/
def loadingHeads (s : State) : State :=
  let order := headOrder s.seq
  let q := { s.seq with headOrder := order, heads := [], evicted := [], reload := false, bodies := [] }
  reportHeads ((loadHeads q order []).foldl loadHead (s.setSeq q))

/-- The targets of ENTRY are primed and the wellheads filled to START_FILL (R223); an upset of the loop cache meets the reads
of target k from granule 16k on, and those of the filling from granule 48 on (R220). -/
def loadingFill (s : State) (u : Option (Nat × Nat × Nat)) : State :=
  let q := s.seq
  let f : Front := { Front.init with seg := q.entrySeg, entry := 1, stopped := false }
  let s := s.setSeq { q with
    seg := q.entrySeg, off := 0, entry := 1, back := false, made := 0, wait := .none, markSeen := false, last := none,
    loops := [], calls := [], cycle := 0, side := [], stream := [], front := f, primeQueue := [(1, q.entrySeg)],
    primed := [], jump := none, reserve := none, replays := 0 }
  let s := primeStart s
  let s := (List.range 3).foldl (fun s k => primeComplete s 1 k (upsetAfter (16 * k) u)) s
  fetchMany [] (upsetAfter 48 u) (s.num K.START_FILL) s

/-- LOADING carries out its steps (R223): checks, heads, priming, filling, or refusal with the first failing check. -/
def loadingBegin (s : State) (ups : List Upset) : State :=
  if seqState s ≠ 2 ∨ s.seq.loaded ∨ loadingHeld s then s
  else
    let s := ups.foldl applyUpset s
    let a := s.num K.IMAGE_ADDR
    let h := imageHeader s a
    let ta := a + fieldAt h 24 8
    let tn := fieldAt h 8 4 * 16
    if a % 4096 ≠ 0 ∨ !inRegion s.mem 0 a 256 then refuseRun s 0x17
    else if !runDomainsOk s then refuseRun s 0x18
    else match badBlock s.mem a 256 with
    | some b => refuseRun (memUE s (b * 32)) 0x18
    | none =>
      if !headerOk h then refuseRun s 0x10
      else if !inRegion s.mem 0 a (fieldAt h 48 8) then refuseRun s 0x17
      else match if tn = 0 then none else badBlock s.mem ta tn with
      | some b => refuseRun (memUE s (b * 32)) 0x18
      | none =>
        let t := memRead s.mem ta tn
        match imageCheck s a h t with
        | some c => refuseRun s c
        | none =>
          let s := s.setSeq (loadImage s a h t)
          let s := s.setNum K.SEQ_FLAGS (clearBits (s.num K.SEQ_FLAGS) 0x17)
          let s := s.setNums ((List.range 12).map (fun t => (atTile K.WH_MIN t, 2032)))
          let s := loadingFill (loadingHeads (checkCistern s)) (cacheUpset ups)
          s.setSeq { s.seq with loaded := true }

/-! ### The first issue -/

/-- A channel's electronics at the first issue of a burst (R141, R304, R323, R326). -/
def chanFirst (s : State) (c : Nat) : Chan :=
  { s.chan c with
    dataVal := false, keep := 5, vec := none, short := none, fed := [], hold := none, alt := none, skipCmp := 0,
    tset := s.num (atCh K.DEF_TSET c), genCount := 0, genReg := 0,
    chk := if liveRole s c = 6 then 1 else 0, chkCount := 0, chkRx := 0, chkReg := 0, chkRun := 0, blkN := 0, blkFails := 0,
    words := [], later := [] }

/-- The counters of a channel at the first issue (R384). -/
def countersFirst (s : State) (c : Nat) : State :=
  let s := s.setNums [(atCh K.FF_ISSUE c, 2 ^ 64 - 1), (atCh K.FF_GRANULE c, 0xFFFFFFFF),
                      (atCh K.FF_SEGMENT c, 0xFFFF), (atCh K.FF_WORD c, 0xFF)]
  if s.flag K.CAP_CTRL 1 then s
  else s.setNums [(atCh K.ERR_COUNT c, 0), (atCh K.JUDGED c, 0), (atCh K.INV_COUNT c, 0), (atCh K.CNT_FLAGS c, 0)]

/-- Capture at the first issue (R387, R399, R417). -/
def captureFirst (s : State) : State :=
  let short := s.cis.short
  let s := s.setNums [
    (K.CAP_LEVEL, if short then 0 else s.num K.CAP_MODE),
    (K.CAP_FLAGS, if short then 9 else 0), (K.RECORDS, 0), (K.DEMOTED, 0), (K.LOST_RECORDS, 0),
    (K.R_POINTS_DONE, 0), (K.R_STATE, 0), (K.REC_END, 4096), (K.REC_OLDEST, 4096),
    (K.STEP1_ISSUE, 2 ^ 64 - 1), (K.STEP2_ISSUE, 2 ^ 64 - 1)]
  (s.setCis { s.cis with caps := [], next := 4096, recs := [], full := false, summaryDue := true, closed := [],
                               bins := [], startWord := 0, blankTo := 0, dwell := 0 })

/-- SEQ_STATE becomes RUNNING; the first issue is granule 0 of ENTRY, and its first tick is tick 0 (R202, R221, R223, R298,
R450). `at_` is the time of its granule origin. -/
def firstIssue (s : State) (at_ : Int) : State :=
  let s := (List.range 96).foldl (fun s c => countersFirst (s.setChan c (chanFirst s c)) c) s
  let s := captureFirst s
  let s := s.setSeq { s.seq with cnt := (List.range 4).map (fun i => s.num (K.CNT_LOAD0 + i)) }
  let s := s.setUc { s.uc with routine := none, deferred := none, trap := none, haltAfter := none }
  let s := s.setTb { s.tb with origin := at_ }
  whReport (s.setNums [(K.SEQ_STATE, 4), (K.ISSUES, 0), (K.RESTARTS, 0), (K.TRAP_CYCLES, 0)]).evBurst

/-- Loading is complete: ARMED with START_MODE 1, otherwise RUNNING (R221). -/
def loadingComplete (s : State) : State :=
  if seqState s = 2 ∧ s.seq.loaded then
    if s.num K.START_MODE = 1 then (s.setNum K.SEQ_STATE 3).evBurst else firstIssue s (now16 s)
  else s

/-! ### The end -/

/-- An entry of the capture holds a failure that has not been recorded. -/
def capsWaiting (s : State) : Bool := s.cis.caps.any capFailed

/-- Once the last compare results have reached the cistern queue, DRAINING ends (R221, R392). -/
def drainingEnd (s : State) : State :=
  if seqState s = 5 && !capsWaiting s then (s.setNum K.SEQ_STATE 1).evBurst else s

/-- Records and points not yet in the cistern region are lost; the summary that is due is written while the memory path
runs, and CAP_DONE sets (R704). -/
def captureLost (s : State) (path : Bool) : State :=
  let s := (s.setCis { s.cis with caps := [], queue := [] }).setNum K.CQ_LEVEL 0
  captureDone (if path && s.cis.summaryDue then summaryStore s else s)

/-- The sequencer stops where D02, D03 or D04 is off or TICK has stopped (R704). -/
def domainLoss (s : State) : State :=
  let off := domState s 3 == 0
  let st := seqState s
  let rest := if off then 0 else 1
  let s :=
    if st = 2 then s.setNum K.END_CAUSE 0x18
    else if st = 3 ∨ st = 4 then (burstOver (s.setNum K.SCHED (2 ^ 64 - 1))).setNum K.END_CAUSE 0x23
    else s
  let s := if st = 3 ∨ st = 4 ∨ st = 5 ∨ (off ∧ s.cis.summaryDue) then captureLost s !off else s
  let s := s.setNum K.SEQ_STATE rest
  if off then s else s.evBurst

/-- A domain turns off, with what follows for the sequencer (R632, R704). -/
def domOff (s : State) (d : Nat) : State :=
  let s := domDown s d
  if d = 2 ∨ d = 3 ∨ d = 4 then
    if seqState s = 1 ∧ d ≠ 3 then s else if seqState s = 0 then s else domainLoss s
  else s

/-- D02, D03 or D04 turns off, or TICK stops (any other number), during a burst (R704). -/
def domainLossRow (s : State) (d : Nat) : State :=
  let st := seqState s
  if st = 2 ∨ st = 3 ∨ st = 4 then
    if d = 2 ∨ d = 3 ∨ d = 4 then domOff s d else domainLoss ((clearReady s [2]).setNum K.TICK_STATE 0)
  else s

end Sys2Proof.Machine
end

