-- ==== Sys2Proof/Machine/Capture.lean ====
section
/-! DEFINITION. Fail records, their placement and their way into memory, and the burst summary (R391–R399,
R412–R415). -/

namespace Sys2Proof.Machine

/-- The channels of an entry that failed a judgement, ascending (R395). -/
def capFailing (x : IssueCap) : Assoc PinCap := x.pins.filter (fun p => p.2.failw != 0)

/-- The header of a record (R395). -/
def recordHeader (x : IssueCap) (kind rflags len : Nat) : Bytes :=
  let f := capFailing x
  let map := f.foldl (fun m p => m + 2 ^ p.1) 0
  leBytes 8 x.issue ++ leBytes 4 x.granule ++ leBytes 2 x.seg ++ leBytes 1 kind ++ leBytes 1 rflags ++
  leBytes 12 map ++ leBytes 2 f.length ++ leBytes 2 len

/-- A record at a level: FAILFLAG or FULL (R395, R396). -/
def recordBytes (x : IssueCap) (level mode : Nat) : Bytes :=
  let f := capFailing x
  let replay := ofBool (x.cyc != 0)
  let inval := 4 * ofBool (f.any (fun p => bit x.inv p.1))
  if level = 2 then
    recordHeader x 2 (replay + inval) (48 + 16 * f.length) ++ leBytes 12 x.inv ++ zeros 4 ++
      f.flatMap (fun p => leBytes 8 p.2.data ++ leBytes 8 p.2.failw)
  else recordHeader x 1 (replay + 2 * ofBool (mode == 2) + inval) 32

/-- Where a record of `len` bytes goes, with what fills the bytes left at a wrap; none where it is lost (R398). -/
def recordPlace (s : State) (len : Nat) : Option (Nat × List (Nat × Bytes)) :=
  let size := regionSize s.mem 1
  let at_ := s.cis.next
  if s.cis.full then none
  else if at_ + len ≤ size then some (at_, [])
  else if !s.flag K.CAP_CTRL 0 then none
  else
    let left := size - at_
    let pad := if left < 32 then zeros left
      else zeros 14 ++ leBytes 1 0 ++ zeros 15 ++ leBytes 2 left ++ zeros (left - 32)
    some (4096, if left = 0 then [] else [(at_, pad)])

/-- A record or point is lost whole (R413, R415). -/
def recordLost (s : State) : State := (s.add 64 K.LOST_RECORDS 1).setFlag K.CAP_FLAGS 0 true

/-- The capture level steps down when the queue reaches a threshold (R414). -/
def stepDown (s : State) (issue : Nat) : State :=
  let lvl := s.num K.CAP_LEVEL
  let cq := s.num K.CQ_LEVEL
  let go := (lvl == 2 && decide (196608 ≤ cq)) || (lvl == 1 && decide (229376 ≤ cq))
  if go then
    let k := if s.num K.STEP1_ISSUE = 2 ^ 64 - 1 then K.STEP1_ISSUE else K.STEP2_ISSUE
    (s.setNums [(K.CAP_LEVEL, lvl - 1), (k, issue)]).setFlag K.CAP_FLAGS 0 true
  else s

/-- A record of an entry is queued at the level in force when its last judgement was made, or lost (R398, R413–R415). -/
def recordQueue (s : State) (x : IssueCap) : State :=
  let lvl := x.level.getD (s.num K.CAP_LEVEL)
  let mode := s.num K.CAP_MODE
  if lvl ≠ 1 ∧ lvl ≠ 2 then recordLost s
  else
    let d := recordBytes x lvl mode
    match recordPlace s d.length with
    | none =>
      let s := s.setCis { s.cis with full := true }
      recordLost (s.setFlag K.CAP_FLAGS 1 true)
    | some (at_, pad) =>
      let wrapped := at_ == 4096 && s.cis.next != 4096
      let r := cqPut s ⟨d.length, pad ++ [(at_, d)], some (at_, d.length)⟩
      if !r.1 then r.2
      else
        let s := (r.2.setCis { r.2.cis with next := at_ + d.length })
        let s := if wrapped then s.setFlag K.CAP_FLAGS 2 true else s
        let s := if lvl = 1 ∧ mode = 2 then s.add 64 K.DEMOTED 1 else s
        stepDown s x.issue

/-- The burst forms records: CAP_MODE FAILFLAG or FULL (R386). -/
def recordsFormed (s : State) : Bool := s.num K.CAP_MODE == 1 || s.num K.CAP_MODE == 2

/-- Once every judgement of a failing issue is made, its record is formed and queued (R394). -/
def failRecord (s : State) : State :=
  match if recordsFormed s then s.cis.caps.find? (fun x => capFailed x && !capWaits s x) else none with
  | none => s
  | some x =>
    let s := s.setCis { s.cis with caps := s.cis.caps.filter (fun y => y.issue != x.issue || y.cyc != x.cyc) }
    recordQueue s x

/-- The stacks that hold some bytes of the cistern region are mapped, and the region holds them (R477). -/
def cisMapped (s : State) (off len : Nat) : Bool :=
  decide (off + len ≤ regionSize s.mem 1) &&
  (List.range ((off + len - 1) / 4096 - off / 4096 + 1)).all (fun i => stackMapped s (stackOf s.mem 1 (4096 * (off / 4096 + i))))

/-- Bytes of the cistern region at an offset are written: false where a stack does not hold them or a bad block keeps
them out (R477, R702). -/
def cisWrite (acc : Bool × State) (w : Nat × Bytes) : Bool × State :=
  if cisMapped acc.2 w.1 w.2.length then
    let r := memStore acc.2 (winCis + w.1) w.2
    (acc.1 && r.1, r.2)
  else (false, acc.2)

/-- The stretches of the cistern region, as first and one past last, that a write changes: a 32-byte block that it covers in
part and that holds an error stays as it is (R702). -/
def cisSpans (s : State) (w : Nat × Bytes) : List (Nat × Nat) :=
  let last := w.1 + w.2.length
  if cisMapped s w.1 w.2.length then
    ((List.range ((last - 1) / 32 - w.1 / 32 + 1)).map (fun i => (max w.1 (32 * (w.1 / 32 + i)), min last (32 * (w.1 / 32 + i) + 32)))).filter
      (fun p => decide (p.1 + 32 ≤ p.2) || !s.mem.bad.contains ((winCis + p.1) / 32))
  else []

/-- Records in memory that a write of some stretches leaves whole (R399). -/
def recordsKept (l spans : List (Nat × Nat)) : List (Nat × Nat) :=
  l.filter (fun r => spans.all (fun p => decide (r.1 + r.2 ≤ p.1) || decide (p.2 ≤ r.1)))

/-- The oldest item of the queue is written whole to the cistern region, or lost; what it overwrites is no record any more
(R399, R412, R413, R477). -/
def recordInMemory (s : State) : State :=
  match s.cis.queue with
  | [] => s
  | it :: rest =>
    let s := s.setCis { s.cis with queue := rest }
    let s := s.setNum K.CQ_LEVEL (s.num K.CQ_LEVEL - it.size)
    let kept := recordsKept s.cis.recs (it.writes.flatMap (cisSpans s))
    let r := it.writes.foldl cisWrite (true, s)
    let recs := kept ++ (if r.1 then it.record.toList else [])
    let s := r.2.setCis { r.2.cis with recs := recs }
    let s := s.setNum K.REC_OLDEST (((recs.head?).map Prod.fst).getD 4096)
    if !r.1 then recordLost s
    else
      let s := s.add 64 K.RECORDS 1
      match it.record with
      | none => s.inc K.R_POINTS_DONE
      | some (off, len) => s.setNum K.REC_END (off + len)

/-- After every record and point is in memory or lost, the summary is written where the region can hold it, and CAP_DONE
sets (R390, R392); LOADING may be waiting for it (R393). -/
def burstSummary (s : State) : State :=
  if (seqState s == 1 || seqState s == 2) && s.cis.summaryDue && s.cis.queue.isEmpty && !capsWaiting s then
    captureDone (summaryStore s)
  else s

end Sys2Proof.Machine
end

