-- ==== Sys2Proof/Machine/Tiles.lean ====
section
/-! DEFINITION. The pins outside a burst: comparators and attention (R354–R361), listen state and wake (R362–R369),
the built-in test (R370–R375), the converter (R376–R379), tile failures (R563) and the tick (R288–R292, R317). -/

namespace Sys2Proof.Machine

/-! ### Comparators -/

/-- After LOCK_RUN consecutive correct predictions a checker enters LOCKED (R326). Within an issue the checker takes the
step at the bit that completes the run. -/
def checkerLock (s : State) (c : Nat) : State :=
  let x := s.chan c
  if seqState s = 4 ∧ liveRole s c = 6 ∧ x.chk = 1 ∧ s.num (atCh K.LOCK_RUN c) ≤ x.chkRun then
    s.setChan c { x with chk := 2, blkN := 0, blkFails := 0 }
  else s

/-- A block with LOSS_ERRS failures returns the checker to ACQUIRE (R327). Within an issue the checker takes the step at
the judgement that reaches the count. -/
def checkerRelock (s : State) (c : Nat) : State :=
  let x := s.chan c
  if seqState s = 4 ∧ liveRole s c = 6 ∧ x.chk = 2 ∧ s.num (atCh K.LOSS_ERRS c) ≤ x.blkFails then
    (s.setChan c { x with chk := 1, chkRun := 0, blkN := 0, blkFails := 0 }).inc (atCh K.RELOCKS c)
  else s

/-! ### Listen state -/

/-- An accepted TILE_CMD.LISTEN (R363). -/
def listenStart (s : State) (t : Nat) : State := s.setFlag (atTile K.TILE_CMD t) 0 true

/-- A channel as its tile enters listen state: the driver off; with WAKE_EN 0 the comparators are unpowered (R364). -/
def chanListen (s : State) (c : Nat) : State :=
  let x := s.chan c
  let en := s.num (atCh K.WAKE_EN c)
  let x := { x with drive := .off, vec := none, short := none }
  let x := if en = 1 then { x with powered := true }
    else { x with powered := false, cmpH := false, cmpL := false, validH := false, validL := false }
  let held := (en, s.num (atCh K.WAKE_CMP c), s.num (atCh K.WAKE_SLOPE c))
  let s := s.setChan c x
  tmuIdle (s.setSlow { s.slow with wake := aPut s.slow.wake c held }) c

/-- The tile's drivers and units power down and TILE_STATE becomes LISTEN (R364, R437, R645). -/
def listenEntered (s : State) (t : Nat) : State :=
  if tileReady s t && s.flag (atTile K.TILE_CMD t) 0 then
    let s := (List.range 8).foldl (fun s j => chanListen s (8 * t + j)) s
    let s := s.setSlow { s.slow with conv := aDel s.slow.conv t }
    let s := s.setNums [(atTile K.TILE_STATE t, 3), (atTile K.CONV_CMD t, 0)]
    clearReady (setDom (s.setFlag (atTile K.TILE_CMD t) 0 false) (12 + t) 3) [16 + t]
  else s

/-- A change of a lane's outputs in listen state holds an edge of the held selection, from a valid comparator of a channel that
may produce a wake event (R357, R360, R366, R367). -/
def wakes (s : State) (c : Nat) (y : Chan) : Bool :=
  let x := s.chan c
  match aFind s.slow.wake c with
  | some (en, cmp, slope) =>
    en == 1 && x.powered && x.validH && x.validL && !chFenced s c && s.num (atCh K.SC_MODE c) == 0 &&
    (outputEdges x y).any (fun e => e / 2 == cmp && (slope == 2 || e % 2 == slope))
  | none => false

/-- The tile wakes on some lanes (R367, R368). -/
def wakeTile (s : State) (t : Nat) (lanes : List Nat) : State :=
  let s := s.setNums [(atTile K.TILE_STATE t, 4), (atTile K.WAKE_LANES t, (lanes.map (2 ^ ·)).sum)]
  let s := (setDom s (12 + t) 1).inc (atTile K.TILE_WAKES t)
  let s := lanes.foldl (fun s j => s.inc (atCh K.WAKES (8 * t + j))) s
  (s.setFlag (atTile K.TILE_CAUSE t) 0 true).raise (0x60 + t)

/-- The pads of a channel are at `v`; only comparators that have power follow (R347, R355). -/
def padSet (s : State) (c : Nat) (v : Pad) : State :=
  if cmpPowered s c then senseVs s c v else s.setChan c { s.chan c with pad := v }

/-- The pads of lanes of a tile in listen state move: the lanes on which a selected edge comes wake the tile (R367). -/
def wakeEvent (s : State) (t : Nat) (inputs : List (Nat × Pad)) : State :=
  let r := inputs.foldl (fun (acc : State × List Nat) p =>
    let c := 8 * t + p.1 % 8
    let s := padSet acc.1 c p.2
    (s, if wakes acc.1 c (s.chan c) then p.1 % 8 :: acc.2 else acc.2)) (s, [])
  if tileState s t ≠ 3 then s
  else if r.2.isEmpty then r.1
  else wakeTile r.1 t ((List.range 8).filter (r.2.contains ·))

/-- The pads of a channel are at `v` at a time: in a ready tile the outputs follow and their edges count, in listen state
they may wake the tile, and without power the voltages alone are noted (R347, R355, R356, R360, R367). -/
def padMoves (s : State) (c : Nat) (v : Pad) (t : Int) : State :=
  if tileReady s (tileOf c) then laneMoves s c v t
  else if tileState s (tileOf c) = 3 then wakeEvent s (tileOf c) [(c % 8, v)]
  else padSet s c v

/-- COMPARATOR_VALID: the pads of a channel move; a comparator that is not valid becomes valid once Vs leaves its band (R356). -/
def comparatorValid (s : State) (c : Nat) (v : Pad) : State := padMoves s c v (now16 s)

/-- ATTENTION_EVENT: the pads of a channel move, and the edges that ATTN_EN selects are recorded (R359). -/
def attentionEvent (s : State) (c : Nat) (v : Pad) : State := padMoves s c v (now16 s)

/-- TMU_EDGE: the pads of the lane that the edge code names move, `dt` after the present time in 1/16 LSB, and the edge
reaches the TMUs of the tile (R428, R429, R439). Markers and TIME events have their own commands (R430, R605). -/
def tmuEdge (s : State) (c edge dt : Nat) (v : Pad) : State :=
  if edge < 0x20 then padMoves s (8 * tileOf c + edge % 8) v (now16 s + dt) else s

/-- TILE_CMD.WAKE: in listen state the tile wakes with WAKE_LANES 0, elsewhere no effect (R368). -/
def wakeCmd (s : State) (t : Nat) : State :=
  if tileState s t = 3 then (wakeTile s t []).setFlag (atTile K.TILE_CMD t) 1 true else s

/-- A channel of a tile that becomes ready: its comparators are enabled where they had no power, and it parks
(R296, R354, R369). -/
def chanReady (s : State) (c : Nat) : State :=
  let x := s.chan c
  let was := x.powered
  let s := s.setChan c { x with drive := parkDrive s c }
  if was then s else enableCmp s c

/-- A tile becomes READY, its PLL locked (R31, R369). -/
def tileUp (s : State) (t : Nat) : State :=
  let s := (setDom s (12 + t) 2).setNum (atTile K.TILE_STATE t) 2
  let s := s.setSlow { s.slow with locks := aPut s.slow.locks t ((aFind s.slow.locks t).getD 0 + 1) }
  let s := (List.range 8).foldl (fun s j => chanReady s (8 * t + j)) s
  setReady s (16 + t)

/-- TICK runs: it is locked, or holds over (R290, R291). -/
def tickRuns (s : State) : Bool := decide (2 ≤ s.num K.TICK_STATE)

/-- The waking tile is READY, its PLL locked to TICK (R290, R369). -/
def tileAwake (s : State) (t : Nat) : State :=
  if tileState s t = 4 ∧ tickRuns s then (tileUp s t).setFlag (atTile K.TILE_CMD t) 1 false else s

/-! ### The built-in test and the converter -/

/-- The tile's converter is held by a conversion, a test or a calibration (R372, R378). -/
def converterBusy (s : State) (t : Nat) : Bool :=
  s.flag (atTile K.CONV_CMD t) 0 || tileCalibrating s t ||
  (List.range 8).any (fun j => s.num (atCh K.SC_STATE (8 * t + j)) == 1)

/-- SC_CMD.RUN starts the built-in test (R372, R373). -/
def selfCheckStart (s : State) (c : Nat) : State :=
  let held := (s.num (atCh K.SC_MODE c), s.num (atCh K.SC_TIE c))
  let s := s.setSlow { s.slow with saved := aPut s.slow.saved c held }
  let s := s.setNums [(atCh K.SC_STATE c, 1), (atCh K.SC_CMD c, 1), (atCh K.SC_RESULT c, 0)]
  let x := s.chan c
  s.setChan c { x with drive := .off }

/-- The DACs of a channel as programmed, times 16,384 µV, in the order of R375: LVL0–LVL3 are set from VCM, VOD and
PL0–PL3. -/
def dacVolts (s : State) (c : Nat) : List Int :=
  let thr (k : Nat) : Int := codeVolt (s.num (atCh k c))
  let uv (k : Nat) : Int := s.int32 (atCh k c) * 16384
  let m : Int := s.num (atCh K.VCM c) * 16384
  let d : Int := s.num (atCh K.VOD c) * 4096
  let r := roleOf s c
  let lvl : List Int := if r = 2 ∨ (r = 5 ∧ prbsPam4 s c) then
      (List.range 4).map (fun v => m + s.int32 (atCh K.PL0 c + v) * 8192)
    else [m - d, m, m, m + d]
  [thr K.THR_HI, thr K.THR_LO, thr K.SLC0, thr (K.SLC0 + 1), thr (K.SLC0 + 2), uv K.VTT, uv K.VIH, uv K.VIL] ++ lvl

/-- The numbers of the elements of a list that fail, as bits from `lo` on. -/
def failBits {α : Type} (l : List α) (lo : Nat) (bad : α → Bool) : Nat :=
  (l.zipIdx.map (fun p => if bad p.1 then 2 ^ (lo + p.2) else 0)).sum

/-- The pad check fails: a leg moved by more than 20 mV, or a comparator changed (R372). -/
def padBusy (m : SelfTest) : Bool := decide (20000 < m.moved.1) || decide (20000 < m.moved.2) || m.changed

/-- A DAC's node differs from the programmed voltage by more than 2 mV + 0.2 % (R372). -/
def dacBad (prog : Int) (read : Int) : Bool :=
  decide (500 * (2000 * 16384) + prog.natAbs < 500 * (read * 16384 - prog).natAbs)

/-- Half the difference of two trip voltages exceeds 3 mV (R372). -/
def swapBad (p : Nat × Nat) : Bool := decide (2 * 3000 * 16384 < (codeVolt p.1 - codeVolt p.2).natAbs)

/-- SC_RESULT from what the test measured (R372, R375): a failed pad check ends the test, and later fields stay 0. -/
def scResult (s : State) (c : Nat) (m : SelfTest) : Nat :=
  if padBusy m then 2 ^ 27
  else
    failBits (m.above.take 5) 0 (fun b => !b) + failBits (m.below.take 5) 5 (fun b => b) +
    failBits (m.trips.take 5) 10 swapBad +
    failBits ((dacVolts s c).zip m.dacs) 15 (fun p => dacBad p.1 p.2)

/-- The test ends: SC_MODE and SC_TIE are restored, and the comparators enabled (R373, R375). -/
def selfCheckDone (s : State) (c : Nat) (m : SelfTest) : State :=
  if s.num (atCh K.SC_STATE c) ≠ 1 then s
  else
    let r := scResult s c m
    let held := (aFind s.slow.saved c).getD (s.num (atCh K.SC_MODE c), s.num (atCh K.SC_TIE c))
    let s := s.setSlow { s.slow with saved := aDel s.slow.saved c }
    let st := if padBusy m then 4 else if r = 0 then 2 else 3
    let s := s.setNums [(atCh K.SC_RESULT c, r), (atCh K.SC_STATE c, st), (atCh K.SC_CMD c, 0),
                        (atCh K.SC_MODE c, held.1), (atCh K.SC_TIE c, held.2)]
    let x := s.chan c
    enableCmp (s.setChan c { x with drive := parkDrive s c }) c

/-- CONV_CMD.START (R377). -/
def convStart (s : State) (t : Nat) : State :=
  let job := (s.num (atTile K.CONV_NODE t), s.num (atTile K.CONV_AVG t))
  let s := s.setSlow { s.slow with conv := aPut s.slow.conv t job }
  let s := s.setFlag (atTile K.CONV_FLAGS t) 0 false
  s.setNum (atTile K.CONV_CMD t) 1

/-- The voltage of a converter node in µV as the module sets it, or its nominal value: the pads, the DACs in the node order of
R376, the tie DAC, the tile's reference and supplies (R346, R375, R376, R624). -/
def nodeVolt (s : State) (t node : Nat) : Int :=
  let c := 8 * t + node / 16
  let n := node % 16
  let dac (i : Nat) : Int := roundDiv (((dacVolts s c)[i]?).getD 0) 16384
  if node = 0x80 then 1200000 else if node = 0x81 then 900000 else if node = 0x82 then 1800000
  else if 0x83 ≤ node then 0
  else if n = 0 then (s.chan c).pad.1
  else if n = 1 then (s.chan c).pad.2
  else if n = 2 then dac 5
  else if n ≤ 7 then dac (n - 3)
  else if n ≤ 9 then dac (n - 2)
  else if n ≤ 13 then dac (n - 2)
  else roundDiv (codeVolt (s.num (atCh K.SC_TIE c))) 16384

/-- One conversion: the nearest of 2^18 steps over −1.25 V to +2.75 V (R376). -/
def convCode (v : Int) : Int := min (max (roundDiv ((v + 1250000) * 262144) 4000000) 0) 262143

/-- The 2^CONV_AVG conversions finish with the node's voltages in µV, the node standing at its last value, or where the
environment gives none at its own: CONV_RESULT is the mean, clipped to the input range (R376, R377). -/
def convDone (s : State) (t : Nat) (vs : List Int) : State :=
  match aFind s.slow.conv t with
  | none => s
  | some (node, avg) =>
    let n := 2 ^ avg
    let all := (List.range n).map (fun i => vsAt vs (nodeVolt s t node) i)
    let beyond := all.any (fun v => decide (v < -1250000) || decide (2750000 < v))
    let mean := roundDiv ((all.map (fun v => convCode v * 4000000 - 1250000 * 262144)).sum) (n * 262144)
    let s := s.setSlow { s.slow with conv := aDel s.slow.conv t }
    let s := s.setNums [(atTile K.CONV_RESULT t, raw 32 mean), (atTile K.CONV_CMD t, 0)]
    (s.setFlag (atTile K.CONV_FLAGS t) 0 true).setFlag (atTile K.CONV_FLAGS t) 2 beyond

/-! ### Tile failures -/

/-- A tile loses PLL lock, or link integrity: its pins park, it leaves READY, and its source is raised (R312, R563). -/
def tileFailure (s : State) (t : Nat) (link : Bool) : State :=
  if !tileReady s t then s
  else
    let s := (List.range 8).foldl (fun s j => parkPin s (8 * t + j)) s
    let s := (setDom s (12 + t) 1).setNum (atTile K.TILE_STATE t) 1
    let s := (clearReady s [16 + t]).setFlag (atTile K.TILE_CAUSE t) (if link then 2 else 1) true
    s.raise (0x60 + t)

/-- A driver leg has been in current limit for more than 10 ns (R549). -/
def currentLimit (s : State) (c : Nat) : State :=
  if c < 96 ∧ tileReady s (tileOf c) then s.raise c else s

/-! ### The tick -/

/-- The tile is powered and its PLL follows TICK: STARTING, READY or WAKING (R290, R362). -/
def pllPowered (s : State) (t : Nat) : Bool := tileState s t == 1 || tileReady s t || tileState s t == 4

/-- Tiles whose PLL has to lock. -/
def pllTiles (s : State) : List Nat := (List.range 12).filter (pllPowered s)

/-- The PLLs of some tiles have locked once more. -/
def pllsLocked (m : Assoc Nat) (l : List Nat) : Assoc Nat := l.foldl (fun m t => aPut m t ((aFind m t).getD 0 + 1)) m

/-- TICK is locked: TICK_STATE 2, every deskew is converted, ticks count from here on until a burst runs, and D02 and its
function are ready (R31, R290, R317, R450, R629). -/
def tickLocked (s : State) : State :=
  let s := deskewAll (s.setNum K.TICK_STATE 2)
  let s := s.setTb { s.tb with plls := [], origin := now16 s }
  let s := s.setSlow { s.slow with locks := pllsLocked s.slow.locks (pllTiles s) }
  setReady (if domState s 2 = 1 then setDom s 2 2 else s) 2

/-- TICK is locked once the synthesiser and every powered tile PLL are (R290). -/
def tickTry (s : State) : State :=
  if s.num K.TICK_STATE = 1 ∧ s.tb.synth ∧ s.tb.plls.all (fun t => !pllPowered s t) then tickLocked s else s

/-- A write of TICK_MULT commits (R28, R290): with D02 off it is held; otherwise another value than the one in force starts
a relock. -/
def tickWrite (s : State) (m : Nat) : State :=
  if m = s.num K.TICK_MULT then s
  else
    let s := s.setNums [(K.TICK_MULT, m), (K.TICK_NOM, tickNom m)]
    if domState s 2 = 0 then s
    else
      let s := (s.setNum K.TICK_STATE 1).inc K.TICK_RELOCKS
      clearReady (s.setTb { s.tb with synth := false, plls := pllTiles s }) [2]

/-- The synthesiser locks; TICK is locked once every powered tile PLL is (R290). -/
def synthLock (s : State) : State :=
  if domState s 2 = 0 ∨ 2 ≤ s.num K.TICK_STATE then s
  else tickTry ((s.setTb { s.tb with synth := true }).setNum K.TICK_STATE 1)

/-- A tile PLL locks to TICK (R290). -/
def pllLock (s : State) (t : Nat) : State :=
  if s.num K.TICK_STATE = 1 ∧ s.tb.synth ∧ s.tb.plls.contains t then
    tickTry (s.setTb { s.tb with plls := s.tb.plls.filter (· != t) })
  else s

/-- The synthesiser loses lock without a command (R291). -/
def tickHoldover (s : State) : State :=
  if s.num K.TICK_STATE = 2 then
    clearReady (((s.setNum K.TICK_STATE 3).inc K.TICK_UNLOCKS).raise 0x77) [2]
  else s

/-- At a burst boundary the synthesiser relocks without a write (R30, R291). -/
def holdoverRelock (s : State) : State :=
  if s.num K.TICK_STATE = 3 ∧ seqQuiet s then tickLocked s else s

end Sys2Proof.Machine
end

