-- ==== Sys2Proof/Machine/Calibrate.lean ====
section
/-! DEFINITION. Calibration: trims and their application (R510–R514), self calibration (R517–R525), base and reference
writes (R526–R529), records and banks (R530–R541), and hold-up energy (R542–R544). -/

namespace Sys2Proof.Machine

/-! ### Trim sets -/

/-- The active set of a channel (R547). -/
def activeTrims (s : State) (c : Nat) : Trims :=
  { drv := s.int32 (atCh K.DRV_BASE c), cmp := s.int32 (atCh K.CMP_BASE c), cap := s.int32 (atCh K.CAP_BASE c),
    dDrv := s.int32 (atCh K.DRV_DRIFT c), dCmp := s.int32 (atCh K.CMP_DRIFT c), dCap := s.int32 (atCh K.CAP_DRIFT c),
    dac := s.blob (atCh K.DAC_TRIM c), ofs := s.blob (atCh K.CMP_OFS c) }

/-- The set that the next application makes active. -/
def nextTrims (s : State) (c : Nat) : Trims := (aFind s.cal.pending c).getD (activeTrims s c)

/-- A change goes to the channel's pending set; PENDING is 1 while it differs from the active set (R513). -/
def setPending (s : State) (c : Nat) (x : Trims) : State :=
  let same := x == activeTrims s c
  let s := s.setCal { s.cal with pending := if same then aDel s.cal.pending c else aPut s.cal.pending c x }
  s.setNum (atCh K.PENDING c) (ofBool (!same))

/-- One pending set becomes active. -/
def applyTrims (s : State) (p : Nat × Trims) : State :=
  let c := p.1
  let x := p.2
  let s := s.setNums [(atCh K.DRV_BASE c, raw 32 x.drv), (atCh K.CMP_BASE c, raw 32 x.cmp),
    (atCh K.CAP_BASE c, raw 32 x.cap), (atCh K.DRV_DRIFT c, raw 32 x.dDrv), (atCh K.CMP_DRIFT c, raw 32 x.dCmp),
    (atCh K.CAP_DRIFT c, raw 32 x.dCap), (atCh K.PENDING c, 0)]
  (s.setBlob (atCh K.DAC_TRIM c) x.dac).setBlob (atCh K.CMP_OFS c) x.ofs

/-- The pending sets of all channels and tiles become active as one operation, while IDLE or OFF or while LOADING waits
for it (R513, R514). -/
def trimApply (s : State) : State :=
  if seqQuiet s || (seqState s == 2 && !s.seq.loaded) then
    let s := s.cal.pending.foldl applyTrims s
    let s := s.cal.pendPi.foldl (fun s p => s.setBlob (K.PI_CORR_T0 + p.1) p.2) s
    s.setCal { s.cal with pending := [], pendPi := [] }
  else s

/-! ### The record -/

/-- The erased or missing content of a bank. -/
def bankErased (d : Bytes) : Bool := d.all (fun b => b == 0xFF#8)

/-- Record length of a KIND (R533). -/
def recLen (kind : Nat) : Nat := if kind = 2 then 33040 else 16656

/-- MAGIC, FORMAT, KIND and the lengths are consistent, and SEQ2 equals SEQ (R534). -/
def recordConsistent (d : Bytes) : Bool :=
  let kind := byteAt d 6
  let l := recLen kind
  d.take 4 == [0x4B#8, 0x5A#8, 0x43#8, 0x52#8] && fieldAt d 4 2 == 1 && (kind == 1 || kind == 2) &&
  fieldAt d 12 4 == 16384 && fieldAt d 16 4 == (if kind = 2 then 16384 else 0) && decide (l ≤ d.length) &&
  fieldAt d (l - 16) 4 == fieldAt d 8 4 && fieldAt d (l - 12) 4 == l

/-- REC_CRC is correct (R533). -/
def recordCrcOk (d : Bytes) : Bool :=
  let l := recLen (byteAt d 6)
  decide (l ≤ d.length) && fieldAt d (l - 4) 4 == crc32c (d.take (l - 4))

/-- FAC_SIG verifies under the vendor calibration key (R531, R660). -/
def recordSigOk (d : Bytes) : Bool :=
  Config.ecdsaVerify (Config.vendorKey 2) ((d.drop 20).take 12 ++ (d.drop 256).take 16384) ((d.drop 120).take 132)

/-- The class of a bank (R534). -/
def bankClass (d : Bytes) : Nat :=
  if bankErased d then 0
  else if recordConsistent d && recordCrcOk d && recordSigOk d then 1
  else if recordCrcOk d && !recordSigOk d then 3
  else 2

/-- The section from which bases, readings and VREF load: external with KIND 2 (R536). -/
def baseSection (d : Bytes) : Bytes := if byteAt d 6 = 2 then (d.drop (256 + 16384)).take 16384 else (d.drop 256).take 16384

/-- An I32 of a section. -/
def secI32 (d : Bytes) (off : Nat) : Int := signed 32 (fieldAt d off 4)

/-- The bases and readings of a channel in a section (R532). -/
def secBases (d : Bytes) (c : Nat) : Int × Int × Int × Int × Int :=
  let o := 1280 + 128 * c
  (secI32 d o, secI32 d (o + 4), secI32 d (o + 8), secI32 d (o + 12), secI32 d (o + 16))

/-- VREF of a tile in a section. -/
def secVref (d : Bytes) (t : Nat) : Int := secI32 d (64 + 96 * t)

/-- UNSAVED: a base, reading or VREF differs from the active record (R528). -/
def unsaved (s : State) : Bool :=
  if s.cal.record.isEmpty then false
  else
    let d := baseSection s.cal.record
    (List.range 96).any (fun c =>
      let x := nextTrims s c
      let r := (aFind s.cal.refs c).getD (0, 0)
      (x.drv, x.cmp, x.cap, r.1, r.2) != secBases d c) ||
    (List.range 12).any (fun t => s.int32 (K.VREF_T0 + t) != secVref d t)

/-- Recompute UNSAVED. -/
def noteUnsaved (s : State) : State := s.setFlag K.CAL_FLAGS 5 (unsaved s)

/-- Load the bases, readings and VREF values of a record into the pending sets, every drift 0 (R529, R536). -/
def loadBases (s : State) (d : Bytes) : State :=
  let sec := baseSection d
  let s := (List.range 96).foldl (fun s c =>
    let b := secBases sec c
    let s := s.setCal { s.cal with refs := aPut s.cal.refs c (b.2.2.2.1, b.2.2.2.2) }
    let x := nextTrims s c
    let s := s.setNum (atCh K.BASE_SOURCE c) (byteAt d 6)
    setPending s c { x with drv := b.1, cmp := b.2.1, cap := b.2.2.1, dDrv := 0, dCmp := 0, dCap := 0 }) s
  s.setNums ((List.range 12).map (fun t => (K.VREF_T0 + t, raw 32 (secVref sec t))))

/-- The initial values of a factory section go to the pending sets: DAC and comparator trims, and the interpolators'
corrections (R511, R536). -/
def loadInitial (s : State) (fac : Bytes) : State :=
  let s := (List.range 96).foldl (fun s c =>
    let e := (fac.drop (1280 + 128 * c)).take 128
    setPending s c { nextTrims s c with dac := (e.drop 20).take 48, ofs := (e.drop 68).take 10 }) s
  s.setCal { s.cal with pendPi := (List.range 12).map (fun t => (t, (fac.drop (64 + 96 * t + 8)).take 64)) }

/-- A record becomes the active one at start-up: its trims, initial values, setpoint and identifiers (R535, R536). -/
def loadRecord (s : State) (d : Bytes) (bank : Nat) : State :=
  let fac := (d.drop 256).take 16384
  let s := s.setCal { s.cal with record := d, refTrim := secI32 fac 4 }
  let s := s.setNums [(K.ACTIVE_BANK, bank), (K.ACTIVE_SEQ, fieldAt d 8 4), (K.CERT_ID, fieldAt d 20 8),
                      (K.FACTORY_DATE, fieldAt d 28 4), (K.OVEN_SETPOINT, fieldAt fac 0 4)]
  noteUnsaved (loadBases (loadInitial s fac) d)

/-- Bank A's record is the newer (R535). -/
def newerA (a b : Nat) : Bool :=
  let d := (a + 2 ^ 32 - b) % 2 ^ 32
  decide (1 ≤ d) && decide (d ≤ 2 ^ 31 - 1)

/-- The banks are classified and the active record chosen (R534, R535, R537). -/
def banksClassify (s : State) : State :=
  let a := bankClass s.cal.bankA
  let b := bankClass s.cal.bankB
  let s := s.setNum K.BANK_STATE (a + 4 * b)
  let s := if a = 3 ∨ b = 3 then s.raise 0x7F else s
  let s := if a = 2 ∨ b = 2 then (s.setFlag K.CAL_FLAGS 0 true).evCal else s
  if a = 1 ∧ (b ≠ 1 ∨ newerA (fieldAt s.cal.bankA 8 4) (fieldAt s.cal.bankB 8 4)) then loadRecord s s.cal.bankA 1
  else if b = 1 then loadRecord s s.cal.bankB 2
  else
    let s := s.setCal { s.cal with record := [], refTrim := 0 }
    let s := s.setNums ((List.range 12).map (fun t => (K.VREF_T0 + t, 1200000)))
    (s.setFlag K.CAL_FLAGS 4 true).raise 0x7E

/-! ### Self calibration -/

/-- The channels a SELF selects (R517). -/
def calSelected (s : State) (c : Nat) : Bool :=
  if c < 64 then s.flag K.CAL_MASK_LO c else s.flag K.CAL_MASK_HI (c - 64)

/-- A channel can be calibrated: not fenced, its tile READY or on its way there from OFF (R517, R518). -/
def calRuns (s : State) (c : Nat) : Bool :=
  !chFenced s c && (tileReady s (tileOf c) || tileState s (tileOf c) == 1)

/-- An accepted CAL_CMD.SELF (R518). -/
def calSelf (s : State) : State :=
  let all := (List.range 96).filter (calSelected s)
  let run := all.filter (calRuns s)
  let new := run.filter (fun c => !s.cal.todo.contains c)
  let s := (all.filter (fun c => !calRuns s c)).foldl (fun s c => s.setNum (atCh K.CAL_STATUS c) 5) s
  let s := s.setCal { s.cal with todo := s.cal.todo ++ new, chosen := run }
  calFinish (calNext (s.setNums [(K.CAL_STATE, 1), (K.CAL_CMD, 1)]))

/-- A tile's domain has powered up: self calibration of its channels begins (R517). -/
def calTile (s : State) (t : Nat) : State :=
  let l := ((List.range 8).map (8 * t + ·)).filter (fun c => !chFenced s c)
  calNext (s.setCal { s.cal with todo := s.cal.todo ++ l })

/-- CAL_CMD.ABORT (R524). -/
def calAbort (s : State) : State :=
  if s.num K.CAL_STATE ≠ 1 then s
  else
    let on (c : Nat) : Bool := calibrating s c && tileReady s (tileOf c)
    let busy := (List.range 96).filter on
    let s := s.setCal { s.cal with todo := s.cal.todo.filter (fun c => !tileReady s (tileOf c)), chosen := [] }
    let s := s.setNums [(K.CAL_STATE, 0), (K.CAL_CMD, 0)]
    busy.foldl (fun s c => calEnd s c 6) s

/-- I16 values of a byte string. -/
def i16s (d : Bytes) (n : Nat) : List Int := (List.range n).map (fun i => signed 16 (fieldAt d (2 * i) 2))

/-- Every value lies within ±lim. -/
def within (lim : Int) (l : List Int) : Bool := l.all (fun v => decide (-lim ≤ v) && decide (v ≤ lim))

/-- Values at even, or odd, places. -/
def evens {α : Type} : List α → List α
  | a :: _ :: r => a :: evens r
  | [a] => [a]
  | [] => []

/-- The DAC trims lie within ±1.0 % of gain and ±20 mV of offset (R522). -/
def dacOk (d : Bytes) : Bool :=
  let l := i16s d 24
  within 10000 (evens l) && within 20000 (evens l.tail)

/-- The drifts of a reading (R512); 0 while no record is active (R537). -/
def drifts (s : State) (c : Nat) (ldrv lcmp : Int) : Int × Int :=
  if s.cal.record.isEmpty then (0, 0)
  else
    let r := (aFind s.cal.refs c).getD (0, 0)
    let dc := lcmp - r.2
    (ldrv - r.1 - dc, dc)

/-- The tile's interpolator result goes to its pending set, or is out of its limit (R522). -/
def piResult (s : State) (t : Nat) (d : Bytes) : State :=
  if within 32 (i16s d 32) then s.setCal { s.cal with pendPi := aPut s.cal.pendPi t d }
  else
    let s := (s.setFlag K.CAL_FLAGS 3 true).evCal
    (s.setFlag (atTile K.TILE_CAUSE t) 3 true).raise (0x60 + t)

/-- A channel's self calibration has measured its results (R511, R512, R522, R523). -/
def channelCal (s : State) (c : Nat) (r : CalResult) : State :=
  if !calibrating s c then s
  else
    let s := match r.pi with | some d => piResult s (tileOf c) d | none => s
    let dr := drifts s c r.ldrv r.lcmp
    let bits := ofBool (!dacOk r.dac) + 2 * ofBool (!within 15000 (i16s r.ofs 5)) +
      4 * ofBool (!within 25000 [dr.1, dr.2])
    if bits ≠ 0 then
      let s := (s.setNum (atCh K.CAL_FAIL_BITS c) bits).setFlag K.CAL_FLAGS 3 true
      calEnd ((s.evCal).raise c) c 4
    else
      let x := nextTrims s c
      let s := setPending s c { x with dDrv := dr.1, dCmp := dr.2, dCap := dr.2, dac := r.dac, ofs := r.ofs }
      let s := s.setCal { s.cal with readings := aPut s.cal.readings c (r.ldrv, r.lcmp) }
      calEnd (s.setNum (atCh K.LAST_CAL c) (s.num K.TB_NOW)) c 2

/-- CAL_INPUT_BUSY aborts a channel's calibration with its trims unchanged (R520, R521). -/
def calBusyAbort (s : State) (c : Nat) : State :=
  if !calibrating s c then s
  else calEnd (((s.inc (atCh K.BUSY_COUNT c)).setFlag K.CAL_FLAGS 2 true).evCal) c 3

/-! ### Base and reference writes -/

/-- An accepted write of DRV_BASE, CMP_BASE or CAP_BASE (R526). -/
def baseWrite (s : State) (c which : Nat) (v : Int) : State :=
  let x := nextTrims s c
  let x := if which = 0 then { x with drv := v } else if which = 1 then { x with cmp := v } else { x with cap := v }
  let r := (aFind s.cal.readings c).getD (0, 0)
  let s := s.setCal { s.cal with refs := aPut s.cal.refs c r }
  let s := setPending s c { x with dDrv := 0, dCmp := 0, dCap := 0 }
  noteUnsaved (s.setNum (atCh K.BASE_SOURCE c) 2)

/-- A write of VREF_Tt (R527). -/
def vrefWrite (s : State) (t v : Nat) : State := noteUnsaved (s.setNum (K.VREF_T0 + t) v)

/-- STORE_CMD.RELOAD (R529). -/
def calReload (s : State) : State :=
  let s := loadBases s s.cal.record
  let s := s.setNums ((List.range 96).map (fun c => (atCh K.CAL_STATUS c, 0)))
  noteUnsaved s

/-! ### Storing -/

/-- The external section as last written (R539). -/
def externalSection (s : State) : Bytes :=
  let tiles := (List.range 12).flatMap (fun t => leBytes 4 (s.num (K.VREF_T0 + t)) ++ zeros 92)
  let chans := (List.range 96).flatMap (fun c =>
    let x := nextTrims s c
    let r := (aFind s.cal.refs c).getD (0, 0)
    leBytes 4 (raw 32 x.drv) ++ leBytes 4 (raw 32 x.cmp) ++ leBytes 4 (raw 32 x.cap) ++ leBytes 4 (raw 32 r.1) ++
      leBytes 4 (raw 32 r.2) ++ zeros 108)
  zeros 64 ++ tiles ++ zeros (1280 - 64 - 12 * 96) ++ chans ++ zeros (16384 - 1280 - 96 * 128)

/-- The record a STORE (KIND 2) or REVERT (KIND 1) writes, taken at acceptance (R539). -/
def newRecord (s : State) (kind : Nat) : Bytes :=
  let d := s.cal.record
  let q := (s.num K.ACTIVE_SEQ + 1) % 2 ^ 32
  let q := if q = 0 then 1 else q
  let head := d.take 4 ++ leBytes 2 1 ++ leBytes 1 kind ++ zeros 1 ++ leBytes 4 q ++ leBytes 4 16384 ++
    leBytes 4 (if kind = 2 then 16384 else 0) ++ (d.drop 20).take 236
  let body := head ++ (d.drop 256).take 16384 ++ (if kind = 2 then externalSection s else [])
  let body := body ++ leBytes 4 q ++ leBytes 4 (recLen kind) ++ zeros 4
  body ++ leBytes 4 (crc32c body)

/-- E_avail in mJ (R543). -/
def holdEnergy (s : State) : Nat :=
  let v := s.num K.HOLD_V
  if v ≤ 5000 then 0 else s.num K.HOLD_C * (v * v - 25000000) / 2000000000

/-- E_avail is at least `need` hundredths of a mJ (R543, R663). -/
def holdEnough (s : State) (need : Nat) : Bool :=
  let v := s.num K.HOLD_V
  decide (5000 < v) && decide (20000000 * need ≤ s.num K.HOLD_C * (v * v - 25000000))

/-- 3 × E_store of a KIND, in hundredths of a mJ (R543). -/
def storeNeed (kind : Nat) : Nat := if kind = 2 then 207720 else 198504

/-- An accepted STORE or REVERT (R538, R539). -/
def storeStart (s : State) (kind : Nat) : State :=
  let d := newRecord s kind
  let s := s.setCal { s.cal with job := some d }
  s.setNums [(K.CAL_STATE, 2), (K.STORE_CMD, if kind = 2 then 1 else 2)]

/-- The bank a store writes: 1 for A, 2 for B (R540). -/
def storeBank (s : State) : Nat := if s.num K.ACTIVE_BANK = 1 then 2 else 1

/-- Set a bank's content. -/
def setBank (s : State) (b : Nat) (d : Bytes) : State :=
  s.setCal (if b = 1 then { s.cal with bankA := d } else { s.cal with bankB := d })

/-- D00 stops, and with it the ALIVE pair (R544, R577, R638). -/
def coreStops (s : State) : State :=
  (s.setFlt { s.flt with aliveP := false, aliveN := false }).setPwr { s.pwr with stopped := true, holding := false }

/-- A store ends: with its read-back passed, or failed with the target bank incomplete (R541). On hold-up power D00 then
stops (R544). -/
def storeComplete (s : State) (ok : Bool) : State :=
  match s.cal.job with
  | none => s
  | some d =>
    let b := storeBank s
    let s := setBank (s.setCal { s.cal with job := none }) b (if ok then d else [0#8])
    let s := if ok then
        let s := s.setCal { s.cal with record := d }
        noteUnsaved ((s.setNums [(K.ACTIVE_BANK, b), (K.ACTIVE_SEQ, fieldAt d 8 4)]).inc K.STORES)
      else (s.inc K.STORE_FAILS).raise 0x7E
    let s := (s.setNums [(K.CAL_STATE, 0), (K.STORE_CMD, 0)]).evCal
    if s.pwr.holding then coreStops s else s

/-- VHOLD falls to V_MIN during a store on hold-up power: the store stops where it is, and D00 stops (R544). -/
def vholdMin (s : State) : State :=
  if s.pwr.holding && s.cal.job.isSome then
    coreStops (setBank (s.setCal { s.cal with job := none }) (storeBank s) [0#8])
  else s

/-- HOLD_V is refreshed, in mV (R542). -/
def holdRefresh (s : State) (mv : Nat) : State :=
  let s := (s.setNum K.HOLD_V (mv % 2 ^ 32)).setFlag K.SUPPLY_OK 7 (decide (5000 < mv))
  s.setNum K.HOLD_E (holdEnergy s)

/-- The discharge test measured a fall in µV (R542): HOLD_C in µF. The spec states no result for a fall of 0. -/
def holdTest (s : State) (fall : Nat) : State :=
  if s.num K.HOLD_V ≤ 6000 ∨ s.flag K.CAL_FLAGS 6 then s
  else
    let r := if fall = 0 then s.fresh 32 else (if 1000000 < fall then 0 else 1000000000 / fall, s)
    let s := (r.2.setNum K.HOLD_C r.1).setFlag K.CAL_FLAGS 6 true
    setReady (s.setNum K.HOLD_E (holdEnergy s)) 29

end Sys2Proof.Machine
end

