-- ==== Sys2Proof/Machine/Flags.lean ====
section
/-! DEFINITION. Every status computation: the status word and attention (R81–R83, R516), MSI-X messages (R67), and the
flag fields that other chapters compute. -/

namespace Sys2Proof.Machine

/-- TB_NOT_OK: the time base is not locked, or not warm while REF A is the active reference (R81, R460). -/
def tbNotOk (s : State) : Bool := !tbLocked s || (s.num K.REF_ACTIVE == 0 && !tbWarm s)

/-- STALE: any channel's CH_STALE, any TMU's STALE or any converter's STALE (R516). -/
def anyStale (s : State) : Bool :=
  (List.range 96).any (fun c => s.num (atCh K.CH_STALE c) != 0 || s.flag (atCh K.RES_FLAGS c) 4) ||
  (List.range 12).any (fun t => s.flag (atTile K.CONV_FLAGS t) 1)

/-- Bits [11:6] of the status word (R81). -/
def statusLow (s : State) : Nat :=
  (s.num K.ATTN_EVENTS &&& 0xE00) + 256 * ofBool s.mgmt.mismatch + 128 * ofBool (tbNotOk s) + 64 * ofBool (anyStale s)

/-- ATTN: any of [14:6] that ATTN_MASK leaves (R81, R83). -/
def attn (s : State) : Bool :=
  let m := s.num K.ATTN_MASK
  let sev := s.num K.SEV_HIGH
  clearBits (statusLow s) (m &&& 0xFC0) != 0 || (sev != 0 && !(sev == 1 && bit m 12))

/-- Bits [15:6] of the status word (R81). -/
def statusWord (s : State) : Nat := 0x8000 * ofBool (attn s) + 0x1000 * s.num K.SEV_HIGH + statusLow s

/-! ### MSI-X -/

/-- The registers of a function. -/
def State.pf (s : State) (pf : Nat) : PcieFn := if pf = 0 then s.pf0 else s.pf1

/-- Set the registers of a function. -/
def State.setPf (s : State) (pf : Nat) (x : PcieFn) : State := if pf = 0 then { s with pf0 := x } else { s with pf1 := x }

/-- The mask bit of an MSI-X vector. -/
def vectorMasked (x : PcieFn) (v : Nat) : Bool := bit ((x.msixTable[4 * v + 3]?).getD 1) 0

/-- An MSI-X vector of a function is signalled while its link is up; a masked vector becomes pending (R67). -/
def State.msix (s : State) (pf v : Nat) : State :=
  if !s.flag K.READY 6 then s
  else if vectorMasked (s.pf pf) v then s.setPf pf { s.pf pf with pba := putBit (s.pf pf).pba v true }
  else s.emit (.msix pf v)

/-- Both functions see ATTN (R82). -/
def attnSeen (s : State) (b : Bool) : State := { s with pf0 := { s.pf0 with attn := b }, pf1 := { s.pf1 with attn := b } }

/-- A change of ATTN reaches the functions; from 0 to 1 it signals vector 0 of both (R83). -/
def attnNote (s : State) : State :=
  if attn s = s.pf0.attn then s
  else if attn s then ((attnSeen s true).msix 0 0).msix 1 0 else attnSeen s false

end Sys2Proof.Machine
end

