-- ==== Sys2Proof/Machine/TimeMeasure.lean ====
section
/-! DEFINITION. The time base (R452–R463): its references, holdover, the oven and REFOUT. -/

namespace Sys2Proof.Machine

/-! ### The time base -/

/-- The active reference follows REF_SEL and the qualification of REF B (R453, R455). -/
def refUpdate (s : State) : State :=
  let want := if s.num K.REF_SEL = 1 ∧ s.flag K.TB_FLAGS 3 then 1 else 0
  if want = s.num K.REF_ACTIVE then s
  else
    let s := ((s.setNum K.REF_ACTIVE want).inc K.REF_SWITCHES).setFlag K.TB_FLAGS 5 true
    tmuNote s 32

/-- An offset in 0.001 ppb lies within ±20 ppm (R454, R462). -/
def refinNear (ppb : Int) : Bool := decide (-20000000 ≤ ppb) && decide (ppb ≤ 20000000)

/-- REF B becomes qualified with a measured offset (R454). -/
def refinQualified (s : State) (ppb : Int) : State :=
  if domState s 2 = 0 ∨ !refinNear ppb then s
  else
    let s := s.setNum K.REFIN_PPB (raw 32 ppb)
    refUpdate ((s.setFlag K.TB_FLAGS 2 true).setFlag K.TB_FLAGS 3 true)

/-- REF B is lost: without edges, or beyond ±20 ppm with the offset measured (R454). Edges that end on a REF B that is not
qualified lose nothing but their presence. -/
def refinLoss (s : State) (present : Bool) (ppb : Int) : State :=
  if present ∧ refinNear ppb then s
  else if !s.flag K.TB_FLAGS 3 then (if present then s else s.setFlag K.TB_FLAGS 2 false)
  else
    let s := if present then s.setNum K.REFIN_PPB (raw 32 ppb) else s
    let s := (s.setFlag K.TB_FLAGS 2 present).setFlag K.TB_FLAGS 3 false
    refUpdate ((s.inc K.REFIN_LOSSES).raise 0x77)

/-- The slew matches the new reference (R455). -/
def slewEnd (s : State) : State := s.setFlag K.TB_FLAGS 5 false

/-- No reference is available: holdover (R456). -/
def refHoldover (s : State) : State :=
  if tbHoldover s ∨ domState s 2 = 0 then s
  else tmuNote (((s.setFlag K.TB_FLAGS 4 true).setFlag K.TB_FLAGS 0 false).raise 0x77) 64

/-- The reference stage locks (R427, R456). -/
def refLock (s : State) : State :=
  if domState s 2 = 0 then s
  else
    let was := tbHoldover s
    let s := (s.setFlag K.TB_FLAGS 4 false).setFlag K.TB_FLAGS 0 true
    let s := if was then tmuNote (s.setFlag K.TB_FLAGS 5 true) 32 else s
    if s.tb.epoch then s else tbStep (s.setTb { s.tb with epoch := true }) (-(s.num K.TB_NOW : Int))

/-- What REFOUT presents (R457). -/
inductive RefOut where
  /-- not driven: REFOUT_EN is 0, or D02 is off -/
  | off
  /-- REF A, 100 MHz -/
  | refA
  /-- REF B at its own frequency in MHz -/
  | refB (mhz : Nat)
  /-- the held 100 MHz marker in holdover -/
  | held
  deriving DecidableEq, Repr

/-- REFOUT_P/N (R452, R457). -/
def refout (s : State) : RefOut :=
  if s.num K.REFOUT_EN = 0 ∨ domState s 2 = 0 then .off
  else if tbHoldover s then .held
  else if s.num K.REF_ACTIVE = 0 then .refA
  else .refB (if s.num K.REFIN_FREQ = 0 then 10 else 100)

/-- One more whole second in range (R458). -/
def warmSecond (s : State) : State :=
  if domState s 1 = 0 then s
  else
    let s := s.inc K.WARM_SECONDS
    if 60 ≤ s.num K.WARM_SECONDS ∧ !tbWarm s then
      setReady ((s.setTb { s.tb with wasWarm := true }).setFlag K.TB_FLAGS 1 true) 28
    else s

/-- The oven's temperature in m°C leaves ±0.05 °C, or ±0.2 °C, of its setpoint (R458, R459). -/
def ovenLeaves (s : State) (temp : Int) : State :=
  let s := s.setNum K.OVEN_TEMP (raw 32 temp)
  let d := temp - s.int32 K.OVEN_SETPOINT
  let out (lim : Int) : Bool := decide (d < -lim) || decide (lim < d)
  let s := if out 50 then s.setNum K.WARM_SECONDS 0 else s
  if out 200 && tbWarm s then tmuNote (clearReady ((s.setFlag K.TB_FLAGS 1 false).raise 0x78) [28]) 0 else s

/-- TB_WARM has not set within 15 min of D01's power-up (R459). -/
def ovenTimeout (s : State) : State := if domState s 1 != 0 && !s.tb.wasWarm then s.raise 0x78 else s

/-- The oven heater reports a fault (R459). -/
def heaterFault (s : State) : State := s.raise 0x78

end Sys2Proof.Machine
end

