-- ==== Sys2Proof/Machine/Ring.lean ====
section
/-! DEFINITION. The sync ring: receiving and forwarding messages (R593–R597), its states and delay calibration
(R598–R601), fleet time (R602–R605), starts, halts, jumps and marks (R606–R615), and signatures (R616–R618). -/

namespace Sys2Proof.Machine

/-! ### Receiving -/

/-- The fields of a message (R591). -/
def msgType (m : Bytes) : Nat := byteAt m 0
def msgGroup (m : Bytes) : Nat := byteAt m 1
def msgOrigin (m : Bytes) : Nat := fieldAt m 2 2 % 1024
def msgHops (m : Bytes) : Nat := fieldAt m 4 2 % 1024
def msgArg16 (m : Bytes) : Nat := fieldAt m 6 2
def msgA (m : Bytes) : Nat := fieldAt m 8 8
def msgB (m : Bytes) : Nat := fieldAt m 16 8
def msgAcc (m : Bytes) : Nat := fieldAt m 24 4

/-- The check word of a message is correct (R591). -/
def msgOk (m : Bytes) : Bool := m.length == 32 && fieldAt m 28 4 == crc32c (m.take 28)

/-- The module is in the message's group (R595). -/
def inGroup (s : State) (g : Nat) : Bool := bit g 6 || g % 64 == s.num K.SIG_GROUP % 64

/-- The module sent the message itself (R594): on the master every TIME, otherwise its own position. -/
def msgOwn (s : State) (m : Bytes) : Bool :=
  if ringMaster s then msgType m == 5 || msgOrigin m == 0
  else s.num K.RING_POS != 0xFFFF && msgOrigin m == s.num K.RING_POS

/-- The message as the module forwards it (R593). -/
def msgForward (s : State) (m : Bytes) : Bytes :=
  ringSeal (m.take 4 ++ leBytes 2 ((msgHops m + 1) % 1024) ++ (m.drop 6).take 18 ++
    leBytes 4 ((msgAcc m + 24000 + s.num K.LINK_OUT_PS) % 2 ^ 32))

/-- The port receives and forwards: block lock, outside delay calibration (R589, R599). -/
def ringLive (s : State) : Bool := decide (2 ≤ s.num K.RING_STATE) && !s.ring.calBusy

/-- A message of a type arrives (R593–R595): it is counted as wrong, removed or forwarded, and acted on. -/
def ringIn (s : State) (ty : Nat) (m : Bytes) (act : State → State) : State :=
  if !ringLive s then s
  else if !msgOk m then ringCause (s.inc K.CRC_ERRS) 1
  else if msgType m ≠ ty ∨ msgOwn s m then s
  else
    let s := if msgHops m = 1023 then ringCause (s.inc K.DROPS) 2 else s.emit (.ring (msgForward s m))
    if 5 ≤ ty ∨ inGroup s (msgGroup m) then act (s.inc K.MSGS_RX) else s

/-! ### States and delay calibration -/

/-- The port restarts in DOWN, or rests OFF (R598, R620). -/
def ringRestart (s : State) : State :=
  let st := if s.num K.RING_ROLE = 0 ∨ domState s 7 = 0 then 0 else 1
  clearReady (portRest s st) [9]

/-- A write of RING_ROLE commits (R620). -/
def ringRoleWrite (s : State) (v : Nat) : State :=
  if v = s.num K.RING_ROLE then s else ringRestart (s.setNum K.RING_ROLE v)

/-- Block lock on SYNC_IN (R598). -/
def ringLock (s : State) : State :=
  if s.num K.RING_STATE = 1 then setReady (s.setNums [(K.RING_STATE, 2), (K.RING_POS, 0xFFFF)]) 9 else s

/-- No block lock for 1 µs (R598): position and size are unknown again (R592, R602). Loss of lock during delay calibration has no effect on the state (R599). -/
def lockLoss (s : State) : State :=
  if s.num K.RING_STATE < 2 ∨ s.ring.calBusy then s
  else ringCause (clearReady (s.setNums [(K.RING_STATE, 1), (K.RING_POS, 0xFFFF), (K.RING_SIZE, 0)]) [9]) 0

/-- The reflection procedure begins: the block is sent, or forwarded (R599). -/
def ringCalStart (s : State) : State := (s.setRing { s.ring with calBusy := true }).emit .calBlock

/-- A calibration block arrives (R599); the master's own has come round. -/
def calibrationBlock (s : State) : State := if ringLive s && !ringMaster s then ringCalStart s else s

/-- At 60 µs the procedure ends with the outgoing link's delay; on the master the next TIME is the check of R600. -/
def delayCalibrationEnd (s : State) (linkPs : Nat) : State :=
  if !s.ring.calBusy then s
  else
    let s := ringCalStop (s.setRing { s.ring with check := ringMaster s })
    s.setNum K.LINK_OUT_PS (linkPs % 2 ^ 32)

/-! ### Fleet time -/

/-- 1,048,576 ns in LSB (R602). -/
def ringPeriod : Nat := 1048576 * 3584

/-- START_LEAD in LSB. -/
def startLead (s : State) : Nat := 3584 * s.num K.START_LEAD

/-- A TIME event to come, at fleet time `t`; late where it has passed (R605). -/
def timeEventAdd (s : State) (now : Int) (t : Nat) : State :=
  if (t : Int) < now then ringCause s 3 else s.setRing { s.ring with events := s.ring.events ++ [t] }

/-- The master sends TIME (R602). -/
def timeEmit (s : State) : State :=
  if !ringMaster s || !ringLive s then s
  else
    let t := s.num K.TB_NOW / ringPeriod * ringPeriod
    let known := decide (3 ≤ s.num K.RING_STATE)
    let te := nextMarker (t + startLead s) % 2 ^ 64
    let g := 0x40 + (if known && s.ring.calOk then 0x80 else 0)
    timeEventAdd (ringQueue s (ringOwn s 5 g (if known then s.num K.RING_SIZE else 0) t te)) (s.num K.TB_NOW) te

/-- No TMU is ARMED or STARTED (R604). -/
def tmusQuiet (s : State) : Bool := (List.range 96).all (fun c => !tmuArmed s c)

/-- The epoch step of R604 with the residual it leaves. -/
def epochStep (s : State) : State :=
  let o := fleetOfs s
  let d := roundDiv o 35840 * 35840
  let s := (tbStep s d).setNum K.FLEET_OFS (raw 64 (o - d))
  s.setRing { s.ring with stepped := true }

/-- After a TIME: the step, or the drift check (R604). A residual beyond ±4 ns is stepped again. -/
def epochCheck (s : State) : State :=
  if !s.flag K.RING_CTRL 2 ∨ s.num K.RING_STATE ≠ 4 then s
  else
    let o := fleetOfs s
    let drift := s.ring.stepped && (decide (o < -14336) || decide (14336 < o))
    let s := if drift then ringCause s 6 else s
    if (!s.ring.stepped || drift) && tmusQuiet s then epochStep s else s

/-- The follower's position and state from a TIME (R598, R606). -/
def followerTime (s : State) (m : Bytes) : State :=
  let pos := msgHops m + 1
  let s := if s.num K.RING_STATE = 2 then s.setNums [(K.RING_POS, pos), (K.RING_STATE, 3)]
    else if s.num K.RING_POS ≠ pos then ringCause (s.setNums [(K.RING_STATE, 2), (K.RING_POS, 0xFFFF)]) 5
    else s
  let s := s.setNums [(K.RING_SIZE, msgArg16 m), (K.LOOP_PS, 31000 * msgArg16 m)]
  if bit (msgGroup m) 7 ∧ s.num K.RING_STATE = 3 then s.setNum K.RING_STATE 4 else s

/-- A follower acts on a TIME that arrived at `ta` (R603–R605). -/
def timeAct (s : State) (m : Bytes) (ta : Nat) : State :=
  let s := followerTime s m
  let ofs : Int := (msgA m : Int) + roundDiv (((msgAcc m) * 3584 : Nat) : Int) 1000 - ta
  let s := epochCheck (s.setNum K.FLEET_OFS (raw 64 ofs))
  timeEventAdd s ((ta : Int) + ofs) (msgB m)

/-- Measured loop time in ps from departure to return. -/
def loopPs (m : Bytes) (ta : Nat) : Nat := (roundDiv (((ta : Int) - (msgA m : Int)) * 1000) 3584).toNat

/-- The master's own TIME returns (R598, R600, R601). -/
def masterTime (s : State) (m : Bytes) (ta : Nat) : State :=
  let n := msgHops m + 1
  let enters := s.num K.RING_STATE = 2
  let s := s.setNum K.RING_SIZE n
  let s := if enters then s.setNums [(K.RING_STATE, 3), (K.RING_POS, 0)] else s
  if s.ring.check then
    let l := loopPs m ta
    let s := (s.setRing { s.ring with check := false }).setNum K.LOOP_PS l
    if l ≤ msgAcc m + 10 + 3 * n ∧ msgAcc m ≤ l + 10 + 3 * n then
      (s.setRing { s.ring with calOk := true }).setNum K.RING_STATE 4
    else
      ringCause ((s.setRing { s.ring with calOk := false }).setNum K.RING_STATE 3) 4
  else if enters ∧ s.flag K.RING_CTRL 0 then ringCalStart s
  else s

/-- A TIME message arrives (R594, R602–R605). -/
def timeIn (s : State) (m : Bytes) (ta : Nat) : State :=
  if ringMaster s && ringLive s && msgOk m && msgType m == 5 then masterTime s m ta
  else ringIn s 5 m (fun s => timeAct s m ta)

/-- The TB_NOW value of a fleet time (R427, R603, R604). -/
def localTime (s : State) (t : Nat) : Nat :=
  if fleetOwn s then t else raw 64 ((t : Int) - fleetOfs s)

/-- The earliest of some times. -/
def earliest (l : List Nat) : Option Nat := l.foldl (fun m t => some (match m with | some x => min x t | none => t)) none

/-- The TIME event at the marker edge of T_EVENT (R200, R269, R605): every TMU sees source 0x80 at the TB_NOW value of that
fleet time (R427). -/
def timeEvent (s : State) : State :=
  match earliest s.ring.events with
  | none => s
  | some t =>
    let s := s.setRing { s.ring with events := s.ring.events.erase t }
    let s := s.setSeq { s.seq with ringTime := true }
    let s := tmuCaptureAll 0x80 (16 * localTime s t : Nat) (List.range 96) s
    if s.num K.RING_TRAP_EN = 1 then
      (s.setUc { s.uc with timeAt := (s.num K.ISSUES, curSegment s) }).setFlag K.TRAP_PENDING 1 true
    else s

/-! ### Start, halt, jump and mark -/

/-- A START is acted on (R608, R610). -/
def startAct (s : State) (t : Nat) : State :=
  if seqState s ≠ 3 then s.inc K.START_IGNORED
  else
    let s := if s.num K.SCHED = 2 ^ 64 - 1 then s else s.inc K.START_REPLACED
    (s.setRing { s.ring with startLate := decide (t < fleetNow s) }).setNum K.SCHED t

/-- The scheduled cycle: the first issue, or a late START (R608, R610). -/
def scheduledStart (s : State) : State :=
  if seqState s ≠ 3 ∨ s.num K.SCHED = 2 ^ 64 - 1 then s
  else
    let at_ : Nat := 16 * localTime s (s.num K.SCHED)
    let s := s.setNum K.SCHED (2 ^ 64 - 1)
    if s.ring.startLate then ringCause (s.inc K.START_LATE) 3 else firstIssue s at_

/-- A ring JUMP is acted on: scheduled, or latched late (R611). -/
def jumpAct (s : State) (e t : Nat) : State :=
  if t < fleetNow s then
    let s := ringCause (s.inc K.JUMP_LATE) 3
    (jumpRequest (s.setRing { s.ring with jump := none }) e true).2
  else s.setRing { s.ring with jump := some (e, t) }

/-- A scheduled ring JUMP arrives at the sequencer (R611). -/
def scheduledJump (s : State) : State :=
  match s.ring.jump with
  | some (e, _) => (jumpRequest (s.setRing { s.ring with jump := none }) e true).2
  | none => s

/-- A MARK reaches the sequencer (R161, R200, R614): SYNCW counts it in or after the cycle of its first issue. -/
def markAct (s : State) (id : Nat) : State :=
  let s := s.setSeq { s.seq with ringMark := true }
  let waits : Bool := match dueWord s with
    | some w => w % 256 == 0x0B && field w 15 8 == id % 256
    | none => false
  let in_ := running s || decide (0 < s.seq.made)
  if seqState s = 4 ∧ waits ∧ in_ ∧ s.seq.wait = .none ∧ s.uc.routine = none then
    s.setSeq { s.seq with markSeen := true }
  else s

/-- START, HALT, JUMP and MARK messages arrive. -/
def ringStart (s : State) (m : Bytes) : State := ringIn s 1 m (fun s => startAct s (msgA m))
def ringHalt (s : State) (m : Bytes) : State := ringIn s 2 m (fun s => haltLatch s 0x22)
def ringJump (s : State) (m : Bytes) : State := ringIn s 3 m (fun s => jumpAct s (msgArg16 m % 16) (msgA m))
def ringMarkIn (s : State) (m : Bytes) : State := ringIn s 4 m (fun s => markAct s (msgArg16 m % 256))

/-- T_SCHED of a command (R607). -/
def schedTime (s : State) : Nat := nextMarker (fleetNow s + startLead s) % 2 ^ 64

/-- The lead is shorter than the loop allows (R606). -/
def leadShort (s : State) : Bool := decide (1000 * s.num K.START_LEAD < s.num K.LOOP_PS + 2000000)

/-- The reply code of a RING_CMD write (R601, R606). -/
def ringCmdCode (s : State) (v : Nat) : Nat :=
  let st := s.num K.RING_STATE
  if v = 1 ∨ v = 4 then (if leadShort s then 8 else if st < 4 then 12 else 0)
  else if v = 2 then (if st < 3 then 12 else 0)
  else if v = 8 then (if !ringMaster s then 8 else if st < 3 then 12 else if !seqQuiet s then 7 else 0)
  else if v = 0 then 0 else 8

/-- An accepted RING_CMD write (R596, R601, R606): the message is queued, and the module acts on its own START and JUMP
at the scheduled time and on its own HALT at once. -/
def ringCmd (s : State) (v : Nat) : State :=
  let g := s.num K.CMD_GROUP % 128
  let e := s.num K.CMD_ENTRY % 16
  let t := schedTime s
  let mine := inGroup s g
  if v = 1 then
    let s := ringQueue s (ringOwn s 1 g 0 t 0)
    if mine then startAct s t else s
  else if v = 2 then
    let s := ringQueue s (ringOwn s 2 g 0 0 0)
    if mine then haltLatch s 0x22 else s
  else if v = 4 then
    let s := ringQueue s (ringOwn s 3 g e t 0)
    if mine then jumpAct s e t else s
  else if v = 8 then (ringCalStart s).setFlag K.RING_CMD 3 true
  else s

/-- SYNC_OUT runs: on a follower while it holds block lock on SYNC_IN, on a master whenever the port is on; not during
delay calibration (R589, R599). -/
def ringSends (s : State) : Bool := ringLive s || (ringMaster s && s.num K.RING_STATE == 1 && !s.ring.calBusy)

/-- A queued message is sent in the first gap (R589, R597). -/
def ringQueueSend (s : State) : State :=
  match s.ring.queue with
  | m :: r => if ringSends s then (s.setRing { s.ring with queue := r }).emit (.ring m) else s
  | [] => s

/-! ### Signatures -/

/-- The module's SIG message is queued (R592, R616). -/
def sigSend (s : State) : State :=
  if s.num K.RING_STATE < 3 ∨ s.ring.calBusy then s
  else
    let a16 := s.num K.SIG_VALID + 2 * s.num K.SIG_CURRENT + 4 * ofBool s.mgmt.mismatch
    ringQueue s (ringOwn s 6 (0x40 + s.num K.SIG_GROUP % 64) a16 (s.num K.SIG_LIVE + 2 ^ 32 * s.num K.SIG_REF) 0)

/-- A peer never heard of. -/
def peerInit : Peer := { live := 0, ref := 0, mism := 0, group := 0, flags := 0, rx := 0 }

/-- PEERS_STALE from the entries (R618). -/
def noteStale (s : State) : State :=
  s.setNum K.PEERS_STALE ((s.ring.peers.filter (fun p => bit p.2.flags 0 && bit p.2.flags 4)).length)

/-- A SIG message updates the entry of its sender and compares (R617). -/
def sigAct (s : State) (m : Bytes) : State :=
  let p := msgOrigin m
  let x := (aFind s.ring.peers p).getD peerInit
  let live := msgA m % 2 ^ 32
  let grp := msgGroup m % 64
  let cmp := s.num K.SIG_VALID == 1 && grp == s.num K.SIG_GROUP && bit (msgArg16 m) 1
  let differs := live != s.num K.SIG_REF
  let was := bit x.flags 3
  let mm := if cmp then differs else was
  let fl := 1 + 2 * ofBool (bit (msgArg16 m) 0) + 4 * ofBool (bit (msgArg16 m) 1) + 8 * ofBool mm
  let x : Peer := { live := live, ref := msgA m / 2 ^ 32, group := grp, flags := fl, rx := inc32 x.rx,
                    mism := if cmp && differs then min (x.mism + 1) 65535 else x.mism }
  let s := noteStale (s.setRing { s.ring with peers := aPut s.ring.peers p x })
  let s := if cmp && differs then s.inc K.PEER_MISMATCHES else s
  if mm && !was && s.flag K.RING_CTRL 3 then s.raise 0x76 else s

/-- A SIG message arrives. -/
def sigIn (s : State) (m : Bytes) : State := ringIn s 6 m (fun s => sigAct s m)

/-- An entry has not been refreshed for three periods (R618). -/
def peerStale (s : State) (p : Nat) : State :=
  match aFind s.ring.peers p with
  | some x =>
    if bit x.flags 0 then noteStale (s.setRing { s.ring with peers := aPut s.ring.peers p { x with flags := putBit x.flags 4 true } })
    else s
  | none => s

/-- PEER_TABLE as it reads (R617, R623): the module's own entry holds its own values. -/
def peerTable (s : State) : Bytes :=
  (List.range 1024).flatMap (fun p =>
    if p = s.num K.RING_POS then
      leBytes 4 (s.num K.SIG_LIVE) ++ leBytes 4 (s.num K.SIG_REF) ++ zeros 2 ++ leBytes 1 (s.num K.SIG_GROUP) ++
        leBytes 1 (0x20 + 2 * s.num K.SIG_VALID + 4 * s.num K.SIG_CURRENT) ++ zeros 4
    else match aFind s.ring.peers p with
      | some x => leBytes 4 x.live ++ leBytes 4 x.ref ++ leBytes 2 x.mism ++ leBytes 1 x.group ++ leBytes 1 x.flags ++
          leBytes 4 x.rx
      | none => zeros 16)

/-- A committed write of SIG_GROUP (R615). -/
def sigGroupWrite (s : State) (v : Nat) : State :=
  let s := s.setRing { s.ring with jump := none }
  s.setNums [(K.SIG_GROUP, v), (K.SCHED, 2 ^ 64 - 1)]

end Sys2Proof.Machine
end

