-- ==== Sys2Proof/Machine/Trust.lean ====
section
/-! DEFINITION. The boot chain (R655–R662), the floors (R663, R664), identity (R665, R666), customer keys (R668, R669)
and attestation (R670–R672). -/

namespace Sys2Proof.Machine

/-! ### The boot chain -/

/-- A store slot is erased. -/
def slotErased (d : Bytes) : Bool := d.all (fun b => b == 0xFF#8)

/-- Check 2 of R657 (R655). -/
def fwHeaderOk (d : Bytes) : Bool :=
  let n := fieldAt d 16 4
  d.take 4 == [0x4B#8, 0x5A#8, 0x46#8, 0x57#8] && fieldAt d 4 2 == 1 && fieldAt d 6 2 == 512 && decide (4 ≤ n) &&
  decide (n ≤ 8388608) && fieldAt d 20 4 == 0 && (d.drop 157).take 223 == zeros 223 && decide (512 + n ≤ d.length)

/-- ROOT_PUB of an image. -/
def fwRoot (d : Bytes) : Bytes := (d.drop 24).take 133

/-- The signed bytes of an image: header bytes 0–379 and the body (R656). -/
def fwSigned (d : Bytes) : Bytes := d.take 380 ++ (d.drop 512).take (fieldAt d 16 4)

/-- FW_VERSION of an image. -/
def fwVersion (d : Bytes) : Nat := fieldAt d 12 4

/-- Checks 2–6 of R657: the status of the first that fails, 0 when all pass. -/
def fwCheck (s : State) (d : Bytes) : Nat :=
  if !fwHeaderOk d then 2
  else if fieldAt d 8 4 ≠ 0x961200B0 then 3
  else if Config.sha512 (fwRoot d) ≠ s.trust.rootHash then 4
  else if fwVersion d < s.num K.FW_FLOOR then 5
  else if !Config.ecdsaVerify (fwRoot d) (fwSigned d) ((d.drop 380).take 132) then 6
  else 0

/-- The status of a slot (R657). -/
def slotStatus (s : State) (d : Bytes) (bad : Bool) : Nat :=
  if slotErased d then 1
  else
    let c := fwCheck s d
    if c ≠ 0 then c else if bad then 7 else 0

/-- The floor the slots of a fuse array hold: the value of the highest valid one (R663). -/
def floorOf (l : List FloorSlot) : Nat := l.foldl (fun f x => if x.valid then x.value else f) 0

/-- Slots that are neither valid nor used up (R664). -/
def slotsLeft (l : List FloorSlot) : Nat := (l.filter (fun x => !x.valid && !x.used)).length

/-- FW_FLOOR, PATCH_FLOOR and the slots left, from the fuses. -/
def noteFloors (s : State) : State :=
  s.setNums [(K.FW_FLOOR, floorOf s.trust.fwFloor), (K.PATCH_FLOOR, floorOf s.trust.patchFloor),
             (K.FW_SLOTS_LEFT, slotsLeft s.trust.fwFloor), (K.PATCH_SLOTS_LEFT, slotsLeft s.trust.patchFloor)]

/-- The boot ROM checks the slots and runs one, or the module enters recovery (R657–R659). -/
def bootChain (s : State) : State :=
  let s := noteFloors s
  let a := slotStatus s s.trust.fwA s.trust.badA
  let b := slotStatus s s.trust.fwB s.trust.badB
  let s := s.setNum K.FW_STATUS (a + 16 * b)
  let useA := a == 0 && (b != 0 || decide (fwVersion s.trust.fwB ≤ fwVersion s.trust.fwA))
  if a ≠ 0 ∧ b ≠ 0 then s.setPwr { s.pwr with recovery := true }
  else
    let d := if useA then s.trust.fwA else s.trust.fwB
    let s := s.setNums [(K.FW_SLOT, if useA then 1 else 2), (K.FW_VERSION, fwVersion d)]
    s.setBlob K.FW_MEASURE (Config.sha512 (fwSigned d))

/-- A slot's status raises its source when MGMT is set (R658). -/
def raiseSlot (s : State) (st : Nat) : State :=
  if 2 ≤ st ∧ st ≤ 6 then s.raise 0x7F else if st = 7 then s.raise 0x7E else s

/-- A start loads the customer keys from the store (R669); a soft reset keeps them while their lock group is locked, and
what the store lacks of them is still to be written (R641). -/
def loadKeys (s : State) : State :=
  let kept := s.flag K.LOCK_SET 6
  let ks := (List.range 8).map (fun k => (k, if kept then s.blob (K.CUST_KEY0 + k) else (s.trust.keys[k]?).getD []))
  let s := ks.foldl (fun s p => s.setBlob (K.CUST_KEY0 + p.1) p.2) s
  let s := s.setNum K.KEYS_SAVED (ofBool (ks.map Prod.snd == s.trust.keys))
  s.setNum K.KEY_MAP ((ks.map (fun p => if p.2.isEmpty then 0 else 2 ^ p.1)).sum)

/-- IDENT_STATUS (R666). -/
def identStatus (s : State) : Nat :=
  if s.trust.cert.isEmpty then 1
  else match Config.certKey s.trust.cert with
  | none => 1
  | some k => if k = Config.identPub then 0 else 2

/-- The firmware begins to serve: slot faults, keys, and the identity check (R658, R660, R666, R669). -/
def firmwareUp (s : State) : State :=
  let st := s.num K.FW_STATUS
  let s := raiseSlot (raiseSlot s (st % 16)) (st / 16)
  let s := loadKeys s
  let i := identStatus s
  let s := s.setNum K.IDENT_STATUS i
  if i = 0 then s else s.raise 0x7F

/-! ### Installing firmware -/

/-- FW_CMD.INSTALL (R661): the image as it stands is checked and written. -/
def fwInstall (s : State) : State :=
  (s.setTrust { s.trust with fwJob := some (s.blob K.FW_IMAGE) }).setNum K.FW_CMD 1

/-- Write the slot that does not run. -/
def setIdleSlot (s : State) (d : Bytes) : State :=
  s.setTrust (if s.num K.FW_SLOT = 1 then { s.trust with fwB := d } else { s.trust with fwA := d })

/-- A reset or a power failure cuts an install off: the slot an image is being written to holds none any more (R662). -/
def fwCut (s : State) : State :=
  match s.trust.fwJob with
  | some d => if fwCheck s d = 0 then setIdleSlot s [0#8] else s
  | none => s

/-- The write of an install ends, read back or not (R661): only an image that passes the checks is written. -/
def fwInstallDone (s : State) (ok : Bool) : State :=
  match s.trust.fwJob with
  | none => s
  | some d =>
    let s := (s.setTrust { s.trust with fwJob := none }).setNum K.FW_CMD 0
    let c := fwCheck s d
    if c ≠ 0 then s.setNum K.FW_INST_STATUS c
    else if ok then (setIdleSlot s d).setNum K.FW_INST_STATUS 0
    else (setIdleSlot s [0#8]).setNum K.FW_INST_STATUS 7

/-! ### Floors -/

/-- The value an ADV_FW (false) or ADV_PATCH (true) would program. -/
def advValue (s : State) (patch : Bool) : Nat := if patch then s.num K.PATCH_LEVEL else s.num K.FW_VERSION

/-- The floor in force. -/
def advFloor (s : State) (patch : Bool) : Nat := if patch then s.num K.PATCH_FLOOR else s.num K.FW_FLOOR

/-- The outcome of a ROLLBACK_CMD write with one bit set (R663): the reply code, and whether a slot is programmed. -/
def advCheck (s : State) (patch : Bool) : Nat × Bool :=
  if patch ∧ s.num K.PATCH_STATUS ≠ 0 then (8, false)
  else if advValue s patch = advFloor s patch then (0, false)
  else if s.num (if patch then K.PATCH_SLOTS_LEFT else K.FW_SLOTS_LEFT) = 0 then (8, false)
  else if !holdEnough s 10800 then (11, false)
  else match s.trust.fuse with
    | some (p, _) => if p = patch then (0, false) else (7, false)
    | none => (0, true)

/-- The programming of the next slot starts. -/
def advStart (s : State) (patch : Bool) : State :=
  (s.setTrust { s.trust with fuse := some (patch, advValue s patch) }).setNum K.ROLLBACK_CMD (if patch then 2 else 1)

/-- Program, or use up, the first free slot. -/
def fuseSlot (l : List FloorSlot) (v : Nat) (ok : Bool) : List FloorSlot :=
  match l with
  | [] => []
  | x :: r => if x.valid || x.used then x :: fuseSlot r v ok
    else (if ok then ⟨v, true, false⟩ else ⟨v, false, true⟩) :: r

/-- A programming ends with its valid fuse, or is cut off (R663, R664). -/
def fuseEnd (s : State) (ok : Bool) : State :=
  match s.trust.fuse with
  | none => s
  | some (p, v) =>
    let t := { s.trust with fuse := none }
    let t := if p then { t with patchFloor := fuseSlot t.patchFloor v ok } else { t with fwFloor := fuseSlot t.fwFloor v ok }
    noteFloors ((s.setTrust t).setNum K.ROLLBACK_CMD 0)

/-! ### Customer keys -/

/-- The length and form of a key are accepted (R668). -/
def keyOk (d : Bytes) : Bool :=
  d.isEmpty || (d.length == 133 && byteAt d 0 == 4 && Config.onCurve d)

/-- An accepted write of CUST_KEYk (R669). -/
def keyWrite (s : State) (k : Nat) (d : Bytes) : State :=
  ((s.setBlob (K.CUST_KEY0 + k) d).setFlag K.KEY_MAP k (!d.isEmpty)).setNum K.KEYS_SAVED 0

/-- The slots are in the non-volatile store (R669). -/
def keysSave (s : State) : State :=
  if s.num K.KEYS_SAVED = 1 then s
  else
    let ks := (List.range 8).map (fun k => s.blob (K.CUST_KEY0 + k))
    (s.setTrust { s.trust with keys := ks }).setNum K.KEYS_SAVED 1

/-! ### Attestation -/

/-- AFLAGS of the report (R672). -/
def attFlags (s : State) : Nat :=
  s.num K.SIG_CURRENT + 2 * s.num K.SIG_VALID + 4 * ofBool s.mgmt.mismatch + 8 * s.num K.UC_ENFORCE +
  16 * ofBool (s.flag K.CAL_FLAGS 4)

/-- Bytes 0–183 of the report (R672). -/
def attBody (s : State) : Bytes :=
  let n := s.blob K.ATT_NONCE
  [0x4B#8, 0x5A#8, 0x41#8, 0x54#8] ++ leBytes 2 1 ++ leBytes 2 316 ++ leBytes 8 s.trust.serial ++
  leBytes 4 (s.num K.ATT_COUNT) ++ leBytes 4 (s.num K.PATCH_LEVEL) ++ leBytes 4 (s.num K.SIG_LIVE) ++
  leBytes 1 (attFlags s) ++ leBytes 1 n.length ++ zeros 2 ++
  leBytes 8 (if s.num K.ACTIVE_BANK = 0 then 0 else s.num K.CERT_ID) ++ leBytes 4 (s.num K.FW_VERSION) ++
  leBytes 4 (s.num K.FW_FLOOR) ++ leBytes 4 (s.num K.PATCH_FLOOR) ++ leBytes 4 (ucDigest s) ++
  (s.blob K.FW_MEASURE ++ zeros 64).take 64 ++ (n ++ zeros 64).take 64

/-- The reply code of ATT_CMD.SIGN (R670). -/
def signCode (s : State) : Nat :=
  if (s.blob K.ATT_NONCE).length < 32 then 8 else if s.num K.IDENT_STATUS ≠ 0 then 12
  else if s.num K.ATT_STATE = 1 then 7 else 0

/-- ATT_CMD.SIGN (R670, R671): refused with IDENT_STATUS not 0 the state is FAILED. -/
def signStart (s : State) : State :=
  let c := signCode s
  if c = 12 then s.setNum K.ATT_STATE 3
  else if c ≠ 0 then s
  else
    let s := s.inc K.ATT_COUNT
    let s := s.setNums [(K.ATT_STATE, 1), (K.ATT_CMD, 1)]
    s.setTrust { s.trust with report := some (attBody s) }

/-- The report is signed (R670). -/
def signDone (s : State) : State :=
  match s.trust.report with
  | none => s
  | some b =>
    let s := s.setBlob K.ATT_REPORT (b ++ (Config.identitySign b ++ zeros 132).take 132)
    (s.setTrust { s.trust with report := none }).setNums [(K.ATT_STATE, 2), (K.ATT_CMD, 0)]

end Sys2Proof.Machine
end

