-- ==== Sys2Proof/Machine/Operands.lean ====
section
/-! DEFINITION. Every operand form: the value of an object as it reads (R29, R39, R86), whether its live value is present,
the range check of a write (R9, R41), reserved and write-one-to-clear bits (R8, R42), and the configuration signature
(R111–R118). -/

namespace Sys2Proof.Machine

/-! ### Reading -/

/-- The value of a tile object that is not held as an object. -/
def tileValue (s : State) (b t : Nat) : Option Nat :=
  if b = K.WH_LEVEL then some (if tileFetches s.seq t then whLevel s.seq t else 0)
  else if b = K.WH_FETCH then some (if tileFetches s.seq t then 1 else 0)
  else none

/-- The value of a channel object that is not held as an object. -/
def chanValue (s : State) (b c : Nat) : Option Nat :=
  if b = K.CMP_LIVE then some (if calibrating s c then (aFind s.slow.snap c).getD 0 else cmpLive s c)
  else if b = K.ACTIVE_TSET then some (s.chan c).tset
  else if b = K.CHK_STATE then some (s.chan c).chk
  else none

/-- The value of a module object that is not held as an object. -/
def moduleValue (s : State) (k : Nat) : Option Nat :=
  if k = K.STATUS then some (statusWord s)
  else if k = K.SERIAL then some s.trust.serial
  else if k = K.COND_LIVE then some (condLive s)
  else if K.CNT_LIVE0 ≤ k ∧ k ≤ K.CNT_LIVE0 + 3 then some ((s.seq.cnt[k - K.CNT_LIVE0]?).getD 0)
  else if k = K.JUMP_STATE then some (jumpState s)
  else if k = K.CUR_SEGMENT then some (curSegment s)
  else if k = K.LOOP_DEPTH then some s.seq.loops.length
  else if k = K.CALL_DEPTH then some s.seq.calls.length
  else if k = K.UC_DIGEST then some (ucDigest s)
  else if k = K.FLEET_NOW then some (fleetNow s)
  else if k = K.UPTIME then some (s.pwr.cycles / 400)
  else none

/-- The value of an object of fixed size as it reads. -/
def readNum (s : State) (i sub : Nat) : Nat :=
  let k := objKey i sub
  let b := objKey (baseIndex i) sub
  let v := if 0x3000 ≤ i ∧ i ≤ 0x30BF then tileValue s b (unitOf i)
    else if 0x4000 ≤ i ∧ i ≤ 0x4BFF then chanValue s b (unitOf i)
    else moduleValue s k
  v.getD (s.num k)

/-- The value of an OCTET_STRING or DOMAIN object as it reads. -/
def readBlob (s : State) (k : Nat) : Bytes :=
  if k = K.IDENT_PUB then Config.identPub
  else if k = K.IDENT_CERT then s.trust.cert
  else if k = K.ROOT_HASH then s.trust.rootHash
  else if k = K.E0_MAC then s.trust.mac0
  else if k = K.E1_MAC then s.trust.mac1
  else if k = K.PEER_TABLE then peerTable s
  else if k = K.UC_RD_DATA then leBytes 32 (microWord s (s.num K.UC_RD_ADDR))
  else s.blob k

/-- The bytes of a value, little-endian (R5, R86); sub-index 0 is the highest sub-index present (R39). -/
def objBytes (s : State) (i sub : Nat) (r : ObjRow) : Bytes :=
  if sub = 0 then leBytes 1 r.dflt
  else if r.ty.isBlob then readBlob s (objKey i sub)
  else leBytes r.ty.size (readNum s i sub)

/-! ### Live values -/

/-- The live value of an object lies in a domain that is off, in listen state or not ready (R29, R421, R646). -/
def notReady (s : State) (i sub : Nat) : Bool :=
  let k := objKey i sub
  let b := objKey (baseIndex i) sub
  let bi := baseIndex i
  let u := unitOf i
  if sub = 0 then false
  else if bi = 0x4009 ∨ b = K.CMP_LIVE ∨ b = K.ACTIVE_TSET ∨ b = K.CHK_STATE then !tileLive s (tileOf u)
  else if bi = 0x400A ∨ bi = 0x400B then domState s 3 == 0
  else if b = K.WH_LEVEL ∨ b = K.LINE_LIVE then !tileLive s u
  else if b = K.TILE_TEMP ∨ b = K.TILE_PWR then domState s (12 + u) == 0
  else if k = K.COND_LIVE ∨ (K.CNT_LIVE0 ≤ k ∧ k ≤ K.CNT_LIVE0 + 3) ∨ k = K.CUR_SEGMENT ∨ k = K.LOOP_DEPTH ∨
      k = K.CALL_DEPTH ∨ k = K.UC_RD_DATA then domState s 3 == 0
  else if k = K.TB_NOW ∨ k = K.FLEET_NOW then domState s 2 == 0
  else if k = K.OVEN_TEMP then domState s 1 == 0
  else if K.STACK_TEMP0 ≤ k ∧ k ≤ K.STACK_TEMP0 + 3 then domState s (8 + (k - K.STACK_TEMP0)) == 0
  else false

/-! ### Values of writes -/

/-- A value lies in the range its table states (R9, R41). -/
def rngOk (r : ObjRow) (v : Nat) : Bool :=
  match r.rng with
  | .any => true
  | .nat lo hi => decide (lo ≤ v) && decide (v ≤ hi)
  | .sint lo hi step =>
    let x := signed (8 * r.ty.size) v
    decide (lo ≤ x) && decide (x ≤ hi) && x % (step : Int) == 0
  | .among l => l.contains v
  | .cntEvent => decide (v % 64 < 48) && v / 64 != 3
  | .lineCfg => field v 9 8 != 3
  | .trapVec => v == 0 || (decide (0x1800 ≤ v) && decide (v ≤ 0x1FFF))
  | .vper => [8, 16, 32].contains v || (v % 64 == 0 && decide (1 ≤ v / 64) && decide (v / 64 ≤ 65536))
  | .convNode => (decide (v < 0x80) && v % 16 != 15) || (decide (0x80 ≤ v) && decide (v ≤ 0x83))
  | .tmuSrc => (decide (v < 0x30)) || (decide (0x40 ≤ v) && decide (v ≤ 0x43)) || v == 0x80 || v == 0xFF
  | .oneBit => [0, 1, 2, 4, 8].contains v

/-- An F32 is a NaN or an infinity (R41). -/
def f32Bad (v : Nat) : Bool := field v 30 23 == 0xFF

/-- The value check of step 9 that needs nothing but the row (R9, R41). Reserved bits are ignored first (R8). -/
def valueOk (r : ObjRow) (v : Nat) : Bool :=
  (r.ty != .bool || decide (v ≤ 1)) && (r.ty != .f32 || !f32Bad v) && rngOk r (if r.ty = .bool then v else v &&& r.mask)

/-- The value an object takes from a write: W1C bits clear where 1 is written and an object that has such bits keeps its
others; otherwise the implemented bits are taken (R8, R42). -/
def merged (r : ObjRow) (old v : Nat) : Nat :=
  if r.w1c = 0 then v &&& r.mask else clearBits old (v &&& r.w1c)

/-! ### The configuration signature -/

/-- The sub-indices of a row. -/
def rowSubs (r : ObjRow) : List Nat := (List.range (r.hi + 1 - r.sub)).map (· + r.sub)

/-- The record of one sub-index (R111). -/
def sigRecord (s : State) (i sub : Nat) (r : ObjRow) : Bytes :=
  let v := objBytes s i sub r
  leBytes 2 i ++ leBytes 1 sub ++ leBytes 1 r.ty.code ++ leBytes 2 v.length ++ v

/-- The records of an index, in ascending order of sub-index. -/
def sigIndex (s : State) (i : Nat) : Bytes :=
  (rowsOf i).flatMap (fun r => if r.sig then (rowSubs r).flatMap (fun sub => sigRecord s i sub r) else [])

/-- The live signature: CRC-32C over the records in ascending order of index (R111, R112). -/
def signature (s : State) : Nat :=
  (List.range 0x10000).foldl (fun c i => crcRun c (sigIndex s i)) 0xFFFFFFFF ^^^ 0xFFFFFFFF

/-- A write has committed: SIG_CURRENT is 0, a scan in progress is abandoned and a new one starts (R114, R115). -/
def sigTouched (s : State) : State := (s.setMgmt { s.mgmt with scanning := true }).setNum K.SIG_CURRENT 0

/-- A periodic scan starts, unless one is in progress (R114). -/
def sigScanStart (s : State) : State :=
  if s.flag K.READY 0 then (s.setMgmt { s.mgmt with scanning := true }) else s

/-- SIG_MISMATCH after a completed scan (R116). -/
def sigCompare (s : State) : State :=
  if s.num K.SIG_VALID = 0 then s
  else
    let m := s.num K.SIG_LIVE != s.num K.SIG_REF
    let was := s.mgmt.mismatch
    let s := s.setMgmt { s.mgmt with mismatch := m }
    if m && !was then (s.inc K.SIG_MISMATCHES).raise 0x76 else s

end Sys2Proof.Machine
end

