-- ==== Sys2Proof/Machine/PumpLink.lean ====
section
/-! DEFINITION. A pump channel's work beside its object (R487–R497), as other chapters reach it. -/

namespace Sys2Proof.Machine

/-- A pump channel without a descriptor. -/
def pumpInit : PumpCh :=
  { desc := none, done := 0, crc := 0xFFFFFFFF, stopAsked := false, refetch := false, resume := false, ep := 1 }

/-- The work of a pump channel. -/
def State.pch (s : State) (p : Nat) : PumpCh := (aFind s.pump.chs p).getD pumpInit

/-- Set the work of a pump channel. -/
def State.setPch (s : State) (p : Nat) (x : PumpCh) : State :=
  { s with pump := { s.pump with chs := aPut s.pump.chs p x } }

/-- CH_STATE of a pump channel (R490). -/
def pumpState (s : State) (p : Nat) : Nat := s.num (atPump K.CH_STATE p)

/-- A STOP of a RUNNING channel: it takes effect at the end of the element or block in progress (R497). -/
def pumpStopAsk (s : State) (p : Nat) : State := s.setPch p { s.pch p with stopAsked := true }

/-- Every RUNNING channel is stopped (R573). -/
def pumpStopAll (s : State) : State :=
  (List.range 16).foldl (fun s p => if pumpState s p = 1 then pumpStopAsk s p else s) s

end Sys2Proof.Machine
end

