-- ==== Sys2Proof/Machine/Faults.lean ====
section
/-! DEFINITION. Bringing domains up (R628, R629, R633), the fault collector and its reactions (R549–R565), fence commands
(R566–R572), the safe state and the watchdog (R573–R576) and the ALIVE pair (R577–R579). -/

namespace Sys2Proof.Machine

/-! ### Domains on -/

/-- The READY bits a domain needs before it is switched on (R629). -/
def domNeeds (d : Nat) : List Nat := if 12 ≤ d then [2, 11] else if d = 3 then [2, 10] else [0]

/-- The domain may be switched on now: enabled, supplied, unfenced, its needs ready, outside the safe state
(R573, R628, R629, R635). -/
def domMayStart (s : State) (d : Nat) : Bool :=
  domState s d == 0 && s.flag K.DOM_EN d && suppliesOk s d && !domFenced s d && s.flag K.READY 0 &&
  (domNeeds d).all (fun b => s.flag K.READY b) && s.num K.SAFE == 0

/-- A domain is switched on (R629, R633): STARTING until its function is ready; D06 and D07 carry links and are ON. -/
def domUp (s : State) (d : Nat) : State :=
  let s := setDom s d (if d = 6 ∨ d = 7 then 2 else 1)
  if 12 ≤ d then
    let t := d - 12
    calTile ((s.setNum (atTile K.TILE_STATE t) 1).inc (atTile K.TILE_UPS t)) t
  else if d = 2 then (s.setTb { s.tb with synth := false, plls := pllTiles s }).setNum K.TICK_STATE 1
  else if d = 7 then s.setNum K.RING_STATE (if s.num K.RING_ROLE = 0 then 0 else 1)
  else s

/-- TICK locks where it waited for nothing but a tile that has no power any more (R290), and every domain that may be
switched on is. -/
def domAdvance (s : State) : State :=
  (List.range 23).foldl (fun s i => if domMayStart s (i + 1) then domUp s (i + 1) else s) (tickTry s)

/-- A relock goes on without a tile that has lost its power (R290). -/
def relockFollows (s : State) : State := if s.num K.TICK_STATE = 1 then domAdvance s else s

/-! ### The safe state -/

/-- The module enters the safe state (R573, R578). -/
def safeEnter (s : State) : State :=
  let s := haltLatch s 0x23
  let s := pumpStopAll s
  let s := (List.range 96).foldl (fun s c => pinTo s c .off) s
  let off : List Nat := [2, 3, 4] ++ (List.range 16).map (· + 8)
  let s := off.foldl domOff s
  let s := if s.num K.ALIVE_STATE = 0 then s else (s.setNum K.ALIVE_STATE 0).inc K.ALIVE_CHANGES
  (s.setFlt { s.flt with aliveP := false, aliveN := false }).setNum K.SAFE 1

/-! ### Records -/

/-- The bit of a source in a pair of U64 objects whose LO key is `lo` (R580). -/
def srcFlag (s : State) (lo n : Nat) : Bool := s.flag (lo + n / 64) (n % 64)

/-- Set the bit of a source in a pair of U64 objects. -/
def setSrc (s : State) (lo n : Nat) (b : Bool) : State := s.setFlag (lo + n / 64) (n % 64) b

/-- Any STICKY bit is set. -/
def anySticky (s : State) : Bool := s.num K.STICKY_LO != 0 || s.num K.STICKY_HI != 0

/-- The severity recorded for a source in SEV_MAP; 0xFF for none. -/
def sevOf (s : State) (n : Nat) : Nat := byteAt (s.blob K.SEV_MAP) n

/-- Write a source's byte of SEV_MAP. -/
def setSev (s : State) (n v : Nat) : State := s.setBlob K.SEV_MAP ((s.blob K.SEV_MAP).set n (BitVec.ofNat 8 v))

/-- SEV_HIGH from the records (R554). -/
def noteSev (s : State) : State :=
  let l := (List.range 128).map (fun n => if srcFlag s K.STICKY_LO n then sevOf s n + 1 else 0)
  s.setNum K.SEV_HIGH (l.foldl max 0)

/-- The reaction of a source: 0–4 for S0–S4 (R558). -/
def reactOf (s : State) (n : Nat) : Nat := s.num (K.REACT_s + n)

/-- One occurrence is recorded: source, real, injected (R552). -/
def occur (s : State) (o : Nat × Bool × Bool) : State :=
  let n := o.1
  let s := setSrc s K.STICKY_LO n true
  let s := if o.2.1 then setSrc s K.REAL_LO n true else s
  let s := if o.2.2 then setSrc s K.INJ_LO n true else s
  (setSev s n (reactOf s n)).inc K.OCCURRENCES

/-- The occurrences of the signals that have arrived: several signals of one source make one (R550, R551). -/
def occurrences (l : List (Nat × Bool)) : List (Nat × Bool × Bool) :=
  (List.range 128).filterMap (fun n =>
    if l.any (fun p => p.1 == n) then some (n, l.contains (n, false), l.contains (n, true)) else none)

/-! ### Reactions -/

/-- Throttling starts (R648). -/
def throttle (s : State) : State :=
  if s.num K.THERM_STATE = 1 then s else (s.setNum K.THERM_STATE 1).inc K.THROTTLES

/-- Units wait for the FAULT trap that serves the cause (R559, R561). -/
def faultTrap (s : State) (units : List Nat) : State :=
  (s.setFlt { s.flt with fenceWait := s.flt.fenceWait ++ units }).setFlag K.TRAP_PENDING 0 true

/-- The one reaction of the occurrences collected in a cycle (R557, R559): sources with their severities. -/
def react (s : State) (l : List (Nat × Nat)) : State :=
  let has (v : Nat) : Bool := l.any (fun p => p.2 == v)
  let units := (l.filter (fun p => p.2 == 3)).map Prod.fst
  let s := if l.contains (0x7C, 1) then throttle s else s
  if has 2 || has 4 then
    let s := recordPosition s
    let s := s.setFlt { s.flt with fenceWait := s.flt.fenceWait ++ units }
    let s := if seqState s = 2 ∨ seqState s = 3 ∨ seqState s = 4 then ringFaultHalt s else s
    let s := haltLatch s 0x23
    let s := if has 4 then safeEnter s else s
    if seqState s = 4 then s
    else fenceWaited (s.setFlt { s.flt with fenceWait := [] }) s.flt.fenceWait
  else if has 1 || has 3 then
    if seqState s = 4 then faultTrap s units
    else fenceUnits (recordPosition s) units
  else s

/-- A collection cycle (R550–R560, R565). -/
def faultCollect (s : State) : State :=
  if s.pwr.stopped then s
  else
    let l := occurrences s.flt.arrived
    if l.isEmpty then s
    else
      let clean := !anySticky s
      let s := s.setFlt { s.flt with arrived := [] }
      let s := l.foldl occur s
      let s := if clean then s.setNums [(K.FIRST_LO, s.num K.STICKY_LO), (K.FIRST_HI, s.num K.STICKY_HI)] else s
      let s := noteSev s
      let active := l.filter (fun o => o.2.1 || s.num K.INJ_REACT == 1)
      relockFollows (react s (active.map (fun o => (o.1, reactOf s o.1))))

/-- 1s written to STICKY_LO, or STICKY_HI, clear those sources' records (R553, R555). -/
def stickyClear (s : State) (hi : Bool) (v : Nat) : State :=
  let b := if hi then 64 else 0
  let s := (setBits v 64).foldl (fun s i =>
    let n := b + i
    setSev (setSrc (setSrc (setSrc s K.STICKY_LO n false) K.REAL_LO n false) K.INJ_LO n false) n 0xFF) s
  let s := if anySticky s then s else s.setNums [(K.FIRST_LO, 0), (K.FIRST_HI, 0)]
  noteSev s

/-- INJ_CMD.FIRE: the source reaches its synchroniser, injected (R564). -/
def fireCmd (s : State) : State :=
  let s := s.inc K.INJ_FIRED
  s.setFlt { s.flt with arrived := s.flt.arrived ++ [(s.num K.INJ_SRC, true)] }

/-! ### Fence commands -/

/-- FENCE_CMD.SET (R570): as by an S3 reaction, during a burst through a FAULT trap, until which the bit reads 1 (R42). -/
def fenceSet (s : State) : State :=
  let u := s.num K.FENCE_UNIT
  if unitFenced s u then s
  else if seqState s = 4 then (faultTrap s [u]).setFlag K.FENCE_CMD 0 true
  else relockFollows (fenceUnit s u)

/-- The fence of a channel is lifted; its comparators are enabled where they have power (R354, R571). -/
def liftChannel (s : State) (c : Nat) : State :=
  let s := setChFence s c false
  let s := if tileReady s (tileOf c) then s.setChan c { s.chan c with drive := parkDrive s c } else s
  enablePowered s c true true

/-- FENCE_CMD.LIFT of a unit (R571, R635). -/
def fenceLift (s : State) (u : Nat) : State :=
  if !unitFenced s u then s
  else if u < 0x60 then liftChannel s u
  else if u < 0x6C then
    let t := u - 0x60
    let s := (s.setFlag K.FENCE_TILE t false).setNum (atTile K.TILE_FENCED t) 0
    let s := s.setNum (atTile K.TILE_STATE t) 0
    let s := (List.range 8).foldl (fun s j => setChFence s (8 * t + j) false) s
    domAdvance s
  else
    let k := u - 0x6C
    domAdvance ((s.setFlag K.FENCE_STACK k false).setFlag K.STACK_STATE (4 + k) false)

/-- The reply code of a FENCE_CMD write (R570, R571). -/
def fenceCode (s : State) (v : Nat) : Nat :=
  let u := s.num K.FENCE_UNIT
  if v = 3 ∨ 0x6F < u then 8
  else if v = 2 then
    if u < 0x60 ∧ chFenced s u ∧ tileFenced s (tileOf u) then 8 else if !seqQuiet s then 7 else 0
  else 0

/-! ### The watchdog and the ALIVE pair -/

/-- The watchdog has not been refreshed for 1 ms (R576). -/
def watchdogExpiry (s : State) : State :=
  if s.pwr.stopped ∨ s.pwr.locked then s
  else
    let s := s.setPwr { s.pwr with locked := true }
    clearReady (safeEnter s) [0]

/-- ALIVE_STATE as it should read while the pair runs (R577). -/
def aliveCode (s : State) : Nat := if degraded s then 2 else 1

/-- ALIVE_STATE takes a value. -/
def setAlive (s : State) (v : Nat) : State :=
  if s.num K.ALIVE_STATE = v then s else (s.setNum K.ALIVE_STATE v).inc K.ALIVE_CHANGES

/-- The firmware refreshes the watchdog; from the first refresh after a reset the pair runs (R578). -/
def watchdogRefresh (s : State) : State :=
  if s.pwr.locked ∨ s.pwr.stopped ∨ !s.flag K.READY 0 ∨ s.flt.refreshed then s
  else
    let s := s.setFlt { s.flt with refreshed := true }
    if s.num K.SAFE = 1 then s
    else setAlive (s.setFlt { s.flt with aliveP := true, aliveN := false }) (aliveCode s)

/-- The end of a half-period: the pair toggles, and a change between healthy and degraded takes effect (R577, R579). -/
def aliveToggle (s : State) : State :=
  if s.num K.ALIVE_STATE = 0 ∨ s.pwr.stopped then s
  else
    let s := s.setFlt { s.flt with aliveP := !s.flt.aliveP, aliveN := s.flt.aliveP }
    setAlive s (aliveCode s)

end Sys2Proof.Machine
end

