-- ==== Sys2Proof/Machine/MapCmd.lean ====
section
/-! DEFINITION. The memory map's commands (R471–R476) and a stack's loss of training (R477, R549). -/

namespace Sys2Proof.Machine

/-- A map: mask and per-stack MiB of the three regions. -/
abbrev MapVals := List (Nat × Nat)

/-- The values the partition objects hold. -/
def partition_ (s : State) : MapVals :=
  [(s.num K.PAT_STACKS, s.num K.PAT_MIB), (s.num K.CIS_STACKS, s.num K.CIS_MIB), (s.num K.SCR_STACKS, s.num K.SCR_MIB)]

/-- The map in force. -/
def mapNow (m : Mem) : MapVals := [(m.patMask, m.patMib), (m.cisMask, m.cisMib), (m.scrMask, m.scrMib)]

/-- Per-stack MiB a stack gives to the regions of a map before region r. -/
def before (v : MapVals) (r k : Nat) : Nat := ((v.take r).map (fun p => if bit p.1 k then p.2 else 0)).sum

/-- The layout of region r under a map: its stacks, its size, and its base in each stack (R471, R472). -/
def layout (v : MapVals) (r : Nat) : List (Nat × Nat) × Nat :=
  let p := (v[r]?).getD (0, 0)
  if p.2 = 0 then ([], 0) else ((setBits p.1 4).map (fun k => (k, before v r k)), p.2)

/-- Checks 2–4 of R473. -/
def mapValuesOk (s : State) : Bool :=
  let v := partition_ s
  v.all (fun p => p.2 % 256 == 0) && (List.range 4).all (fun k => decide (before v 3 k ≤ 32768)) &&
  v.all (fun p => (setBits p.1 4).all (fun k => stackReady s k))

/-- Check 1 of R473. -/
def mapIdle (s : State) : Bool :=
  seqQuiet s && (List.range 16).all (fun p =>
    let st := s.num (atPump K.CH_STATE p)
    st != 1 && st != 2)

/-- MAP_STATE follows the partition objects while a map is in force (R481). -/
def mapNote (s : State) : State :=
  if s.num K.MAP_STATE = 2 then s
  else s.setNum K.MAP_STATE (if partition_ s = mapNow s.mem then 0 else 1)

/-- The region sizes in force. -/
def mapSizes (s : State) : State :=
  s.setNums [(K.PAT_SIZE, regionSize s.mem 0), (K.CIS_SIZE, regionSize s.mem 1), (K.SCR_SIZE, regionSize s.mem 2)]

/-- Put a map in force; the contents of every region whose layout changes become unspecified (R474). -/
def mapSet (s : State) (v : MapVals) : State :=
  let old := mapNow s.mem
  let changed := (List.range 3).filter (fun r => layout old r != layout v r)
  let p (r : Nat) : Nat × Nat := (v[r]?).getD (0, 0)
  let m := changed.foldl (fun m r => memLose m (winBase r) (winBase r + 0x4000000000)) s.mem
  let m := { m with patMask := (p 0).1, patMib := (p 0).2, cisMask := (p 1).1, cisMib := (p 1).2,
                    scrMask := (p 2).1, scrMib := (p 2).2, out := 0 }
  let s := mapSizes (s.setMem m)
  if changed.isEmpty then s else s.inc K.MAP_EPOCH

/-- MAP_CMD.APPLY: the reply code of the first check that fails, or 0 with the new map in force (R473). -/
def mapApply (s : State) : Nat × State :=
  if !mapIdle s then (7, s)
  else if !mapValuesOk s then (8, s)
  else (0, (mapSet s (partition_ s)).setNum K.MAP_STATE 0)

/-- After a reset the partition is applied, or the map is invalid and every region empty (R475). -/
def mapAuto (s : State) : State :=
  if s.pwr.mapTried then s
  else
    let s := s.setPwr { s.pwr with mapTried := true }
    if mapValuesOk s then (mapSet s (partition_ s)).setNum K.MAP_STATE 0
    else
      let m := { s.mem with patMask := 0, patMib := 0, cisMask := 0, cisMib := 0, scrMask := 0, scrMib := 0 }
      (mapSizes (s.setMem m)).setNum K.MAP_STATE 2

/-- A stack loses link training: it leaves ready and its source is raised (R549). -/
def stackTrainingLoss (s : State) (k : Nat) : State :=
  if k < 4 ∧ s.flag K.STACK_STATE k then
    let s := clearReady ((setDom s (8 + k) 1).setFlag K.STACK_STATE k false) [12 + k]
    s.raise (0x6C + k)
  else s

end Sys2Proof.Machine
end

