-- ==== Sys2Proof/Machine/Power.lean ====
section
/-! DEFINITION. Power domains and supplies (R624–R638), functions that become ready (R629–R632), resets (R639–R644) and
temperature (R646–R649). -/

namespace Sys2Proof.Machine

/-! ### DOM_EN -/

/-- A running burst needs the domain (R224, R634): D02–D04, the stacks of PATTERN, and the tiles of its channels. -/
def burstNeeds (s : State) (d : Nat) : Bool :=
  !seqQuiet s && (decide (2 ≤ d) && decide (d ≤ 4) ||
    (decide (8 ≤ d) && decide (d ≤ 11) && bit s.mem.patMask (d - 8)) ||
    (decide (12 ≤ d) && (List.range 8).any (fun j => liveRole s (8 * (d - 12) + j) != 0)))

/-- The reply code of a DOM_EN write (R634). -/
def domEnCode (s : State) (v : Nat) : Nat :=
  let cleared := (List.range 24).filter (fun d => s.flag K.DOM_EN d && !bit v d)
  let hits (d : Nat) : Bool := burstNeeds s d || (decide (12 ≤ d) && tileCalibrating s (d - 12)) ||
    (s.num K.CAL_STATE == 2 && (d == 2 || (decide (8 ≤ d) && decide (d ≤ 11))))
  if !bit v 0 then 8 else if cleared.any hits then 7 else 0

/-- A committed write of DOM_EN (R633). -/
def domEnWrite (s : State) (v : Nat) : State :=
  let off := (List.range 24).filter (fun d => s.flag K.DOM_EN d && !bit v d)
  let s := off.foldl domOff (s.setNum K.DOM_EN v)
  domAdvance s

/-! ### Functions become ready -/

/-- The first setting of a READY bit since the reset is still to come. -/
def firstReady (s : State) (b : Nat) : Bool := fieldAt (s.blob K.READY_TIMES) (4 * b) 4 == 0xFFFFFFFF

/-- A bit sets, and the domain is ON. -/
def readyOn (s : State) (b d : Nat) : State := setReady (if domState s d = 1 then setDom s d 2 else s) b

/-- A tile may become ready: starting, the tick running, and its self calibration ended (R629). -/
def tileMayReady (s : State) (t : Nat) : Bool :=
  tileState s t == 1 && domState s (12 + t) != 0 && tickRuns s && !tileCalibrating s t &&
  s.cal.todo.all (fun c => tileOf c != t)

/-- CAL is ready: both banks classified, or at a soft reset the active record kept and its initial values loaded again
(R536, R629, R640). -/
def calReady (s : State) : State :=
  if s.num K.RESET_CAUSE % 4 ≠ 2 then banksClassify s
  else if s.cal.record.isEmpty then s
  else loadInitial s ((s.cal.record.drop 256).take 16384)

/-- The sequencer enters IDLE as its function becomes ready (R221, R222). -/
def seqIdle (s : State) : State := if seqState s = 0 then (s.setNum K.SEQ_STATE 1).evBurst else s

/-- The condition of a function is met (R629): its READY bit sets with what its row states. `bad` are the slots of the
patch store that cannot be read, bit 0 for A and bit 1 for B (R284). -/
def functionBit (s : State) (b bad : Nat) : State :=
  if b = 0 then
    if s.pwr.stopped ∨ s.pwr.recovery ∨ s.pwr.locked ∨ s.flag K.READY 0 then s else setReady (firmwareUp s) 0
  else if !s.flag K.READY 0 then s
  else if b = 10 then setReady s 10
  else if b = 1 then if domState s 1 = 0 then s else readyOn s 1 1
  else if b = 2 then if s.num K.TICK_STATE = 2 then readyOn s 2 2 else s
  else if b = 4 then if domState s 4 = 0 then s else readyOn s 4 4
  else if b = 11 then
    if !s.flag K.READY 10 ∨ s.flag K.READY 11 then s
    else setReady (calReady s) 11
  else if b = 3 then
    if domState s 3 = 0 ∨ s.flag K.READY 3 then s
    else
      let s := if firstReady s 3 then patchLoad s bad else s
      if !s.uc.bad.isEmpty then s
      else
        let s := readyOn s 3 3
        seqIdle (s.setPwr { s.pwr with seqOnce := true })
  else if b = 5 then if domState s 5 = 0 then s else readyOn s 5 5
  else if b = 29 then if s.flag K.CAL_FLAGS 6 then setReady s 29 else s
  else if b = 9 then if 2 ≤ s.num K.RING_STATE then setReady s 9 else s
  else if b = 7 ∨ b = 8 then
    if domState s 6 = 0 ∨ s.num (if b = 7 then K.E0_MODE else K.E1_MODE) = 0 then s else setReady s b
  else if 16 ≤ b ∧ b < 28 then if tileMayReady s (b - 16) then tileUp s (b - 16) else s
  else if 12 ≤ b ∧ b < 16 then
    let d := b - 4
    if domState s d = 0 ∨ s.flag K.FENCE_STACK (b - 12) then s
    else (readyOn s b d).setFlag K.STACK_STATE (b - 12) true
  else if b = 6 then if s.flag K.READY 5 && !s.pwr.perst then setReady s 6 else s
  else if b = 28 then if tbWarm s then setReady s 28 else s
  else s

/-- FUNCTION_READY: the bit, and the domains that waited for it (R629). -/
def functionReady (s : State) (b bad : Nat) : State := domAdvance (functionBit s b bad)

/-! ### Supplies -/

/-- With every supply of a domain valid for the first time since the reset the times of R629 begin (R650). -/
def noteStart (s : State) : State :=
  if s.num K.SUPPLY_OK % 128 = 127 ∧ s.pwr.start.isNone then s.setPwr { s.pwr with start := some s.pwr.cycles } else s

/-- A supply has become valid (R626, R637). VAUX becoming valid is a power-on reset (R639). -/
def supplyValid (s : State) (b : Nat) : State :=
  if s.pwr.stopped ∨ b = 0 ∨ 6 < b then s else domAdvance (noteStart (s.setFlag K.SUPPLY_OK b true))

/-- A supply is out of range (R637). -/
def supplyFault (s : State) (b : Nat) : State :=
  if s.pwr.stopped ∨ b = 0 ∨ 6 < b ∨ !s.flag K.SUPPLY_OK b then s
  else
    let s := s.setFlag K.SUPPLY_OK b false
    let s := ((List.range 24).filter (fun d => (domSupplies d).contains b)).foldl domOff s
    relockFollows (((s.setPwr { s.pwr with supplyActed := true }).inc K.SUPPLY_FAILS).raise 0x7D)

/-- VAUX fails (R544, R638). -/
def vauxFailure (s : State) : State :=
  if s.pwr.stopped ∨ s.pwr.holding then s
  else
    let s := (List.range 23).foldl (fun s i => domOff s (i + 1)) (s.setFlag K.SUPPLY_OK 0 false)
    let s := clearReady s [0, 10, 11, 29]
    if s.cal.job.isSome ∧ 5000 < s.num K.HOLD_V then s.setPwr { s.pwr with holding := true } else coreStops s

/-! ### Resets -/

/-- The lock group of an index (R105). -/
def lockGroup (i : Nat) : Option Nat :=
  let b := baseIndex i
  if 0x1F00 ≤ i ∧ i ≤ 0x1FFF then some 0
  else if b = 0x4001 ∨ b = 0x4002 ∨ b = 0x4003 then some 1
  else if b = 0x4005 ∨ b = 0x6000 then some 2
  else if b = 0x2700 ∨ b = 0x400E then some 3
  else if b = 0x2300 then some 4
  else if b = 0x5003 ∨ b = 0x5010 then some 5
  else if b = 0x2900 then some 6
  else if b = 0x1100 then some 7
  else none

/-- The object's lock group is locked (R104, R105). -/
def locked (s : State) (i : Nat) : Bool :=
  match lockGroup i with
  | some g => s.flag K.LOCK_SET g
  | none => false

/-- Live readings and supply levels, which no reset moves. -/
def keptLive (k : Nat) : Bool :=
  k == K.SUPPLY_OK || k == K.HUB_TEMP || (decide (K.STACK_TEMP0 ≤ k) && decide (k ≤ K.STACK_TEMP0 + 3)) ||
  k == K.MODULE_PWR || k == K.HOLD_V

/-- The oven's objects, kept while D01 stays on (R640). -/
def keptOven (k : Nat) : Bool := k == K.OVEN_TEMP || k == K.OVEN_SETPOINT || k == K.WARM_SECONDS

/-- The sub-index of a LCK object whose group is locked. -/
def keptLock (s : State) (k : Nat) : Bool :=
  match objRow (k / 256) (k % 256) with
  | some r => r.acc.isLck && locked s (k / 256)
  | none => false

/-- An object keeps its value at a soft reset (R641). -/
def keptSoft (s : State) (k : Nat) : Bool :=
  let i := k / 256
  let b := objKey (baseIndex i) (k % 256)
  let sub := k % 256
  keptLive k || keptOven k || keptLock s k || k == K.LOCK_SET || (k == K.SIG_VALID && s.flag K.LOCK_SET 7) ||
  (decide (0x1F00 ≤ i) && decide (i ≤ 0x1FFF)) ||
  (i == 0x2500 && (decide (sub ≤ 6) || (decide (8 ≤ sub) && decide (sub ≤ 0x0C)) || sub == 0x30)) ||
  i == 0x5000 || i == 0x5001 || i == 0x5002 || (i == 0x5040 && sub != 5 && sub != 8) ||
  (i == 0x5030 && decide (sub ≤ 4)) || b == K.TILE_FENCED ||
  b == K.DRV_BASE || b == K.CMP_BASE || b == K.CAP_BASE || b == K.BASE_SOURCE ||
  (decide (K.VREF_T0 ≤ k) && decide (k ≤ K.VREF_T0 + 11)) || k == K.DOM_EN || k == K.T_WARN ||
  (i == 0x2700 && decide (6 ≤ sub) && decide (sub ≤ 0x0E)) || b == K.TILE_TEMP || b == K.TILE_PWR

/-- RESET_CAUSE of a reset of a kind (R644, R652). -/
def resetCause (s : State) (kind : Nat) : Nat :=
  kind + 4 * ofBool s.pwr.locked + 8 * s.num K.SAFE + 16 * ofBool s.pwr.thermal + 32 * ofBool s.pwr.supplyActed

/-- What a reset does to the stores and fuses: writes under way are cut off (R286, R662, R664). -/
def cutTrust (s : State) : State :=
  let s := fwCut (fuseEnd s false)
  s.setTrust { patchCut s with fwJob := none, patchJob := none, report := none }

/-- A store cut off leaves its bank incomplete (R541, R544). -/
def cutStore (s : State) : State :=
  if s.cal.job.isSome then setBank (s.setCal { s.cal with job := none }) (storeBank s) [0#8] else s

/-- The channels' electronics after a reset: as at power-up, with the voltages that their pads have. -/
def chansReset (l : Assoc Chan) : Assoc Chan := l.map (fun p => (p.1, { chanInit with pad := p.2.pad }))

/-- The objects, READY bits and domains that a reset keeps, on the rest as after power-up: queue, outputs, stores and
fuses stay, the voltages at the pads, and the instruction and cells of the JTAG port (R696). -/
def resetTo (s : State) (kind : Nat) (keep : Nat → Bool) (ready doms : List Nat) : State :=
  let s := cutStore (cutTrust s)
  let s' : State := { State.reset with
    pending := s.pending, out := s.out, freeCtr := s.freeCtr, trust := s.trust, chans := chansReset s.chans,
    jtag := { State.reset.jtag with ir := s.jtag.ir, cells := s.jtag.cells },
    slow := { State.reset.slow with locks := s.slow.locks },
    objs := s.objs.filter (fun p => keep p.1), blobs := s.blobs.filter (fun p => keep p.1),
    cal := { Cal.init with bankA := s.cal.bankA, bankB := s.cal.bankB },
    tb := { TimeBase.init with wasWarm := s.tb.wasWarm && doms.contains 1 } }
  let s' := s'.setNum K.RESET_CAUSE (resetCause s kind)
  let s' := (ready.filter (fun b => s.flag K.READY b)).foldl (fun x b => x.setFlag K.READY b true) s'
  let s' := doms.foldl (fun x d => setDom x d (domState s d)) (s'.setNum K.DOM_STATE 0)
  noteStart (s'.setFlag K.TB_FLAGS 1 (s.flag K.TB_FLAGS 1 && doms.contains 1))

/-- Memory as a power-on reset or RESET_N leaves it: unspecified, no map in force (R475, R640). The pump's SRAM reads 0
(R483). -/
def memReset (m : Mem) : Mem :=
  let m := memLose m 0 0xC000000000
  { Mem.init with cells := m.cells, lost := m.lost, epochs := m.epochs }

/-- Slots that hold uncorrectable errors, as the boot ROM finds them (R657). -/
def setBadSlots (s : State) (a b : Bool) : State := s.setTrust { s.trust with badA := a, badB := b }

/-- Power-on reset (R639, R640). -/
def powerOnReset (s : State) (badA badB : Bool) : State :=
  let s' := resetTo s 0 (fun _ => false) [] []
  let s' := s'.setMem (memReset s.mem)
  bootChain (setBadSlots (s'.setNums [(K.DOM_STATE, 2), (K.SUPPLY_OK, 1)]) badA badB)

/-- RESET_N (R639, R640). -/
def resetN (s : State) (badA badB : Bool) : State :=
  if s.pwr.stopped ∨ s.pwr.holding then s
  else
    let s' := resetTo s 1 (fun k => keptLive k || keptOven k) [1, 28] [0, 1]
    bootChain (setBadSlots (s'.setMem (memReset s.mem)) badA badB)

/-- A soft reset (R640–R642); bases that wait to be applied count as written (R641). -/
def softReset (s : State) : State :=
  let s := s.cal.pending.foldl applyTrims s
  let doms : List Nat := [0, 1, 5, 8, 9, 10, 11]
  let s' := resetTo s 2 (keptSoft s) [1, 28, 5, 6, 29, 12, 13, 14, 15] doms
  let s' := { s' with
    mem := s.mem, pump := { s.pump with chs := [] },
    pf0 := { s.pf0 with cls := s'.num K.AUTH_PF0 }, pf1 := { s.pf1 with cls := s'.num (K.AUTH_PF0 + 1) },
    cal := { s'.cal with record := s.cal.record, refs := s.cal.refs, refTrim := s.cal.refTrim },
    pwr := { Power.init with perst := s.pwr.perst, warned := s.pwr.warned, limited := s.pwr.limited,
                             mapTried := s.pwr.mapTried } }
  let s' := noteStart (s'.setNum K.CAL_FLAGS (s.num K.CAL_FLAGS &&& 0x70))
  let s' := s'.setNums ((List.range 12).map (fun t => (atTile K.TILE_STATE t, if tileFenced s t then 5 else 0)))
  bootChain s'

/-- The reply code of RESET_CMD.SOFT (R642). -/
def softCode (s : State) : Nat :=
  if s.num K.CAL_STATE = 2 ∨ s.trust.patchJob.isSome ∨ (s.pwr.thermal ∧ s.pwr.cool < 1000) then 7 else 0

/-- The BAR0 registers of both functions after PERST# (R640). -/
def perstReset (s : State) : State :=
  { s with pf0 := { PcieFn.init s.pf0.cls with attn := s.pf0.attn }, pf1 := { PcieFn.init s.pf1.cls with attn := s.pf1.attn } }

/-- PERST# is asserted, a hot reset or a link-down event (R549, R639, R640). -/
def perst (s : State) : State :=
  let up := s.flag K.READY 6
  let s := clearReady ((perstReset s).setPwr { s.pwr with perst := true }) [6]
  if up then s.raise 0x7A else s

/-- PERST# is deasserted (R643). -/
def perstOff (s : State) : State := s.setPwr { s.pwr with perst := false }

/-- The PCIe link reports an AER uncorrectable error (R549). -/
def aerError (s : State) : State := if domState s 5 = 0 then s else s.raise 0x7A

/-- An Ethernet port's link goes down (R549, R632). -/
def portDown (s : State) (p : Nat) : State :=
  if p < 2 ∧ s.flag K.READY (7 + p) then (clearReady s [7 + p]).raise 0x7B else s

/-! ### Temperature -/

/-- A sensor: its number (0 hub, 1 + t tile, 13 + m stack), its reading, and whether its domain is on. -/
def sensorList (s : State) (x : Sensors) : List (Nat × Int) :=
  (0, x.hub) ::
  (((List.range 12).filter (fun t => domState s (12 + t) != 0)).filterMap (fun t => (x.tileTemps[t]?).map (fun v => (1 + t, v))) ++
   ((List.range 4).filter (fun m => domState s (8 + m) != 0)).filterMap (fun m => (x.stackTemps[m]?).map (fun v => (13 + m, v))))

/-- The shutdown threshold of a sensor (R647). -/
def shutdownAt (i : Nat) : Int := if 13 ≤ i then 105000 else 110000

/-- The peak objects follow a reading (R651, R653). -/
def peak (s : State) (k : Nat) (v : Int) : State := if s.int32 k < v then s.setNum k (raw 32 v) else s

/-- One reading is stored, and its peaks follow. -/
def storeReading (s : State) (p : Nat × Int) : State :=
  let s := peak s K.PEAK_TEMP p.2
  if p.1 = 0 then s.setNum K.HUB_TEMP (raw 32 p.2)
  else if p.1 < 13 then peak (s.setNum (atTile K.TILE_TEMP (p.1 - 1)) (raw 32 p.2)) (atTile K.TILE_PEAK (p.1 - 1)) p.2
  else s.setNum (K.STACK_TEMP0 + (p.1 - 13)) (raw 32 p.2)

/-- The warning of T_WARN, with its hysteresis (R647). -/
def warnSensor (s : State) (p : Nat × Int) : State :=
  let w := s.int32 K.T_WARN
  let on := s.pwr.warned.contains p.1
  if w ≤ p.2 ∧ !on then (s.setPwr { s.pwr with warned := p.1 :: s.pwr.warned }).raise 0x7C
  else if p.2 < w - 3000 ∧ on then s.setPwr { s.pwr with warned := s.pwr.warned.filter (· != p.1) }
  else s

/-- The tile and stack limits, with their hysteresis (R647). -/
def limitSensor (s : State) (p : Nat × Int) : State :=
  let lim : Int := if 13 ≤ p.1 then 95000 else 105000
  let on := s.pwr.limited.contains p.1
  if p.1 = 0 then s
  else if lim ≤ p.2 ∧ !on then
    let s := s.setPwr { s.pwr with limited := p.1 :: s.pwr.limited }
    if p.1 < 13 then (s.setFlag (atTile K.TILE_CAUSE (p.1 - 1)) 4 true).raise (0x60 + (p.1 - 1))
    else s.raise (0x6C + (p.1 - 13))
  else if p.2 < lim - 3000 ∧ on then s.setPwr { s.pwr with limited := s.pwr.limited.filter (· != p.1) }
  else s

/-- The sensors are read (R646–R649). -/
def temperatureSample (s : State) (x : Sensors) : State :=
  if s.pwr.stopped then s
  else
    let l := sensorList s x
    let s := s.setNum K.MODULE_PWR (x.power % 2 ^ 32)
    let s := ((List.range 12).filter (fun t => domState s (12 + t) != 0)).foldl (fun s t =>
      s.setNum (atTile K.TILE_PWR t) (((x.tilePower[t]?).getD 0) % 2 ^ 32)) s
    let s := l.foldl storeReading s
    let s := l.foldl warnSensor s
    let s := l.foldl limitSensor s
    let w := s.int32 K.T_WARN
    let s := if s.num K.THERM_STATE = 1 ∧ l.all (fun p => decide (p.2 < w - 3000)) then s.setNum K.THERM_STATE 0 else s
    let hot := l.any (fun p => decide (shutdownAt p.1 ≤ p.2))
    let cool := l.all (fun p => decide (p.2 < shutdownAt p.1 - 10000))
    let s := s.setPwr { s.pwr with cool := if cool then s.pwr.cool + 1 else 0 }
    if hot ∧ !s.pwr.thermal then
      let s := s.setPwr { s.pwr with thermal := true, cool := 0 }
      (if s.num K.SAFE = 0 then safeEnter s else s).raise 0x7C
    else s

end Sys2Proof.Machine
end

