-- ==== Sys2Proof/Machine/Pump.lean ====
section
/-! DEFINITION. The pump: its endpoints (R482–R484), descriptors (R486–R489), commands (R491), elements and completion
(R492–R498), re-fetches (R500) and errors (R501–R504). -/

namespace Sys2Proof.Machine

/-! ### Descriptors -/

/-- Fields of a descriptor (R486). -/
def dscSrc (d : Bytes) : Nat := fieldAt d 0 8
def dscDst (d : Bytes) : Nat := fieldAt d 8 8
def dscNext (d : Bytes) : Nat := fieldAt d 16 8
def dscLen (d : Bytes) : Nat := fieldAt d 48 4
def dscSrcEp (d : Bytes) : Nat := byteAt d 52
def dscDstEp (d : Bytes) : Nat := byteAt d 53
def dscFlag (d : Bytes) (i : Nat) : Bool := bit (fieldAt d 54 2) i
def dscCrc (d : Bytes) : Nat := fieldAt d 56 4
def dscTag (d : Bytes) : Nat := fieldAt d 60 2

/-- Count of loop k: N_M1 + 1 (R486). -/
def dscCount (d : Bytes) (k : Nat) : Nat := fieldAt d (24 + 8 * k) 3 + 1

/-- Signed 40-bit step of loop k (R486). -/
def dscStep (d : Bytes) (k : Nat) : Int := signed 40 (fieldAt d (27 + 8 * k) 5)

/-- Elements of a descriptor. -/
def dscTotal (d : Bytes) : Nat := dscCount d 0 * dscCount d 1 * dscCount d 2

/-- END, and RING where END does not override it (R495). -/
def dscEnd (d : Bytes) : Bool := dscFlag d 0
def dscRing (d : Bytes) : Bool := dscFlag d 1 && !dscFlag d 0

/-- A descriptor is valid (R489). -/
def dscOk (d : Bytes) : Bool :=
  let ep (e : Nat) : Bool := decide (1 ≤ e) && decide (e ≤ 5)
  fieldAt d 54 2 / 64 == 0 && fieldAt d 62 2 == 0 && ep (dscSrcEp d) && ep (dscDstEp d) && decide (1 ≤ dscLen d) &&
  decide (dscLen d ≤ 2 ^ 24) && (dscFlag d 4 || dscCrc d == 0) && (dscEnd d || dscNext d % 64 == 0)

/-- The loop indices of element n (R488). -/
def dscIndex (d : Bytes) (n : Nat) : Nat × Nat × Nat :=
  (n % dscCount d 0, n / dscCount d 0 % dscCount d 1, n / (dscCount d 0 * dscCount d 1))

/-- Source and destination address of element n, modulo 2^64 (R488). -/
def dscAddrs (d : Bytes) (n : Nat) : Nat × Nat :=
  let i := dscIndex d n
  let step : Int := i.1 * dscStep d 0 + i.2.1 * dscStep d 1 + i.2.2 * dscStep d 2
  let pack : Int := n * dscLen d
  let src : Int := dscSrc d + (if dscFlag d 3 then pack else step)
  let dst : Int := dscDst d + (if dscFlag d 3 then step else pack)
  (raw 64 src, raw 64 dst)

/-! ### Channel state -/

/-- Leave RUNNING for a state: a STOP that waits is done with. -/
def pumpLeave (s : State) (p st : Nat) : State :=
  (s.setPch p { s.pch p with stopAsked := false }).setNums [(atPump K.CH_STATE p, st), (atPump K.CH_CMD p, 0)]

/-- CUR_I0–CUR_I2 (R488, R497). -/
def pumpPos (s : State) (p : Nat) (i : Nat × Nat × Nat) : State :=
  s.setNums [(atPump K.CUR_I0 p, i.1), (atPump (K.CUR_I0 + 1) p, i.2.1), (atPump (K.CUR_I0 + 2) p, i.2.2)]

/-- The channel's position becomes the first element of the descriptor at an address. -/
def pumpGoto (s : State) (p addr : Nat) : State :=
  let x := s.pch p
  pumpPos ((s.setPch p { pumpInit with ep := x.ep, stopAsked := x.stopAsked }).setNum (atPump K.CUR_DESC p) addr) p (0, 0, 0)

/-- A channel stops with an error (R501). -/
def pumpError (s : State) (p code addr ep : Nat) : State :=
  (pumpLeave s p 4).setNums [(atPump K.CH_ERR p, code), (atPump K.ERR_ADDR p, addr), (atPump K.ERR_EP p, ep)] |>.evPump

/-- A bus error stops every RUNNING channel (R503). -/
def pumpBusError (s : State) (addr ep : Nat) : State :=
  let l := (List.range 16).filter (fun p => pumpState s p == 1)
  if l.isEmpty then s else (l.foldl (fun s p => pumpError s p 1 addr ep) s).raise 0x72

/-- Host memory can be reached: the PCIe link is up (R502, R640). -/
def hostUp (s : State) : Bool := s.flag K.READY 6

/-! ### Endpoints -/

/-- A byte of pump SRAM (R482, R483). -/
def sramByte (q : Pump) (a : Nat) : Byte :=
  (aFind q.sram a).getD (if q.epoch = 0 then 0#8 else Config.lostByte (2 ^ 40 + q.epoch) a)

/-- Write a byte of pump SRAM, keeping the canonical form. -/
def sramPut (q : Pump) (a : Nat) (b : Byte) : Pump :=
  let fill := if q.epoch = 0 then 0#8 else Config.lostByte (2 ^ 40 + q.epoch) a
  { q with sram := if b = fill then aDel q.sram a else aPut q.sram a b }

/-- Read `n` bytes of pump SRAM. -/
def sramRead (q : Pump) (a n : Nat) : Bytes := (List.range n).map (fun i => sramByte q (a + i))

/-- Write bytes of pump SRAM. -/
def sramWrite (q : Pump) (a : Nat) : Bytes → Pump
  | [] => q
  | b :: r => sramWrite (sramPut q a b) (a + 1) r

/-- The module memory address of an HBM or CISTERN endpoint address (R482). -/
def pumpMemAddr (ep a : Nat) : Nat := if ep = 4 then winCis + a else a

/-- `n` bytes lie wholly within one range of an endpoint (R483); the DICT endpoint's limit is `lim`. -/
def epRange (s : State) (ep a n lim : Nat) : Bool :=
  if ep = 1 then decide (a + n ≤ 2 ^ 64)
  else if ep = 2 then match regionOf s.mem a with
    | some (r, off) => decide (off + n ≤ regionSize s.mem r)
    | none => false
  else if ep = 3 then decide (a + n ≤ 0x100000)
  else if ep = 4 then decide (a + n ≤ regionSize s.mem 1)
  else decide (a < 2 ^ 48) && decide (a % 2 ^ 24 + n ≤ lim)

/-- Some of `n` bytes at an HBM or CISTERN address map to a fenced or missing stack (R477). -/
def epFenced (s : State) (ep a n : Nat) : Bool :=
  let m := pumpMemAddr ep a
  (ep == 2 || ep == 4) && ((List.range (n / 32 + 2)).any (fun i => deadWord s (min (m + 32 * i) (m + n - 1))))

/-- A pump write is refused while a burst needs its target (R484). -/
def epBusy (s : State) (ep a n : Nat) : Bool :=
  let m := pumpMemAddr ep a
  let lo := s.seq.image
  let len := s.seq.imageLen
  !seqQuiet s && (ep == 4 || (ep == 2 && (decide (winCis ≤ m) && decide (m < winScr) ||
    (s.seq.loaded && decide (m < lo + len) && decide (lo < m + n)))))

/-- The first check that an element fails, with its side's address and endpoint (R483, R484, R501). -/
def elementCheck (s : State) (d : Bytes) (n srcLim dstLim : Nat) : Option (Nat × Nat × Nat) :=
  let a := dscAddrs d n
  let len := dscLen d
  if !epRange s (dscSrcEp d) a.1 len srcLim then some (4, a.1, dscSrcEp d)
  else if !epRange s (dscDstEp d) a.2 len dstLim then some (4, a.2, dscDstEp d)
  else if epFenced s (dscSrcEp d) a.1 len then some (5, a.1, dscSrcEp d)
  else if epFenced s (dscDstEp d) a.2 len then some (5, a.2, dscDstEp d)
  else if epBusy s (dscDstEp d) a.2 len then some (6, a.2, dscDstEp d)
  else none

/-- The bytes of an element at its source; `data` are those of host memory. None is a bus error (R480, R502, R640). -/
def epRead (s : State) (ep a n : Nat) (data : Bytes) : Option Bytes × State :=
  if ep = 1 then (if hostUp s then some ((data ++ zeros n).take n) else none, s)
  else if ep = 3 then (some (sramRead s.pump a n), s)
  else
    let m := pumpMemAddr ep a
    match badBlock s.mem m n with
    | some b => (none, memUE s (b * 32))
    | none => (some (memRead s.mem m n), s)

/-- Write an element's bytes at its destination; false is a bus error (R502, R640, R702). -/
def epWrite (s : State) (p ep a : Nat) (d : Bytes) : Bool × State :=
  if ep = 1 then (if hostUp s then (true, s.emit (.hostWrite (s.num (atPump K.CH_CTRL p) % 2) a d)) else (false, s))
  else if ep = 3 then (true, (s.setPump (sramWrite s.pump a d)))
  else memStore s (pumpMemAddr ep a) d

/-- The reads of an element at a stack meet upsets (R479, R480). -/
def stackUpset (s : State) : Upset → State
  | .memCorrected => applyUpset s .memCorrected
  | .memUncorrectable a => applyUpset s (.memUncorrectable a)
  | .cacheCorrected => s
  | .cacheUncorrectable _ _ _ => s

/-- A bus error that no move has met of itself (R502, R503): at a stack's address it is an uncorrectable read (R480). -/
def pumpBusRow (s : State) (addr ep : Nat) : State :=
  let m := pumpMemAddr ep addr
  let hit := (List.range 16).any (fun p => pumpState s p == 1) && (ep == 2 || ep == 4) && (regionOf s.mem m).isSome
  pumpBusError (if hit then memUE s m else s) addr ep

/-! ### Commands -/

/-- START (R491). -/
def pumpStart (s : State) (p cls : Nat) : State :=
  let s := s.setPch p { pumpInit with ep := s.num (atPump K.HEAD_EP p) }
  let s := s.setNums [(atPump K.CH_ERR p, 0), (atPump K.HOPS p, 0), (atPump K.DB_PENDING p, 0), (atPump K.CH_CLASS p, cls)]
  (pumpGoto s p (s.num (atPump K.HEAD_ADDR p))).setNum (atPump K.CH_STATE p) 1

/-- DOORBELL (R491). In WAIT_END the channel is RUNNING while it fetches again (R490). -/
def pumpDoorbell (s : State) (p : Nat) : State :=
  let st := pumpState s p
  if st = 1 then s.setNum (atPump K.DB_PENDING p) 1
  else if st = 2 then (s.setPch p { s.pch p with refetch := true }).setNum (atPump K.CH_STATE p) 1
  else s.inc (atPump K.DB_IGNORED p)

/-- STOP (R491, R497). -/
def pumpStopCmd (s : State) (p : Nat) : State :=
  let st := pumpState s p
  if st = 1 then (pumpStopAsk s p).setNum (atPump K.CH_CMD p) 4
  else if st = 2 ∨ st = 4 then (s.setPch p { pumpInit with ep := (s.pch p).ep }).setNum (atPump K.CH_STATE p) 0
  else s

/-- RESUME (R491): a descriptor under way goes on; one whose elements have all moved is fetched again for its NEXT. -/
def pumpResume (s : State) (p cls : Nat) : State :=
  let x := s.pch p
  let over_ : Bool := match x.desc with
    | some d => decide (dscTotal d ≤ x.done)
    | none => false
  let s := s.setPch p (if over_ then { x with refetch := true } else { x with desc := none, resume := x.desc.isSome })
  s.setNums [(atPump K.CH_CLASS p, cls), (atPump K.CH_STATE p, 1)]

/-- The reply code of a pump command: 0 DOORBELL, 1 START, 2 STOP, 3 RESUME (R491, R631). -/
def pumpCmdCode (s : State) (p cmd : Nat) : Nat :=
  let st := pumpState s p
  if !s.flag K.READY 5 then 12
  else if cmd = 1 ∧ st = 1 then 7
  else if cmd = 3 ∧ st ≠ 3 ∧ st ≠ 4 then 7
  else 0

/-- An accepted pump command with the class of its port. -/
def pumpCmd (s : State) (p cmd cls : Nat) : State :=
  if cmd = 0 then pumpDoorbell s p
  else if cmd = 1 then pumpStart s p cls
  else if cmd = 2 then pumpStopCmd s p
  else pumpResume s p cls

/-- The command a value with one bit set names. -/
def pumpBit (v : Nat) : Option Nat := [0, 1, 2, 3].find? (fun i => v == 2 ^ i)

/-- A write of CH_CMD: reply code and effect (R491). -/
def chCmdCode (s : State) (p v : Nat) : Nat :=
  let v := v % 16
  if v = 0 then 0 else match pumpBit v with
    | some c => pumpCmdCode s p c
    | none => 8

/-- An accepted write of CH_CMD. -/
def chCmdWrite (s : State) (p v cls : Nat) : State :=
  match pumpBit (v % 16) with
  | some c => pumpCmd s p c cls
  | none => s

/-- A write of PUMP_DB that a function may make (R491, R509). -/
def pumpDbWrite (s : State) (p v cls : Nat) : State :=
  let v := v % 16
  if v = 0 then s
  else match pumpBit v with
    | none => s.inc K.BAR_WR_REJECT
    | some c => if pumpCmdCode s p c = 0 then pumpCmd s p c cls else s.inc (atPump K.DB_IGNORED p)

/-- A committed write of CUR_DESC (R498). -/
def curDescWrite (s : State) (p addr : Nat) : State := pumpGoto s p addr

/-! ### Running a chain -/

/-- Where a descriptor is read, and whether the read may be made (R487, R501): the error it meets otherwise. -/
def fetchCheck (s : State) (p : Nat) : Option Nat :=
  let a := s.num (atPump K.CUR_DESC p)
  let ep := (s.pch p).ep
  if (ep ≠ 1 ∧ ep ≠ 3) ∨ a % 64 ≠ 0 then some 3
  else if !epRange s ep a 64 0 then some 4
  else none

/-- The 64 bytes of the descriptor at CUR_DESC; `data` are those of host memory. -/
def fetchBytes (s : State) (p : Nat) (data : Bytes) : Bytes :=
  if (s.pch p).ep = 3 then sramRead s.pump (s.num (atPump K.CUR_DESC p)) 64 else (data ++ zeros 64).take 64

/-- The channel awaits a descriptor, a re-fetch or not. -/
def awaits (s : State) (p : Nat) (again : Bool) : Bool :=
  let x := s.pch p
  decide (p < 16) && s.flag K.READY 5 && pumpState s p == 1 && x.refetch == again && (again || x.desc.isNone)

/-- A descriptor read completes: it is checked and executed from its first element, or from CUR_I0–CUR_I2 (R487, R489,
R491, R496). -/
def descriptorFetch (s : State) (p : Nat) (data : Bytes) : State :=
  if !awaits s p false then s
  else
    let a := s.num (atPump K.CUR_DESC p)
    let x := s.pch p
    match fetchCheck s p with
    | some e => pumpError s p e a x.ep
    | none =>
      let d := fetchBytes s p data
      let h := s.num (atPump K.HOPS p)
      if x.ep = 1 ∧ !hostUp s then pumpBusError s a 1
      else if !dscOk d then pumpError s p 3 a x.ep
      else if !x.resume && !dscRing d && decide (s.num (atPump K.HOP_LIMIT p) < h + 1) then
        (pumpError s p 2 a x.ep).raise 0x73
      else
        let s := if x.resume then s else s.setNum (atPump K.HOPS p) (if dscRing d then 0 else h + 1)
        s.setPch p { x with desc := some d, resume := false }

/-- The descriptor in execution with an element still to move: its bytes and the element's number. -/
def nextElement (s : State) (p : Nat) : Option (Bytes × Nat) :=
  let x := s.pch p
  if p < 16 ∧ s.flag K.READY 5 ∧ pumpState s p = 1 ∧ !x.refetch then
    match x.desc with
    | some d => if x.done < dscTotal d then some (d, x.done) else none
    | none => none
  else none

/-- An element has moved some bytes (R488, R494, R497). -/
def elementDone (s : State) (p : Nat) (d : Bytes) (n : Nat) (w : Bytes) : State :=
  let x := s.pch p
  let s := s.setPch p { x with done := n + 1, crc := crcRun x.crc w }
  pumpPos (s.add 64 (atPump K.BYTES p) w.length) p (dscIndex d (n + 1))

/-- How many bytes of an element move: all, or the 4 KiB blocks before a STOP takes effect within it (R497). -/
def elementLen (s : State) (p : Nat) (d : Bytes) (io : ElementIo) : Nat :=
  let n := 4096 * io.blocks
  if (s.pch p).stopAsked ∧ 0 < n then min n (dscLen d) else dscLen d

/-- One element between memories moves (R483, R484, R488, R502). A DICT element is a row of its own. An element that a
STOP cuts off is not complete: it moves again from its first byte (R497). -/
def elementMove (s : State) (p : Nat) (io : ElementIo) : State :=
  match nextElement s p with
  | none => s
  | some (d, n) =>
    if dscSrcEp d = 5 ∨ dscDstEp d = 5 then s
    else match elementCheck s d n 0 0 with
      | some (e, a, ep) => pumpError s p e a ep
      | none =>
        let a := dscAddrs d n
        let len := elementLen s p d io
        let r := epRead (io.ups.foldl stackUpset s) (dscSrcEp d) a.1 len io.host
        match r.1 with
        | none => pumpBusError r.2 a.1 (dscSrcEp d)
        | some w =>
          let q := epWrite r.2 p (dscDstEp d) a.2 w
          if !q.1 then pumpBusError q.2 a.2 (dscDstEp d)
          else if len < dscLen d then pumpLeave (q.2.add 64 (atPump K.BYTES p) len) p 3
          else elementDone q.2 p d n w

/-- A STOP takes effect, once no completion stands before it (R497, R504). -/
def stopTakesEffect (s : State) (p : Nat) : State :=
  let x := s.pch p
  let moved : Bool := match x.desc with
    | some d => decide (dscTotal d ≤ x.done) && !x.refetch
    | none => false
  if pumpState s p = 1 ∧ x.stopAsked ∧ !moved then pumpLeave s p 3 else s

/-- The channel function that an interrupt of a channel goes to. -/
def pumpFunc (s : State) (p : Nat) : Nat := s.num (atPump K.CH_CTRL p) % 2

/-- All writes of a descriptor are complete (R493–R496). -/
def descriptorComplete (s : State) (p : Nat) : State :=
  let x := s.pch p
  match x.desc with
  | none => s
  | some d =>
    if pumpState s p ≠ 1 ∨ x.refetch ∨ x.done < dscTotal d then s
    else
      let a := s.num (atPump K.CUR_DESC p)
      let crc := x.crc ^^^ 0xFFFFFFFF
      let s := (s.inc (atPump K.DONE_COUNT p)).setNums [(atPump K.LAST_TAG p, dscTag d), (atPump K.CRC_LAST p, crc)]
      let s := if dscFlag d 2 then
          (if s.flag (atPump K.CH_CTRL p) 1 then s.evPump.msix (pumpFunc s p) (2 + p) else s.evPump)
        else s
      if dscFlag d 4 ∧ crc ≠ dscCrc d then
        let s := s.inc (atPump K.CRC_FAILS p)
        pumpError (if dscEnd d then s else pumpGoto s p (dscNext d)) p 8 a x.ep
      else if dscEnd d then
        if s.num (atPump K.DB_PENDING p) = 1 then
          (s.setPch p { x with refetch := true }).setNum (atPump K.DB_PENDING p) 0
        else (pumpLeave s p 2).evPump
      else pumpGoto s p (dscNext d)

/-- A re-fetch completes (R500): a doorbell that came during it is served by one more. -/
def refetchDone (s : State) (p : Nat) (data : Bytes) : State :=
  if !awaits s p true then s
  else
    let a := s.num (atPump K.CUR_DESC p)
    let x := s.pch p
    match fetchCheck s p with
    | some e => pumpError (s.setPch p { x with refetch := false }) p e a x.ep
    | none =>
      if x.ep = 1 ∧ !hostUp s then pumpBusError s a 1
      else
        let d := fetchBytes s p data
        let s := s.inc (atPump K.REFETCHES p)
        if !dscEnd d then pumpGoto s p (dscNext d)
        else if s.num (atPump K.DB_PENDING p) = 1 then s.setNum (atPump K.DB_PENDING p) 0
        else pumpLeave (s.setPch p { x with refetch := false }) p 2

end Sys2Proof.Machine
end

