-- ==== Sys2Proof/Machine/Checks.lean ====
section
/-! DEFINITION. The checks of R85 on a read or a write of an object: existence, authority (R96–R98), access, locks (R105),
keys (R106–R110), width (R86–R88), range (R41), readiness (R29, R631), what is busy, and hold-up energy. -/

namespace Sys2Proof.Machine

/-- Who asks (R96): the authority class applied, and the port's number in UNLOCK_STATE (R105). -/
structure Asker where
  cls : Nat
  port : Nat
  deriving DecidableEq, Repr

/-- A port's number, 1–5 (R105). -/
def portNum : Port → Nat
  | .pf0 => 1 | .pf1 => 2 | .e0 => 3 | .e1 => 4 | .jtag => 5

/-- The class of port number `n` (R96). -/
def classOf (s : State) (n : Nat) : Nat := s.num (K.AUTH_PF0 + (n - 1))

/-- The asker of a request on a port. -/
def askerOf (s : State) (p : Port) : Asker := ⟨classOf s (portNum p), portNum p⟩

/-- The asker of a BAR2 access of a function (R73). -/
def askerPf (s : State) (pf : Nat) : Asker := ⟨classOf s (pf % 2 + 1), pf % 2 + 1⟩

/-- A class may read an index (R96). -/
def mayRead (cls i : Nat) : Bool := cls != 0 || i == 0x1018

/-- A class may write an index (R97). -/
def mayWrite (cls i : Nat) : Bool :=
  if 0xE000 ≤ i ∧ i ≤ 0xEFFF then cls == 3 || cls == 4
  else if i = 0x1100 ∨ i = 0x1200 ∨ i = 0x1201 ∨ (0x1F00 ≤ i ∧ i ≤ 0x1FFF) ∨ i = 0x2300 ∨ i = 0x2900 ∨ i = 0x5003 ∨
      i = 0x5010 then cls == 3
  else if (0x1000 ≤ i ∧ i ≤ 0x10FF) ∨ (0x2000 ≤ i ∧ i ≤ 0x28FF) ∨ (0x3000 ≤ i ∧ i ≤ 0x4BFF) ∨
      (0x5000 ≤ i ∧ i ≤ 0x50FF) ∨ (0x6000 ≤ i ∧ i ≤ 0x77FF) then cls == 2 || cls == 3
  else false

/-- Steps 2 and 3: the index and the sub-index exist; a version 1 request reaches no value longer than 8 bytes (R10,
R53). -/
def findCode (v1 : Bool) (i sub : Nat) : Nat :=
  if (rowsOf i).isEmpty then 1
  else match objRow i sub with
    | none => 2
    | some r => if v1 && r.ty.isBlob then 10 else 0

/-- The row of an object that exists; a placeholder where none does. -/
def rowOf (i sub : Nat) : ObjRow := (objRow i sub).getD ⟨0, 0, .u8, .ro, 0, false, 0, 0, .any, 0⟩

/-- The size of a value as R86 and R88 take it: of its type, or its current length. -/
def sizeOf_ (s : State) (i sub : Nat) (r : ObjRow) : Nat :=
  if sub = 0 then 1 else if r.ty.isBlob then (readBlob s (objKey i sub)).length else r.ty.size

/-! ### Reads -/

/-- The reply code of a read of `len` bytes at `off` (R85). -/
def readCode (s : State) (q : Asker) (v1 : Bool) (i sub off len : Nat) : Nat :=
  let r := rowOf i sub
  let f := findCode v1 i sub
  if f ≠ 0 then f
  else if !mayRead q.cls i then 9
  else if !r.acc.canRead then 4
  else if sizeOf_ s i sub r < off + len then 3
  else if notReady s i sub then 12
  else 0

/-- The bytes a read returns (R86). -/
def readData (s : State) (i sub off len : Nat) : Bytes := ((objBytes s i sub (rowOf i sub)).drop off).take len

/-! ### Writes -/

/-- Steps 2–7 of a write (R85): the code of the first check that fails. -/
def gateCode (s : State) (q : Asker) (v1 : Bool) (i sub : Nat) : Nat :=
  let r := rowOf i sub
  let f := findCode v1 i sub
  if f ≠ 0 then f
  else if !mayWrite q.cls i then 9
  else if !r.acc.canWrite then 4
  else if r.acc.isLck && locked s i then 5
  else if r.acc.isKey && s.num K.UNLOCK_STATE != q.port then 6
  else 0

/-- The byte offset a DOMAIN write names: in a frame 0xFFFF stands for the current length (R88). -/
def offsetOf (s : State) (frame : Bool) (i sub off : Nat) : Nat :=
  if frame && off == 0xFFFF then (s.blob (objKey i sub)).length else off

/-- The width, offset and length of a write are right (R87, R88). -/
def widthOk (s : State) (frame : Bool) (i sub off len : Nat) : Bool :=
  let r := rowOf i sub
  if r.ty = .octets then off == 0 && decide (len ≤ r.max)
  else if r.ty = .domain then
    let o := offsetOf s frame i sub off
    decide (o ≤ (s.blob (objKey i sub)).length) && decide (o + len ≤ r.max)
  else off == 0 && len == r.ty.size

/-- DIVISOR 64 beside a PAM4 role, or PAM4 PRBS (R294). -/
def pamBad (role divisor prbs : Nat) : Bool :=
  divisor == 64 && (role == 2 || role == 4 || ((role == 5 || role == 6) && bit prbs 1))

/-- A TMU setting that R445 rules out. -/
def tmuBad (mode src ctrl : Nat) : Bool :=
  let cmp := decide (src < 0x30)
  (mode == 3 || mode == 4) && (cmp && src / 16 == 2)
    || bit ctrl 1 && (!cmp || mode != 3) || mode == 4 && !cmp

/-- The value check of step 9 for channel and tile objects. -/
def unitBad (s : State) (b u v : Nat) : Bool :=
  let n (k : Nat) : Nat := s.num (atCh k u)
  if b = K.ROLE then pamBad v (n K.DIVISOR) (n K.PRBS_CTRL)
  else if b = K.DIVISOR then pamBad (n K.ROLE) v (n K.PRBS_CTRL)
  else if b = K.PRBS_CTRL then pamBad (n K.ROLE) (n K.DIVISOR) v
  else if b = K.TMU_MODE then tmuBad v (n K.START_SRC) (n K.TMU_CTRL)
  else if b = K.START_SRC then tmuBad (n K.TMU_MODE) v (n K.TMU_CTRL)
  else if b = K.TMU_CTRL then tmuBad (n K.TMU_MODE) (n K.START_SRC) v
  else if b = K.TMU_CMD then (bit v 0 && bit v 1) || (bit v 0 && n K.TMU_MODE == 0)
  else if b = K.HIST_OFFSET then decide (32 * n K.HIST_PERIOD ≤ v)
  else if b = K.ERR_COUNT ∨ b = K.JUDGED then decide (2 ^ 48 ≤ v)
  else if b = K.DRV_BASE ∨ b = K.CMP_BASE ∨ b = K.CAP_BASE then !(decide (-200000 ≤ signed 32 v) && decide (signed 32 v ≤ 200000))
  else false

/-- The value check of step 9 for the other objects. -/
def moduleBad (s : State) (k v : Nat) (d : Bytes) : Bool :=
  if K.AUTH_PF0 ≤ k ∧ k ≤ K.AUTH_PF0 + 4 then
    (List.range 5).all (fun j => (if K.AUTH_PF0 + j = k then v else s.num (K.AUTH_PF0 + j)) != 3)
  else if k = K.VER_ENABLE then !bit v 1
  else if k / 256 = 0x5003 then !(reactAllowed (k % 256 - 1)).contains v
  else if K.CUST_KEY0 ≤ k ∧ k ≤ K.CUST_KEY0 + 7 then !keyOk d
  else if k = K.TRAP_CMD then bit v 1 && s.num K.UTRAP_VEC == 0
  else if k = K.CAL_CMD then v % 4 == 3
  else if k = K.STORE_CMD then !([0, 1, 2, 4].contains (v % 8))
  else if k = K.ROLLBACK_CMD then v % 4 == 3
  else false

/-- The value of a write is out of range or reserved (step 9, R9, R41). -/
def badValue (s : State) (i sub : Nat) (d : Bytes) : Bool :=
  let r := rowOf i sub
  let v := leNat d
  let b := objKey (baseIndex i) sub
  if r.ty.isBlob then moduleBad s b 0 d
  else !valueOk r v || unitBad s b (unitOf i) (v &&& r.mask) || moduleBad s b (v &&& r.mask) d

/-- Objects a burst keeps from being written (R225, R297, R336, R371, R418). -/
def burstKeeps (i sub : Nat) : Bool :=
  let b := objKey (baseIndex i) sub
  let bi := baseIndex i
  b == K.IMAGE_ADDR || b == K.START_MODE || b == K.START_FILL ||
  (decide (K.COND_CFG0 ≤ b) && decide (b ≤ K.CNT_EVENT0 + 3)) ||
  (decide (K.LINE_CFG0 ≤ b) && decide (b ≤ K.LINE_CFG0 + 3)) ||
  b == K.ROLE || b == K.DIVISOR || b == K.VPER || b == K.PARK || bi == 0x4005 || bi == 0x4006 || bi == 0x4007 ||
  bi == 0x6000 || bi == 0x4001 || bi == 0x4002 || bi == 0x4003 || b == K.SC_MODE || b == K.SC_TIE ||
  b == K.CAP_MODE || b == K.CAP_CTRL || (decide (K.X_START ≤ b) && decide (b ≤ K.R_BLANK)) || b == K.TICK_MULT ||
  b == K.RING_ROLE

/-- The codes of writes of tile, channel and pump objects under steps 10 and 11. -/
def unitCode (s : State) (b u v : Nat) : Nat :=
  let t := tileOf u
  if b = K.TILE_CMD then
    if !bit v 0 then 0 else if !tileReady s u then 12
    else if (!seqQuiet s && (List.range 8).any (fun j => roleOf s (8 * u + j) != 0)) || tileCalibrating s u then 7 else 0
  else if b = K.SC_CMD then
    if !bit v 0 then 0 else if !tileReady s t then 12 else if !seqQuiet s || converterBusy s t then 7 else 0
  else if b = K.CONV_CMD then
    if !bit v 0 then 0 else if !tileReady s u then 12 else if converterBusy s u then 7 else 0
  else if b = K.TMU_CMD then
    if bit v 0 && !tileReady s t then 12 else if bit v 2 && tmuArmed s u then 7 else 0
  else if b / 256 = 0x4008 then if tmuArmed s u then 7 else 0
  else if b = K.DRV_BASE ∨ b = K.CMP_BASE ∨ b = K.CAP_BASE then
    if s.num (atCh K.CAL_STATUS u) ≠ 2 then 7 else 0
  else if b = K.CH_CMD then chCmdCode s u v
  else if b = K.CUR_DESC then if pumpState s u = 1 then 7 else 0
  else if b = K.CH_CTRL ∨ b = K.HEAD_ADDR ∨ b = K.HEAD_EP then
    if pumpState s u = 1 ∨ pumpState s u = 2 then 7 else 0
  else 0

/-- A converter of a tile with a selected channel is held (R518). -/
def selfHeld (s : State) : Bool :=
  (List.range 96).any (fun c => calSelected s c && (s.flag (atTile K.CONV_CMD (tileOf c)) 0 ||
    (List.range 8).any (fun j => s.num (atCh K.SC_STATE (8 * tileOf c + j)) == 1)))

/-- The reply code of STORE_CMD (R529, R538, R543). -/
def storeCode (s : State) (v : Nat) : Nat :=
  if v % 8 = 0 then 0
  else if s.num K.CAL_STATE ≠ 0 then 7
  else if s.cal.record.isEmpty then 8
  else if bit v 2 then 0
  else if !holdEnough s (storeNeed (if bit v 0 then 2 else 1)) then 11
  else 0

/-- The reply code of UC_CMD (R264, R265, R286). -/
def ucCode (s : State) (v : Nat) : Nat :=
  if bit v 0 && !s.flag K.READY 10 then 12
  else if (bit v 1 || bit v 2) && !seqQuiet s then 7
  else if bit v 0 && s.trust.patchJob.isSome then 7
  else if bit v 1 then (if (custLoad s).1 then 0 else 8)
  else 0

/-- The codes of writes of the module's other objects under steps 9–12, each in the order its own rule gives. -/
def moduleCode (s : State) (k v : Nat) : Nat :=
  if k = K.SEQ_CMD then if bit v 0 && seqState s != 1 then 7 else 0
  else if k = K.JUMP_REQ then (jumpRequest s (v % 16) false).1
  else if k = K.UC_CMD then ucCode s v
  else if k = K.UC_ENFORCE then if v = 1 ∧ s.num K.UC_ENFORCE = 0 ∧ !seqQuiet s then 7 else 0
  else if k = K.TRAP_CMD then
    if bit v 0 && seqState s == 0 then 12 else if bit v 1 && seqState s != 4 then 7 else 0
  else if k = K.MAP_CMD then if bit v 0 then (mapApply s).1 else 0
  else if k = K.RING_CMD then ringCmdCode s v
  else if k = K.CAL_CMD then if bit v 0 && (!seqQuiet s || s.num K.CAL_STATE != 0 || selfHeld s) then 7 else 0
  else if k = K.STORE_CMD then storeCode s v
  else if k = K.DOM_EN then domEnCode s v
  else if k = K.RESET_CMD then if bit v 0 then softCode s else 0
  else if k = K.FENCE_CMD then if v % 4 = 0 then 0 else fenceCode s (v % 4)
  else if k = K.FW_CMD then
    if !bit v 0 then 0 else if !s.flag K.READY 10 then 12 else if s.trust.fwJob.isSome then 7 else 0
  else if k = K.ROLLBACK_CMD then
    if v % 4 = 0 then 0 else (advCheck s (bit v 1)).1
  else if k = K.ATT_CMD then if bit v 0 then signCode s else 0
  else 0

/-- Steps 8–12 of a write (R85). A wrong KEY_UNLOCK value is refused by code 6 (R107). -/
def lateCode (s : State) (frame : Bool) (i sub off : Nat) (d : Bytes) : Nat :=
  let v := leNat d &&& (rowOf i sub).mask
  let k := objKey i sub
  if !widthOk s frame i sub off d.length then 3
  else if k = K.KEY_UNLOCK then if leNat d = 0x7A1C then 0 else 6
  else if badValue s i sub d then 8
  else if burstKeeps i sub && !seqQuiet s then 7
  else
    let c := unitCode s (objKey (baseIndex i) sub) (unitOf i) v
    if c ≠ 0 then c else moduleCode s k v

end Sys2Proof.Machine
end

