-- ==== Sys2Proof/Machine/Commit.lean ====
section
/-! DEFINITION. What a write does: the state it leaves when it commits, object by object as the owning chapters state, and
the few effects of a write that is refused. -/

namespace Sys2Proof.Machine

/-! ### Commands -/

/-- SEQ_CMD: RUN and HALT; with both the halt applies and the run request is discarded (R226–R228). -/
def seqCmd (s : State) (v : Nat) : State :=
  let s := if bit v 0 then (if bit v 1 then s.inc K.RUN_DISCARDED else (runRequest s).2) else s
  if bit v 1 then hostHalt s else s

/-- UC_CMD: PATCH_INSTALL, CUST_LOAD, CUST_CLEAR (R264, R265, R286). With both customer bits set the load comes first and the
region ends empty (DESIGN CHOICE, log entry 111). -/
def ucCmd (s : State) (v : Nat) : State :=
  let s := if bit v 0 then patchInstall s else s
  let s := if bit v 1 then (custLoad s).2 else s
  if bit v 2 then custClear s else s

/-- TRAP_CMD: SNAP and USER (R278, R279). -/
def trapCmd (s : State) (v : Nat) : State :=
  let s := if bit v 0 then snapCmd s else s
  if bit v 1 then userCmd s else s

/-- CAL_CMD: SELF or ABORT (R518, R524). -/
def calCmd (s : State) (v : Nat) : State := if bit v 0 then calSelf s else if bit v 1 then calAbort s else s

/-- STORE_CMD: STORE, REVERT or RELOAD (R529, R538). -/
def storeCmd (s : State) (v : Nat) : State :=
  if bit v 0 then storeStart s 2 else if bit v 1 then storeStart s 1 else if bit v 2 then calReload s else s

/-- TILE_CMD: LISTEN and WAKE (R363, R368). -/
def tileCmd (s : State) (t v : Nat) : State :=
  let s := if bit v 0 then listenStart s t else s
  if bit v 1 then wakeCmd s t else s

/-- TMU_CMD: DISARM, CLEAR, ARM (R432, R433, R451). -/
def tmuCmd (s : State) (c v : Nat) : State :=
  let s := if bit v 1 then tmuDisarm s c else s
  let s := if bit v 2 then tmuClear s c else s
  if bit v 0 then tmuArm s c else s

/-- ROLLBACK_CMD: ADV_FW or ADV_PATCH (R663). -/
def rollbackCmd (s : State) (v : Nat) : State :=
  if v % 4 = 0 then s
  else if (advCheck s (bit v 1)).2 then advStart s (bit v 1) else s

/-- FENCE_CMD: SET or LIFT (R570). -/
def fenceCmd (s : State) (v : Nat) : State :=
  if bit v 0 then fenceSet s else if bit v 1 then fenceLift s (s.num K.FENCE_UNIT) else s

/-- RESET_CMD.SOFT: the reset follows the reply (R642). -/
def softAsk (s : State) : State := s.setPwr { s.pwr with softReset := true }

/-- SIG_COMMIT: a fresh scan that the reply waits for (R117). -/
def sigCommitStart (s : State) : State := s.setNum K.SIG_COMMIT 1

/-! ### Settings with an effect of their own -/

/-- A parked pin follows its settings between bursts (R295, R342). -/
def parkFollow (s : State) (c : Nat) : State :=
  if tileReady s (tileOf c) && seqQuiet s && !calibrating s c && s.num (atCh K.SC_STATE c) != 1 then
    s.setChan c { s.chan c with drive := parkDrive s c }
  else s

/-- A write of an AUTH object: a pending unlock of a port whose class changes lapses, and a function's copy of its class
follows (R101, R102, R109). -/
def authSet (s : State) (k v : Nat) : State :=
  let s := if s.num k ≠ v ∧ s.num K.UNLOCK_STATE = k - K.AUTH_PF0 + 1 then s.setNum K.UNLOCK_STATE 0 else s
  let s := s.setNum k v
  if k = K.AUTH_PF0 then s.setPf 0 { s.pf 0 with cls := v }
  else if k = K.AUTH_PF0 + 1 then s.setPf 1 { s.pf 1 with cls := v } else s

/-- A write of E0_MODE or E1_MODE: a port switched off has no link (R632). -/
def portMode (s : State) (p v : Nat) : State :=
  let s := s.setNum (K.E0_MODE + p) v
  if v = 0 then portDown s p else s

/-- A write of TMU_MODE: OFF, or out of OFF (R431). -/
def tmuMode (s : State) (c v : Nat) : State :=
  let s := s.setNum (atCh K.TMU_MODE c) v
  if v = 0 then tmuIdle s c
  else if s.num (atCh K.TMU_STATE c) = 0 then s.setNum (atCh K.TMU_STATE c) 1
  else s

/-- The comparators of a powered channel follow a change of what they sense (R347, R370). -/
def resense (s : State) (c : Nat) : State := if cmpPowered s c then senseVs s c (s.chan c).pad else s

/-- A write of SC_MODE: leaving a mode other than NORMAL enables the comparators (R371). -/
def scMode (s : State) (c v : Nat) : State :=
  let was := s.num (atCh K.SC_MODE c)
  let s := s.setNum (atCh K.SC_MODE c) v
  if was ≠ 0 ∧ v ≠ was then enablePowered s c true true else resense s c

/-- A write of INV_COUNT: INVALID_SEEN says that it is not 0 (R419). -/
def invCountWrite (s : State) (c v : Nat) : State := invSeen (s.setNum (atCh K.INV_COUNT c) v) c

/-- A write of LINE_CFG of line i of a tile: a line without pins is 0 (R198). -/
def lineCfgWrite (s : State) (t i v : Nat) : State :=
  let s := s.setNum (atTile K.LINE_CFG0 t + i) v
  if v % 256 = 0 then s.setFlag (atTile K.LINE_LIVE t) i false else s

/-- A write of WH_MIN: the lowest level since, which is not above the present one while RUNNING (R239). -/
def whMinWrite (s : State) (t v : Nat) : State := whReport (s.setNum (atTile K.WH_MIN t) v)

/-- A write of CQ_MAX: the highest level since, which is not below the present one (R416). -/
def cqMaxWrite (s : State) (v : Nat) : State := s.setNum K.CQ_MAX (max v (s.num K.CQ_LEVEL))

/-- A write of UC_ENFORCE: from 0 to 1 it also clears the customer region (R266). -/
def ucEnforce (s : State) (v : Nat) : State :=
  let s := if v = 1 ∧ s.num K.UC_ENFORCE = 0 then custClear s else s
  s.setNum K.UC_ENFORCE v

/-- A write of SIG_REF (R118). -/
def sigRefWrite (s : State) (v : Nat) : State := s.setNums [(K.SIG_REF, v), (K.SIG_VALID, 1)]

/-! ### Commit -/

/-- A write of a tile, channel or pump object commits: `old` and `v` as R8 leaves them. -/
def commitUnit (s : State) (q : Asker) (k b u v : Nat) : Option State :=
  if b = K.TILE_CMD then some (tileCmd s u v)
  else if b = K.CONV_CMD then some (if bit v 0 then convStart s u else s)
  else if b = K.SC_CMD then some (if bit v 0 then selfCheckStart s u else s)
  else if b = K.TMU_CMD then some (tmuCmd s u v)
  else if b = K.CH_CMD then some (chCmdWrite s u v q.cls)
  else if b = K.CUR_DESC then some (curDescWrite s u v)
  else if b = K.TMU_MODE then some (tmuMode s u v)
  else if b = K.SC_MODE then some (scMode s u v)
  else if b = K.SC_TIE then some (resense (s.setNum k v) u)
  else if b = K.DRV_BASE then some (baseWrite s u 0 (signed 32 v))
  else if b = K.CMP_BASE then some (baseWrite s u 1 (signed 32 v))
  else if b = K.CAP_BASE then some (baseWrite s u 2 (signed 32 v))
  else if b = K.DESKEW_DRV ∨ b = K.DESKEW_CMP ∨ b = K.STRB_ADJ then some (deskewApply (s.setNum k v) u)
  else if b = K.THR_HI then some (enablePowered (s.setNum k v) u true false)
  else if b = K.THR_LO then some (enablePowered (s.setNum k v) u false true)
  else if b = K.HYST ∨ b = K.CMP_SRC then some (enablePowered (s.setNum k v) u true true)
  else if b = K.INV_COUNT then some (invCountWrite s u v)
  else if b = K.WH_MIN then some (whMinWrite s u v)
  else if K.LINE_CFG0 ≤ b ∧ b ≤ K.LINE_CFG0 + 3 then some (lineCfgWrite s u (b - K.LINE_CFG0) v)
  else if b / 256 = 0x4000 ∨ b / 256 = 0x4001 ∨ b / 256 = 0x4002 ∨ b = K.PRBS_CTRL then
    some (parkFollow (s.setNum k v) u)
  else none

/-- A write of one of the module's other objects commits. -/
def commitModule (s : State) (q : Asker) (k v : Nat) : Option State :=
  if k = K.SEQ_CMD then some (seqCmd s v)
  else if k = K.JUMP_REQ then some (jumpRequest s (v % 16) false).2
  else if k = K.UC_CMD then some (ucCmd s v)
  else if k = K.CQ_MAX then some (cqMaxWrite s v)
  else if k = K.UC_ENFORCE then some (ucEnforce s v)
  else if k = K.TRAP_CMD then some (trapCmd s v)
  else if k = K.TICK_MULT then some (tickWrite s v)
  else if k = K.REF_SEL then some (refUpdate (s.setNum k v))
  else if k = K.MAP_CMD then some (if bit v 0 then (mapApply s).2 else s)
  else if K.PAT_STACKS ≤ k ∧ k ≤ K.SCR_MIB then some (mapNote (s.setNum k v))
  else if k = K.RING_ROLE then some (ringRoleWrite s v)
  else if k = K.RING_CMD then some (ringCmd s v)
  else if k = K.SIG_GROUP then some (sigGroupWrite s v)
  else if k = K.SIG_REF then some (sigRefWrite s v)
  else if k = K.SIG_COMMIT then some (if bit v 0 then sigCommitStart s else s)
  else if k = K.LOCK_SET then some (s.setNum k (s.num k ||| v))
  else if k = K.KEY_UNLOCK then some (s.setNum K.UNLOCK_STATE q.port)
  else if K.AUTH_PF0 ≤ k ∧ k ≤ K.AUTH_PF0 + 4 then some (authSet s k v)
  else if k = K.E0_MODE then some (portMode s 0 v)
  else if k = K.E1_MODE then some (portMode s 1 v)
  else if k = K.CAL_CMD then some (calCmd s v)
  else if k = K.STORE_CMD then some (storeCmd s v)
  else if K.VREF_T0 ≤ k ∧ k ≤ K.VREF_T0 + 11 then some (vrefWrite s (k - K.VREF_T0) v)
  else if k = K.DOM_EN then some (domEnWrite s v)
  else if k = K.RESET_CMD then some (if bit v 0 then softAsk s else s)
  else if k = K.FENCE_CMD then some (fenceCmd s v)
  else if k = K.INJ_CMD then some (if bit v 0 then fireCmd s else s)
  else if k = K.STICKY_LO then some (stickyClear s false v)
  else if k = K.STICKY_HI then some (stickyClear s true v)
  else if k = K.FW_CMD then some (if bit v 0 then fwInstall s else s)
  else if k = K.ROLLBACK_CMD then some (rollbackCmd s v)
  else if k = K.ATT_CMD then some (if bit v 0 then signStart s else s)
  else if k = K.DIAG_SCRATCH then some ((s.setNum k v).inc K.DIAG_WRITES)
  else none

/-- The value of an OCTET_STRING or a DOMAIN after a write (R88). -/
def blobAfter (s : State) (frame : Bool) (i sub off : Nat) (d : Bytes) : Bytes :=
  let o := offsetOf s frame i sub off
  if (rowOf i sub).ty = .octets ∨ o = 0 then d else splice (s.blob (objKey i sub)) o d

/-- A write of an object commits. -/
def commit (s : State) (q : Asker) (frame : Bool) (i sub off : Nat) (d : Bytes) : State :=
  let r := rowOf i sub
  let k := objKey i sub
  if r.ty.isBlob then
    let w := blobAfter s frame i sub off d
    if K.CUST_KEY0 ≤ k ∧ k ≤ K.CUST_KEY0 + 7 then keyWrite s (k - K.CUST_KEY0) w
    else if k = K.DIAG_NOTE then (s.setBlob k w).inc K.DIAG_WRITES
    else s.setBlob k w
  else
    let v := leNat d &&& r.mask
    match commitUnit s q k (objKey (baseIndex i) sub) (unitOf i) v with
    | some s => s
    | none => match commitModule s q k v with
      | some s => s
      | none => s.setNum k (merged r (s.num k) v)

/-- What a refused write does: RUN_DISCARDED with the halt of the same write, JUMPS_REJECTED, CUST_STATUS, HOLDUP_LOW,
ATT_STATE and KEY_FAILS (R107, R226, R228, R230, R264, R538, R670). -/
def refusedEffect (s : State) (i sub : Nat) (d : Bytes) (code : Nat) : State :=
  let k := objKey i sub
  let v := leNat d
  if k = K.SEQ_CMD ∧ code = 7 then
    let s := s.inc K.RUN_DISCARDED
    if bit v 1 then hostHalt s else s
  else if k = K.JUMP_REQ ∧ (code = 7 ∨ code = 8) then (jumpRequest s (v % 16) false).2
  else if k = K.UC_CMD ∧ code = 8 then (custLoad s).2
  else if k = K.STORE_CMD ∧ code = 11 then (s.setFlag K.CAL_FLAGS 1 true).evCal
  else if k = K.ATT_CMD ∧ code = 12 then signStart s
  else if k = K.KEY_UNLOCK ∧ code = 6 then (s.inc K.KEY_FAILS).raise 0x7F
  else s

/-- One write of an object through the checks of R85: its reply code, the state it leaves, and whether its reply is held
for a scan (R108, R114, R117). -/
def writeObj (s : State) (q : Asker) (frame v1 : Bool) (i sub off : Nat) (d : Bytes) : Nat × State × Bool :=
  let g := gateCode s q v1 i sub
  if g ≠ 0 then (g, s, false)
  else
    let s := if (rowOf i sub).acc.isKey then s.setNum K.UNLOCK_STATE 0 else s
    let c := lateCode s frame i sub off d
    if c ≠ 0 then (c, refusedEffect s i sub d c, false)
    else (0, sigTouched (commit s q frame i sub off d), objKey i sub == K.SIG_COMMIT && bit (leNat d) 0)

end Sys2Proof.Machine
end

