-- ==== Sys2Proof/Machine/Mgmt.lean ====
section
/-! DEFINITION. The management core: frames and their replies (R46–R59, R76–R80, R700), BAR2 accesses (R71–R73, R89–R93),
DICT elements (R485), one request at a time in the rotation of R95, and the scan that SIG_COMMIT waits for (R114–R117). -/

namespace Sys2Proof.Machine

/-! ### Serving -/

/-- The core serves requests: MGMT is set and nothing has stopped it (R576, R642, R659). -/
def serving (s : State) : Bool := s.flag K.READY 0 && !s.pwr.locked && !s.pwr.stopped

/-- A port carries frames (R631, R659). -/
def portUp (s : State) : Port → Bool
  | .pf0 => s.flag K.READY 6
  | .pf1 => s.flag K.READY 6
  | .e0 => s.flag K.READY 7
  | .e1 => s.flag K.READY 8
  | .jtag => true

/-- A port is one of Onpel Link's. -/
def isNet : Port → Bool
  | .e0 => true | .e1 => true | _ => false

/-- A frame is addressed to every module (R78). -/
def broadcast (a : Arrival) : Bool := isNet a.port && a.dst % 4096 == 0xFFF

/-- A frame is for this module (R77, R80). -/
def nodeOk (s : State) (a : Arrival) : Bool :=
  !isNet a.port || a.dst % 4096 == s.num K.NODE_ADDR || a.dst % 4096 == 0xFFF

/-- The version of a frame: a batch is version 3. -/
def frameVer (a : Arrival) (b : Ask) : Nat :=
  match b with
  | .batch _ _ => 3
  | _ => a.ver

/-- A frame version is accepted (R46). -/
def verOk (s : State) (v : Nat) : Bool := decide (1 ≤ v) && decide (v ≤ 3) && s.flag K.VER_ENABLE (v - 1)

/-! ### Replies -/

/-- Attention and a code as a status word (R81). -/
def statusOf (s : State) (code : Nat) : Nat := statusWord s + code

/-- A version 2 reply (R49). -/
def reply2 (s : State) (a : Arrival) (kind i sub cls code : Nat) (d : Bytes) : Bytes :=
  leBytes 1 2 ++ leBytes 1 kind ++ leBytes 2 a.tag ++ leBytes 2 (a.src % 4096) ++ leBytes 2 (s.num K.NODE_ADDR) ++
    leBytes 2 i ++ leBytes 1 sub ++ leBytes 1 cls ++ leBytes 2 (statusOf s code) ++ leBytes 2 d.length ++
    leBytes 4 (s.num K.SIG_LIVE) ++ zeros 4 ++ pad4 d

/-- A version 1 reply (R52). -/
def reply1 (s : State) (a : Arrival) (kind i sub code : Nat) (d : Bytes) : Bytes :=
  leBytes 1 1 ++ leBytes 1 kind ++ leBytes 1 a.tag ++ leBytes 1 (i / 256) ++ leBytes 1 i ++ leBytes 1 sub ++
    leBytes 2 (a.src % 4096) ++ leBytes 2 (s.num K.NODE_ADDR) ++ leBytes 2 (statusOf s code) ++
    leBytes 4 (s.num K.SIG_LIVE) ++ leBytes 1 d.length ++ zeros 3 ++ pad4 d

/-- A version 3 reply with its items (R55). -/
def reply3 (s : State) (a : Arrival) (count cls code : Nat) (items : Bytes) : Bytes :=
  leBytes 1 3 ++ leBytes 1 0x83 ++ leBytes 2 a.tag ++ leBytes 2 (a.src % 4096) ++ leBytes 2 (s.num K.NODE_ADDR) ++
    leBytes 1 count ++ zeros 1 ++ leBytes 1 cls ++ zeros 1 ++ leBytes 2 (statusOf s code) ++ zeros 2 ++
    leBytes 4 (s.num K.SIG_LIVE) ++ zeros 4 ++ items

/-- A reply item (R55). -/
def replyItem (kind i sub code : Nat) (d : Bytes) : Bytes :=
  leBytes 1 kind ++ leBytes 1 sub ++ leBytes 2 i ++ leBytes 2 code ++ leBytes 2 d.length ++ pad4 d

/-- 32-bit words of a string of bytes. -/
def words32 (d : Bytes) : List Nat := (List.range (ceilDiv d.length 4)).map (fun j => fieldAt d (4 * j) 4)

/-- A reply leaves by the port its request arrived on (R66, R69, R79, R694). -/
def sendReply (s : State) (a : Arrival) (f : Bytes) : State :=
  match a.port with
  | .pf0 => if bit s.pf0.ringCtrl 0 && s.mgmt.mute0 == 0 then s.setPf 0 { s.pf0 with replies := s.pf0.replies ++ [f] } else s
  | .pf1 => if bit s.pf1.ringCtrl 0 && s.mgmt.mute1 == 0 then s.setPf 1 { s.pf1 with replies := s.pf1.replies ++ [f] } else s
  | .e0 => s.emit (.ether 0 a.mac a.vlan f)
  | .e1 => s.emit (.ether 1 a.mac a.vlan f)
  | .jtag => s.setJtag { s.jtag with reply := words32 f }

/-! ### One request -/

/-- What became of a request: the state, and whether its reply is held (R117). -/
abbrev Served := State × Bool

/-- A version 1 or 2 READ (R50, R53, R59, R78). -/
def serveRead (s : State) (a : Arrival) (i sub off len : Nat) : State :=
  let q := askerOf s a.port
  let v1 := a.ver == 1
  let off := if v1 then 0 else off
  let len := if v1 then sizeOf_ s i sub (rowOf i sub) else len
  let c := if len ≤ 1024 ∨ v1 then readCode s q v1 i sub off len else 3
  let d := if c = 0 then readData s i sub off len else []
  if broadcast a then s
  else sendReply s a (if v1 then reply1 s a 0x81 i sub c d else reply2 s a 0x81 i sub q.cls c d)

/-- The reply to a version 1 or 2 WRITE, unless none is asked for (R50, R78). -/
def writeReply (s : State) (a : Arrival) (cls i sub c : Nat) : State :=
  if broadcast a ∨ (a.noReply ∧ a.ver ≠ 1) then s
  else sendReply s a (if a.ver = 1 then reply1 s a 0x82 i sub c [] else reply2 s a 0x82 i sub cls c [])

/-- The data of a WRITE are as long as its version allows (R51, R59). -/
def writeLenOk (a : Arrival) (n : Nat) : Bool :=
  if a.ver = 1 then decide (1 ≤ n) && decide (n ≤ 8) else decide (n ≤ 1024)

/-- A version 1 or 2 WRITE. -/
def serveWrite (s : State) (a : Arrival) (i sub off : Nat) (d : Bytes) : Served :=
  let q := askerOf s a.port
  if !writeLenOk a d.length then (writeReply s a q.cls i sub 3, false)
  else
    let r := writeObj s q true (a.ver == 1) i sub (if a.ver = 1 then 0 else off) d
    if r.2.2 then (r.2.1, true) else (writeReply r.2.1 a q.cls i sub r.1, false)

/-- A batch as far as it has run. -/
structure BatchRun where
  st : State
  done : Nat
  items : Bytes
  code : Nat
  rest : List BatchItem
  held : Bool
  deriving DecidableEq, Repr

/-- The reply to one more item fits (R47, R58). -/
def itemFits (items : Bytes) (n : Nat) : Bool := decide (24 + items.length + 8 + up4 n ≤ 1500)

/-- Run the items of a batch in order, until one ends it (R56–R58), or holds it (R117). -/
def runItems (s : State) (a : Arrival) (stop : Bool) (done : Nat) (items : Bytes) (code : Nat) :
    List BatchItem → BatchRun
  | [] => ⟨s, done, items, code, [], false⟩
  | it :: rest =>
    let q := askerOf s a.port
    if it.write then
      if !itemFits items 0 then ⟨s, done, items, code, [], false⟩
      else
        let r := writeObj s q true false it.index it.sub it.off it.data
        let items := items ++ replyItem 0x82 it.index it.sub r.1 []
        let code := if code = 0 then r.1 else code
        let s := attnNote r.2.1
        if r.2.2 then ⟨s, done + 1, items, code, rest, true⟩
        else if stop && r.1 != 0 then ⟨s, done + 1, items, code, [], false⟩
        else runItems s a stop (done + 1) items code rest
    else if broadcast a then runItems s a stop done items code rest
    else
      let c := readCode s q false it.index it.sub it.off it.len
      let d := if c = 0 then readData s it.index it.sub it.off it.len else []
      if !itemFits items d.length then ⟨s, done, items, code, [], false⟩
      else
        let items := items ++ replyItem 0x81 it.index it.sub c d
        let code := if code = 0 then c else code
        if stop && c != 0 then ⟨s, done + 1, items, code, [], false⟩
        else runItems s a stop (done + 1) items code rest

/-- The bytes of a request of version 3 with some items (R54). -/
def batchBytes (items : List BatchItem) : Nat := 16 + (items.map (fun it => 8 + (if it.write then up4 it.data.length else 0))).sum

/-- The items of a batch as its frame gives them are well formed, and the frame is not too long (R47, R59). -/
def batchOk (items : List BatchItem) : Bool :=
  decide (1 ≤ items.length) && decide (items.length ≤ 64) && decide (batchBytes items ≤ 1500) &&
  items.all (fun it => decide ((if it.write then it.data.length else it.len) ≤ 1024))

/-- The batch is answered (R78, R700). -/
def batchReplied (a : Arrival) (items : List BatchItem) : Bool :=
  !broadcast a && !(a.noReply && items.all (fun it => it.write))

/-- The request whose batch has run is answered, or held. -/
def batchEnd (a : Arrival) (cls : Nat) (all : List BatchItem) (r : BatchRun) : Served :=
  if r.held then (r.st, true)
  else if batchReplied a all then (sendReply r.st a (reply3 r.st a r.done cls r.code r.items), false)
  else (r.st, false)

/-- Remember the request that is held, and what is left of its batch. -/
def hold_ (s : State) (h : Held) : State := s.setMgmt { s.mgmt with held := some h }

/-- A batch, from some point on (R54–R58). -/
def serveItems (s : State) (a : Arrival) (stop : Bool) (all : List BatchItem) (h : Held) : Served :=
  let cls := (askerOf s a.port).cls
  let r := runItems s a stop h.done h.items h.code h.rest
  let e := batchEnd a cls all r
  if e.2 then (hold_ e.1 { req := h.req, rest := r.rest, done := r.done, items := r.items, code := r.code }, true)
  else e

/-- A batch is carried out, or answered with code 3 and COUNT 0 where it is malformed (R54–R59, R700). -/
def serveBatch (s : State) (a : Arrival) (b : Ask) (stop : Bool) (all : List BatchItem) : Served :=
  if batchOk all then serveItems s a stop all ⟨.frame a b, all, 0, [], 0⟩
  else (if batchReplied a all then sendReply s a (reply3 s a 0 (askerOf s a.port).cls 3 []) else s, false)

/-- A frame (R46, R59). The KIND of the reply to a version 3 request that is not accepted is free (log entry 33). NO_REPLY
is for writes: a malformed version 2 WRITE, and a malformed version 3 request that holds only WRITE items (R50, R700). -/
def serveFrame (s : State) (a : Arrival) (b : Ask) : Served :=
  let cls := (askerOf s a.port).cls
  let v := frameVer a b
  let silent := broadcast a
  if !verOk s v then
    let r : Nat × Nat × Nat := if v = 3 then (0x81 + ofBool (Config.batchKind a.tag), 0, 0) else match b with
      | .read i sub _ _ => (0x81, i, sub)
      | .write i sub _ _ => (0x82, i, sub)
      | .batch _ _ => (0x81, 0, 0)
      | .bad kind i sub _ => (kind, i, sub)
    (if silent then s else sendReply s a (reply2 s a r.1 r.2.1 r.2.2 cls 10 []), false)
  else match b with
    | .read i sub off len =>
      if v = 3 then serveBatch s a b false [⟨false, sub, i, off, len, []⟩] else (serveRead s a i sub off len, false)
    | .write i sub off d =>
      if v = 3 then serveBatch s a b false [⟨true, sub, i, off, d.length, d⟩]
      else
        let r := serveWrite s a i sub off d
        if r.2 then (hold_ r.1 ⟨.frame a b, [], 0, [], 0⟩, true) else r
    | .batch stop all => serveBatch s a b stop all
    | .bad kind i sub code =>
      if silent ∨ (a.noReply ∧ v ≠ 1 ∧ kind = 0x82) then (s, false)
      else if v = 3 then (sendReply s a (reply3 s a 0 cls code []), false)
      else (sendReply s a (if v = 1 then reply1 s a kind i sub code [] else reply2 s a kind i sub cls code []), false)

/-! ### BAR2 -/

/-- The slot of an offset: index, sub-index, byte (R71). -/
def slotOf (off : Nat) : Nat × Nat × Nat := (off / 4096 % 65536, off / 16 % 256, off % 16)

/-- A BAR2 access is aligned (R89, R90). -/
def barAligned (off len : Nat) : Bool := (len == 1 || len == 2 || len == 4 || len == 8) && off % len == 0

/-- The BAR windows answer (R630). -/
def barOpen (s : State) : Bool := s.flag K.READY 6 && s.pwr.seqOnce

/-- A rejected BAR2 access is recorded (R73). -/
def barReject (s : State) (ctr i sub code : Nat) : State :=
  (s.inc ctr).setNums [(K.BAR_LAST, i * 256 + sub), (K.BAR_LAST_CODE, code)]

/-- The 16 bytes of a slot (R71, R72). -/
def slotBytes (s : State) (i sub : Nat) : Bytes :=
  let r := rowOf i sub
  let v := if sub ≠ 0 && r.ty.isBlob then leBytes 4 (readBlob s (objKey i sub)).length else objBytes s i sub r
  (v ++ zeros 16).take 16

/-- A BAR2 read (R73, R89). -/
def serveBar2Read (s : State) (pf off len : Nat) : State :=
  let (i, sub, o) := slotOf off
  let c := readCode s (askerPf s pf) false i sub 0 0
  if !barAligned off len then s.emit (.bar2 pf none)
  else if c = 1 ∨ c = 2 then s.emit (.bar2 pf (some 0))
  else if c ≠ 0 then (barReject s K.BAR_RD_REJECT i sub c).emit (.bar2 pf none)
  else s.emit (.bar2 pf (some (fieldAt (slotBytes s i sub) o len)))

/-- A write of a whole value through BAR2 (R73); true when its reply would be held. -/
def barCommit (s : State) (pf i sub : Nat) (d : Bytes) : Served :=
  let r := writeObj s (askerPf s pf) false false i sub 0 d
  if r.1 ≠ 0 then (barReject r.2.1 K.BAR_WR_REJECT i sub r.1, false) else (r.2.1, r.2.2)

/-- The object is 8 bytes wide, and may be written by halves (R91). -/
def halfable (i sub : Nat) : Bool :=
  match objRow i sub with
  | some r => r.ty.size == 8
  | none => false

/-- The low half of a value (R91). -/
def lowHalf (s : State) (pf off : Nat) (d : Bytes) : State :=
  let (i, sub, _) := slotOf off
  let c := gateCode s (askerPf s pf) false i sub
  if c ≠ 0 ∧ c ≠ 6 then barReject s K.BAR_WR_REJECT i sub c
  else s.setPf pf { s.pf pf with stage := some (off / 16, leNat d) }

/-- A BAR2 write whose width is wrong, or a high half without its low half: refused at step 8 unless an earlier step of R85
refuses it; a KEY object's unlock is consumed at step 7 (R90, R92, R108). -/
def barWidth (s : State) (pf i sub : Nat) : State :=
  let g := gateCode s (askerPf s pf) false i sub
  let s := if g = 0 ∧ (rowOf i sub).acc.isKey then s.setNum K.UNLOCK_STATE 0 else s
  barReject s K.BAR_WR_REJECT i sub (if g = 0 then 3 else g)

/-- The high half of a value (R91, R92). -/
def highHalf (s : State) (pf off : Nat) (d : Bytes) : Served :=
  let (i, sub, _) := slotOf off
  match (s.pf pf).stage with
  | some (slot, low) =>
    if slot = off / 16 then barCommit (s.setPf pf { s.pf pf with stage := none }) pf i sub (leBytes 4 low ++ d)
    else (barWidth s pf i sub, false)
  | none => (barWidth s pf i sub, false)

/-- A BAR2 write (R73, R90–R92). -/
def serveBar2Write (s : State) (pf off : Nat) (d : Bytes) : Served :=
  let (i, sub, o) := slotOf off
  let n := d.length
  if !barAligned off n then (s.inc K.BAR_UNALIGNED, false)
  else if n = 4 ∧ o = 0 ∧ halfable i sub then (lowHalf s pf off d, false)
  else if n = 4 ∧ o = 4 ∧ halfable i sub then highHalf s pf off d
  else if o ≠ 0 ∨ (rowOf i sub).ty.size ≠ n then (barWidth s pf i sub, false)
  else barCommit s pf i sub d

/-! ### DICT elements -/

/-- The bytes of the object value a DICT address lies in (R483): its size, or its longest length. -/
def dictLimit (a : Nat) : Nat :=
  let i := a / 2 ^ 32 % 65536
  let sub := a / 2 ^ 24 % 256
  match objRow i sub with
  | none => 2 ^ 24
  | some r => if sub = 0 then 1 else if r.ty.isBlob then (if r.max = 0 then 2 ^ 24 else r.max) else r.ty.size

/-- The asker of a channel's DICT elements: CH_CLASS, and the port of its function (R485). -/
def askerCh (s : State) (p : Nat) : Asker := ⟨s.num (atPump K.CH_CLASS p), pumpFunc s p + 1⟩

/-- A channel stops on a reply code (R485). -/
def dictError (s : State) (p code addr : Nat) : State := (pumpError s p 7 addr 5).setNum (atPump K.DICT_CODE p) code

/-- The source side of a DICT element: a READ, or bytes of another endpoint. -/
def dictSource (s : State) (p : Nat) (d : Bytes) (a : Nat) (data : Bytes) : Option Bytes × State :=
  if dscSrcEp d = 5 then
    let i := a / 2 ^ 32 % 65536
    let sub := a / 2 ^ 24 % 256
    let off := a % 2 ^ 24
    let c := readCode s (askerCh s p) false i sub off (dscLen d)
    if c = 0 then (some (readData s i sub off (dscLen d)), s) else (none, dictError s p c a)
  else
    let r := epRead s (dscSrcEp d) a (dscLen d) data
    match r.1 with
    | some w => (some w, r.2)
    | none => (none, pumpBusError r.2 a (dscSrcEp d))

/-- The destination side of a DICT element, whose bytes have been read. -/
def dictTarget (s : State) (p : Nat) (d : Bytes) (n a : Nat) (w : Bytes) : Served :=
  if dscDstEp d = 5 then
    let r := writeObj s (askerCh s p) false false (a / 2 ^ 32 % 65536) (a / 2 ^ 24 % 256) (a % 2 ^ 24) w
    if r.1 = 0 then (elementDone r.2.1 p d n w, r.2.2) else (dictError r.2.1 p r.1 a, false)
  else
    let q := epWrite s p (dscDstEp d) a w
    (if q.1 then elementDone q.2 p d n w else pumpBusError q.2 a (dscDstEp d), false)

/-- A DICT element runs as one request of the source PUMP (R95, R485). -/
def serveDict (s : State) (p : Nat) (data : Bytes) : Served :=
  match nextElement s p with
  | none => (s, false)
  | some (d, n) =>
    if dscSrcEp d ≠ 5 ∧ dscDstEp d ≠ 5 then (s, false)
    else
      let a := dscAddrs d n
      match elementCheck s d n (dictLimit a.1) (dictLimit a.2) with
      | some (e, x, ep) => (pumpError s p e x ep, false)
      | none =>
        let r := dictSource s p d a.1 data
        match r.1 with
        | none => (r.2, false)
        | some w => dictTarget r.2 p d n a.2 w

/-! ### The rotation -/

/-- The source of a request: PF0, PF1, E0, E1, JTAG, BAR2, PUMP (R95). -/
def sourceOf : Req → Nat
  | .frame a _ => portNum a.port - 1
  | .bar2Read _ _ _ => 5
  | .bar2Write _ _ _ => 5
  | .dict _ _ => 6

/-- Carry out one request. -/
def serve1 (s : State) (r : Req) : Served :=
  match r with
  | .frame a b => serveFrame s a b
  | .bar2Read pf off len => (serveBar2Read s pf off len, false)
  | .bar2Write pf off d =>
    let x := serveBar2Write s pf off d
    if x.2 then (hold_ x.1 ⟨r, [], 0, [], 0⟩, true) else x
  | .dict p data =>
    let x := serveDict s p data
    if x.2 then (hold_ x.1 ⟨r, [], 0, [], 0⟩, true) else x

/-- A soft reset asked for begins once the reply is formed (R642). -/
def afterReply (s : State) : State := if s.pwr.softReset then softReset s else s

/-- A request is done with: one reply fewer to discard where its function's are (R69). -/
def unmute (s : State) (r : Req) : State :=
  let src := sourceOf r
  (s.setMgmt { s.mgmt with mute0 := s.mgmt.mute0 - (if src = 0 then 1 else 0),
                                 mute1 := s.mgmt.mute1 - (if src = 1 then 1 else 0) })

/-- A request is done with or held: its source is the one served last (R95), and one reply fewer is to be discarded where
its function's are (R69). -/
def served (x : Served) (r : Req) : State :=
  let s := if x.2 then x.1 else unmute x.1 r
  s.setMgmt { s.mgmt with turn := sourceOf r }

/-- Carry out one request and note its source; a change of ATTN reaches the functions (R83). A reset asked for waits for a
reply that is held (R117, R642). -/
def serve (s : State) (r : Req) : State :=
  let x := serve1 s r
  let t := attnNote (served x r)
  if x.2 then t else afterReply t

/-- The request next in the rotation, and those that stay (R95). -/
def nextReq (turn : Nat) (l : List Req) : Option (Req × List Req) :=
  let order := (List.range 7).map (fun i => (turn + 1 + i) % 7)
  match order.find? (fun src => l.any (fun r => sourceOf r == src)) with
  | none => none
  | some src => match l.find? (fun r => sourceOf r == src) with
    | none => none
    | some r => some (r, l.erase r)

/-- Serve the waiting requests until one is held: at most `fuel`. -/
def drain : Nat → State → State
  | 0, s => s
  | fuel + 1, s =>
    if s.mgmt.held.isSome || !serving s then s
    else match nextReq s.mgmt.turn s.mgmt.waiting with
      | none => s
      | some (r, l) => drain fuel (serve (s.setMgmt { s.mgmt with waiting := l }) r)

/-- A request reaches the core: served, or waiting behind one that is held (R95, R117). -/
def submit (s : State) (r : Req) : State :=
  if !serving s then s
  else if s.mgmt.held.isSome then s.setMgmt { s.mgmt with waiting := s.mgmt.waiting ++ [r] }
  else serve s r

/-- A frame arrives on a port (R77, R642). -/
def frameIn (s : State) (a : Arrival) (b : Ask) : State :=
  if portUp s a.port && nodeOk s a then submit s (.frame a b) else s

/-- A write as a frame or as a BAR2 write of a function (R71). -/
def writeVia (s : State) (v : Via) (i sub : Nat) (d : Bytes) : State :=
  match v with
  | .frame a => frameIn s a (.write i sub 0 d)
  | .bar2 pf => if barOpen s then submit s (.bar2Write pf (i * 4096 + sub * 16) d) else s

/-- The write of an object of fixed size, named by its key. -/
def writeKey (s : State) (v : Via) (k n : Nat) : State :=
  writeVia s v (k / 256) (k % 256) (leBytes (rowOf (k / 256) (k % 256)).ty.size n)

/-! ### The scan -/

/-- The reply that waited for the scan, and the rest of its batch (R117). -/
def finishHeld (s : State) (h : Held) : State :=
  let s := s.setMgmt { s.mgmt with held := none }
  let x : Served := match h.req with
    | .frame a (.write i sub _ _) =>
      if a.ver = 3 then serveItems s a false [] h else (writeReply s a (askerOf s a.port).cls i sub 0, false)
    | .frame a (.batch stop all) => serveItems s a stop all h
    | _ => (s, false)
  if x.2 then x.1 else afterReply (attnNote (unmute x.1 h.req))

/-- A scan completes (R114–R117). -/
def sigScanComplete (s : State) : State :=
  if !s.mgmt.scanning || !serving s then s
  else
    let s := s.setMgmt { s.mgmt with scanning := false }
    let v := signature s
    let s := s.setNums [(K.SIG_LIVE, v), (K.SIG_CURRENT, 1)]
    match s.mgmt.held with
    | none => sigCompare s
    | some h =>
      let s := sigCompare (s.setNums [(K.SIG_REF, v), (K.SIG_VALID, 1), (K.SIG_COMMIT, 0)])
      let s := finishHeld s h
      drain s.mgmt.waiting.length s

end Sys2Proof.Machine
end

