-- ==== Sys2Proof/Machine/Ports.lean ====
section
/-! DEFINITION. The ports: frames as bytes (R46–R54, R59), the command and reply rings (R61–R66, R701), BAR0 (R68–R70,
R98, R238, R509), function-level reset, Onpel Link (R76–R80) and JTAG (R694, R695). -/

namespace Sys2Proof.Machine

/-! ### Frames as bytes -/

/-- The items of a version 3 request, with the bytes they take; none where an item is malformed (R54, R59). -/
def parseItems : Nat → Bytes → Option (List BatchItem × Nat)
  | 0, _ => some ([], 0)
  | n + 1, f =>
    let kind := byteAt f 0
    let len := fieldAt f 6 2
    if f.length < 8 ∨ (kind ≠ 1 ∧ kind ≠ 2) ∨ 1024 < len then none
    else
      let w := if kind = 2 then up4 len else 0
      let it : BatchItem := ⟨kind == 2, byteAt f 1, fieldAt f 2 2, fieldAt f 4 2, if kind = 2 then 0 else len,
        if kind = 2 then (f.drop 8).take len else []⟩
      match parseItems n (f.drop (8 + w)) with
      | some (l, m) => some (it :: l, 8 + w + m)
      | none => none

/-- The bytes the items of a version 3 frame take, whatever they are. -/
def itemsLen : Nat → Bytes → Nat
  | 0, _ => 0
  | n + 1, f => let w := 8 + (if byteAt f 0 = 2 then up4 (fieldAt f 6 2) else 0)
    w + itemsLen n (f.drop w)

/-- The items of a version 3 frame, as far as its bytes go, are all WRITE (R700). -/
def itemsWrite : Nat → Bytes → Bool
  | 0, _ => true
  | n + 1, f => f.isEmpty || (byteAt f 0 == 2 && itemsWrite n (f.drop (8 + up4 (fieldAt f 6 2))))

/-- The length that a frame's header implies (R48, R51, R54, R59); 16 for a version that is unknown. -/
def impliedLen (f : Bytes) : Nat :=
  let v := byteAt f 0
  if v = 1 then 12 + (if byteAt f 1 = 2 then up4 (byteAt f 10) else 0)
  else if v = 2 then 16 + (if byteAt f 1 = 2 then up4 (fieldAt f 14 2) else 0)
  else if v = 3 then 16 + itemsLen (byteAt f 8) (f.drop 16)
  else 16

/-- How a frame arrived, from its header (R46, R48, R51, R54). -/
def arrivalOf (p : Port) (mac : Nat) (vlan : Option Nat) (f : Bytes) : Arrival :=
  let v := byteAt f 0
  if v = 1 then ⟨p, 1, byteAt f 2, fieldAt f 8 2, fieldAt f 6 2, false, mac, vlan⟩
  else ⟨p, v, fieldAt f 2 2, fieldAt f 6 2, fieldAt f 4 2, if v = 3 then bit (byteAt f 9) 1 else bit (byteAt f 11) 0, mac, vlan⟩

/-- What a frame asks for; `ok` says that its length is right (R46, R59). A header whose KIND is neither READ nor WRITE, or in
version 3 not BATCH, is malformed, and is answered as a READ (DESIGN CHOICE, log entry 109). -/
def askOf (f : Bytes) (ok : Bool) : Ask :=
  let v := byteAt f 0
  let kind := byteAt f 1
  let rk := if kind = 2 then 0x82 else 0x81
  if v = 1 then
    let i := byteAt f 3 * 256 + byteAt f 4
    let sub := byteAt f 5
    if ok && kind == 1 then .read i sub 0 0
    else if ok && kind == 2 then .write i sub 0 ((f.drop 12).take (byteAt f 10))
    else .bad rk i sub 3
  else if v = 3 then
    let bad : Ask := .bad (if kind == 3 && itemsWrite (byteAt f 8) (f.drop 16) then 0x82 else 0x81) 0 0 3
    match parseItems (byteAt f 8) (f.drop 16) with
    | some (l, _) => if ok && kind == 3 then .batch (bit (byteAt f 9) 0) l else bad
    | none => bad
  else
    let i := fieldAt f 8 2
    let sub := byteAt f 10
    if v ≠ 2 then .bad rk i sub 10
    else if ok && kind == 1 then .read i sub (fieldAt f 12 2) (fieldAt f 14 2)
    else if ok && kind == 2 && fieldAt f 14 2 ≤ 1024 then .write i sub (fieldAt f 12 2) ((f.drop 16).take (fieldAt f 14 2))
    else .bad rk i sub 3

/-! ### The rings -/

/-- Slots of a ring whose size register holds `k` (R61). -/
def ringSlots (k : Nat) : Nat := 2 ^ k

/-- What the next reply frame takes: PAD slots before it and its own (R62). -/
def replyNeed (x : PcieFn) (f : Bytes) : Nat × Nat :=
  let k := ceilDiv f.length 64
  let left := ringSlots x.rplSize - x.rplHead
  (if left < k then left else 0, k)

/-- The reply ring has room for a frame, with a slot to spare (R64). -/
def replyRoom (x : PcieFn) (f : Bytes) : Bool :=
  let n := ringSlots x.rplSize
  let need := replyNeed x f
  decide (need.1 + need.2 ≤ (x.rplTail + n - x.rplHead - 1) % n)

/-- The first reply that waits has no room: the module takes no further command (R64). -/
def replyStuck (x : PcieFn) : Bool :=
  match x.replies with
  | f :: _ => !replyRoom x f
  | [] => false

/-- The port of a function. -/
def pfPort (pf : Nat) : Port := if pf = 0 then .pf0 else .pf1

/-- Slots that wait up to CMD_TAIL or the end of the ring. -/
def cmdAvail (x : PcieFn) : Nat := (if x.cmdHead ≤ x.cmdTail then x.cmdTail else ringSlots x.cmdSize) - x.cmdHead

/-- Fetch the waiting frames: `d` are the slots from CMD_HEAD to CMD_TAIL (R62–R64, R69, R642). -/
def fetchLoop (pf : Nat) : Nat → State → Bytes → State
  | 0, s, _ => s
  | fuel + 1, s, d =>
    let x := s.pf pf
    if !bit x.ringCtrl 0 ∨ x.stopped ∨ x.cmdHead = x.cmdTail ∨ replyStuck x ∨ d.length < 64 then s
    else
      let avail := cmdAvail x
      let pad := byteAt d 0 == 2 && byteAt d 1 == 0
      let len := if pad then 16 + fieldAt d 14 2 else impliedLen (d.take (64 * avail))
      let k := min (max 1 (ceilDiv len 64)) avail
      let ok := decide (ceilDiv len 64 ≤ avail) && decide (len ≤ 1500)
      if d.length < 64 * k then s
      else
      let s := s.setPf pf { x with cmdHead := (x.cmdHead + k) % ringSlots x.cmdSize }
      let s := if pad then s else frameIn s (arrivalOf (pfPort pf) 0 none d) (askOf (d.take (64 * k)) ok)
      fetchLoop pf fuel s (d.drop (64 * k))

/-- COMMAND_FETCH (R63). -/
def commandFetch (s : State) (pf : Nat) (d : Bytes) : State :=
  if pf < 2 ∧ s.flag K.READY 6 then fetchLoop pf 4096 s d else s

/-- A completion error on a command-ring read (R701). -/
def commandFetchError (s : State) (pf : Nat) : State :=
  let x := s.pf pf
  if pf < 2 ∧ s.flag K.READY 6 ∧ bit x.ringCtrl 0 ∧ !x.stopped ∧ x.cmdHead ≠ x.cmdTail then
    (s.setPf pf { x with stopped := true }).raise 0x7A
  else s

/-- The header of a PAD frame that covers some slots (R62). -/
def padFrame (slots : Nat) : Bytes := leBytes 1 2 ++ zeros 13 ++ leBytes 2 (64 * slots - 16)

/-- REPLY_WRITE: the oldest reply goes to the ring, then RPL_HEAD to RPL_WB, then MSI-X vector 1 (R62, R64, R65). -/
def replyWrite (s : State) (pf : Nat) : State :=
  let x := s.pf pf
  match x.replies with
  | [] => s
  | f :: rest =>
    if 2 ≤ pf ∨ !s.flag K.READY 6 ∨ !bit x.ringCtrl 0 ∨ !replyRoom x f then s
    else
      let need := replyNeed x f
      let at_ := if need.1 = 0 then x.rplHead else 0
      let head := (at_ + need.2) % ringSlots x.rplSize
      let s := if need.1 = 0 then s else s.emit (.hostWrite pf (x.rplBase + 64 * x.rplHead) (padFrame need.1))
      let s := s.emit (.hostWrite pf (x.rplBase + 64 * at_) f)
      let s := s.setPf pf { x with rplHead := head, replies := rest }
      let s := s.emit (.hostWrite pf x.rplWb (leBytes 4 head))
      if bit x.ringCtrl 1 then s.msix pf 1 else s

/-- The replies of every command a function has fetched are discarded (R69). -/
def muteRing (s : State) (pf : Nat) : State :=
  let mine (r : Req) : Bool := sourceOf r == pf
  let h : Nat := match s.mgmt.held with
    | some x => ofBool (mine x.req)
    | none => 0
  let n := h + (s.mgmt.waiting.filter mine).length
  let s := s.setPf pf { s.pf pf with replies := [] }
  s.setMgmt (if pf = 0 then { s.mgmt with mute0 := n } else { s.mgmt with mute1 := n })

/-- A function-level reset (R60). -/
def functionReset (s : State) (pf : Nat) : State :=
  if 2 ≤ pf ∨ domState s 5 = 0 then s
  else (muteRing s pf).setPf pf { PcieFn.init (s.pf pf).cls with attn := (s.pf pf).attn }

/-! ### BAR0 -/

/-- The low or high half of a 64-bit register. -/
def half (v : Nat) (high : Bool) : Nat := if high then v / 2 ^ 32 else v % 2 ^ 32

/-- A 64-bit register with one half written. -/
def withHalf (old v : Nat) (high : Bool) : Nat :=
  if high then 2 ^ 32 * v + old % 2 ^ 32 else 2 ^ 32 * (old / 2 ^ 32) + v

/-- A 32-bit read of BAR0 (R68). -/
def bar0Word (s : State) (pf off : Nat) : Nat :=
  let x := s.pf pf
  if off = 0 then 0x961200B0
  else if off = 0x10 then statusWord s
  else if off = 0x1000 ∨ off = 0x1004 then half x.cmdBase (off == 0x1004)
  else if off = 0x1008 then x.cmdSize
  else if off = 0x100C then x.cmdTail
  else if off = 0x1010 then x.cmdHead
  else if off = 0x1018 ∨ off = 0x101C then half x.rplBase (off == 0x101C)
  else if off = 0x1020 then x.rplSize
  else if off = 0x1024 then x.rplTail
  else if off = 0x1028 then x.rplHead
  else if off = 0x1030 ∨ off = 0x1034 then half x.rplWb (off == 0x1034)
  else if off = 0x1038 then x.ringCtrl
  else if 0x800000 ≤ off ∧ off < 0x800120 then (x.msixTable[(off - 0x800000) / 4]?).getD 0
  else if off = 0x801000 then x.pba % 2 ^ 32
  else 0

/-- A BAR0 access is 32-bit or 64-bit and naturally aligned (R70). -/
def bar0Aligned (off len : Nat) : Bool := (len == 4 || len == 8) && off % len == 0

/-- A BAR0 read (R68, R70, R630). -/
def bar0Read (s : State) (pf off len : Nat) : State :=
  if !barOpen s || !bar0Aligned off len then s.emit (.bar0 pf none)
  else
    let lo := bar0Word s pf off
    s.emit (.bar0 pf (some (if len = 8 then lo + 2 ^ 32 * bar0Word s pf (off + 4) else lo)))

/-- A write of RING_CTRL (R69). -/
def ringCtrlSet (s : State) (pf v : Nat) : State :=
  let x := s.pf pf
  let v := v % 4
  if bit x.ringCtrl 0 && !bit v 0 then
    let s := muteRing s pf
    s.setPf pf { s.pf pf with ringCtrl := v, cmdTail := 0, cmdHead := 0, rplTail := 0, rplHead := 0, stopped := false }
  else s.setPf pf { x with ringCtrl := v }

/-- A write of an MSI-X table word: a vector that is unmasked delivers what was pending (R68). -/
def msixWrite (s : State) (pf j v : Nat) : State :=
  let x := s.pf pf
  let x := { x with msixTable := x.msixTable.set j (if j % 4 = 3 then v % 2 else v) }
  let n := j / 4
  if bit x.pba n && !vectorMasked x n then (s.setPf pf { x with pba := putBit x.pba n false }).msix pf n
  else s.setPf pf x

/-- A function's BAR0 writes of SEQ_*, PUMP_DB and ATTN_MIRROR are permitted, by the copy of its class (R96, R102). -/
def barPermit (s : State) (pf : Nat) : Bool := let c := (s.pf pf).cls; c == 2 || c == 3

/-- A register that only a permitted class writes (R96, R238, R509): none for the others. -/
def bar0Action (s : State) (pf off v : Nat) : Option State :=
  if off = 0x10 then some (s.setNum K.ATTN_EVENTS (clearBits (s.num K.ATTN_EVENTS) (v &&& 0xE00)))
  else if off = 0x2000 then some (if bit v 0 then (runRequest s).2 else s)
  else if off = 0x2004 then some (if bit v 0 then hostHalt s else s)
  else if off = 0x2008 then some (if bit v 31 then (jumpRequest s (v % 16) false).2 else s)
  else if 0x10000 ≤ off ∧ off < 0x11000 ∧ off % 256 = 0 then
    some (pumpDbWrite s ((off - 0x10000) / 256) v (s.pf pf).cls)
  else none

/-- A ring register or the MSI-X table (R68, R69): whether the write is refused, and the state. -/
def bar0Reg (s : State) (pf off v : Nat) : Bool × State :=
  let x := s.pf pf
  let set_ (y : PcieFn) : Bool × State := if bit x.ringCtrl 0 then (true, s) else (false, s.setPf pf y)
  if off = 0x1000 ∨ off = 0x1004 then set_ { x with cmdBase := 4096 * (withHalf x.cmdBase v (off == 0x1004) / 4096) }
  else if off = 0x1018 ∨ off = 0x101C then set_ { x with rplBase := 4096 * (withHalf x.rplBase v (off == 0x101C) / 4096) }
  else if off = 0x1030 ∨ off = 0x1034 then set_ { x with rplWb := withHalf x.rplWb v (off == 0x1034) / 8 * 8 }
  else if off = 0x1008 then if v < 6 ∨ 12 < v then (true, s) else set_ { x with cmdSize := v }
  else if off = 0x1020 then if v < 6 ∨ 12 < v then (true, s) else set_ { x with rplSize := v }
  else if off = 0x100C then
    if ringSlots x.cmdSize ≤ v then (true, s) else (false, s.setPf pf { x with cmdTail := v, stopped := false })
  else if off = 0x1024 then if ringSlots x.rplSize ≤ v then (true, s) else (false, s.setPf pf { x with rplTail := v })
  else if off = 0x1038 then (false, ringCtrlSet s pf v)
  else if 0x800000 ≤ off ∧ off < 0x800120 then (false, msixWrite s pf ((off - 0x800000) / 4) v)
  else (false, s)

/-- A 32-bit write of BAR0: whether it is refused, and the state. -/
def bar0Put (s : State) (pf off v : Nat) : Bool × State :=
  match bar0Action s pf off v with
  | some t => if barPermit s pf then (false, t) else (true, s)
  | none => bar0Reg s pf off v

/-- One write requests a run and a halt at once: 64 bits over SEQ_RUN and SEQ_HALT (R228, R238). -/
def bar0RunHalt (s : State) (pf off : Nat) (d : Bytes) : Bool :=
  off == 0x2000 && d.length == 8 && bit (fieldAt d 0 4) 0 && bit (fieldAt d 4 4) 0 && barPermit s pf

/-- A BAR0 write (R68–R70, R98): a refused write is counted once. A halt beside a run request applies, and the request is
discarded (R228). -/
def bar0Write (s : State) (pf off : Nat) (d : Bytes) : State :=
  if !barOpen s ∨ 2 ≤ pf then s
  else if !bar0Aligned off d.length then s.inc K.BAR_UNALIGNED
  else if bar0RunHalt s pf off d then hostHalt (s.inc K.RUN_DISCARDED)
  else
    let a := bar0Put s pf off (fieldAt d 0 4)
    let b := if d.length = 8 then bar0Put a.2 pf (off + 4) (fieldAt d 4 4) else (false, a.2)
    if a.1 || b.1 then b.2.inc K.BAR_WR_REJECT else b.2

/-- A BAR2 read reaches the core, or meets a closed window (R630). -/
def bar2Read (s : State) (pf off len : Nat) : State :=
  if barOpen s then submit s (.bar2Read pf off len) else s.emit (.bar2 pf none)

/-- A BAR2 write reaches the core. -/
def bar2Write (s : State) (pf off : Nat) (d : Bytes) : State :=
  if barOpen s then submit s (.bar2Write pf off d) else s

/-! ### Onpel Link -/

/-- The bytes a frame's payload needs for its fixed header (R76). -/
def headerLen (v : Nat) : Nat := if v = 1 then 12 else 16

/-- The payload's length is right: the frame's, or the minimum of IEEE 802.3 beyond it (R59). -/
def netLenOk (f : EthFrame) : Bool :=
  let n := impliedLen f.payload
  let least := if f.tags.isEmpty then 46 else 42
  decide (n ≤ 1500) && (f.payload.length == n || (f.payload.length == least && decide (n < least)))

/-- An Ethernet frame arrives on E0 or E1 (R76–R80). -/
def onpelFrame (s : State) (p : Nat) (f : EthFrame) : State :=
  let port : Port := if p = 0 then .e0 else .e1
  if 2 ≤ p ∨ !portUp s port ∨ !f.sound then s
  else if f.etherType ≠ 0x88B5 ∨ 1 < f.tags.length ∨ f.payload.length < headerLen (byteAt f.payload 0) then
    s.inc K.NET_DROPPED
  else frameIn s (arrivalOf port f.mac f.tags.head? f.payload) (askOf f.payload (netLenOk f))

/-! ### JTAG -/

/-- A frame of the JTAG port is executing (R694). -/
def jtagBusy (s : State) : Bool :=
  let mine (r : Req) : Bool := sourceOf r == 4
  (match s.mgmt.held with
    | some h => mine h.req
    | none => false) || s.mgmt.waiting.any mine

/-- Update-DR of DICT_FRAME (R694). -/
def dictFrameUpdate (s : State) (word : Nat) : State :=
  if s.pwr.stopped ∨ jtagBusy s then s
  else
    let j := if s.jtag.reply.isEmpty then s.jtag else { s.jtag with req := [], reply := [] }
    let d := j.req ++ leBytes 4 word
    if bit word 32 then
      let s := s.setJtag { j with req := [] }
      let n := impliedLen d
      frameIn s (arrivalOf .jtag 0 none d) (askOf d (d.length == n && decide (n ≤ 1500)))
    else s.setJtag { j with req := if 1500 < d.length then [] else d }

/-- Capture-DR of DICT_FRAME (R694). -/
def dictFrameCapture (s : State) : State :=
  let busy := if jtagBusy s then 2 ^ 33 else 0
  match s.jtag.reply with
  | w :: r => (s.setJtag { s.jtag with reply := r }).emit (.jtag (w + 2 ^ 32 + busy))
  | [] => s.emit (.jtag busy)

/-- Test-Logic-Reset: the request buffer and the reply are discarded (R694), and IDCODE is the instruction, as IEEE 1149.1
has it (R693; PRESUMED, log entry 112). -/
def testLogicReset (s : State) : State := s.setJtag { s.jtag with req := [], reply := [], ir := 0x01 }

/-- EXTEST, CLAMP and HIGHZ act: MGMT is clear, in recovery, or in the safe state (R696). -/
def scanActs (s : State) : Bool := !s.flag K.READY 0 || s.pwr.recovery || s.num K.SAFE == 1

/-- The instruction in effect: a code that is not listed acts as BYPASS, as do EXTEST, CLAMP and HIGHZ where they do not act
and RECOVERY outside recovery (R693, R695, R696). -/
def jtagInstr (s : State) : Nat :=
  let c := s.jtag.ir
  if c = 0x00 ∨ c = 0x03 ∨ c = 0x04 then (if scanActs s then c else 0xFF)
  else if c = 0x21 then (if s.pwr.recovery then c else 0xFF)
  else if c = 0x01 ∨ c = 0x02 ∨ c = 0x20 then c
  else 0xFF

/-- An instruction reaches the instruction register (R693). -/
def jtagInstruction (s : State) (code : Nat) : State := s.setJtag { s.jtag with ir := code % 256 }

/-- The lines ALIVE_P and ALIVE_N; none while undriven. EXTEST and CLAMP drive them from their cells while ALIVE control is
1, never both high, and HIGHZ leaves them undriven (R577, R696). With ALIVE control 0 the pair runs on (DESIGN CHOICE, log
entry 112). -/
def alivePins (s : State) : Option (Bool × Bool) :=
  let i := jtagInstr s
  if s.pwr.stopped ∨ i = 0x03 then none
  else if (i = 0x00 ∨ i = 0x04) ∧ bit s.jtag.cells 2 then
    let both := bit s.jtag.cells 0 && bit s.jtag.cells 1
    some (bit s.jtag.cells 0 && !both, bit s.jtag.cells 1 && !both)
  else some (s.flt.aliveP, s.flt.aliveN)

/-- The boundary-scan register as Capture-DR loads it, bit i for cell i of R696: the input pins, the output pins, and ALIVE
control. RESET_N is high between the resets. -/
def scanCells (s : State) : Nat :=
  let p := (alivePins s).getD (false, false)
  1 + 2 * ofBool (!s.pwr.perst) + 4 * ofBool p.1 + 8 * ofBool p.2 + 16 * ofBool (bit s.jtag.cells 2)

/-- Capture-DR of the boundary-scan register, of IDCODE or of BYPASS (R693, R696). -/
def scanCapture (s : State) : State :=
  let i := jtagInstr s
  if i = 0x20 ∨ i = 0x21 then s
  else s.emit (.jtag (if i = 0x00 ∨ i = 0x02 then scanCells s else if i = 0x01 then 0xB9612C3D else 0))

/-- Update-DR of the boundary-scan register: the output cells and ALIVE control (R696). -/
def scanUpdate (s : State) (cells : Nat) : State :=
  let i := jtagInstr s
  if i = 0x00 ∨ i = 0x02 then s.setJtag { s.jtag with cells := cells / 4 % 8 } else s

/-- Capture-DR of RECOVERY: the boot ROM receives, or the status of the image it has checked; outside recovery the register
acts as BYPASS (R695). -/
def recoveryCapture (s : State) : State :=
  if !s.pwr.recovery then s.emit (.jtag 0)
  else s.emit (.jtag (if s.jtag.image.isEmpty then s.jtag.status.getD 0xFE else 0xFE))

/-- A word of RECOVERY (R659, R695): a whole image that passes the checks goes to slot A, and the module restarts; the status
of another can be read. -/
def recoveryWord (s : State) (word : Nat) : State :=
  if !s.pwr.recovery ∨ s.pwr.stopped then s
  else
    let d := s.jtag.image ++ leBytes 4 word
    if !bit word 32 then s.setJtag { s.jtag with image := d }
    else
      let s := s.setJtag { s.jtag with image := [], status := some (fwCheck s d) }
      if fwCheck s d = 0 then powerOnReset (s.setTrust { s.trust with fwA := d }) false s.trust.badB else s

end Sys2Proof.Machine
end

