-- ==== Sys2Proof/Machine/Effects.lean ====
section
/-! DEFINITION. What every command's meaning shares: it takes place unless D00 has stopped, and a rise of ATTN is
signalled (R83); units that exist; and accesses that have no row of their own. -/

namespace Sys2Proof.Machine

/-- A command takes effect: nothing happens while D00 has stopped (R638), and a rise of ATTN signals vector 0 (R83). -/
def took (s : State) (f : State → State) : Host.Outcome State Fault Refusal :=
  .next (if s.pwr.stopped then s else attnNote (f s))

/-- An effect on a channel, 0–95. -/
def onCh (s : State) (c : Nat) (f : State → State) : State := if c < 96 then f s else s

/-- An effect on a tile, 0–11. -/
def onTile (s : State) (t : Nat) (f : State → State) : State := if t < 12 then f s else s

/-- An effect on a pump channel, 0–15. -/
def onPump (s : State) (p : Nat) (f : State → State) : State := if p < 16 then f s else s

/-- An access without a row of its own. -/
def registerAccess (s : State) (r : RegAccess) : State :=
  match r with
  | .object v i sub d => writeVia s v i sub d
  | .bar0Write pf off d => bar0Write s pf off d
  | .bar0Read pf off len => bar0Read s pf off len
  | .jtagInstruction code => jtagInstruction s code
  | .scanCapture => scanCapture s
  | .scanUpdate cells => scanUpdate s cells
  | .recoveryCapture => recoveryCapture s

/-- A pump command through CH_CMD or PUMP_DB (R491, R509). -/
def pumpVia (s : State) (v : PumpVia) (p value : Nat) : State :=
  match v with
  | .chCmd w => writeKey s w (atPump K.CH_CMD p) value
  | .pumpDb pf => bar0Write s pf (0x10000 + 256 * p) (leBytes 4 value)

end Sys2Proof.Machine
end

