-- ==== Sys2Proof/Machine/Clock.lean ====
section
/-! DEFINITION. What time does on an idle block: one MGMTCLK cycle of 2.5 ns passes (R23, R427). DESIGN CHOICE, log
entry 1. -/

namespace Sys2Proof.Machine

/-- TB_NOW advances by 2.5 ns, 8,960 LSB, once the epoch is fixed and while D02 is on (R424, R427). -/
def tbAdvance (s : State) : State :=
  if s.tb.epoch && domState s 2 != 0 then s.add 64 K.TB_NOW 8960 else s

/-- One MGMTCLK cycle with no command waiting. -/
def idleCycle (s : State) : State :=
  if s.pwr.stopped then s else tbAdvance (s.setPwr { s.pwr with cycles := s.pwr.cycles + 1 })

end Sys2Proof.Machine
end

