-- ==== Sys2Proof/Machine/CalibrationCommands.lean ====
section
/-! DEFINITION. Calibration, its records and hold-up energy (R510–R548). One meaning for each command. -/

namespace Sys2Proof.Machine

/-- SELF (R518). -/
def execSelf (v : Via) (s : State) : Host.Outcome State Fault Refusal := took s (fun s => writeKey s v K.CAL_CMD 1)

/-- ABORT (R524). -/
def execAbort (v : Via) (s : State) : Host.Outcome State Fault Refusal := took s (fun s => writeKey s v K.CAL_CMD 2)

/-- CHANNEL_CAL_COMPLETE (R522, R523). -/
def execChannelCalComplete (c : Nat) (r : CalResult) (s : State) : Host.Outcome State Fault Refusal :=
  took s (fun s => onCh s c (fun s => channelCal s c r))

/-- CAL_INPUT_BUSY (R520, R521). -/
def execCalInputBusy (c : Nat) (s : State) : Host.Outcome State Fault Refusal :=
  took s (fun s => onCh s c (fun s => calBusyAbort s c))

/-- TRIM_APPLY (R513, R514). -/
def execTrimApply (s : State) : Host.Outcome State Fault Refusal := took s (fun s => trimApply s)

/-- BASE_WRITE: 0 DRV_BASE, 1 CMP_BASE, 2 CAP_BASE (R526). -/
def execBaseWrite (v : Via) (c which : Nat) (value : Int) (s : State) : Host.Outcome State Fault Refusal :=
  took s (fun s => onCh s c (fun s => writeKey s v (atCh (K.DRV_BASE + which % 3) c) (raw 32 value)))

/-- VREF_WRITE (R527). -/
def execVrefWrite (v : Via) (t : Nat) (value : Int) (s : State) : Host.Outcome State Fault Refusal :=
  took s (fun s => onTile s t (fun s => writeKey s v (K.VREF_T0 + t) (raw 32 value)))

/-- STORE (R538). -/
def execStore (v : Via) (s : State) : Host.Outcome State Fault Refusal := took s (fun s => writeKey s v K.STORE_CMD 1)

/-- REVERT (R538). -/
def execRevert (v : Via) (s : State) : Host.Outcome State Fault Refusal := took s (fun s => writeKey s v K.STORE_CMD 2)

/-- RELOAD (R529). -/
def execReload (v : Via) (s : State) : Host.Outcome State Fault Refusal := took s (fun s => writeKey s v K.STORE_CMD 4)

/-- STORE_COMPLETE (R541). -/
def execStoreComplete (ok : Bool) (s : State) : Host.Outcome State Fault Refusal := took s (fun s => storeComplete s ok)

/-- HOLDUP_TEST (R542). -/
def execHoldupTest (fall : Nat) (s : State) : Host.Outcome State Fault Refusal := took s (fun s => holdTest s fall)

/-- HOLD_V_REFRESH (R542). -/
def execHoldVRefresh (mv : Nat) (s : State) : Host.Outcome State Fault Refusal := took s (fun s => holdRefresh s mv)

/-- VHOLD_AT_V_MIN (R544). -/
def execVholdAtVMin (s : State) : Host.Outcome State Fault Refusal := took s (fun s => vholdMin s)

end Sys2Proof.Machine
end

