-- ==== Sys2Proof/Machine/FaultCommands.lean ====
section
/-! DEFINITION. Faults, fences, the watchdog and the ALIVE pair (R549–R586). One meaning for each command. -/

namespace Sys2Proof.Machine

/-- FAULT_COLLECT (R552, R557). -/
def execFaultCollect (s : State) : Host.Outcome State Fault Refusal := took s (fun s => faultCollect s)

/-- STICKY_CLEAR (R553). -/
def execStickyClear (v : Via) (hi : Bool) (value : Nat) (s : State) : Host.Outcome State Fault Refusal :=
  took s (fun s => writeKey s v (if hi then K.STICKY_HI else K.STICKY_LO) value)

/-- REACT_WRITE (R558). -/
def execReactWrite (v : Via) (src value : Nat) (s : State) : Host.Outcome State Fault Refusal :=
  took s (fun s => if src < 128 then writeKey s v (K.REACT_s + src) value else s)

/-- FIRE (R564). -/
def execFire (v : Via) (s : State) : Host.Outcome State Fault Refusal := took s (fun s => writeKey s v K.INJ_CMD 1)

/-- SET (R570). -/
def execSet (v : Via) (s : State) : Host.Outcome State Fault Refusal := took s (fun s => writeKey s v K.FENCE_CMD 1)

/-- LIFT (R570, R571). -/
def execLift (v : Via) (s : State) : Host.Outcome State Fault Refusal := took s (fun s => writeKey s v K.FENCE_CMD 2)

/-- TILE_FAILURE (R563). -/
def execTileFailure (t : Nat) (link : Bool) (s : State) : Host.Outcome State Fault Refusal :=
  took s (fun s => onTile s t (fun s => tileFailure s t link))

/-- WATCHDOG_EXPIRY (R576). -/
def execWatchdogExpiry (s : State) : Host.Outcome State Fault Refusal := took s (fun s => watchdogExpiry s)

/-- WATCHDOG_REFRESH (R578). -/
def execWatchdogRefresh (s : State) : Host.Outcome State Fault Refusal := took s (fun s => watchdogRefresh s)

/-- ALIVE_TOGGLE (R577). -/
def execAliveToggle (s : State) : Host.Outcome State Fault Refusal := took s (fun s => aliveToggle s)

end Sys2Proof.Machine
end

