-- ==== Sys2Proof/Machine/MicrocodeCommands.lean ====
section
/-! DEFINITION. Micro-traps and the control store (R240–R287). One meaning for each command. -/

namespace Sys2Proof.Machine

/-- TRAP_TAKEN (R270, R273). -/
def execTrapTaken (ios : List Io) (s : State) : Host.Outcome State Fault Refusal := took s (fun s => trapTaken s ios)

/-- TRAP_RESUME (R271, R274). -/
def execTrapResume (ios : List Io) (s : State) : Host.Outcome State Fault Refusal := took s (fun s => trapResume s ios)

/-- SNAP (R278, R279). -/
def execSnap (v : Via) (s : State) : Host.Outcome State Fault Refusal := took s (fun s => writeKey s v K.TRAP_CMD 1)

/-- USER (R279). -/
def execUser (v : Via) (s : State) : Host.Outcome State Fault Refusal := took s (fun s => writeKey s v K.TRAP_CMD 2)

/-- TRAP_OVERRUN (R276). -/
def execTrapOverrun (s : State) : Host.Outcome State Fault Refusal := took s (fun s => trapOverrun s)

/-- DEFER_OVERRUN (R281). -/
def execDeferOverrun (ios : List Io) (s : State) : Host.Outcome State Fault Refusal := took s (fun s => deferOverrun s ios)

/-- SCRUB_READ (R243, R244, R247). -/
def execScrubRead (outcome : Nat) (s : State) : Host.Outcome State Fault Refusal :=
  took s (fun s => scrubRead s outcome)

/-- CUST_LOAD (R264). -/
def execCustLoad (v : Via) (s : State) : Host.Outcome State Fault Refusal := took s (fun s => writeKey s v K.UC_CMD 2)

/-- CUST_CLEAR (R265). -/
def execCustClear (v : Via) (s : State) : Host.Outcome State Fault Refusal := took s (fun s => writeKey s v K.UC_CMD 4)

/-- PATCH_INSTALL (R286). -/
def execPatchInstall (v : Via) (s : State) : Host.Outcome State Fault Refusal :=
  took s (fun s => writeKey s v K.UC_CMD 1)

/-- PATCH_INSTALL_DONE (R286). -/
def execPatchInstallDone (bad : Nat) (s : State) : Host.Outcome State Fault Refusal :=
  took s (fun s => patchInstallDone s bad)

/-- UC_ENFORCE (R266). -/
def execUcEnforce (v : Via) (value : Nat) (s : State) : Host.Outcome State Fault Refusal :=
  took s (fun s => writeKey s v K.UC_ENFORCE value)

end Sys2Proof.Machine
end

