-- ==== Sys2Proof/Machine/PinCommands.lean ====
section
/-! DEFINITION. The tick, deskew, PRBS checkers, comparators, listen state, self-check, the converter and fail capture (R288–R419). One meaning for each command. -/

namespace Sys2Proof.Machine

/-- TICK_MULT (R289, R290). -/
def execTickMult (v : Via) (value : Nat) (s : State) : Host.Outcome State Fault Refusal :=
  took s (fun s => writeKey s v K.TICK_MULT value)

/-- SYNTHESISER_LOCK (R290). -/
def execSynthesiserLock (s : State) : Host.Outcome State Fault Refusal := took s (fun s => domAdvance (synthLock s))

/-- TILE_PLL_LOCK (R290). -/
def execTilePllLock (t : Nat) (s : State) : Host.Outcome State Fault Refusal :=
  took s (fun s => onTile s t (fun s => domAdvance (pllLock s t)))

/-- HOLDOVER (R291). -/
def execHoldover (s : State) : Host.Outcome State Fault Refusal := took s (fun s => tickHoldover s)

/-- HOLDOVER_RELOCK (R291). -/
def execHoldoverRelock (s : State) : Host.Outcome State Fault Refusal := took s (fun s => domAdvance (holdoverRelock s))

/-- DESKEW_WRITE: 0 DESKEW_DRV, 1 DESKEW_CMP, 2 STRB_ADJ (R316, R317). -/
def execDeskewWrite (v : Via) (c which : Nat) (value : Int) (s : State) : Host.Outcome State Fault Refusal :=
  took s (fun s => onCh s c (fun s => writeKey s v (atCh (K.DESKEW_DRV + which % 3) c) (raw 32 value)))

/-- CHECKER_LOCK (R326). -/
def execCheckerLock (c : Nat) (s : State) : Host.Outcome State Fault Refusal :=
  took s (fun s => onCh s c (fun s => checkerLock s c))

/-- CHECKER_RELOCK (R327). -/
def execCheckerRelock (c : Nat) (s : State) : Host.Outcome State Fault Refusal :=
  took s (fun s => onCh s c (fun s => checkerRelock s c))

/-- COMPARATOR_VALID (R356). -/
def execComparatorValid (c : Nat) (v : Pad) (s : State) : Host.Outcome State Fault Refusal :=
  took s (fun s => onCh s c (fun s => comparatorValid s c v))

/-- ATTENTION_EVENT (R359). -/
def execAttentionEvent (c : Nat) (v : Pad) (s : State) : Host.Outcome State Fault Refusal :=
  took s (fun s => onCh s c (fun s => attentionEvent s c v))

/-- LISTEN (R363). -/
def execListen (v : Via) (t : Nat) (s : State) : Host.Outcome State Fault Refusal :=
  took s (fun s => onTile s t (fun s => writeKey s v (atTile K.TILE_CMD t) 1))

/-- LISTEN_ENTERED (R364). -/
def execListenEntered (t : Nat) (s : State) : Host.Outcome State Fault Refusal :=
  took s (fun s => onTile s t (fun s => listenEntered s t))

/-- WAKE_EVENT (R367). -/
def execWakeEvent (t : Nat) (inputs : List (Nat × Pad)) (s : State) : Host.Outcome State Fault Refusal :=
  took s (fun s => onTile s t (fun s => wakeEvent s t inputs))

/-- WAKE (R368). -/
def execWake (v : Via) (t : Nat) (s : State) : Host.Outcome State Fault Refusal :=
  took s (fun s => onTile s t (fun s => writeKey s v (atTile K.TILE_CMD t) 2))

/-- TILE_READY_AFTER_WAKE (R369). -/
def execTileReadyAfterWake (t : Nat) (s : State) : Host.Outcome State Fault Refusal :=
  took s (fun s => onTile s t (fun s => tileAwake s t))

/-- SELF_CHECK_RUN (R372). -/
def execSelfCheckRun (v : Via) (c : Nat) (s : State) : Host.Outcome State Fault Refusal :=
  took s (fun s => onCh s c (fun s => writeKey s v (atCh K.SC_CMD c) 1))

/-- SELF_CHECK_DONE (R373, R375). -/
def execSelfCheckDone (c : Nat) (m : SelfTest) (s : State) : Host.Outcome State Fault Refusal :=
  took s (fun s => onCh s c (fun s => selfCheckDone s c m))

/-- CONV_START (R377, R378). -/
def execConvStart (v : Via) (t : Nat) (s : State) : Host.Outcome State Fault Refusal :=
  took s (fun s => onTile s t (fun s => writeKey s v (atTile K.CONV_CMD t) 1))

/-- CONV_DONE (R377). -/
def execConvDone (t : Nat) (vs : List Int) (s : State) : Host.Outcome State Fault Refusal :=
  took s (fun s => onTile s t (fun s => convDone s t vs))

/-- DRIVER_CURRENT_LIMIT (R549). -/
def execDriverCurrentLimit (c : Nat) (s : State) : Host.Outcome State Fault Refusal :=
  took s (fun s => onCh s c (fun s => currentLimit s c))

/-- FAIL_RECORD (R394, R395). -/
def execFailRecord (s : State) : Host.Outcome State Fault Refusal := took s (fun s => failRecord s)

/-- RECORD_IN_MEMORY (R399). -/
def execRecordInMemory (s : State) : Host.Outcome State Fault Refusal := took s (fun s => recordInMemory s)

/-- BURST_SUMMARY (R390–R392). -/
def execBurstSummary (s : State) : Host.Outcome State Fault Refusal := took s (fun s => burstSummary s)

end Sys2Proof.Machine
end

