-- ==== Sys2Proof/Machine/PortCommands.lean ====
section
/-! DEFINITION. The commands of the dictionary, its ports and its counters (R38–R118, R694, R695). One meaning for each command. -/

namespace Sys2Proof.Machine

/-- READ: a request frame of version 1 or 2 (R48, R51, R85, R86). -/
def execRead (a : Arrival) (index sub off len : Nat) (s : State) : Host.Outcome State Fault Refusal :=
  took s (fun s => frameIn s a (.read index sub off len))

/-- WRITE: a request frame of version 1 or 2 (R48, R51, R85, R87, R88). -/
def execWrite (a : Arrival) (index sub off : Nat) (data : Bytes) (s : State) : Host.Outcome State Fault Refusal :=
  took s (fun s => frameIn s a (.write index sub off data))

/-- BATCH: a request frame of version 3 (R54–R58). -/
def execBatch (a : Arrival) (stop : Bool) (items : List BatchItem) (s : State) : Host.Outcome State Fault Refusal :=
  took s (fun s => frameIn s a (.batch stop items))

/-- CMD_TAIL (R63, R69, R701). -/
def execCmdTail (pf value : Nat) (s : State) : Host.Outcome State Fault Refusal :=
  took s (fun s => bar0Write s pf 0x100C (leBytes 4 value))

/-- COMMAND_FETCH (R62–R64). -/
def execCommandFetch (pf : Nat) (slots : Bytes) (s : State) : Host.Outcome State Fault Refusal :=
  took s (fun s => commandFetch s pf slots)

/-- COMMAND_FETCH_ERROR (R701). -/
def execCommandFetchError (pf : Nat) (s : State) : Host.Outcome State Fault Refusal :=
  took s (fun s => commandFetchError s pf)

/-- REPLY_WRITE (R62, R64, R65). -/
def execReplyWrite (pf : Nat) (s : State) : Host.Outcome State Fault Refusal := took s (fun s => replyWrite s pf)

/-- RPL_TAIL (R64, R69). -/
def execRplTail (pf value : Nat) (s : State) : Host.Outcome State Fault Refusal :=
  took s (fun s => bar0Write s pf 0x1024 (leBytes 4 value))

/-- RING_CTRL (R69). -/
def execRingCtrl (pf value : Nat) (s : State) : Host.Outcome State Fault Refusal :=
  took s (fun s => bar0Write s pf 0x1038 (leBytes 4 value))

/-- REGISTER_WRITE (R42, R68–R70). -/
def execRegisterWrite (r : RegAccess) (s : State) : Host.Outcome State Fault Refusal :=
  took s (fun s => registerAccess s r)

/-- BAR2_READ (R73, R89). -/
def execBar2Read (pf off len : Nat) (s : State) : Host.Outcome State Fault Refusal :=
  took s (fun s => bar2Read s pf off len)

/-- BAR2_WRITE (R73, R90). -/
def execBar2Write (pf off : Nat) (data : Bytes) (s : State) : Host.Outcome State Fault Refusal :=
  took s (fun s => bar2Write s pf off data)

/-- BAR2_LOW_HALF_WRITE (R91). -/
def execBar2LowHalfWrite (pf slot value : Nat) (s : State) : Host.Outcome State Fault Refusal :=
  took s (fun s => bar2Write s pf (slot * 16) (leBytes 4 value))

/-- BAR2_HIGH_HALF_WRITE (R91, R92). -/
def execBar2HighHalfWrite (pf slot value : Nat) (s : State) : Host.Outcome State Fault Refusal :=
  took s (fun s => bar2Write s pf (slot * 16 + 4) (leBytes 4 value))

/-- FUNCTION_LEVEL_RESET (R60). -/
def execFunctionLevelReset (pf : Nat) (s : State) : Host.Outcome State Fault Refusal :=
  took s (fun s => functionReset s pf)

/-- ONPEL_FRAME (R76–R80). -/
def execOnpelFrame (port : Nat) (f : EthFrame) (s : State) : Host.Outcome State Fault Refusal :=
  took s (fun s => onpelFrame s port f)

/-- DICT_FRAME_UPDATE (R694). -/
def execDictFrameUpdate (word : Nat) (s : State) : Host.Outcome State Fault Refusal :=
  took s (fun s => dictFrameUpdate s word)

/-- DICT_FRAME_CAPTURE (R694). -/
def execDictFrameCapture (s : State) : Host.Outcome State Fault Refusal := took s (fun s => dictFrameCapture s)

/-- TEST_LOGIC_RESET (R694). -/
def execTestLogicReset (s : State) : Host.Outcome State Fault Refusal := took s (fun s => testLogicReset s)

/-- RECOVERY_WORD (R659, R695). -/
def execRecoveryWord (word : Nat) (s : State) : Host.Outcome State Fault Refusal :=
  took s (fun s => recoveryWord s word)

/-- KEY_UNLOCK (R106, R107). -/
def execKeyUnlock (v : Via) (value : Nat) (s : State) : Host.Outcome State Fault Refusal :=
  took s (fun s => writeKey s v K.KEY_UNLOCK value)

/-- UNLOCK_LAPSE: the second is over (R109). -/
def execUnlockLapse (s : State) : Host.Outcome State Fault Refusal := took s (fun s => s.setNum K.UNLOCK_STATE 0)

/-- LOCK_SET (R104). -/
def execLockSet (v : Via) (value : Nat) (s : State) : Host.Outcome State Fault Refusal :=
  took s (fun s => writeKey s v K.LOCK_SET value)

/-- AUTH_WRITE: the class of port number `port`, 1–5 (R99–R101). -/
def execAuthWrite (v : Via) (port cls : Nat) (s : State) : Host.Outcome State Fault Refusal :=
  took s (fun s => writeVia s v 0x1F00 port (leBytes 1 cls))

/-- VER_ENABLE (R103). -/
def execVerEnable (v : Via) (value : Nat) (s : State) : Host.Outcome State Fault Refusal :=
  took s (fun s => writeKey s v K.VER_ENABLE value)

/-- SIG_SCAN_START (R114). -/
def execSigScanStart (s : State) : Host.Outcome State Fault Refusal := took s (fun s => sigScanStart s)

/-- SIG_SCAN_COMPLETE (R115–R117). -/
def execSigScanComplete (s : State) : Host.Outcome State Fault Refusal := took s (fun s => sigScanComplete s)

/-- SIG_COMMIT (R117). -/
def execSigCommit (v : Via) (s : State) : Host.Outcome State Fault Refusal :=
  took s (fun s => writeKey s v K.SIG_COMMIT 1)

/-- SIG_REF (R118). -/
def execSigRef (v : Via) (value : Nat) (s : State) : Host.Outcome State Fault Refusal :=
  took s (fun s => writeKey s v K.SIG_REF value)

/-- ONPEL_LINK_PORT_DOWN (R549, R632). -/
def execOnpelLinkPortDown (port : Nat) (s : State) : Host.Outcome State Fault Refusal :=
  took s (fun s => portDown s port)

/-- AER_UNCORRECTABLE_ERROR (R549). -/
def execAerUncorrectableError (s : State) : Host.Outcome State Fault Refusal := took s (fun s => aerError s)

end Sys2Proof.Machine
end

