-- ==== Sys2Proof/Machine/PowerCommands.lean ====
section
/-! DEFINITION. Power domains, supplies, resets and temperature (R624–R653). One meaning for each command. -/

namespace Sys2Proof.Machine

/-- DOM_EN (R633, R634). -/
def execDomEn (v : Via) (value : Nat) (s : State) : Host.Outcome State Fault Refusal :=
  took s (fun s => writeKey s v K.DOM_EN value)

/-- FUNCTION_READY (R629). -/
def execFunctionReady (b bad : Nat) (s : State) : Host.Outcome State Fault Refusal :=
  took s (fun s => functionReady s b bad)

/-- SUPPLY_VALID (R626). -/
def execSupplyValid (b : Nat) (s : State) : Host.Outcome State Fault Refusal := took s (fun s => supplyValid s b)

/-- SUPPLY_FAULT (R637). -/
def execSupplyFault (b : Nat) (s : State) : Host.Outcome State Fault Refusal := took s (fun s => supplyFault s b)

/-- VAUX_FAILURE (R638). -/
def execVauxFailure (s : State) : Host.Outcome State Fault Refusal := took s (fun s => vauxFailure s)

/-- POWER_ON_RESET (R639, R640). -/
def execPowerOnReset (badA badB : Bool) (s : State) : Host.Outcome State Fault Refusal :=
  .next (attnNote (powerOnReset s badA badB))

/-- RESET_N (R639, R640). -/
def execResetN (badA badB : Bool) (s : State) : Host.Outcome State Fault Refusal := took s (fun s => resetN s badA badB)

/-- SOFT (R642). -/
def execSoft (v : Via) (s : State) : Host.Outcome State Fault Refusal := took s (fun s => writeKey s v K.RESET_CMD 1)

/-- PERST (R640). -/
def execPerst (s : State) : Host.Outcome State Fault Refusal := took s (fun s => perst s)

/-- PERST_DEASSERTION (R643). -/
def execPerstDeassertion (s : State) : Host.Outcome State Fault Refusal := took s (fun s => perstOff s)

/-- TEMPERATURE_SAMPLE (R646–R649). -/
def execTemperatureSample (x : Sensors) (s : State) : Host.Outcome State Fault Refusal :=
  took s (fun s => temperatureSample s x)

end Sys2Proof.Machine
end

