-- ==== Sys2Proof/Machine/ProgramCommands.lean ====
section
/-! DEFINITION. The instructions of a pattern program, one issue each, and what ends them (R144–R170, R257–R261). One meaning for each command. -/

namespace Sys2Proof.Machine

/-- VEC (R144). -/
def execVec (io : Io) (s : State) : Host.Outcome State Fault Refusal := took s (fun s => vec s io)

/-- RPT (R151). -/
def execRpt (io : Io) (s : State) : Host.Outcome State Fault Refusal := took s (fun s => rpt s io)

/-- LOOP (R152). -/
def execLoop (io : Io) (s : State) : Host.Outcome State Fault Refusal := took s (fun s => loop s io)

/-- ENDL (R154). -/
def execEndl (io : Io) (s : State) : Host.Outcome State Fault Refusal := took s (fun s => endl s io)

/-- CALL (R155). -/
def execCall (io : Io) (s : State) : Host.Outcome State Fault Refusal := took s (fun s => call s io)

/-- RET (R155). -/
def execRet (io : Io) (s : State) : Host.Outcome State Fault Refusal := took s (fun s => ret s io)

/-- JMP (R156). -/
def execJmp (io : Io) (s : State) : Host.Outcome State Fault Refusal := took s (fun s => jmp s io)

/-- JIF (R157). -/
def execJif (io : Io) (s : State) : Host.Outcome State Fault Refusal := took s (fun s => jif s io)

/-- MATCH (R158). -/
def execMatchOp (io : Io) (s : State) : Host.Outcome State Fault Refusal := took s (fun s => matchIssue s io)

/-- SYNCW (R161). -/
def execSyncw (io : Io) (s : State) : Host.Outcome State Fault Refusal := took s (fun s => syncw s io)

/-- SYNCS (R161). -/
def execSyncs (io : Io) (s : State) : Host.Outcome State Fault Refusal := took s (fun s => syncs s io)

/-- HOLD (R162). -/
def execHold (io : Io) (s : State) : Host.Outcome State Fault Refusal := took s (fun s => hold s io)

/-- TSET (R163). -/
def execTset (io : Io) (s : State) : Host.Outcome State Fault Refusal := took s (fun s => tset s io)

/-- MARK (R164). -/
def execMark (io : Io) (s : State) : Host.Outcome State Fault Refusal := took s (fun s => mark s io)

/-- EYE START (R165, R403). -/
def execEyeStart (io : Io) (s : State) : Host.Outcome State Fault Refusal := took s (fun s => eye 0 s io)

/-- EYE ADVANCE (R165, R403). -/
def execEyeAdvance (io : Io) (s : State) : Host.Outcome State Fault Refusal := took s (fun s => eye 1 s io)

/-- EYE STOP (R165, R403). -/
def execEyeStop (io : Io) (s : State) : Host.Outcome State Fault Refusal := took s (fun s => eye 2 s io)

/-- HALT (R166). -/
def execHalt (io : Io) (s : State) : Host.Outcome State Fault Refusal := took s (fun s => halt s io)

/-- USER_OPCODE (R167, R257). -/
def execUserOpcode (io : Io) (s : State) : Host.Outcome State Fault Refusal := took s (fun s => userOpcode s io)

/-- SHADOW_GRANULE (R259, R260). -/
def execShadowGranule (io : Io) (s : State) : Host.Outcome State Fault Refusal := took s (fun s => shadowGranule s io)

/-- RPT_COUNT_END (R151). -/
def execRptCountEnd (s : State) : Host.Outcome State Fault Refusal := took s (fun s => rptCountEnd s)

/-- MATCH_TIMEOUT (R158). -/
def execMatchTimeout (s : State) : Host.Outcome State Fault Refusal := took s (fun s => matchTimeout s)

/-- SYNCW_TIMEOUT (R161). -/
def execSyncwTimeout (s : State) : Host.Outcome State Fault Refusal := took s (fun s => syncwTimeout s)

/-- HOLD_END (R178). -/
def execHoldEnd (s : State) : Host.Outcome State Fault Refusal := took s (fun s => holdEnd s)

/-- FALL_OFF (R170). -/
def execFallOff (s : State) : Host.Outcome State Fault Refusal := took s (fun s => fallOff s)

end Sys2Proof.Machine
end

