-- ==== Sys2Proof/Machine/PumpCommands.lean ====
section
/-! DEFINITION. The memory map and the pump (R469–R509). One meaning for each command. -/

namespace Sys2Proof.Machine

/-- APPLY (R473). -/
def execApply (v : Via) (s : State) : Host.Outcome State Fault Refusal := took s (fun s => writeKey s v K.MAP_CMD 1)

/-- MAP_AUTO_APPLY (R475). -/
def execMapAutoApply (s : State) : Host.Outcome State Fault Refusal := took s (fun s => mapAuto s)

/-- STACK_LINK_TRAINING_LOSS (R549). -/
def execStackLinkTrainingLoss (m : Nat) (s : State) : Host.Outcome State Fault Refusal :=
  took s (fun s => stackTrainingLoss s m)

/-- START (R491). -/
def execStart (v : PumpVia) (p : Nat) (s : State) : Host.Outcome State Fault Refusal :=
  took s (fun s => onPump s p (fun s => pumpVia s v p 2))

/-- DOORBELL (R491). -/
def execDoorbell (v : PumpVia) (p : Nat) (s : State) : Host.Outcome State Fault Refusal :=
  took s (fun s => onPump s p (fun s => pumpVia s v p 1))

/-- STOP (R491). -/
def execStop (v : PumpVia) (p : Nat) (s : State) : Host.Outcome State Fault Refusal :=
  took s (fun s => onPump s p (fun s => pumpVia s v p 4))

/-- RESUME (R491). -/
def execResume (v : PumpVia) (p : Nat) (s : State) : Host.Outcome State Fault Refusal :=
  took s (fun s => onPump s p (fun s => pumpVia s v p 8))

/-- STOP_TAKES_EFFECT (R497). -/
def execStopTakesEffect (p : Nat) (s : State) : Host.Outcome State Fault Refusal :=
  took s (fun s => onPump s p (fun s => stopTakesEffect s p))

/-- DESCRIPTOR_FETCH (R487, R489, R496). -/
def execDescriptorFetch (p : Nat) (data : Bytes) (s : State) : Host.Outcome State Fault Refusal :=
  took s (fun s => onPump s p (fun s => descriptorFetch s p data))

/-- ELEMENT_MOVE (R483, R484, R488). -/
def execElementMove (p : Nat) (io : ElementIo) (s : State) : Host.Outcome State Fault Refusal :=
  took s (fun s => onPump s p (fun s => elementMove s p io))

/-- DICT_ELEMENT (R95, R485). -/
def execDictElement (p : Nat) (data : Bytes) (s : State) : Host.Outcome State Fault Refusal :=
  took s (fun s => onPump s p (fun s => submit s (.dict p data)))

/-- DESCRIPTOR_COMPLETE (R493–R495). -/
def execDescriptorComplete (p : Nat) (s : State) : Host.Outcome State Fault Refusal :=
  took s (fun s => onPump s p (fun s => descriptorComplete s p))

/-- REFETCH (R500). -/
def execRefetch (p : Nat) (data : Bytes) (s : State) : Host.Outcome State Fault Refusal :=
  took s (fun s => onPump s p (fun s => refetchDone s p data))

/-- BUS_ERROR (R502, R503). -/
def execBusError (addr ep : Nat) (s : State) : Host.Outcome State Fault Refusal :=
  took s (fun s => pumpBusRow s addr ep)

/-- CUR_DESC (R498). -/
def execCurDesc (v : Via) (p value : Nat) (s : State) : Host.Outcome State Fault Refusal :=
  took s (fun s => onPump s p (fun s => writeKey s v (atPump K.CUR_DESC p) value))

end Sys2Proof.Machine
end

