-- ==== Sys2Proof/Machine/RingCommands.lean ====
section
/-! DEFINITION. The sync ring and fleet consistency (R587–R623). One meaning for each command. -/

namespace Sys2Proof.Machine

/-- RING_START (R608, R610). -/
def execRingStart (msg : Bytes) (s : State) : Host.Outcome State Fault Refusal := took s (fun s => ringStart s msg)

/-- SCHEDULED_START (R610). -/
def execScheduledStart (s : State) : Host.Outcome State Fault Refusal := took s (fun s => scheduledStart s)

/-- RING_HALT (R612). -/
def execRingHalt (msg : Bytes) (s : State) : Host.Outcome State Fault Refusal := took s (fun s => ringHalt s msg)

/-- RING_JUMP (R611). -/
def execRingJump (msg : Bytes) (s : State) : Host.Outcome State Fault Refusal := took s (fun s => ringJump s msg)

/-- SCHEDULED_JUMP (R611). -/
def execScheduledJump (s : State) : Host.Outcome State Fault Refusal := took s (fun s => scheduledJump s)

/-- RING_MARK (R595, R614). -/
def execRingMark (msg : Bytes) (s : State) : Host.Outcome State Fault Refusal := took s (fun s => ringMarkIn s msg)

/-- TIME (R602–R605). -/
def execTime (msg : Bytes) (arrival : Nat) (s : State) : Host.Outcome State Fault Refusal :=
  took s (fun s => timeIn s msg arrival)

/-- TIME_EVENT (R605). -/
def execTimeEvent (s : State) : Host.Outcome State Fault Refusal := took s (fun s => timeEvent s)

/-- SIG (R617). -/
def execSig (msg : Bytes) (s : State) : Host.Outcome State Fault Refusal := took s (fun s => sigIn s msg)

/-- TIME_EMIT (R602). -/
def execTimeEmit (s : State) : Host.Outcome State Fault Refusal := took s (fun s => timeEmit s)

/-- SIG_SEND (R616). -/
def execSigSend (s : State) : Host.Outcome State Fault Refusal := took s (fun s => sigSend s)

/-- RING_QUEUE_SEND (R597). -/
def execRingQueueSend (s : State) : Host.Outcome State Fault Refusal := took s (fun s => ringQueueSend s)

/-- PEER_STALE (R618). -/
def execPeerStale (p : Nat) (s : State) : Host.Outcome State Fault Refusal := took s (fun s => peerStale s p)

/-- CALIBRATION_BLOCK (R599). -/
def execCalibrationBlock (s : State) : Host.Outcome State Fault Refusal := took s (fun s => calibrationBlock s)

/-- DELAY_CALIBRATION_END (R599, R600). -/
def execDelayCalibrationEnd (linkPs : Nat) (s : State) : Host.Outcome State Fault Refusal :=
  took s (fun s => delayCalibrationEnd s linkPs)

/-- RING_LOCK (R598). -/
def execRingLock (s : State) : Host.Outcome State Fault Refusal := took s (fun s => ringLock s)

/-- LOCK_LOSS (R598). -/
def execLockLoss (s : State) : Host.Outcome State Fault Refusal := took s (fun s => lockLoss s)

/-- RING_CMD_START (R606, R607). -/
def execRingCmdStart (v : Via) (s : State) : Host.Outcome State Fault Refusal :=
  took s (fun s => writeKey s v K.RING_CMD 1)

/-- RING_CMD_HALT (R606). -/
def execRingCmdHalt (v : Via) (s : State) : Host.Outcome State Fault Refusal :=
  took s (fun s => writeKey s v K.RING_CMD 2)

/-- RING_CMD_JUMP (R606, R607). -/
def execRingCmdJump (v : Via) (s : State) : Host.Outcome State Fault Refusal :=
  took s (fun s => writeKey s v K.RING_CMD 4)

/-- CAL (R601). -/
def execCal (v : Via) (s : State) : Host.Outcome State Fault Refusal := took s (fun s => writeKey s v K.RING_CMD 8)

/-- SIG_GROUP (R615). -/
def execSigGroup (v : Via) (value : Nat) (s : State) : Host.Outcome State Fault Refusal :=
  took s (fun s => writeKey s v K.SIG_GROUP value)

/-- RING_ROLE (R620). -/
def execRingRole (v : Via) (value : Nat) (s : State) : Host.Outcome State Fault Refusal :=
  took s (fun s => writeKey s v K.RING_ROLE value)

end Sys2Proof.Machine
end

