-- ==== Sys2Proof/Machine/SequencerCommands.lean ====
section
/-! DEFINITION. The sequencer's requests, states, fetching and priming (R172–R232, R704). One meaning for each command. -/

namespace Sys2Proof.Machine

/-- RUN (R226). -/
def execRun (v : Via) (s : State) : Host.Outcome State Fault Refusal := took s (fun s => writeKey s v K.SEQ_CMD 1)

/-- SEQ_RUN (R226, R238). -/
def execSeqRun (pf value : Nat) (s : State) : Host.Outcome State Fault Refusal :=
  took s (fun s => bar0Write s pf 0x2000 (leBytes 4 value))

/-- HALT_REQUEST (R227). -/
def execHaltRequest (v : Via) (s : State) : Host.Outcome State Fault Refusal :=
  took s (fun s => writeKey s v K.SEQ_CMD 2)

/-- SEQ_HALT (R227, R238). -/
def execSeqHalt (pf value : Nat) (s : State) : Host.Outcome State Fault Refusal :=
  took s (fun s => bar0Write s pf 0x2004 (leBytes 4 value))

/-- LOADING_BEGIN (R223, R224). -/
def execLoadingBegin (ups : List Upset) (s : State) : Host.Outcome State Fault Refusal :=
  took s (fun s => loadingBegin s ups)

/-- LOADING_COMPLETE (R221, R223). -/
def execLoadingComplete (s : State) : Host.Outcome State Fault Refusal := took s (fun s => loadingComplete s)

/-- DRAINING_END (R221). -/
def execDrainingEnd (s : State) : Host.Outcome State Fault Refusal := took s (fun s => drainingEnd s)

/-- DOMAIN_LOSS_DURING_BURST (R704). -/
def execDomainLossDuringBurst (d : Nat) (s : State) : Host.Outcome State Fault Refusal :=
  took s (fun s => domainLossRow s d)

/-- JUMP_REQ (R229–R231). -/
def execJumpReq (v : Via) (value : Nat) (s : State) : Host.Outcome State Fault Refusal :=
  took s (fun s => writeKey s v K.JUMP_REQ value)

/-- SEQ_JUMP (R229, R238). -/
def execSeqJump (pf value : Nat) (s : State) : Host.Outcome State Fault Refusal :=
  took s (fun s => bar0Write s pf 0x2008 (leBytes 4 value))

/-- JUMP_RESERVE_FILLED (R194). -/
def execJumpReserveFilled (ups : List Upset) (s : State) : Host.Outcome State Fault Refusal :=
  took s (fun s => jumpReserveFilled s ups)

/-- GRANULE_FETCH (R182). -/
def execGranuleFetch (n : Nat) (io : FetchIo) (s : State) : Host.Outcome State Fault Refusal :=
  took s (fun s => granuleFetch s n io.late io.ups)

/-- PRIMING_START (R188). -/
def execPrimingStart (s : State) : Host.Outcome State Fault Refusal := took s (fun s => primingStart s)

/-- PRIMING_COMPLETE (R190). -/
def execPrimingComplete (entry k : Nat) (ups : List Upset) (s : State) : Host.Outcome State Fault Refusal :=
  took s (fun s => primingComplete s entry k ups)

/-- HEAD_RELOAD (R185). -/
def execHeadReload (s : State) : Host.Outcome State Fault Refusal := took s (fun s => headReload s)

/-- DRYWELL (R215, R216). -/
def execDrywell (s : State) : Host.Outcome State Fault Refusal := took s (fun s => dryWellRow s)

end Sys2Proof.Machine
end

