-- ==== Sys2Proof/Machine/TimeCommands.lean ====
section
/-! DEFINITION. Time measurement and the time base (R421–R468). One meaning for each command. -/

namespace Sys2Proof.Machine

/-- ARM (R432). -/
def execArm (v : Via) (c : Nat) (s : State) : Host.Outcome State Fault Refusal :=
  took s (fun s => onCh s c (fun s => writeKey s v (atCh K.TMU_CMD c) 1))

/-- DISARM (R433). -/
def execDisarm (v : Via) (c : Nat) (s : State) : Host.Outcome State Fault Refusal :=
  took s (fun s => onCh s c (fun s => writeKey s v (atCh K.TMU_CMD c) 2))

/-- CLEAR (R451). -/
def execClear (v : Via) (c : Nat) (s : State) : Host.Outcome State Fault Refusal :=
  took s (fun s => onCh s c (fun s => writeKey s v (atCh K.TMU_CMD c) 4))

/-- TMU_EDGE (R439). -/
def execTmuEdge (c edge dt : Nat) (v : Pad) (s : State) : Host.Outcome State Fault Refusal :=
  took s (fun s => onCh s c (fun s => tmuEdge s c edge dt v))

/-- TMU_TIMEOUT (R434, R435). -/
def execTmuTimeout (c : Nat) (s : State) : Host.Outcome State Fault Refusal :=
  took s (fun s => onCh s c (fun s => tmuTimeout s c))

/-- TMU_REARM (R436). -/
def execTmuRearm (c : Nat) (s : State) : Host.Outcome State Fault Refusal :=
  took s (fun s => onCh s c (fun s => tmuRearm s c))

/-- REFIN_QUALIFIED (R454). -/
def execRefinQualified (ppb : Int) (s : State) : Host.Outcome State Fault Refusal :=
  took s (fun s => refinQualified s ppb)

/-- REFIN_LOSS (R454). -/
def execRefinLoss (present : Bool) (ppb : Int) (s : State) : Host.Outcome State Fault Refusal :=
  took s (fun s => refinLoss s present ppb)

/-- SLEW_END (R455). -/
def execSlewEnd (s : State) : Host.Outcome State Fault Refusal := took s (fun s => slewEnd s)

/-- REFERENCE_HOLDOVER (R456). -/
def execReferenceHoldover (s : State) : Host.Outcome State Fault Refusal := took s (fun s => refHoldover s)

/-- REFERENCE_STAGE_LOCK (R427, R456). -/
def execReferenceStageLock (s : State) : Host.Outcome State Fault Refusal := took s (fun s => refLock s)

/-- WARM_SECOND (R458). -/
def execWarmSecond (s : State) : Host.Outcome State Fault Refusal := took s (fun s => warmSecond s)

/-- OVEN_OUT_OF_RANGE (R458, R459). -/
def execOvenOutOfRange (temp : Int) (s : State) : Host.Outcome State Fault Refusal :=
  took s (fun s => ovenLeaves s temp)

/-- OVEN_WARM_TIMEOUT (R459). -/
def execOvenWarmTimeout (s : State) : Host.Outcome State Fault Refusal := took s (fun s => ovenTimeout s)

/-- OVEN_HEATER_FAULT (R459). -/
def execOvenHeaterFault (s : State) : Host.Outcome State Fault Refusal := took s (fun s => heaterFault s)

end Sys2Proof.Machine
end

