-- ==== Sys2Proof/Machine/TrustCommands.lean ====
section
/-! DEFINITION. Firmware, floors, keys and attestation (R654–R673). One meaning for each command. -/

namespace Sys2Proof.Machine

/-- INSTALL (R661). -/
def execInstall (v : Via) (s : State) : Host.Outcome State Fault Refusal := took s (fun s => writeKey s v K.FW_CMD 1)

/-- FIRMWARE_INSTALL_DONE (R661). -/
def execFirmwareInstallDone (ok : Bool) (s : State) : Host.Outcome State Fault Refusal :=
  took s (fun s => fwInstallDone s ok)

/-- ADV_FW (R663). -/
def execAdvFw (v : Via) (s : State) : Host.Outcome State Fault Refusal :=
  took s (fun s => writeKey s v K.ROLLBACK_CMD 1)

/-- ADV_PATCH (R663). -/
def execAdvPatch (v : Via) (s : State) : Host.Outcome State Fault Refusal :=
  took s (fun s => writeKey s v K.ROLLBACK_CMD 2)

/-- FUSE_PROGRAMMING_DONE (R663, R664). -/
def execFuseProgrammingDone (ok : Bool) (s : State) : Host.Outcome State Fault Refusal := took s (fun s => fuseEnd s ok)

/-- CUST_KEY (R668). -/
def execCustKey (v : Via) (k : Nat) (data : Bytes) (s : State) : Host.Outcome State Fault Refusal :=
  took s (fun s => if k < 8 then writeVia s v 0x2900 (0x20 + k) data else s)

/-- KEYS_SAVED (R669). -/
def execKeysSaved (s : State) : Host.Outcome State Fault Refusal := took s (fun s => keysSave s)

/-- SIGN (R670). -/
def execSign (v : Via) (s : State) : Host.Outcome State Fault Refusal := took s (fun s => writeKey s v K.ATT_CMD 1)

/-- ATTESTATION_SIGNED (R670). -/
def execAttestationSigned (s : State) : Host.Outcome State Fault Refusal := took s (fun s => signDone s)

end Sys2Proof.Machine
end

