-- ==== Sys2Proof/Machine/Dispatch.lean ====
section
/-! DEFINITION. Which meaning each command has. -/

namespace Sys2Proof.Machine

/-- The effect of a command on everything but the queue. -/
def exec (i : Instr) (s : State) : Host.Outcome State Fault Refusal :=
  match i with
  | .read a index sub off len => Sys2Proof.Machine.execRead a index sub off len s
  | .write a index sub off data => Sys2Proof.Machine.execWrite a index sub off data s
  | .batch a stop items => Sys2Proof.Machine.execBatch a stop items s
  | .cmdTail pf value => Sys2Proof.Machine.execCmdTail pf value s
  | .commandFetch pf slots => Sys2Proof.Machine.execCommandFetch pf slots s
  | .commandFetchError pf => Sys2Proof.Machine.execCommandFetchError pf s
  | .replyWrite pf => Sys2Proof.Machine.execReplyWrite pf s
  | .rplTail pf value => Sys2Proof.Machine.execRplTail pf value s
  | .ringCtrl pf value => Sys2Proof.Machine.execRingCtrl pf value s
  | .registerWrite r => Sys2Proof.Machine.execRegisterWrite r s
  | .bar2Read pf off len => Sys2Proof.Machine.execBar2Read pf off len s
  | .bar2Write pf off data => Sys2Proof.Machine.execBar2Write pf off data s
  | .bar2LowHalfWrite pf slot value => Sys2Proof.Machine.execBar2LowHalfWrite pf slot value s
  | .bar2HighHalfWrite pf slot value => Sys2Proof.Machine.execBar2HighHalfWrite pf slot value s
  | .functionLevelReset pf => Sys2Proof.Machine.execFunctionLevelReset pf s
  | .onpelFrame port f => Sys2Proof.Machine.execOnpelFrame port f s
  | .dictFrameUpdate word => Sys2Proof.Machine.execDictFrameUpdate word s
  | .dictFrameCapture => Sys2Proof.Machine.execDictFrameCapture s
  | .testLogicReset => Sys2Proof.Machine.execTestLogicReset s
  | .recoveryWord word => Sys2Proof.Machine.execRecoveryWord word s
  | .keyUnlock v value => Sys2Proof.Machine.execKeyUnlock v value s
  | .unlockLapse => Sys2Proof.Machine.execUnlockLapse s
  | .lockSet v value => Sys2Proof.Machine.execLockSet v value s
  | .authWrite v port cls => Sys2Proof.Machine.execAuthWrite v port cls s
  | .verEnable v value => Sys2Proof.Machine.execVerEnable v value s
  | .sigScanStart => Sys2Proof.Machine.execSigScanStart s
  | .sigScanComplete => Sys2Proof.Machine.execSigScanComplete s
  | .sigCommit v => Sys2Proof.Machine.execSigCommit v s
  | .sigRef v value => Sys2Proof.Machine.execSigRef v value s
  | .run v => Sys2Proof.Machine.execRun v s
  | .seqRun pf value => Sys2Proof.Machine.execSeqRun pf value s
  | .haltRequest v => Sys2Proof.Machine.execHaltRequest v s
  | .seqHalt pf value => Sys2Proof.Machine.execSeqHalt pf value s
  | .loadingBegin ups => Sys2Proof.Machine.execLoadingBegin ups s
  | .loadingComplete => Sys2Proof.Machine.execLoadingComplete s
  | .drainingEnd => Sys2Proof.Machine.execDrainingEnd s
  | .domainLossDuringBurst d => Sys2Proof.Machine.execDomainLossDuringBurst d s
  | .vec io => Sys2Proof.Machine.execVec io s
  | .rpt io => Sys2Proof.Machine.execRpt io s
  | .rptCountEnd => Sys2Proof.Machine.execRptCountEnd s
  | .loop io => Sys2Proof.Machine.execLoop io s
  | .endl io => Sys2Proof.Machine.execEndl io s
  | .call io => Sys2Proof.Machine.execCall io s
  | .ret io => Sys2Proof.Machine.execRet io s
  | .jmp io => Sys2Proof.Machine.execJmp io s
  | .jif io => Sys2Proof.Machine.execJif io s
  | .matchOp io => Sys2Proof.Machine.execMatchOp io s
  | .matchTimeout => Sys2Proof.Machine.execMatchTimeout s
  | .syncw io => Sys2Proof.Machine.execSyncw io s
  | .syncwTimeout => Sys2Proof.Machine.execSyncwTimeout s
  | .syncs io => Sys2Proof.Machine.execSyncs io s
  | .hold io => Sys2Proof.Machine.execHold io s
  | .holdEnd => Sys2Proof.Machine.execHoldEnd s
  | .tset io => Sys2Proof.Machine.execTset io s
  | .mark io => Sys2Proof.Machine.execMark io s
  | .eyeStart io => Sys2Proof.Machine.execEyeStart io s
  | .eyeAdvance io => Sys2Proof.Machine.execEyeAdvance io s
  | .eyeStop io => Sys2Proof.Machine.execEyeStop io s
  | .halt io => Sys2Proof.Machine.execHalt io s
  | .userOpcode io => Sys2Proof.Machine.execUserOpcode io s
  | .shadowGranule io => Sys2Proof.Machine.execShadowGranule io s
  | .fallOff => Sys2Proof.Machine.execFallOff s
  | .jumpReq v value => Sys2Proof.Machine.execJumpReq v value s
  | .seqJump pf value => Sys2Proof.Machine.execSeqJump pf value s
  | .jumpReserveFilled ups => Sys2Proof.Machine.execJumpReserveFilled ups s
  | .granuleFetch n io => Sys2Proof.Machine.execGranuleFetch n io s
  | .primingStart => Sys2Proof.Machine.execPrimingStart s
  | .primingComplete entry k ups => Sys2Proof.Machine.execPrimingComplete entry k ups s
  | .headReload => Sys2Proof.Machine.execHeadReload s
  | .drywell => Sys2Proof.Machine.execDrywell s
  | .trapTaken ios => Sys2Proof.Machine.execTrapTaken ios s
  | .trapResume ios => Sys2Proof.Machine.execTrapResume ios s
  | .snap v => Sys2Proof.Machine.execSnap v s
  | .user v => Sys2Proof.Machine.execUser v s
  | .trapOverrun => Sys2Proof.Machine.execTrapOverrun s
  | .deferOverrun ios => Sys2Proof.Machine.execDeferOverrun ios s
  | .scrubRead outcome => Sys2Proof.Machine.execScrubRead outcome s
  | .custLoad v => Sys2Proof.Machine.execCustLoad v s
  | .custClear v => Sys2Proof.Machine.execCustClear v s
  | .patchInstall v => Sys2Proof.Machine.execPatchInstall v s
  | .patchInstallDone bad => Sys2Proof.Machine.execPatchInstallDone bad s
  | .ucEnforce v value => Sys2Proof.Machine.execUcEnforce v value s
  | .tickMult v value => Sys2Proof.Machine.execTickMult v value s
  | .synthesiserLock => Sys2Proof.Machine.execSynthesiserLock s
  | .tilePllLock t => Sys2Proof.Machine.execTilePllLock t s
  | .holdover => Sys2Proof.Machine.execHoldover s
  | .holdoverRelock => Sys2Proof.Machine.execHoldoverRelock s
  | .deskewWrite v c which value => Sys2Proof.Machine.execDeskewWrite v c which value s
  | .checkerLock c => Sys2Proof.Machine.execCheckerLock c s
  | .checkerRelock c => Sys2Proof.Machine.execCheckerRelock c s
  | .comparatorValid c v => Sys2Proof.Machine.execComparatorValid c v s
  | .attentionEvent c v => Sys2Proof.Machine.execAttentionEvent c v s
  | .listen v t => Sys2Proof.Machine.execListen v t s
  | .listenEntered t => Sys2Proof.Machine.execListenEntered t s
  | .wakeEvent t inputs => Sys2Proof.Machine.execWakeEvent t inputs s
  | .wake v t => Sys2Proof.Machine.execWake v t s
  | .tileReadyAfterWake t => Sys2Proof.Machine.execTileReadyAfterWake t s
  | .selfCheckRun v c => Sys2Proof.Machine.execSelfCheckRun v c s
  | .selfCheckDone c m => Sys2Proof.Machine.execSelfCheckDone c m s
  | .convStart v t => Sys2Proof.Machine.execConvStart v t s
  | .convDone t vs => Sys2Proof.Machine.execConvDone t vs s
  | .failRecord => Sys2Proof.Machine.execFailRecord s
  | .burstSummary => Sys2Proof.Machine.execBurstSummary s
  | .arm v c => Sys2Proof.Machine.execArm v c s
  | .disarm v c => Sys2Proof.Machine.execDisarm v c s
  | .clear v c => Sys2Proof.Machine.execClear v c s
  | .tmuEdge c edge dt v => Sys2Proof.Machine.execTmuEdge c edge dt v s
  | .tmuTimeout c => Sys2Proof.Machine.execTmuTimeout c s
  | .tmuRearm c => Sys2Proof.Machine.execTmuRearm c s
  | .refinQualified ppb => Sys2Proof.Machine.execRefinQualified ppb s
  | .refinLoss present ppb => Sys2Proof.Machine.execRefinLoss present ppb s
  | .slewEnd => Sys2Proof.Machine.execSlewEnd s
  | .referenceHoldover => Sys2Proof.Machine.execReferenceHoldover s
  | .warmSecond => Sys2Proof.Machine.execWarmSecond s
  | .ovenOutOfRange temp => Sys2Proof.Machine.execOvenOutOfRange temp s
  | .ovenWarmTimeout => Sys2Proof.Machine.execOvenWarmTimeout s
  | .apply v => Sys2Proof.Machine.execApply v s
  | .mapAutoApply => Sys2Proof.Machine.execMapAutoApply s
  | .start v p => Sys2Proof.Machine.execStart v p s
  | .doorbell v p => Sys2Proof.Machine.execDoorbell v p s
  | .stop v p => Sys2Proof.Machine.execStop v p s
  | .resume v p => Sys2Proof.Machine.execResume v p s
  | .stopTakesEffect p => Sys2Proof.Machine.execStopTakesEffect p s
  | .descriptorFetch p data => Sys2Proof.Machine.execDescriptorFetch p data s
  | .elementMove p io => Sys2Proof.Machine.execElementMove p io s
  | .dictElement p data => Sys2Proof.Machine.execDictElement p data s
  | .descriptorComplete p => Sys2Proof.Machine.execDescriptorComplete p s
  | .refetch p data => Sys2Proof.Machine.execRefetch p data s
  | .busError addr ep => Sys2Proof.Machine.execBusError addr ep s
  | .curDesc v p value => Sys2Proof.Machine.execCurDesc v p value s
  | .self v => Sys2Proof.Machine.execSelf v s
  | .abort v => Sys2Proof.Machine.execAbort v s
  | .channelCalComplete c r => Sys2Proof.Machine.execChannelCalComplete c r s
  | .calInputBusy c => Sys2Proof.Machine.execCalInputBusy c s
  | .trimApply => Sys2Proof.Machine.execTrimApply s
  | .baseWrite v c which value => Sys2Proof.Machine.execBaseWrite v c which value s
  | .vrefWrite v t value => Sys2Proof.Machine.execVrefWrite v t value s
  | .store v => Sys2Proof.Machine.execStore v s
  | .revert v => Sys2Proof.Machine.execRevert v s
  | .reload v => Sys2Proof.Machine.execReload v s
  | .storeComplete ok => Sys2Proof.Machine.execStoreComplete ok s
  | .holdupTest fall => Sys2Proof.Machine.execHoldupTest fall s
  | .holdVRefresh mv => Sys2Proof.Machine.execHoldVRefresh mv s
  | .faultCollect => Sys2Proof.Machine.execFaultCollect s
  | .stickyClear v hi value => Sys2Proof.Machine.execStickyClear v hi value s
  | .reactWrite v src value => Sys2Proof.Machine.execReactWrite v src value s
  | .fire v => Sys2Proof.Machine.execFire v s
  | .set v => Sys2Proof.Machine.execSet v s
  | .lift v => Sys2Proof.Machine.execLift v s
  | .tileFailure t link => Sys2Proof.Machine.execTileFailure t link s
  | .watchdogExpiry => Sys2Proof.Machine.execWatchdogExpiry s
  | .watchdogRefresh => Sys2Proof.Machine.execWatchdogRefresh s
  | .aliveToggle => Sys2Proof.Machine.execAliveToggle s
  | .ringStart msg => Sys2Proof.Machine.execRingStart msg s
  | .scheduledStart => Sys2Proof.Machine.execScheduledStart s
  | .ringHalt msg => Sys2Proof.Machine.execRingHalt msg s
  | .ringJump msg => Sys2Proof.Machine.execRingJump msg s
  | .scheduledJump => Sys2Proof.Machine.execScheduledJump s
  | .ringMark msg => Sys2Proof.Machine.execRingMark msg s
  | .time msg arrival => Sys2Proof.Machine.execTime msg arrival s
  | .timeEvent => Sys2Proof.Machine.execTimeEvent s
  | .sig msg => Sys2Proof.Machine.execSig msg s
  | .timeEmit => Sys2Proof.Machine.execTimeEmit s
  | .sigSend => Sys2Proof.Machine.execSigSend s
  | .ringQueueSend => Sys2Proof.Machine.execRingQueueSend s
  | .peerStale p => Sys2Proof.Machine.execPeerStale p s
  | .calibrationBlock => Sys2Proof.Machine.execCalibrationBlock s
  | .ringLock => Sys2Proof.Machine.execRingLock s
  | .lockLoss => Sys2Proof.Machine.execLockLoss s
  | .ringCmdStart v => Sys2Proof.Machine.execRingCmdStart v s
  | .ringCmdHalt v => Sys2Proof.Machine.execRingCmdHalt v s
  | .ringCmdJump v => Sys2Proof.Machine.execRingCmdJump v s
  | .cal v => Sys2Proof.Machine.execCal v s
  | .sigGroup v value => Sys2Proof.Machine.execSigGroup v value s
  | .ringRole v value => Sys2Proof.Machine.execRingRole v value s
  | .domEn v value => Sys2Proof.Machine.execDomEn v value s
  | .functionReady b bad => Sys2Proof.Machine.execFunctionReady b bad s
  | .supplyValid b => Sys2Proof.Machine.execSupplyValid b s
  | .supplyFault b => Sys2Proof.Machine.execSupplyFault b s
  | .vauxFailure => Sys2Proof.Machine.execVauxFailure s
  | .powerOnReset badA badB => Sys2Proof.Machine.execPowerOnReset badA badB s
  | .resetN badA badB => Sys2Proof.Machine.execResetN badA badB s
  | .soft v => Sys2Proof.Machine.execSoft v s
  | .perst => Sys2Proof.Machine.execPerst s
  | .temperatureSample x => Sys2Proof.Machine.execTemperatureSample x s
  | .install v => Sys2Proof.Machine.execInstall v s
  | .firmwareInstallDone ok => Sys2Proof.Machine.execFirmwareInstallDone ok s
  | .advFw v => Sys2Proof.Machine.execAdvFw v s
  | .advPatch v => Sys2Proof.Machine.execAdvPatch v s
  | .fuseProgrammingDone ok => Sys2Proof.Machine.execFuseProgrammingDone ok s
  | .custKey v k data => Sys2Proof.Machine.execCustKey v k data s
  | .keysSaved => Sys2Proof.Machine.execKeysSaved s
  | .sign v => Sys2Proof.Machine.execSign v s
  | .attestationSigned => Sys2Proof.Machine.execAttestationSigned s
  | .onpelLinkPortDown port => Sys2Proof.Machine.execOnpelLinkPortDown port s
  | .stackLinkTrainingLoss m => Sys2Proof.Machine.execStackLinkTrainingLoss m s
  | .aerUncorrectableError => Sys2Proof.Machine.execAerUncorrectableError s
  | .driverCurrentLimit c => Sys2Proof.Machine.execDriverCurrentLimit c s
  | .ovenHeaterFault => Sys2Proof.Machine.execOvenHeaterFault s
  | .vholdAtVMin => Sys2Proof.Machine.execVholdAtVMin s
  | .referenceStageLock => Sys2Proof.Machine.execReferenceStageLock s
  | .recordInMemory => Sys2Proof.Machine.execRecordInMemory s
  | .perstDeassertion => Sys2Proof.Machine.execPerstDeassertion s
  | .delayCalibrationEnd linkPs => Sys2Proof.Machine.execDelayCalibrationEnd linkPs s

end Sys2Proof.Machine
end

