-- ==== Sys2Proof/WellFormed.lean ====
section
/-! DEFINITION. Well-formed commands: every operand names something the spec has, and fits the field that carries it. -/

namespace Sys2Proof

/-- The fields of a frame's header fit (R48, R51, R54). -/
def Arrival.wf (a : Arrival) : Bool :=
  decide (a.ver < 256) && decide (a.tag < (if a.ver = 1 then 256 else 65536)) && decide (a.src < 65536) &&
  decide (a.dst < 65536) && decide (a.mac < 2 ^ 48) &&
  (match a.vlan with
    | some t => decide (t < 65536)
    | none => true)

/-- An object index, sub-index and offset fit (R48). -/
def addrWf (index sub off : Nat) : Bool := decide (index < 65536) && decide (sub < 256) && decide (off < 65536)

/-- An item fits (R54). -/
def BatchItem.wf (x : BatchItem) : Bool := addrWf x.index x.sub x.off && decide (x.len < 65536)

/-- A function exists: PF0 or PF1 (R60). -/
def pfWf (pf : Nat) : Bool := decide (pf < 2)

/-- A function and the value of a 32-bit BAR write. -/
def barWf (pf value : Nat) : Bool := pfWf pf && decide (value < 2 ^ 32)

/-- A write's way is well formed. -/
def Via.wf : Via → Bool
  | .frame a => a.wf
  | .bar2 pf => pfWf pf

/-- A write's way, and a value of some bits. -/
def Via.wfVal (v : Via) (bits value : Nat) : Bool := v.wf && decide (value < 2 ^ bits)

/-- A pump command's way, and a pump channel (R482). -/
def PumpVia.wf (v : PumpVia) (p : Nat) : Bool :=
  decide (p < 16) && (match v with
    | .chCmd w => w.wf
    | .pumpDb pf => pfWf pf)

/-- An access without a row of its own. -/
def RegAccess.wf : RegAccess → Bool
  | .object v i sub d => v.wf && addrWf i sub 0 && decide (d.length ≤ 1024)
  | .bar0Write pf off d => pfWf pf && decide (off < 0x1000000) && decide (d.length ≤ 8)
  | .bar0Read pf off len => pfWf pf && decide (off < 0x1000000) && decide (len ≤ 8)
  | .jtagInstruction code => decide (code < 256)
  | .scanCapture => true
  | .scanUpdate cells => decide (cells < 32)
  | .recoveryCapture => true

/-- A channel, a tile, a stack exist (R12, R13). -/
def chWf (c : Nat) : Bool := decide (c < 96)
def tileWf (t : Nat) : Bool := decide (t < 12)
def stackWf (m : Nat) : Bool := decide (m < 4)

/-- The inputs of an issue name channels (R13), and the control-store read's outcome is one of three. -/
def Io.wf (io : Io) : Bool := io.pins.all (fun p => chWf p.1) && decide (io.uc ≤ 2)

/-- A ring message is 32 bytes long (R591). -/
def msgWf (m : Bytes) : Bool := m.length == 32

/-- A self calibration's results have the lengths of R519. -/
def CalResult.wf (r : CalResult) : Bool :=
  r.dac.length == 48 && r.ofs.length == 10 && (match r.pi with
    | some d => d.length == 64
    | none => true)

/-- A built-in test measures twelve DACs and five comparators (R372, R375). -/
def SelfTest.wf (m : SelfTest) : Bool :=
  m.dacs.length == 12 && m.above.length == 5 && m.below.length == 5 && m.trips.length == 5

/-- An upset names a granule of what the command reads, and covers one at least (R220, R480). -/
def Upset.wf : Upset → Bool
  | .cacheUncorrectable _ _ count => decide (1 ≤ count)
  | _ => true

/-- Sensor readings come from every tile and stack (R646). -/
def Sensors.wf (x : Sensors) : Bool :=
  x.tileTemps.length == 12 && x.stackTemps.length == 4 && x.tilePower.length == 12

/-- A command is well formed. -/
def Instr.wf : Instr → Bool
  | .read a index sub off len => a.wf && addrWf index sub off && decide (len < 65536)
  | .write a index sub off data => a.wf && addrWf index sub off && decide (data.length < 65536)
  | .batch a _ items => a.wf && decide (items.length < 256) && items.all BatchItem.wf
  | .cmdTail pf value => barWf pf value
  | .commandFetch pf slots => pfWf pf && slots.length % 64 == 0
  | .commandFetchError pf => pfWf pf
  | .replyWrite pf => pfWf pf
  | .rplTail pf value => barWf pf value
  | .ringCtrl pf value => barWf pf value
  | .registerWrite r => r.wf
  | .bar2Read pf off len => pfWf pf && decide (off < 2 ^ 28) && decide (len ≤ 16)
  | .bar2Write pf off data => pfWf pf && decide (off < 2 ^ 28) && decide (data.length ≤ 16)
  | .bar2LowHalfWrite pf slot value => barWf pf value && decide (slot < 2 ^ 24)
  | .bar2HighHalfWrite pf slot value => barWf pf value && decide (slot < 2 ^ 24)
  | .functionLevelReset pf => pfWf pf
  | .onpelFrame port f => decide (port < 2) && decide (f.mac < 2 ^ 48)
  | .dictFrameUpdate word => decide (word < 2 ^ 34)
  | .dictFrameCapture => true
  | .testLogicReset => true
  | .recoveryWord word => decide (word < 2 ^ 34)
  | .keyUnlock v value => v.wfVal 16 value
  | .unlockLapse => true
  | .lockSet v value => v.wfVal 32 value
  | .authWrite v port cls => v.wfVal 8 cls && decide (1 ≤ port) && decide (port ≤ 5)
  | .verEnable v value => v.wfVal 8 value
  | .sigScanStart => true
  | .sigScanComplete => true
  | .sigCommit v => v.wf
  | .sigRef v value => v.wfVal 32 value
  | .run v => v.wf
  | .seqRun pf value => barWf pf value
  | .haltRequest v => v.wf
  | .seqHalt pf value => barWf pf value
  | .loadingBegin ups => ups.all Upset.wf
  | .loadingComplete => true
  | .drainingEnd => true
  | .domainLossDuringBurst d => decide (d ≤ 24)
  | .vec io => io.wf
  | .rpt io => io.wf
  | .rptCountEnd => true
  | .loop io => io.wf
  | .endl io => io.wf
  | .call io => io.wf
  | .ret io => io.wf
  | .jmp io => io.wf
  | .jif io => io.wf
  | .matchOp io => io.wf
  | .matchTimeout => true
  | .syncw io => io.wf
  | .syncwTimeout => true
  | .syncs io => io.wf
  | .hold io => io.wf
  | .holdEnd => true
  | .tset io => io.wf
  | .mark io => io.wf
  | .eyeStart io => io.wf
  | .eyeAdvance io => io.wf
  | .eyeStop io => io.wf
  | .halt io => io.wf
  | .userOpcode io => io.wf
  | .shadowGranule io => io.wf
  | .fallOff => true
  | .jumpReq v value => v.wfVal 8 value
  | .seqJump pf value => barWf pf value
  | .jumpReserveFilled ups => ups.all Upset.wf
  | .granuleFetch _ io => io.late.all tileWf && io.ups.all Upset.wf
  | .primingStart => true
  | .primingComplete _ k ups => decide (k < 3) && ups.all Upset.wf
  | .headReload => true
  | .drywell => true
  | .trapTaken ios => ios.all Io.wf
  | .trapResume ios => ios.all Io.wf
  | .snap v => v.wf
  | .user v => v.wf
  | .trapOverrun => true
  | .deferOverrun ios => ios.all Io.wf
  | .scrubRead outcome => decide (outcome ≤ 2)
  | .custLoad v => v.wf
  | .custClear v => v.wf
  | .patchInstall v => v.wf
  | .patchInstallDone bad => decide (bad < 4)
  | .ucEnforce v value => v.wfVal 8 value
  | .tickMult v value => v.wfVal 64 value
  | .synthesiserLock => true
  | .tilePllLock t => tileWf t
  | .holdover => true
  | .holdoverRelock => true
  | .deskewWrite v c which _ => v.wf && chWf c && decide (which < 3)
  | .checkerLock c => chWf c
  | .checkerRelock c => chWf c
  | .comparatorValid c _ => chWf c
  | .attentionEvent c _ => chWf c
  | .listen v t => v.wf && tileWf t
  | .listenEntered t => tileWf t
  | .wakeEvent t inputs => tileWf t && inputs.all (fun p => decide (p.1 < 8))
  | .wake v t => v.wf && tileWf t
  | .tileReadyAfterWake t => tileWf t
  | .selfCheckRun v c => v.wf && chWf c
  | .selfCheckDone c m => chWf c && m.wf
  | .convStart v t => v.wf && tileWf t
  | .convDone t _ => tileWf t
  | .failRecord => true
  | .burstSummary => true
  | .arm v c => v.wf && chWf c
  | .disarm v c => v.wf && chWf c
  | .clear v c => v.wf && chWf c
  | .tmuEdge c edge _ _ => chWf c && decide (edge < 256)
  | .tmuTimeout c => chWf c
  | .tmuRearm c => chWf c
  | .refinQualified _ => true
  | .refinLoss _ _ => true
  | .slewEnd => true
  | .referenceHoldover => true
  | .warmSecond => true
  | .ovenOutOfRange _ => true
  | .ovenWarmTimeout => true
  | .apply v => v.wf
  | .mapAutoApply => true
  | .start v p => v.wf p
  | .doorbell v p => v.wf p
  | .stop v p => v.wf p
  | .resume v p => v.wf p
  | .stopTakesEffect p => decide (p < 16)
  | .descriptorFetch p _ => decide (p < 16)
  | .elementMove p io => decide (p < 16) && io.ups.all Upset.wf
  | .dictElement p _ => decide (p < 16)
  | .descriptorComplete p => decide (p < 16)
  | .refetch p _ => decide (p < 16)
  | .busError addr ep => decide (addr < 2 ^ 64) && decide (1 ≤ ep) && decide (ep ≤ 5)
  | .curDesc v p value => v.wfVal 64 value && decide (p < 16)
  | .self v => v.wf
  | .abort v => v.wf
  | .channelCalComplete c r => chWf c && r.wf
  | .calInputBusy c => chWf c
  | .trimApply => true
  | .baseWrite v c which _ => v.wf && chWf c && decide (which < 3)
  | .vrefWrite v t _ => v.wf && tileWf t
  | .store v => v.wf
  | .revert v => v.wf
  | .reload v => v.wf
  | .storeComplete _ => true
  | .holdupTest _ => true
  | .holdVRefresh mv => decide (mv < 2 ^ 32)
  | .faultCollect => true
  | .stickyClear v _ value => v.wfVal 64 value
  | .reactWrite v src value => v.wfVal 8 value && decide (src < 128)
  | .fire v => v.wf
  | .set v => v.wf
  | .lift v => v.wf
  | .tileFailure t _ => tileWf t
  | .watchdogExpiry => true
  | .watchdogRefresh => true
  | .aliveToggle => true
  | .ringStart msg => msgWf msg
  | .scheduledStart => true
  | .ringHalt msg => msgWf msg
  | .ringJump msg => msgWf msg
  | .scheduledJump => true
  | .ringMark msg => msgWf msg
  | .time msg _ => msgWf msg
  | .timeEvent => true
  | .sig msg => msgWf msg
  | .timeEmit => true
  | .sigSend => true
  | .ringQueueSend => true
  | .peerStale p => decide (p < 1024)
  | .calibrationBlock => true
  | .ringLock => true
  | .lockLoss => true
  | .ringCmdStart v => v.wf
  | .ringCmdHalt v => v.wf
  | .ringCmdJump v => v.wf
  | .cal v => v.wf
  | .sigGroup v value => v.wfVal 8 value
  | .ringRole v value => v.wfVal 8 value
  | .domEn v value => v.wfVal 32 value
  | .functionReady b bad => decide (b < 30) && decide (bad < 4)
  | .supplyValid b => decide (b < 7)
  | .supplyFault b => decide (b < 7)
  | .vauxFailure => true
  | .powerOnReset _ _ => true
  | .resetN _ _ => true
  | .soft v => v.wf
  | .perst => true
  | .temperatureSample x => x.wf
  | .install v => v.wf
  | .firmwareInstallDone _ => true
  | .advFw v => v.wf
  | .advPatch v => v.wf
  | .fuseProgrammingDone _ => true
  | .custKey v k data => v.wf && decide (k < 8) && decide (data.length ≤ 1024)
  | .keysSaved => true
  | .sign v => v.wf
  | .attestationSigned => true
  | .onpelLinkPortDown port => decide (port < 2)
  | .stackLinkTrainingLoss m => stackWf m
  | .aerUncorrectableError => true
  | .driverCurrentLimit c => chWf c
  | .ovenHeaterFault => true
  | .vholdAtVMin => true
  | .referenceStageLock => true
  | .recordInMemory => true
  | .perstDeassertion => true
  | .delayCalibrationEnd _ => true

end Sys2Proof
end

