-- ==== Sys2Proof/Safety.lean ====
section
/-! DEFINITION. What a sound state and a safe step are, and the terms the claims use: memory and pump SRAM in their
canonical forms, the object stores with rising keys, a step that answers a next state, what a command leaves unchanged, a
write that passes its checks, and an issue that falls due. -/

namespace Sys2Proof.Machine

/-- The keys of an association list rise strictly. -/
def Rising {α : Type} (l : Assoc α) : Prop := l.Pairwise (fun a b => a.1 < b.1)

/-- Memory is canonical: addresses rise, and no entry equals what an unlisted address reads as. -/
def Mem.Canon (m : Mem) : Prop := Rising m.cells ∧ ∀ c ∈ m.cells, c.2 ≠ memFill m c.1

/-- What an unlisted byte of pump SRAM reads as (R483). -/
def sramFill (q : Pump) (a : Nat) : Byte := if q.epoch = 0 then 0#8 else Config.lostByte (2 ^ 40 + q.epoch) a

/-- Pump SRAM is canonical. -/
def Pump.Canon (q : Pump) : Prop := Rising q.sram ∧ ∀ c ∈ q.sram, c.2 ≠ sramFill q c.1

/-- A sound state: every sparse store is in its one canonical form. -/
def State.Sound (s : State) : Prop := s.mem.Canon ∧ s.pump.Canon ∧ Rising s.objs ∧ Rising s.blobs

/-- A safe step answers a next state. -/
def SafeStep (s : State) : Prop := ∃ t, step s = .next t

/-! ### What a command leaves unchanged -/

/-- The parts of the state beside its objects: `fns` the registers of the functions, `replies` their waiting replies alone,
`arrived` the arrivals at the fault collector alone, `units` the objects of tiles and channels. -/
inductive Part where
  | fns | replies | seq | uc | chans | cis | mem | flt | arrived | pwr | slow | tb | pump | cal | ring | trust | mgmt | jtag
  | drawn | out | units
  deriving DecidableEq, Repr

/-- The keys of tile and channel objects (R12). -/
def Played (k : Nat) : Prop := 0x300000 ≤ k ∧ k < 0x500000

/-- The fault collector with the arrivals of another. -/
def Faults.withArrived (f g : Faults) : Faults := { f with arrived := g.arrived }

/-- A function's registers stand, but for ATTN as it sees it and the MSI-X pending bits, which a rise of ATTN sets (R67,
R83), and where `free` says so for its waiting replies. -/
def PcieFn.Same (free : Bool) (x y : PcieFn) : Prop :=
  y = { x with pba := y.pba, attn := y.attn, replies := if free then y.replies else x.replies }

/-- What has been sent out since: nothing but vector 0 of the functions, for a rise of ATTN (R83). -/
def AttnOnly (s t : State) : Prop := ∃ l, t.out = s.out ++ l ∧ ∀ o ∈ l, o = .msix 0 0 ∨ o = .msix 1 0

/-- From `s` to `t` nothing has changed but the objects `ks` and the parts `ps`. Every byte of memory and of pump SRAM reads
as before where `mem` and `pump` are not among `ps`. -/
structure Frame (ks : List Nat) (ps : List Part) (s t : State) : Prop where
  pending : t.pending = s.pending
  num : ∀ k, k ∉ ks → (Part.units ∈ ps → ¬Played k) → t.num k = s.num k
  blob : ∀ k, k ∉ ks → t.blob k = s.blob k
  pf0 : Part.fns ∉ ps → s.pf0.Same (ps.contains .replies) t.pf0
  pf1 : Part.fns ∉ ps → s.pf1.Same (ps.contains .replies) t.pf1
  seq : Part.seq ∉ ps → t.seq = s.seq
  uc : Part.uc ∉ ps → t.uc = s.uc
  chans : Part.chans ∉ ps → t.chans = s.chans
  cis : Part.cis ∉ ps → t.cis = s.cis
  mem : Part.mem ∉ ps → t.mem = s.mem ∧ ∀ a, memByte t.mem a = memByte s.mem a
  flt : Part.flt ∉ ps → t.flt = if Part.arrived ∈ ps then s.flt.withArrived t.flt else s.flt
  pwr : Part.pwr ∉ ps → t.pwr = s.pwr
  slow : Part.slow ∉ ps → t.slow = s.slow
  tb : Part.tb ∉ ps → t.tb = s.tb
  pump : Part.pump ∉ ps → t.pump = s.pump ∧ ∀ a, sramByte t.pump a = sramByte s.pump a
  cal : Part.cal ∉ ps → t.cal = s.cal
  ring : Part.ring ∉ ps → t.ring = s.ring
  trust : Part.trust ∉ ps → t.trust = s.trust
  mgmt : Part.mgmt ∉ ps → t.mgmt = s.mgmt
  jtag : Part.jtag ∉ ps → t.jtag = s.jtag
  drawn : Part.drawn ∉ ps → t.freeCtr = s.freeCtr
  out : Part.out ∉ ps → AttnOnly s t

/-- The parts through which a request is answered: a reply waits in its function's queue, leaves by Ethernet or stands at
the JTAG port, and the management core notes whom it served and starts a scan (R66, R79, R95, R114, R694). -/
def answered : List Part := [.replies, .mgmt, .jtag, .out]

/-! ### A write that passes its checks -/

/-- Who asks through a write's way (R73, R96). -/
def askerVia (s : State) : Via → Asker
  | .frame a => askerOf s a.port
  | .bar2 pf => askerPf s pf

/-- A write's way is a frame. -/
def viaFrame : Via → Bool
  | .frame _ => true
  | .bar2 _ => false

/-- A write's way is a version 1 frame, which reaches no value longer than 8 bytes (R53). -/
def viaV1 : Via → Bool
  | .frame a => a.ver == 1
  | .bar2 _ => false

/-- A write's way leads to the management core: its port is up, a frame is for this module and of an accepted version, with
as many bytes as that version allows (R46, R51, R77); a BAR2 write is one aligned write of the object's width (R71, R90). -/
def viaOpen (s : State) (i sub : Nat) (d : Bytes) : Via → Bool
  | .frame a => portUp s a.port && nodeOk s a && verOk s a.ver && writeLenOk a d.length
  | .bar2 pf => decide (pf < 2) && barOpen s && barAligned 0 d.length && (rowOf i sub).ty.size == d.length

/-- A write of `d` at sub-index `sub` of object `i` reaches the management core, which serves, and no request is held before
it (R95, R117). -/
abbrev Reaches (s : State) (v : Via) (i sub : Nat) (d : Bytes) : Prop :=
  s.pwr.stopped = false ∧ serving s = true ∧ s.mgmt.held = none ∧ s.pwr.softReset = false ∧ i < 65536 ∧ sub < 256 ∧
  viaOpen s i sub d v = true

/-- A write of a KEY object consumes the pending unlock (R108). -/
def keySpent (s : State) (i sub : Nat) : State :=
  if (rowOf i sub).acc.isKey then s.setNum K.UNLOCK_STATE 0 else s

/-- A write reaches the core and every check of R85 passes. -/
abbrev Accepted (s : State) (v : Via) (i sub : Nat) (d : Bytes) : Prop :=
  Reaches s v i sub d ∧ gateCode s (askerVia s v) (viaV1 v) i sub = 0 ∧
  lateCode (keySpent s i sub) (viaFrame v) i sub 0 d = 0

/-- The bytes of a value of an object of fixed size. -/
def bytesOf (k n : Nat) : Bytes := leBytes (rowOf (k / 256) (k % 256)).ty.size n

/-- The write of value `n` to the object of key `k` is accepted. -/
abbrev AcceptedKey (s : State) (v : Via) (k n : Nat) : Prop := Accepted s v (k / 256) (k % 256) (bytesOf k n)

/-! ### Replies -/

/-- The reply `f` has left by the port of its request (R66, R79, R694): in the queue of an enabled reply ring, as an
Ethernet frame to the requester, or at the JTAG port. -/
def RepliedOn (s t : State) (a : Arrival) (f : Bytes) : Prop :=
  match a.port with
  | .pf0 => bit s.pf0.ringCtrl 0 = true ∧ s.mgmt.mute0 = 0 → t.pf0.replies = s.pf0.replies ++ [f]
  | .pf1 => bit s.pf1.ringCtrl 0 = true ∧ s.mgmt.mute1 = 0 → t.pf1.replies = s.pf1.replies ++ [f]
  | .e0 => Out.ether 0 a.mac a.vlan f ∈ t.out
  | .e1 => Out.ether 1 a.mac a.vlan f ∈ t.out
  | .jtag => t.jtag.reply = words32 f

/-- The bytes before the data of a reply: of the header, and in version 3 of the first item's (R49, R52, R55). -/
def replyHead (ver : Nat) : Nat := if ver = 1 then 20 else if ver = 3 then 32 else 24

/-- The code of a reply: in its status word, and in version 3 of the first item (R49, R52, R55, R81). -/
def replyCode (ver : Nat) (f : Bytes) : Nat :=
  if ver = 1 then fieldAt f 10 2 % 64 else if ver = 3 then fieldAt f 28 2 else fieldAt f 12 2 % 64

/-- The TAG of a reply (R49, R52, R55). -/
def replyTag (ver : Nat) (f : Bytes) : Nat := if ver = 1 then byteAt f 2 else fieldAt f 2 2

/-- A reply to a request of a version: its VERSION, its TAG and its code. -/
def RepliedWith (a : Arrival) (f : Bytes) (code : Nat) : Prop :=
  byteAt f 0 = a.ver ∧ replyTag a.ver f = a.tag ∧ replyCode a.ver f = code

/-- A frame on a port reaches the management core and is served at once. -/
abbrev FrameServed (s : State) (a : Arrival) : Prop :=
  s.pwr.stopped = false ∧ serving s = true ∧ s.mgmt.held = none ∧ s.pwr.softReset = false ∧ a.wf = true ∧
  (portUp s a.port && nodeOk s a && verOk s a.ver) = true

/-! ### Issues -/

/-- The granule `g` with the instruction `w` is due and is issued: the burst runs, nothing holds the issue (R169, R259,
R281), the granule is there with its data (R215), its instruction is no program error (R170), and the control store's read
succeeds (R245). -/
abbrev GranuleIssues (s : State) (io : Io) (w : Nat) (g : Granule) : Prop :=
  s.pwr.stopped = false ∧ running s = true ∧ s.seq.wait = .none ∧ s.uc.routine = none ∧ deferDue s = false ∧
  dueWord s = some w ∧ dueGranule s = some g ∧ programCause s w = none ∧ io.uc ≠ 2

/-- The same, and the opcode runs as the tables have it: no patch has overwritten its dispatch entry (R256, R257). -/
abbrev IssueDue (s : State) (io : Io) (w : Nat) (g : Granule) : Prop :=
  GranuleIssues s io w g ∧ aFind s.uc.dispatch (w % 256) = none

/-- The command that issues the instruction `w`, by its opcode (R143, R144). -/
def issueCmd (io : Io) (w : Nat) : Instr :=
  let op := w % 256
  if vecClass w then .vec io else if op = 1 then .rpt io else if op = 2 then .loop io else if op = 3 then .endl io
  else if op = 4 then .call io else if op = 5 then .ret io else if op = 6 then .jmp io else if op = 7 then .jif io
  else if op = 8 then .matchOp io else if op = 9 then .hold io else if op = 0x0A then .tset io else if op = 0x0B then .syncw io
  else if op = 0x0C then .syncs io else if op = 0x0D then .mark io
  else if op = 0x0E then (if field w 9 8 = 0 then .eyeStart io else if field w 9 8 = 1 then .eyeAdvance io else .eyeStop io)
  else if op = 0x0F then .halt io else .userOpcode io

/-- What every issue counts (R145, R179, R237, R244). -/
def Issued (io : Io) (g : Granule) (s t : State) : Prop :=
  t.num K.ISSUES = (s.num K.ISSUES + 1) % 2 ^ 64 ∧ t.seq.cycle = s.seq.cycle + 1 ∧ t.seq.last = some g ∧
  t.num K.UC_CORRECTED = (if io.uc = 1 then inc32 (s.num K.UC_CORRECTED) else s.num K.UC_CORRECTED) ∧
  t.uc = { s.uc with lastUpc := t.uc.lastUpc, inRoutine := false }

/-- The objects of the cistern queue (R412, R413). -/
def queueKeys : List Nat := [K.CQ_LEVEL, K.CQ_MAX, K.LOST_RECORDS, K.CAP_FLAGS]

/-- The objects an issue may change beside those of tiles and channels: its counters, those of a landing, and those of the
cistern queue, which raster points enter that no judgement can reach any more (R411). -/
def issueKeys : List Nat := [K.ISSUES, K.UC_CORRECTED, K.JUMPS_LANDED, K.RESTARTS] ++ queueKeys

/-- The parts of the state an issue may change. -/
def issueParts : List Part := [.units, .seq, .uc, .chans, .cis, .arrived, .out]

/-- The stacks and the pending request stand, the request counting one issue more (R173). -/
def StacksStand (s t : State) : Prop :=
  t.seq.loops = s.seq.loops ∧ t.seq.calls = s.seq.calls ∧
  t.seq.jump = s.seq.jump.map (fun j => { j with d := j.d + 1 })

/-- The granule issues again (R145). -/
def IssuesAgain (s t : State) : Prop :=
  t.seq.seg = s.seq.seg ∧ t.seq.off = s.seq.off ∧ t.seq.entry = s.seq.entry ∧ t.seq.made = s.seq.made + 1 ∧ t.seq.wait = .none

/-- A pending jump request lands at the end of this segment: no HOLDOFF, and 8 issues or more since its latch, this one
among them when `n` is 7 (R173, R174). -/
def landsAt (s : State) (n : Nat) : Bool :=
  match s.seq.jump with
  | some j => !(s.seq.segAt s.seq.seg).holdoff && decide (n ≤ j.d)
  | none => false

/-- The request has landed: its target issues next from granule 0, both stacks are empty, and it counts (R176, R192). -/
def Landed (s t : State) : Prop :=
  t.seq.seg = (s.seq.jump.bind (fun j => s.seq.jumpTable[j.entry]?)).getD 0 ∧ t.seq.off = 0 ∧ t.seq.made = 0 ∧
  t.seq.loops = [] ∧ t.seq.calls = [] ∧ t.seq.jump = none ∧
  t.num K.JUMPS_LANDED = inc32 (s.num K.JUMPS_LANDED) ∧ t.num K.RESTARTS = (s.num K.RESTARTS + 1) % 2 ^ 64

/-- The segment has ended for its successor, entered at granule 0, or there is none and the burst falls off (R129). -/
def Left (n : Option Nat) (back : Bool) (s t : State) : Prop :=
  t.seq.jump.isSome = s.seq.jump.isSome ∧ t.num K.JUMPS_LANDED = s.num K.JUMPS_LANDED ∧
  t.num K.RESTARTS = s.num K.RESTARTS ∧
  match n with
  | some i => t.seq.seg = i ∧ t.seq.off = 0 ∧ t.seq.made = 0 ∧ t.seq.back = back ∧ t.seq.entry = s.seq.entry + 1
  | none => t.seq.wait = .fallOff ∧ t.seq.seg = s.seq.seg ∧ t.seq.off = s.seq.off

/-- The segment ends with a successor, the stacks being `loops` and `calls`, unless a request lands (R176). -/
def Ends (d : Nat) (n : Option Nat) (back : Bool) (loops : List LoopEntry) (calls : List (Option Nat)) (s t : State) : Prop :=
  if landsAt s d then Landed s t else Left n back s t ∧ t.seq.loops = loops ∧ t.seq.calls = calls

/-- Control goes to the next granule, or the segment ends with its fall-through successor, the loop stack being `loops`
(R129). -/
def GoesOnWith (d : Nat) (loops : List LoopEntry) (s t : State) : Prop :=
  if atLast s then Ends d (s.seq.after s.seq.seg) false loops s.seq.calls s t
  else t.seq.seg = s.seq.seg ∧ t.seq.off = s.seq.off + 1 ∧ t.seq.made = 0 ∧ t.seq.back = false ∧
    t.seq.entry = s.seq.entry ∧ t.seq.loops = loops ∧ t.seq.calls = s.seq.calls

/-- Control goes on with both stacks as they were. -/
def GoesOn (d : Nat) (s t : State) : Prop := GoesOnWith d s.seq.loops s t

/-- The state in which an issue samples and plays: the control store's read has been noted (R244, R273). -/
def prepared (s : State) (io : Io) (w : Nat) : State :=
  (ucRead s io.uc).setUc { (ucRead s io.uc).uc with lastUpc := dispatchEntry s (w % 256), inRoutine := false }

/-- The test of a JIF or a MATCH, sampled in the cycle of its issue (R157, R201). -/
def testNow (s : State) (io : Io) (w : Nat) : Bool :=
  condition (cycleBegin (prepared s io w)).1 (field w 11 8) != bit w 12

/-- A taken branch has restarted at its target, unless a request lands (R176, R191). -/
def Branches (d n : Nat) (s t : State) : Prop :=
  if landsAt s d then Landed s t
  else t.seq.seg = n ∧ t.seq.off = 0 ∧ t.seq.made = 0 ∧ t.seq.loops = s.seq.loops ∧ t.seq.calls = s.seq.calls ∧
    t.seq.jump.isSome = s.seq.jump.isSome ∧ t.num K.RESTARTS = (s.num K.RESTARTS + 1) % 2 ^ 64

/-- The burst has ended with a cause: DRAINING, nothing due and no request or trap pending, and the pins park (R177, R221,
R232, R278, R296). -/
def Stopped (cause : Nat) (t : State) : Prop :=
  t.num K.SEQ_STATE = 5 ∧ t.num K.END_CAUSE = cause ∧ Out.park ∈ t.out ∧ t.seq.stream = [] ∧ t.seq.side = [] ∧
  t.seq.wait = .none ∧ t.seq.jump = none ∧ t.num K.TRAP_PENDING = 0 ∧ t.uc.trap = none ∧ t.uc.routine = none

/-- The objects that the end of a burst may change beside those of tiles and channels: the raster's point in force goes to
the cistern queue, a pending request is discarded, pending causes are served, and units are fenced (R177, R278, R405,
R559). -/
def endKeys : List Nat :=
  [K.SEQ_STATE, K.END_CAUSE, K.R_STATE, K.CQ_LEVEL, K.CQ_MAX, K.LOST_RECORDS, K.CAP_FLAGS, K.JUMPS_REPLACED, K.SEQ_FLAGS,
   K.SNAPSHOT, K.TIME_SNAP, K.FAULT_ISSUE, K.FAULT_SEGMENT, K.TRAP_PENDING, K.TRAP_CMD, K.FENCES, K.FENCE_CH_LO, K.FENCE_CH_HI,
   K.FENCE_TILE, K.FENCE_STACK, K.FENCE_CMD, K.STACK_STATE, K.DOM_STATE, K.READY, K.CAL_STATE, K.CAL_CMD, K.SELF_RUNS,
   K.ATTN_EVENTS]

/-- The parts of the state that the end of a burst may change. -/
def endParts : List Part := [.units, .seq, .uc, .chans, .cis, .mem, .flt, .slow, .tb, .cal, .out]

/-- What a halt with a cause does in each state of the sequencer: it ends a running burst, where a FALL_OFF that is due goes
before it; in a trap it waits; LOADING and ARMED return to IDLE, a scheduled start discarded; elsewhere it has no effect. It
changes `ks` and `ps` besides (R170, R221, R227, R232, R277, R610). -/
def Halts (cause : Nat) (ks : List Nat) (ps : List Part) (s t : State) : Prop :=
  (s.num K.SEQ_STATE = 4 → s.uc.trap = none → s.seq.wait ≠ .fallOff →
    Stopped cause t ∧ Frame (ks ++ endKeys) (ps ++ endParts) s t) ∧
  (s.num K.SEQ_STATE = 4 → s.uc.trap = none → s.seq.wait = .fallOff →
    Stopped 9 t ∧ Frame (ks ++ K.ERR_GRANULE :: K.ERR_SEGMENT :: endKeys) (ps ++ endParts) s t) ∧
  (s.num K.SEQ_STATE = 4 → s.uc.trap.isSome = true →
    t.uc = { s.uc with haltAfter := some (max (s.uc.haltAfter.getD 0) cause) } ∧ Frame ks (.uc :: ps) s t) ∧
  (s.num K.SEQ_STATE = 3 → t.num K.SEQ_STATE = 1 ∧ t.num K.SCHED = 2 ^ 64 - 1 ∧ t.flag K.ATTN_EVENTS 11 = true ∧
    Frame (K.SEQ_STATE :: K.SCHED :: K.ATTN_EVENTS :: ks) ps s t) ∧
  (s.num K.SEQ_STATE = 2 → t.num K.SEQ_STATE = 1 ∧ t.flag K.ATTN_EVENTS 11 = true ∧
    Frame (K.SEQ_STATE :: K.ATTN_EVENTS :: ks) ps s t) ∧
  (s.num K.SEQ_STATE ∉ [2, 3, 4] → Frame ks ps s t)

/-- A jump request of an entry has been latched, its reserve beginning to fill, and a request that was pending is replaced
and counted; a request of the host gives way to one of the ring latched in the same cycle, and is the one counted (R173,
R175, R194, R231). -/
def JumpLatched (entry : Nat) (ring : Bool) (s t : State) : Prop :=
  (t.seq = if ringPrecedes s ring then s.seq else
    { s.seq with jump := some ⟨entry, ring, 0⟩, reserve := some ⟨(s.seq.jumpTable[entry]?).getD 0, false, []⟩ }) ∧
  t.num K.JUMPS_REPLACED = (if s.seq.jump.isSome then inc32 (s.num K.JUMPS_REPLACED) else s.num K.JUMPS_REPLACED)

/-- The sequencer takes a ring jump request of an entry: RUNNING, the entry valid, and RING_JUMP_EN 1 (R175, R229, R230). -/
abbrev JumpMayLatch (s : State) (entry : Nat) : Prop :=
  s.num K.SEQ_STATE = 4 ∧ bit s.seq.jtValid entry = true ∧ s.num K.RING_JUMP_EN ≠ 0

/-- The first 16 granules of a segment: the loop cache's copy in its resident head, or as the image has them (R188, R194). -/
def FirstGranules (s : State) (seg : Nat) (l : List Granule) : Prop :=
  match s.seq.heads.find? (fun h => h.seg == seg) with
  | some h => l = h.data.take 16
  | none => l.map (fun g => (g.seg, g.off, g.word)) =
      (List.range 16).map (fun i => (seg, i, instrWord s (s.seq.index seg i)))

/-- The objects of the eye raster and the cistern queue that a step of the raster may change (R403–R413). -/
def eyeKeys : List Nat := [K.R_POINT, K.R_STATE, K.R_STRAY] ++ queueKeys

/-- The objects of the loop cache (R183–R186, R209–R211, R220). -/
def headKeys : List Nat := [K.HEADS_TOTAL, K.HEADS_RESIDENT, K.HEAD_BYTES, K.SEQ_FLAGS, K.CACHE_SPILLS]

/-- The objects a read of memory or of the loop cache may change (R220, R479, R480). -/
def fetchKeys : List Nat :=
  headKeys ++ [K.MEM_CE, K.MEM_UE, K.MEM_UE_ADDR, K.LC_CORRECTED, K.LC_UNCORRECTED, K.LC_BAD_ADDR]

/-- The parts a fetch may change; of memory the marks of uncorrectable blocks alone. -/
def fetchParts : List Part := [.seq, .mem, .arrived]

/-! ### Objects of several units -/

/-- Objects of some channels, by their keys at channel 0. -/
def chKeys (ks cs : List Nat) : List Nat := cs.flatMap (fun c => ks.map (fun k => atCh k c))

/-- Objects of some tiles, by their keys at tile 0. -/
def tileKeys (ks ts : List Nat) : List Nat := ts.flatMap (fun t => ks.map (fun k => atTile k t))

/-- The objects that the first issue of a burst sets (R221, R223, R384, R399, R418). -/
def beginKeys : List Nat :=
  [K.SEQ_STATE, K.ISSUES, K.RESTARTS, K.TRAP_CYCLES, K.RECORDS, K.DEMOTED, K.LOST_RECORDS, K.R_POINTS_DONE, K.R_STATE,
   K.REC_END, K.REC_OLDEST, K.STEP1_ISSUE, K.STEP2_ISSUE, K.CAP_LEVEL, K.CAP_FLAGS, K.ATTN_EVENTS] ++
  tileKeys [K.WH_MIN] (List.range 12) ++
  chKeys [K.FF_ISSUE, K.FF_GRANULE, K.FF_SEGMENT, K.FF_WORD, K.ERR_COUNT, K.JUDGED, K.INV_COUNT, K.CNT_FLAGS] (List.range 96)

/-- The burst has begun with its first tick at a time: RUNNING, its counters and its capture at their start values, every
first-fail record empty, and each channel's counts 0 unless CAP_CTRL keeps them; `ks` may have changed besides. -/
def BurstBegun (origin : Int) (ks : List Nat) (s t : State) : Prop :=
  t.num K.SEQ_STATE = 4 ∧ t.flag K.ATTN_EVENTS 11 = true ∧
  (∀ k ∈ [K.ISSUES, K.RESTARTS, K.TRAP_CYCLES, K.RECORDS, K.DEMOTED, K.LOST_RECORDS, K.R_POINTS_DONE, K.R_STATE],
    t.num k = 0) ∧ t.num K.REC_END = 4096 ∧ t.num K.REC_OLDEST = 4096 ∧ t.cis.next = 4096 ∧ t.cis.recs = [] ∧
  t.num K.STEP1_ISSUE = 2 ^ 64 - 1 ∧ t.num K.STEP2_ISSUE = 2 ^ 64 - 1 ∧
  t.num K.CAP_LEVEL = (if s.cis.short then 0 else s.num K.CAP_MODE) ∧ t.num K.CAP_FLAGS = (if s.cis.short then 9 else 0) ∧
  (∀ c < 96, t.num (atCh K.FF_ISSUE c) = 2 ^ 64 - 1 ∧ t.num (atCh K.FF_GRANULE c) = 0xFFFFFFFF ∧
    t.num (atCh K.FF_SEGMENT c) = 0xFFFF ∧ t.num (atCh K.FF_WORD c) = 0xFF ∧
    ∀ k ∈ [K.ERR_COUNT, K.JUDGED, K.INV_COUNT, K.CNT_FLAGS],
      t.num (atCh k c) = if s.flag K.CAP_CTRL 1 then s.num (atCh k c) else 0) ∧
  t.seq = { s.seq with cnt := (List.range 4).map (fun i => s.num (K.CNT_LOAD0 + i)) } ∧
  t.uc = { s.uc with routine := none, deferred := none, trap := none, haltAfter := none } ∧
  t.tb = { s.tb with origin := origin } ∧
  Frame (ks ++ beginKeys) [.seq, .uc, .chans, .cis, .tb] s t

/-- The deskew results of a channel are those of its values at the tick rate in force (R317). -/
def DeskewConverted (t : State) (c : Nat) : Prop :=
  t.num (atCh K.DESKEW_DRV_RES c) = raw 32 (t.fine (t.int32 (atCh K.DESKEW_DRV c))) ∧
  t.num (atCh K.DESKEW_CMP_RES c) = raw 32 (t.fine (t.int32 (atCh K.DESKEW_CMP c))) ∧
  t.num (atCh K.STRB_ADJ_RES c) = raw 32 (t.fine (t.int32 (atCh K.STRB_ADJ c))) ∧
  t.num (atCh K.EARLY c) = t.earlyOf (t.int32 (atCh K.DESKEW_DRV c)) + 16 * t.earlyOf (t.int32 (atCh K.DESKEW_CMP c))

/-- The deskew results of a channel, by their keys at channel 0. -/
def deskewKeys : List Nat := [K.DESKEW_DRV_RES, K.DESKEW_CMP_RES, K.STRB_ADJ_RES, K.EARLY]

/-- The objects that switching domains on may change (R517, R629, R633): a tile that starts begins its calibration. -/
def startKeys : List Nat :=
  [K.DOM_STATE, K.TICK_STATE, K.RING_STATE] ++ tileKeys [K.TILE_STATE, K.TILE_UPS, K.CONV_FLAGS] (List.range 12) ++
  chKeys [K.CAL_STATUS, K.CH_STALE, K.CAL_FAIL_BITS, K.RES_FLAGS] (List.range 96)

/-- The parts that switching domains on may change. -/
def startParts : List Part := [.tb, .cal, .slow, .chans]

/-- The objects that may change as domains come up and TICK, which may have waited for one of them, locks (R290, R629). -/
def advanceKeys : List Nat := K.READY :: K.READY_TIMES :: (chKeys deskewKeys (List.range 96) ++ startKeys)

/-- TICK has locked: TICK_STATE 2 with its function ready, every deskew converted, ticks counted from here on, and every
powered tile's PLL locked once more; domains that waited for it begin to start (R31, R290, R317, R450, R629). -/
def TickLocked (s t : State) : Prop :=
  t.num K.TICK_STATE = 2 ∧ t.flag K.READY 2 = true ∧ t.tb.plls = [] ∧ t.tb.origin = now16 s ∧
  t.slow.locks = pllsLocked s.slow.locks (pllTiles s) ∧ (∀ c < 96, DeskewConverted t c) ∧ Frame advanceKeys startParts s t

/-- Objects of some pump channels, by their keys at channel 0. -/
def pumpKeys (ks ps : List Nat) : List Nat := ps.flatMap (fun p => ks.map (fun k => atPump k p))

/-- What a marker pulse may change beside what an issue may: the buffers of the TMUs that take it (R428, R448, R450). -/
def markKeys : List Nat := chKeys [K.TS_BUF, K.HIST] (List.range 96) ++ issueKeys

/-- The parts that a marker pulse may change. -/
def markParts : List Part := .tb :: .drawn :: issueParts

/-- The objects a microword of the stream context may change beside those of tiles and channels (R248). -/
def wordKeys : List Nat := [K.R_POINT, K.R_STATE, K.R_STRAY, K.RING_CAUSE, K.DROPS, K.SEQ_FLAGS] ++ markKeys

/-- The parts that a microword of the stream context may change. -/
def wordParts : List Part := .ring :: markParts

/-- The objects of a TMU's measurement, by their keys at channel 0 (R431, R461–R468). -/
def tmuKeys : List Nat :=
  [K.TMU_STATE, K.RES_FLAGS, K.RESULT, K.RES_COUNT, K.START_TS, K.END_TS, K.RES_FREQ, K.RESULTS, K.ACC_N, K.ACC_SUM,
   K.ACC_MIN, K.ACC_MAX, K.ORPHAN_STOP, K.TS_MISSED, K.TS_BUF, K.TS_COUNT, K.HIST_OUT, K.HIST]

/-- The pads of the lane that edge code `e` names, of the tile of channel c, at `v`: the one output of that lane which changes
is the edge of this code, and the lane produces edges (R347, R357, R428, R429). -/
abbrev EdgeComes (s : State) (c e : Nat) (v : Pad) : Prop :=
  let l := 8 * tileOf c + e % 8
  e < 32 ∧ producesEdges s l = true ∧
  outputEdges (s.chan l) ((senseVs s l v).chan l) = [2 * (e / 8 % 2) + e / 16]

/-- The unit of channel c sees an edge with the timestamp p: it works, it is armed, no re-arm lies after the edge, and no
timeout expires before it (R434, R436, R438). -/
abbrev TmuSeesEdge (s : State) (c : Nat) (p : Int) : Prop :=
  tmuRuns s c = true ∧ tmuSees s c p = true ∧ ∀ x, tmuExpiry s c = some x → span x p ≤ 0

/-- Nothing of the unit of channel c has changed. -/
def TmuStands (s t : State) (c : Nat) : Prop :=
  t.tmu c = s.tmu c ∧ ∀ k ∈ tmuKeys, t.num (atCh k c) = s.num (atCh k c) ∧ t.blob (atCh k c) = s.blob (atCh k c)

/-- The start has been captured at p (R440). -/
def TmuStarted (s t : State) (c : Nat) (p : Int) (falling : Bool) : Prop :=
  t.num (atCh K.TMU_STATE c) = 3 ∧ t.tmu c = { s.tmu c with start := some p, falling := falling, count := 0 }

/-- One object of the unit of channel c has counted, and nothing else of it has changed. -/
def TmuCounted (s t : State) (c k : Nat) : Prop :=
  t.num (atCh k c) = inc32 (s.num (atCh k c)) ∧ t.tmu c = s.tmu c ∧ t.num (atCh K.TMU_STATE c) = s.num (atCh K.TMU_STATE c)

/-- The measurement from a to b has completed at the edge p with a count: the rounded difference, 0 and COINCIDENT within one
LSB, counted and accumulated; with CONT set a re-arm follows 1.0 ns after the edge (R436, R439, R442, R461–R468). -/
def Measured (s t : State) (c : Nat) (a b p : Int) (n : Nat) : Prop :=
  let r := if -16 < span a b ∧ span a b < 16 then 0 else toLsb (span a b)
  t.num (atCh K.TMU_STATE c) = 4 ∧ t.num (atCh K.RESULT c) = raw 64 r ∧ t.num (atCh K.RES_COUNT c) = n ∧
  t.num (atCh K.START_TS c) = raw 64 (toLsb a) ∧ t.num (atCh K.END_TS c) = raw 64 (toLsb p) ∧
  t.num (atCh K.RESULTS c) = inc32 (s.num (atCh K.RESULTS c)) ∧
  t.num (atCh K.ACC_N c) = inc32 (s.num (atCh K.ACC_N c)) ∧
  (s.num (atCh K.ACC_N c) = 0 → t.num (atCh K.ACC_MIN c) = raw 64 r ∧ t.num (atCh K.ACC_MAX c) = raw 64 r) ∧
  ((s.tmu c).cond % 4 = 0 → t.flag (atCh K.RES_FLAGS c) 0 = true ∧
    t.flag (atCh K.RES_FLAGS c) 1 = decide (-16 < span a b ∧ span a b < 16)) ∧
  t.tmu c = { tmuInit with rearm := if s.flag (atCh K.TMU_CTRL c) 2 then some (p + 57344) else none }

/-- The write of value `n` to the object of key `k` is refused with a code and has no effect: a frame's reply carries the
code (R49, R52, R55); a BAR2 write is counted and recorded (R73). -/
def RefusedWith (s t : State) (v : Via) (k code : Nat) : Prop :=
  match v with
  | .frame a => Frame [] answered s t ∧
      (broadcast a = false → a.noReply = false ∨ a.ver = 1 → ∃ f, RepliedOn s t a f ∧ RepliedWith a f code)
  | .bar2 _ => t.num K.BAR_WR_REJECT = inc32 (s.num K.BAR_WR_REJECT) ∧ t.num K.BAR_LAST = k ∧
      t.num K.BAR_LAST_CODE = code ∧ Frame [K.BAR_WR_REJECT, K.BAR_LAST, K.BAR_LAST_CODE] answered s t

/-- The write of value `n` to the object of key `k` reaches the core and passes the checks before those on its value. -/
abbrev PassesGate (s : State) (v : Via) (k n : Nat) : Prop :=
  Reaches s v (k / 256) (k % 256) (bytesOf k n) ∧ gateCode s (askerVia s v) (viaV1 v) (k / 256) (k % 256) = 0

/-- A pump command, 0 DOORBELL, 1 START, 2 STOP, 3 RESUME, is accepted, with the class of its port, of a function the copy
that judges its writes (R102): an accepted write of CH_CMD, or a permitted write of PUMP_DB (R491, R509). -/
def PumpAsked (s : State) (p cmd cls : Nat) : PumpVia → Prop
  | .chCmd w => AcceptedKey s w (atPump K.CH_CMD p) (2 ^ cmd) ∧ cls = (askerVia s w).cls
  | .pumpDb pf => s.pwr.stopped = false ∧ barOpen s = true ∧ pf < 2 ∧ barPermit s pf = true ∧ pumpCmdCode s p cmd = 0 ∧
      cls = (s.pf pf).cls

/-- The parts that answering a pump command may change. -/
def pumpParts : List Part := .pump :: answered

/-- The other pump channels, and pump SRAM, stand. -/
def OnlyChannel (p : Nat) (s t : State) : Prop :=
  (∀ q, q ≠ p → t.pch q = s.pch q) ∧ t.pump.sram = s.pump.sram ∧ t.pump.epoch = s.pump.epoch

/-- The keys that an error of a channel may change (R501, R503). -/
def pumpErrorKeys (l : List Nat) : List Nat :=
  K.ATTN_EVENTS :: pumpKeys [K.CH_STATE, K.CH_CMD, K.CH_ERR, K.ERR_ADDR, K.ERR_EP] l

/-- Every RUNNING channel is in ERROR with CH_ERR BUS and the failing address, and no other has changed (R503). -/
def BusEnded (s t : State) (a ep : Nat) : Prop :=
  t.flag K.ATTN_EVENTS 10 = true ∧
  (∀ p < 16, pumpState s p = 1 → pumpState t p = 4 ∧ t.num (atPump K.CH_ERR p) = 1 ∧ t.num (atPump K.ERR_ADDR p) = a ∧
    t.num (atPump K.ERR_EP p) = ep) ∧
  ∀ p < 16, pumpState s p ≠ 1 → pumpState t p = pumpState s p ∧ t.pch p = s.pch p

/-- A bus error that is no stack's: it stops every RUNNING channel, raises 0x72 and does no more (R503). -/
def BusStops (s t : State) (a ep : Nat) : Prop :=
  BusEnded s t a ep ∧ t.flt.arrived = s.flt.arrived ++ [(0x72, false)] ∧
  Frame (pumpErrorKeys (List.range 16)) [.pump, .arrived] s t

/-! ### Calibration, faults, domains and the ring -/

/-- The objects that a channel's calibration may change as it begins or ends (R515–R525). -/
def calKeys : List Nat :=
  [K.CAL_STATE, K.CAL_CMD, K.SELF_RUNS, K.ATTN_EVENTS] ++ tileKeys [K.CONV_FLAGS] (List.range 12) ++
  chKeys [K.CAL_STATUS, K.CH_STALE, K.CAL_FAIL_BITS, K.RES_FLAGS, K.BAND_PRESETS, K.TMU_STATE] (List.range 96)

/-- The parts that a channel's calibration may change as it begins or ends. -/
def calParts : List Part := [.cal, .slow, .tb, .chans]

/-- The objects of the fault collector's records (R580). -/
def faultKeys : List Nat :=
  [K.STICKY_LO, K.STICKY_HI, K.REAL_LO, K.REAL_HI, K.INJ_LO, K.INJ_HI, K.FIRST_LO, K.FIRST_HI, K.SEV_MAP, K.SEV_HIGH,
   K.OCCURRENCES]

/-- The objects that a fence may change beside those of tiles and channels (R566–R569). -/
def fenceKeys : List Nat :=
  [K.FENCES, K.FENCE_CH_LO, K.FENCE_CH_HI, K.FENCE_TILE, K.FENCE_STACK, K.STACK_STATE, K.DOM_STATE, K.READY, K.CAL_STATE,
   K.CAL_CMD, K.SELF_RUNS, K.ATTN_EVENTS]

/-- The parts that a fence may change. -/
def fenceParts : List Part := [.units, .chans, .cal, .slow, .tb, .mem, .out]

/-- The objects that a domain's end may change beside those of tiles and channels (R632, R704). -/
def offKeys : List Nat :=
  [K.SCHED, K.TICK_STATE, K.TB_FLAGS, K.WARM_SECONDS, K.RING_STATE, K.RING_POS, K.RING_SIZE, K.RING_CMD] ++ headKeys ++ endKeys

/-- The parts that a domain's end may change. -/
def offParts : List Part := .pump :: .ring :: endParts

/-- The objects that a reset sets to what it finds, beside those it keeps (R639, R640, R644, R657, R663). -/
def bootKeys : List Nat :=
  [K.RESET_CAUSE, K.DOM_STATE, K.READY, K.TB_FLAGS, K.FW_STATUS, K.FW_SLOT, K.FW_VERSION, K.FW_FLOOR, K.PATCH_FLOOR,
   K.FW_SLOTS_LEFT, K.PATCH_SLOTS_LEFT]

/-- A message of a type arrives whole at a live port, from another module, and is forwarded (R593–R595). -/
abbrev RingArrives (s : State) (ty : Nat) (m : Bytes) : Prop :=
  s.pwr.stopped = false ∧ ringLive s = true ∧ msgOk m = true ∧ msgType m = ty ∧ msgOwn s m = false ∧ msgHops m ≠ 1023

/-- One cause more is recorded and its fault source raised (R619). -/
def CauseRaised (i : Nat) (s t : State) : Prop :=
  t.num K.RING_CAUSE = putBit (s.num K.RING_CAUSE) i true ∧ t.flt.arrived = s.flt.arrived ++ [(0x79, false)]

end Sys2Proof.Machine
end

