-- ==== Sys2Proof/Certificates/Slice0/Obligations.lean ====
section
/-! DEFINITION. The statements for the provers, family by family. Each docstring says what its statement claims; the rules
it rests on stand in OBLIGATIONS.json beside it. -/

open Sys2Proof Sys2Proof.Machine

/-- With a command at the front of the queue, one step is that command's effect on the state that holds the rest of the
queue. -/
def Obligations.StepRunsFrontCommand : Prop :=
  ∀ (c : Instr) (rest : List Instr) (s : State),
    step { s with pending := c :: rest } = exec c { s with pending := rest }

/-- The model's choice of log entry 1: a step on an empty queue is one MGMTCLK cycle. While D00 has not stopped it
counts the cycle; TB_NOW advances by 8,960 LSB of the time base once its epoch is fixed, while D02 is on, and stands
otherwise; nothing else changes. While D00 has stopped nothing changes. -/
def Obligations.IdleStepIsOneManagementCycle : Prop :=
  ∀ s : State, s.pending = [] →
    (s.pwr.stopped = true → step s = .next s) ∧
    (s.pwr.stopped = false →
      let c := s.setPwr { s.pwr with cycles := s.pwr.cycles + 1 }
      step s = .next (if s.tb.epoch = true ∧ domState s 2 ≠ 0 then c.setNum K.TB_NOW ((s.num K.TB_NOW + 8960) % 2 ^ 64) else c))

/-- No step of the block faults or refuses. It takes the front command off the queue and leaves the rest in order, what
has been sent out stays sent, and the model's free values are drawn in order. -/
def Obligations.EveryStepAnswersANextState : Prop :=
  ∀ s : State, ∃ t, step s = .next t ∧ t.pending = s.pending.tail ∧ s.out <+: t.out ∧ s.freeCtr ≤ t.freeCtr

/-- For every state in which memory and pump SRAM list their bytes at strictly rising addresses, none of them equal to
what an unlisted byte reads as, and in which the keys of the object stores rise strictly, every step that answers a next
state answers one of the same kind, whatever the command. -/
def Obligations.SoundStateIsKept : Prop :=
  ∀ s t : State, s.Sound → step s = .next t → t.Sound

/-- The state after reset has memory, pump SRAM and the object stores in canonical form, no command waiting and nothing
sent out. -/
def Obligations.ResetIsSound : Prop :=
  State.reset.Sound ∧ State.reset.pending = [] ∧ State.reset.out = []

/-- After reset the sequencer is OFF with SEQ_CMD and ISSUES 0, LOCK_SET and the pending unlock are clear, only D00 is
on, every READY bit is clear, no fault source has arrived, the authority table gives PF0 OWNER, PF1 OBSERVER, both
Ethernet ports OPERATOR and JTAG SERVICE, all three frame versions are enabled, both rings of both functions have 64
slots and every other ring register is 0, no reply and no half waits, and every fault source has the reaction its table
gives. -/
def Obligations.ResetValues : Prop :=
  State.reset.num K.SEQ_STATE = 0 ∧ State.reset.num K.SEQ_CMD = 0 ∧ State.reset.num K.ISSUES = 0 ∧
  State.reset.num K.LOCK_SET = 0 ∧ State.reset.num K.UNLOCK_STATE = 0 ∧ State.reset.num K.DOM_STATE = 2 ∧
  State.reset.num K.READY = 0 ∧ State.reset.flt.arrived = [] ∧
  [1, 2, 3, 4, 5].map (classOf State.reset) = [3, 1, 2, 2, 4] ∧ State.reset.num K.VER_ENABLE = 7 ∧
  (∀ pf < 2, let x := State.reset.pf pf
    x.cmdSize = 6 ∧ x.rplSize = 6 ∧ x.replies = [] ∧ x.stage = none ∧ x.stopped = false ∧
    [x.cmdBase, x.cmdHead, x.cmdTail, x.rplBase, x.rplHead, x.rplTail, x.rplWb, x.ringCtrl] = [0, 0, 0, 0, 0, 0, 0, 0]) ∧
  (∀ n < 128, State.reset.num (0x500301 + n) = reactDefault n)

/-- With VAUX gone and D00 stopped, every command answers the state unchanged, except a power-on reset, which follows
when VAUX returns. -/
def Obligations.NothingHappensWhileStopped : Prop :=
  ∀ (c : Instr) (s : State), s.pwr.stopped = true → (∀ x y, c ≠ .powerOnReset x y) → exec c s = .next s

/-- A READ frame of an enabled version that the core serves leaves every object, memory and every unit as they were.
Addressed to every module it is not answered. Otherwise one reply of the same version goes back by the port it came by,
with the TAG of the request and the code of the first check of R85 that fails; with code 0 it carries the bytes asked
for, and a version 1 reply the whole value. -/
def Obligations.ReadIsAnsweredAndChangesNothing : Prop :=
  ∀ (s : State) (a : Arrival) (i sub off len : Nat), FrameServed s a → addrWf i sub off = true → len ≤ 1024 →
    ∃ t, exec (.read a i sub off len) s = .next t ∧ Frame [] answered s t ∧
      (broadcast a = true → t.pf0.replies = s.pf0.replies ∧ t.pf1.replies = s.pf1.replies ∧ t.jtag = s.jtag ∧ AttnOnly s t) ∧
      (broadcast a = false →
        let o := if a.ver = 1 then 0 else off
        let n := if a.ver = 1 then sizeOf_ s i sub (rowOf i sub) else len
        let c := readCode s (askerOf s a.port) (a.ver == 1) i sub o n
        ∃ f, RepliedOn s t a f ∧ RepliedWith a f c ∧
          (c = 0 → (f.drop (replyHead a.ver)).take n = ((objBytes s i sub (rowOf i sub)).drop o).take n))

/-- A READ, a WRITE or a batch that reaches the core in a version VER_ENABLE has disabled, or in an unknown version,
changes nothing; unless it was sent to every module, a version 2 reply with code 10, its TAG and no data goes back, with
the INDEX and SUB of the request, and with INDEX and SUB 0 for version 3. Its KIND is that of a READ's or a WRITE's
reply, which of the two being open for version 3 (log entry 33). -/
def Obligations.DisabledVersionIsAnsweredWithCodeTen : Prop :=
  ∀ (s : State) (a : Arrival) (c : Instr) (v : Nat),
    s.pwr.stopped = false → serving s = true → s.mgmt.held = none → s.pwr.softReset = false → a.wf = true →
    portUp s a.port = true → nodeOk s a = true → verOk s v = false →
    (v = a.ver ∧ ((∃ i sub off len, c = .read a i sub off len) ∨ ∃ i sub off d, c = .write a i sub off d) ∨
      v = 3 ∧ ∃ stop items, c = .batch a stop items) →
    ∃ t, exec c s = .next t ∧ Frame [] answered s t ∧
      (broadcast a = false → ∃ f, RepliedOn s t a f ∧ byteAt f 0 = 2 ∧ replyTag 2 f = a.tag ∧ replyCode 2 f = 10 ∧ f.length = 24 ∧
        (byteAt f 1 = 0x81 ∨ byteAt f 1 = 0x82) ∧ (v = 3 → fieldAt f 8 2 = 0 ∧ byteAt f 10 = 0) ∧
        ∀ i sub, i < 65536 → sub < 256 → v ≠ 3 →
          ((∃ off len, c = .read a i sub off len) → byteAt f 1 = 0x81 ∧ fieldAt f 8 2 = i ∧ byteAt f 10 = sub) ∧
          ((∃ off d, c = .write a i sub off d) → byteAt f 1 = 0x82 ∧ fieldAt f 8 2 = i ∧ byteAt f 10 = sub))

/-- A WRITE frame of any version whose object does not exist, whose port has no authority for it, whose object is not
written or is locked, or for whose KEY object no unlock is pending, changes no object and no unit; the reply, where one
is asked for, carries the code of the first failing check. A missing index gives code 1, no authority for an object that
exists code 9, and an LCK object whose group bit is set code 5. -/
def Obligations.RefusedWriteHasNoEffect : Prop :=
  ∀ (s : State) (a : Arrival) (i sub off : Nat) (d : Bytes), FrameServed s a → addrWf i sub off = true →
    writeLenOk a d.length = true →
    let g := gateCode s (askerOf s a.port) (a.ver == 1) i sub
    (rowsOf i = [] → g = 1) ∧
    (findCode (a.ver == 1) i sub = 0 → mayWrite (classOf s (portNum a.port)) i = false → g = 9) ∧
    (findCode (a.ver == 1) i sub = 0 → mayWrite (classOf s (portNum a.port)) i = true → (rowOf i sub).acc.canWrite = true →
      (rowOf i sub).acc.isLck = true → locked s i = true → g = 5) ∧
    (g ≠ 0 → ∃ t, exec (.write a i sub off d) s = .next t ∧ Frame [] answered s t ∧
      (broadcast a = false → (a.noReply = false ∨ a.ver = 1) → ∃ f, RepliedOn s t a f ∧ RepliedWith a f g))

/-- A write, as a frame of any version, as a BAR2 write or as an access without a row of its own, that passes every
check of R85 and whose object has no effect of its own, leaves the object with the implemented bits of the value
written, or with the ones written cleared where its bits are write-one-to-clear; SIG_CURRENT is 0 and a scan runs. A KEY
object also consumes the pending unlock. No other object and no unit changes. A frame's write names offset 0. -/
def Obligations.PlainWriteCommits : Prop :=
  ∀ (s : State) (v : Via) (i sub : Nat) (d : Bytes) (c : Instr), Accepted s v i sub d →
    (rowOf i sub).ty.isBlob = false →
    commitUnit (keySpent s i sub) (askerVia s v) (objKey i sub) (objKey (baseIndex i) sub) (unitOf i)
      (leNat d &&& (rowOf i sub).mask) = none →
    commitModule (keySpent s i sub) (askerVia s v) (objKey i sub) (leNat d &&& (rowOf i sub).mask) = none →
    (c = .registerWrite (.object v i sub d) ∨ (∃ a, v = .frame a ∧ c = .write a i sub 0 d) ∨
      (∃ a stop, v = .frame a ∧ a.ver = 3 ∧ c = .batch a stop [⟨true, sub, i, 0, d.length, d⟩]) ∨
      ∃ pf, v = .bar2 pf ∧ c = .bar2Write pf (i * 4096 + sub * 16) d) →
    objKey i sub ≠ K.SIG_CURRENT → objKey i sub ≠ K.UNLOCK_STATE →
    ∃ t, exec c s = .next t ∧
      t.num (objKey i sub) = merged (rowOf i sub) (s.num (objKey i sub)) (leNat d &&& (rowOf i sub).mask) ∧
      t.num K.SIG_CURRENT = 0 ∧ t.mgmt.scanning = true ∧
      t.num K.UNLOCK_STATE = (if (rowOf i sub).acc.isKey then 0 else s.num K.UNLOCK_STATE) ∧
      Frame [objKey i sub, K.SIG_CURRENT, K.UNLOCK_STATE] answered s t

/-- A well-formed batch of READ items that the core serves changes no object and no unit, and unless it is addressed to
every module it is answered in version 3 with its TAG, a COUNT from 1 to the number of its items, and its first item's
INDEX, SUB and code in the reply's first item. A batch that is not well formed changes nothing either, and is answered
with COUNT 0 and code 3, unless it is addressed to every module or holds WRITE items alone and asks for no reply. -/
def Obligations.BatchRunsItsItems : Prop :=
  ∀ (s : State) (a : Arrival) (stop : Bool) (x : BatchItem) (rest : List BatchItem), FrameServed s a → a.ver = 3 →
    (∀ y ∈ x :: rest, y.wf = true) →
    (batchOk (x :: rest) = true → (∀ y ∈ x :: rest, y.write = false) →
      ∃ t, exec (.batch a stop (x :: rest)) s = .next t ∧ Frame [] answered s t ∧
        (broadcast a = false → ∃ f, RepliedOn s t a f ∧ byteAt f 0 = 3 ∧ byteAt f 1 = 0x83 ∧ replyTag 3 f = a.tag ∧
          1 ≤ byteAt f 8 ∧ byteAt f 8 ≤ rest.length + 1 ∧
          byteAt f 24 = 0x81 ∧ byteAt f 25 = x.sub ∧ fieldAt f 26 2 = x.index ∧
          fieldAt f 28 2 = readCode s (askerOf s a.port) false x.index x.sub x.off x.len)) ∧
    (∀ items, batchOk items = false →
      ∃ t, exec (.batch a stop items) s = .next t ∧ Frame [] answered s t ∧
        (broadcast a = false → (a.noReply = false ∨ ∃ y ∈ items, y.write = false) →
          ∃ f, RepliedOn s t a f ∧ byteAt f 0 = 3 ∧ byteAt f 8 = 0 ∧ fieldAt f 12 2 % 64 = 3))

/-- While the BAR windows answer, a write of CMD_TAIL or RPL_TAIL with a slot of its ring sets it, and CMD_TAIL also
resumes a fetch that a completion error had stopped; a value beyond the ring is dropped and counted in BAR_WR_REJECT.
RING_CTRL takes ENABLE and RPL_IRQ_EN; clearing ENABLE resets both heads and both tails to 0, discards the waiting
replies and ends a stop of the fetch. No other register of the function and none of the other function changes, but for
ATTN as each sees it with its pending bits; no other object and no unit changes, but for the management core's count of
replies to discard where ENABLE is cleared. -/
def Obligations.RingRegisterWrites : Prop :=
  ∀ (s : State) (pf value : Nat), s.pwr.stopped = false → barOpen s = true → pf < 2 → value < 2 ^ 32 →
    (value < 2 ^ (s.pf pf).cmdSize → ∃ t, exec (.cmdTail pf value) s = .next t ∧
      PcieFn.Same false { s.pf pf with cmdTail := value, stopped := false } (t.pf pf) ∧
      (s.pf (1 - pf)).Same false (t.pf (1 - pf)) ∧ Frame [] [.fns] s t) ∧
    (2 ^ (s.pf pf).cmdSize ≤ value → ∃ t, exec (.cmdTail pf value) s = .next t ∧
      t.num K.BAR_WR_REJECT = inc32 (s.num K.BAR_WR_REJECT) ∧ Frame [K.BAR_WR_REJECT] [] s t) ∧
    (value < 2 ^ (s.pf pf).rplSize → ∃ t, exec (.rplTail pf value) s = .next t ∧
      PcieFn.Same false { s.pf pf with rplTail := value } (t.pf pf) ∧
      (s.pf (1 - pf)).Same false (t.pf (1 - pf)) ∧ Frame [] [.fns] s t) ∧
    (2 ^ (s.pf pf).rplSize ≤ value → ∃ t, exec (.rplTail pf value) s = .next t ∧
      t.num K.BAR_WR_REJECT = inc32 (s.num K.BAR_WR_REJECT) ∧ Frame [K.BAR_WR_REJECT] [] s t) ∧
    (bit (s.pf pf).ringCtrl 0 = true → bit value 0 = false → ∃ t, exec (.ringCtrl pf value) s = .next t ∧
      PcieFn.Same false { s.pf pf with ringCtrl := value % 4, cmdHead := 0, cmdTail := 0, rplHead := 0, rplTail := 0,
                                       replies := [], stopped := false } (t.pf pf) ∧
      (s.pf (1 - pf)).Same false (t.pf (1 - pf)) ∧ Frame [] [.fns, .mgmt] s t ∧
      (∃ m, t.mgmt = { s.mgmt with mute0 := m } ∨ t.mgmt = { s.mgmt with mute1 := m })) ∧
    (bit (s.pf pf).ringCtrl 0 = false ∨ bit value 0 = true → ∃ t, exec (.ringCtrl pf value) s = .next t ∧
      PcieFn.Same false { s.pf pf with ringCtrl := value % 4 } (t.pf pf) ∧
      (s.pf (1 - pf)).Same false (t.pf (1 - pf)) ∧ Frame [] [.fns] s t)

/-- With the ring enabled, one slot waiting that holds a version 2 READ frame of 16 bytes or a PAD, and room for
replies, the fetch advances CMD_HEAD past it; a READ is served and leaves its reply for the reply ring, and a PAD has no
other effect. No object and no unit changes. A completion error stops the fetch at CMD_HEAD and raises fault source
0x7A. -/
def Obligations.CommandFetchTakesOneFrame : Prop :=
  ∀ (s : State) (pf : Nat) (d : Bytes), s.pwr.stopped = false → pf < 2 → s.flag K.READY 6 = true →
    bit (s.pf pf).ringCtrl 0 = true → (s.pf pf).stopped = false →
    (s.pf pf).cmdHead < 2 ^ (s.pf pf).cmdSize → (s.pf pf).cmdTail = ((s.pf pf).cmdHead + 1) % 2 ^ (s.pf pf).cmdSize →
    (s.pf pf).cmdHead ≠ (s.pf pf).cmdTail →
    (∃ t, exec (.commandFetchError pf) s = .next t ∧ PcieFn.Same false { s.pf pf with stopped := true } (t.pf pf) ∧
      (s.pf (1 - pf)).Same false (t.pf (1 - pf)) ∧ t.flt.arrived = s.flt.arrived ++ [(0x7A, false)] ∧
      Frame [] [.fns, .arrived] s t) ∧
    (d.length = 64 → replyStuck (s.pf pf) = false → byteAt d 0 = 2 → byteAt d 1 = 0 → fieldAt d 14 2 ≤ 48 →
      ∃ t, exec (.commandFetch pf d) s = .next t ∧
        PcieFn.Same false { s.pf pf with cmdHead := (s.pf pf).cmdTail } (t.pf pf) ∧
        (s.pf (1 - pf)).Same false (t.pf (1 - pf)) ∧ Frame [] [.fns] s t) ∧
    (d.length = 64 → replyStuck (s.pf pf) = false → byteAt d 0 = 2 → byteAt d 1 = 1 → fieldAt d 14 2 ≤ 1024 →
      s.flag K.VER_ENABLE 1 = true → serving s = true → s.mgmt.held = none → s.pwr.softReset = false →
      (if pf = 0 then s.mgmt.mute0 else s.mgmt.mute1) = 0 →
      ∃ t, exec (.commandFetch pf d) s = .next t ∧ Frame [] [.fns, .mgmt] s t ∧
        (s.pf (1 - pf)).Same false (t.pf (1 - pf)) ∧
        ∃ f, PcieFn.Same false { s.pf pf with cmdHead := (s.pf pf).cmdTail, replies := (s.pf pf).replies ++ [f] } (t.pf pf) ∧
          byteAt f 0 = 2 ∧ byteAt f 1 = 0x81 ∧ replyTag 2 f = fieldAt d 2 2)

/-- With the ring enabled and room for the oldest waiting reply without a PAD, the module posts the frame to the slot at
RPL_HEAD, then the new RPL_HEAD to the address in RPL_WB, in that order; the reply leaves the queue, and the later
replies keep their order. Without room nothing is written. No object and no unit changes. -/
def Obligations.ReplyWriteGoesToTheRing : Prop :=
  ∀ (s : State) (pf : Nat) (f : Bytes) (rest : List Bytes), s.pwr.stopped = false → pf < 2 → s.flag K.READY 6 = true →
    bit (s.pf pf).ringCtrl 0 = true → (s.pf pf).replies = f :: rest →
    (replyRoom (s.pf pf) f = true → (replyNeed (s.pf pf) f).1 = 0 →
      let head := ((s.pf pf).rplHead + ceilDiv f.length 64) % 2 ^ (s.pf pf).rplSize
      ∃ t, exec (.replyWrite pf) s = .next t ∧ (t.pf pf).rplHead = head ∧ (t.pf pf).replies = rest ∧
        s.out ++ [.hostWrite pf ((s.pf pf).rplBase + 64 * (s.pf pf).rplHead) f, .hostWrite pf (s.pf pf).rplWb (leBytes 4 head)]
          <+: t.out ∧
        (s.pf (1 - pf)).Same false (t.pf (1 - pf)) ∧ Frame [] [.fns, .out] s t) ∧
    (replyRoom (s.pf pf) f = false → ∃ t, exec (.replyWrite pf) s = .next t ∧ Frame [] [] s t ∧ (t.pf pf).replies = f :: rest)

/-- An aligned BAR2 read that passes every check of R85 completes with the addressed bytes of its slot and changes
nothing; an unaligned one completes with Completer Abort. A low-half write that passes the checks goes to the function's
staging register with its slot and changes no object; a high-half write to the staged slot whose whole value is accepted
commits it, where the object has no effect of its own, and empties the staging register. -/
def Obligations.BarTwoAccesses : Prop :=
  ∀ (s : State) (pf i sub : Nat), s.pwr.stopped = false → serving s = true → s.mgmt.held = none → s.pwr.softReset = false →
    barOpen s = true → pf < 2 → i < 65536 → sub < 256 →
    (∀ o n, o < 16 → barAligned o n = true → readCode s (askerPf s pf) false i sub 0 0 = 0 →
      ∃ t, exec (.bar2Read pf (i * 4096 + sub * 16 + o) n) s = .next t ∧
        Out.bar2 pf (some (fieldAt (slotBytes s i sub) o n)) ∈ t.out ∧ Frame [] answered s t) ∧
    (∀ o n, o < 16 → barAligned o n = false →
      ∃ t, exec (.bar2Read pf (i * 4096 + sub * 16 + o) n) s = .next t ∧ Out.bar2 pf none ∈ t.out ∧ Frame [] answered s t) ∧
    (∀ low, low < 2 ^ 32 → halfable i sub = true → gateCode s (askerPf s pf) false i sub = 0 →
      ∃ t, exec (.bar2LowHalfWrite pf (i * 256 + sub) low) s = .next t ∧
        (t.pf pf).stage = some (i * 256 + sub, low) ∧ Frame [] (.fns :: answered) s t) ∧
    (∀ low high, low < 2 ^ 32 → high < 2 ^ 32 → halfable i sub = true → (s.pf pf).stage = some (i * 256 + sub, low) →
      let s' := s.setPf pf { s.pf pf with stage := none }
      let d := leBytes 4 low ++ leBytes 4 high
      Accepted s' (.bar2 pf) i sub d →
      commitUnit (keySpent s' i sub) (askerPf s pf) (objKey i sub) (objKey (baseIndex i) sub) (unitOf i)
        (leNat d &&& (rowOf i sub).mask) = none →
      commitModule (keySpent s' i sub) (askerPf s pf) (objKey i sub) (leNat d &&& (rowOf i sub).mask) = none →
      ∃ t, exec (.bar2HighHalfWrite pf (i * 256 + sub) high) s = .next t ∧ (t.pf pf).stage = none ∧
        t.num (objKey i sub) = merged (rowOf i sub) (s.num (objKey i sub)) ((low + 2 ^ 32 * high) &&& (rowOf i sub).mask) ∧
        Frame [objKey i sub, K.SIG_CURRENT, K.UNLOCK_STATE] (.fns :: answered) s t)

/-- While D05 is on, a function-level reset leaves the ring registers, the staging register and the MSI-X state of its
function at their reset values, but for what a change of ATTN does; the copy of its class stands. It changes nothing of
the other function, no object and no other unit but the management core's count of replies to discard. -/
def Obligations.FunctionLevelResetClearsOneFunction : Prop :=
  ∀ (s : State) (pf : Nat), s.pwr.stopped = false → pf < 2 → domState s 5 ≠ 0 →
    ∃ t, exec (.functionLevelReset pf) s = .next t ∧ (PcieFn.init (s.pf pf).cls).Same false (t.pf pf) ∧
      (s.pf (1 - pf)).Same false (t.pf (1 - pf)) ∧ Frame [] [.fns, .mgmt] s t

/-- On a port that is up, a sound frame of another EtherType, with more than one tag, or too short for the header of its
version is counted in NET_DROPPED and changes nothing else; a version 2 READ for this module that the core serves is
answered by the same port to the source MAC address with the frame's tag, and changes no object and no unit; a frame of
another version than 1 for another node changes nothing. -/
def Obligations.EthernetFrames : Prop :=
  ∀ (s : State) (p : Nat) (f : EthFrame), s.pwr.stopped = false → p < 2 → s.flag K.READY (7 + p) = true → f.sound = true →
    ((f.etherType ≠ 0x88B5 ∨ 1 < f.tags.length ∨ f.payload.length < headerLen (byteAt f.payload 0)) →
      ∃ t, exec (.onpelFrame p f) s = .next t ∧ t.num K.NET_DROPPED = inc32 (s.num K.NET_DROPPED) ∧
        Frame [K.NET_DROPPED] [] s t) ∧
    (f.etherType = 0x88B5 → f.tags.length ≤ 1 → headerLen (byteAt f.payload 0) ≤ f.payload.length → byteAt f.payload 0 ≠ 1 →
      fieldAt f.payload 4 2 % 4096 ≠ s.num K.NODE_ADDR → fieldAt f.payload 4 2 % 4096 ≠ 0xFFF →
      ∃ t, exec (.onpelFrame p f) s = .next t ∧ Frame [] [] s t) ∧
    (f.etherType = 0x88B5 → f.tags.length ≤ 1 → netLenOk f = true → 16 ≤ f.payload.length → byteAt f.payload 0 = 2 →
      byteAt f.payload 1 = 1 → fieldAt f.payload 14 2 ≤ 1024 → fieldAt f.payload 4 2 % 4096 = s.num K.NODE_ADDR →
      s.num K.NODE_ADDR ≠ 0xFFF → s.flag K.VER_ENABLE 1 = true → serving s = true → s.mgmt.held = none →
      s.pwr.softReset = false →
      ∃ t g, exec (.onpelFrame p f) s = .next t ∧ Out.ether p f.mac f.tags.head? g ∈ t.out ∧ byteAt g 0 = 2 ∧
        byteAt g 1 = 0x81 ∧ replyTag 2 g = fieldAt f.payload 2 2 ∧ Frame [] answered s t)

/-- While no JTAG frame executes, a DICT_FRAME word without LAST discards an unread reply with the request before it,
and joins the request buffer, which is discarded when it exceeds 1,500 bytes; a word with LAST that completes a version
2 READ of 16 bytes is served and leaves its reply. While a frame executes a word is dropped. A capture takes the next
reply word with VALID, or none without, and BUSY says whether a frame executes. Test-Logic-Reset discards request and
reply and makes IDCODE the instruction (log entry 112). An instruction reaches its register; the boundary-scan register
takes its output cells under SAMPLE/PRELOAD, and IDCODE is captured as 0xB9612C3D. In recovery a RECOVERY word without
LAST joins the image, and a whole image that fails its checks is discarded with its status. Nothing else changes. Under
EXTEST or CLAMP with ALIVE control 1 the ALIVE lines are never both high, and outside recovery and the safe state
EXTEST, CLAMP and HIGHZ act as BYPASS while MGMT is set. -/
def Obligations.JtagDictionaryPort : Prop :=
  ∀ (s : State) (word : Nat), s.pwr.stopped = false → word < 2 ^ 34 →
    let old := if s.jtag.reply = [] then s.jtag.req else []
    let busy := if jtagBusy s = true then 2 ^ 33 else 0
    (jtagBusy s = false → bit word 32 = false →
      ∃ t, exec (.dictFrameUpdate word) s = .next t ∧ Frame [] [.jtag] s t ∧
        t.jtag = { s.jtag with reply := [], req := if 1500 < old.length + 4 then [] else old ++ leBytes 4 word }) ∧
    (jtagBusy s = false → bit word 32 = true → serving s = true → s.mgmt.held = none →
      s.pwr.softReset = false → s.flag K.VER_ENABLE 1 = true →
      let d := old ++ leBytes 4 word
      d.length = 16 → byteAt d 0 = 2 → byteAt d 1 = 1 → fieldAt d 14 2 ≤ 1024 →
      ∃ t f, exec (.dictFrameUpdate word) s = .next t ∧ Frame [] [.jtag, .mgmt] s t ∧
        t.jtag = { s.jtag with req := [], reply := words32 f } ∧
        byteAt f 0 = 2 ∧ byteAt f 1 = 0x81 ∧ replyTag 2 f = fieldAt d 2 2) ∧
    (jtagBusy s = true → ∃ t, exec (.dictFrameUpdate word) s = .next t ∧ Frame [] [] s t) ∧
    (∀ w r, s.jtag.reply = w :: r →
      ∃ t, exec .dictFrameCapture s = .next t ∧ t.jtag = { s.jtag with reply := r } ∧ Out.jtag (w + 2 ^ 32 + busy) ∈ t.out ∧
        Frame [] [.jtag, .out] s t) ∧
    (s.jtag.reply = [] → ∃ t, exec .dictFrameCapture s = .next t ∧ Out.jtag busy ∈ t.out ∧ Frame [] [.out] s t) ∧
    (∃ t, exec .testLogicReset s = .next t ∧ t.jtag = { s.jtag with req := [], reply := [], ir := 0x01 } ∧
      Frame [] [.jtag] s t) ∧
    (∀ code < 256, ∃ t, exec (.registerWrite (.jtagInstruction code)) s = .next t ∧ t.jtag = { s.jtag with ir := code } ∧
      Frame [] [.jtag] s t) ∧
    (s.jtag.ir = 0x02 → ∀ cells < 32, ∃ t, exec (.registerWrite (.scanUpdate cells)) s = .next t ∧
      t.jtag = { s.jtag with cells := cells / 4 } ∧ Frame [] [.jtag] s t) ∧
    (s.jtag.ir = 0x01 → ∃ t, exec (.registerWrite .scanCapture) s = .next t ∧ Out.jtag 0xB9612C3D ∈ t.out ∧
      Frame [] [.out] s t) ∧
    (s.pwr.recovery = true → bit word 32 = false →
      ∃ t, exec (.recoveryWord word) s = .next t ∧ t.jtag = { s.jtag with image := s.jtag.image ++ leBytes 4 word } ∧
        Frame [] [.jtag] s t) ∧
    (s.pwr.recovery = true → bit word 32 = true → fwCheck s (s.jtag.image ++ leBytes 4 word) ≠ 0 →
      ∃ t, exec (.recoveryWord word) s = .next t ∧
        t.jtag = { s.jtag with image := [], status := some (fwCheck s (s.jtag.image ++ leBytes 4 word)) } ∧
        Frame [] [.jtag] s t) ∧
    ((jtagInstr s = 0x00 ∨ jtagInstr s = 0x04) → bit s.jtag.cells 2 = true → alivePins s ≠ some (true, true)) ∧
    (s.flag K.READY 0 = true → s.pwr.recovery = false → s.num K.SAFE ≠ 1 →
      (s.jtag.ir = 0x00 ∨ s.jtag.ir = 0x03 ∨ s.jtag.ir = 0x04) → jtagInstr s = 0xFF)

/-- An accepted write of 0x7A1C to KEY_UNLOCK makes one unlock pending for the port it came by; the lapse re-arms the
lock. An accepted write of LOCK_SET sets the bits written 1 and clears none. An accepted write of an authority object
gives the port its class, a pending unlock of that port lapses where the class changes, and a function's copy of its
class follows. VER_ENABLE takes its implemented bits. SIG_REF takes the value and SIG_VALID is set. Each clears
SIG_CURRENT, and no other object and no unit changes. -/
def Obligations.KeyAndLocks : Prop :=
  ∀ (s : State) (v : Via) (n : Nat),
    (AcceptedKey s v K.KEY_UNLOCK n → n < 65536 → ∃ t, exec (.keyUnlock v n) s = .next t ∧ n = 0x7A1C ∧
      t.num K.UNLOCK_STATE = (askerVia s v).port ∧ t.num K.SIG_CURRENT = 0 ∧
      Frame [K.UNLOCK_STATE, K.SIG_CURRENT] answered s t) ∧
    (s.pwr.stopped = false → ∃ t, exec .unlockLapse s = .next t ∧ t.num K.UNLOCK_STATE = 0 ∧ Frame [K.UNLOCK_STATE] [] s t) ∧
    (AcceptedKey s v K.LOCK_SET n → n < 2 ^ 32 → ∃ t, exec (.lockSet v n) s = .next t ∧
      (∀ b < 8, bit (t.num K.LOCK_SET) b = (bit (s.num K.LOCK_SET) b || bit n b)) ∧ t.num K.SIG_CURRENT = 0 ∧
      Frame [K.LOCK_SET, K.SIG_CURRENT] answered s t) ∧
    (∀ port, 1 ≤ port → port ≤ 5 → Accepted s v 0x1F00 port (leBytes 1 n) → n < 256 →
      ∃ t, exec (.authWrite v port n) s = .next t ∧ t.num (objKey 0x1F00 port) = n % 8 ∧ t.num K.SIG_CURRENT = 0 ∧
        t.num K.UNLOCK_STATE = (if n % 8 ≠ s.num (objKey 0x1F00 port) ∧ s.num K.UNLOCK_STATE = port then 0 else s.num K.UNLOCK_STATE) ∧
        (∀ pf < 2, (if port = pf + 1 then { s.pf pf with cls := n % 8 } else s.pf pf).Same true (t.pf pf)) ∧
        Frame [objKey 0x1F00 port, K.UNLOCK_STATE, K.SIG_CURRENT] (.fns :: answered) s t) ∧
    (AcceptedKey s v K.VER_ENABLE n → n < 256 → ∃ t, exec (.verEnable v n) s = .next t ∧ t.num K.VER_ENABLE = n % 8 ∧
      bit n 1 = true ∧ t.num K.SIG_CURRENT = 0 ∧ Frame [K.VER_ENABLE, K.SIG_CURRENT] answered s t) ∧
    (AcceptedKey s v K.SIG_REF n → n < 2 ^ 32 → ∃ t, exec (.sigRef v n) s = .next t ∧ t.num K.SIG_REF = n ∧
      t.num K.SIG_VALID = 1 ∧ t.num K.SIG_CURRENT = 0 ∧ Frame [K.SIG_REF, K.SIG_VALID, K.SIG_CURRENT] answered s t)

/-- A frame's write, of any version, of a 16-bit value other than 0x7A1C to KEY_UNLOCK, which the authority of its port
permits, increments KEY_FAILS and raises fault source 0x7F, changes no other object and no unit, and its reply, where
one is asked for, carries code 6. A BAR2 write does the same and is recorded with code 6. -/
def Obligations.WrongKeyRaisesAFault : Prop :=
  ∀ (s : State) (v : Via) (n : Nat), Reaches s v 0x1201 1 (leBytes 2 n) → n < 65536 → n ≠ 0x7A1C →
    gateCode s (askerVia s v) (viaV1 v) 0x1201 1 = 0 →
    ∃ t, exec (.keyUnlock v n) s = .next t ∧ t.num K.KEY_FAILS = inc32 (s.num K.KEY_FAILS) ∧
      t.flt.arrived = s.flt.arrived ++ [(0x7F, false)] ∧
      (∀ a, v = .frame a → a.wf = true → Frame [K.KEY_FAILS] (.arrived :: answered) s t ∧
        (broadcast a = false → (a.noReply = false ∨ a.ver ≠ 2 ∧ a.ver ≠ 3) → ∃ f, RepliedOn s t a f ∧ RepliedWith a f 6)) ∧
      (∀ pf, v = .bar2 pf → t.num K.BAR_LAST_CODE = 6 ∧ t.num K.BAR_LAST = 0x120101 ∧
        t.num K.BAR_WR_REJECT = inc32 (s.num K.BAR_WR_REJECT) ∧
        Frame [K.KEY_FAILS, K.BAR_LAST, K.BAR_LAST_CODE, K.BAR_WR_REJECT] (.arrived :: answered) s t)

/-- A periodic scan sets a scan in progress. With no request held, a scan that completes leaves the signature of the
present values in SIG_LIVE and SIG_CURRENT 1; where SIG_VALID is 1, SIG_MISMATCH says whether SIG_LIVE and SIG_REF
differ, and its change from 0 to 1 counts in SIG_MISMATCHES and raises fault source 0x76. An accepted write of 1 to
SIG_COMMIT starts a scan, holds its request and copies nothing yet. Nothing else changes. -/
def Obligations.SignatureScans : Prop :=
  ∀ (s : State), s.pwr.stopped = false →
    (s.flag K.READY 0 = true → ∃ t, exec .sigScanStart s = .next t ∧ t.mgmt = { s.mgmt with scanning := true } ∧ Frame [] [.mgmt] s t) ∧
    (s.mgmt.scanning = true → serving s = true → s.mgmt.held = none →
      let m := s.num K.SIG_VALID ≠ 0 ∧ signature s ≠ s.num K.SIG_REF
      ∃ t, exec .sigScanComplete s = .next t ∧ t.num K.SIG_LIVE = signature s ∧ t.num K.SIG_CURRENT = 1 ∧
        t.mgmt = { s.mgmt with scanning := false, mismatch := if s.num K.SIG_VALID = 0 then s.mgmt.mismatch else decide m } ∧
        (m → s.mgmt.mismatch = false → t.num K.SIG_MISMATCHES = inc32 (s.num K.SIG_MISMATCHES) ∧
          t.flt.arrived = s.flt.arrived ++ [(0x76, false)]) ∧
        (¬m ∨ s.mgmt.mismatch = true → t.num K.SIG_MISMATCHES = s.num K.SIG_MISMATCHES ∧ t.flt = s.flt) ∧
        Frame [K.SIG_LIVE, K.SIG_CURRENT, K.SIG_MISMATCHES] [.mgmt, .arrived] s t) ∧
    (∀ v, AcceptedKey s v K.SIG_COMMIT 1 → ∃ t, exec (.sigCommit v) s = .next t ∧ t.mgmt.held.isSome = true ∧
      t.mgmt.scanning = true ∧ t.num K.SIG_COMMIT = 1 ∧ t.num K.SIG_CURRENT = 0 ∧
      Frame [K.SIG_COMMIT, K.SIG_CURRENT] answered s t)

/-- An Onpel Link port whose READY bit is set and that goes down clears it and raises its fault source; an uncorrectable
AER error while D05 is not off raises fault source 0x7A. Nothing else changes. -/
def Obligations.LinksAndAerErrors : Prop :=
  ∀ s : State, s.pwr.stopped = false →
    (∀ p < 2, s.flag K.READY (7 + p) = true → ∃ t, exec (.onpelLinkPortDown p) s = .next t ∧
      t.flag K.READY (7 + p) = false ∧ t.flt.arrived = s.flt.arrived ++ [(0x7B, false)] ∧ Frame [K.READY] [.arrived] s t) ∧
    (domState s 5 ≠ 0 → ∃ t, exec .aerUncorrectableError s = .next t ∧
      t.flt.arrived = s.flt.arrived ++ [(0x7A, false)] ∧ Frame [] [.arrived] s t)

/-- When the granule due holds VEC, TSET or MARK and is issued, ISSUES counts one more, the granule is the last one
issued, and control goes to the next granule, or at the end of its segment to the fall-through successor, unless a jump
request lands; the stacks stand otherwise. TSET makes its timing set the active one of the stream compare pins of the
tiles it selects. MARK sends a pulse of its marker, with its tick, to the TMUs of the tiles it selects, whose
measurements alone change with it. Objects other than the counters of issues and landings, those of the cistern queue
and those of tiles and channels, all memory, and every unit that does not play stand. -/
def Obligations.VecTsetMarkIssue : Prop :=
  ∀ (s : State) (io : Io) (w : Nat) (g : Granule), IssueDue s io w g →
    (vecClass w = true → ∃ t, exec (.vec io) s = .next t ∧ Issued io g s t ∧ GoesOn 7 s t ∧ Frame issueKeys issueParts s t) ∧
    (w % 256 = 0x0A → ∃ t, exec (.tset io) s = .next t ∧ Issued io g s t ∧ GoesOn 7 s t ∧ Frame issueKeys issueParts s t ∧
      ∀ c < 96, bit (field w 27 16) (tileOf c) = true → (roleOf s c = 3 ∨ roleOf s c = 4 ∨ roleOf s c = 6) →
        (t.chan c).tset = field w 13 8) ∧
    (w % 256 = 0x0D → ∃ t, exec (.mark io) s = .next t ∧ Issued io g s t ∧ GoesOn 7 s t ∧ Frame markKeys markParts s t ∧
      Out.marker (field w 9 8) (s.num K.ISSUES) (field w 21 16) (field w 43 32) ∈ t.out ∧
      ∀ c < 96, bit (field w 43 32) (tileOf c) = false → t.tmu c = s.tmu c)

/-- An EYE granule that is issued counts and goes on as VEC does. With CAP_MODE EYE, START puts the raster at point 0,
RUNNING; while it is RUNNING, ADVANCE goes to the next point, or to DONE after the last one, and STOP ends it. In any
other case the action is counted in R_STRAY and the raster stands. -/
def Obligations.EyeStepsTheRaster : Prop :=
  ∀ (s : State) (io : Io) (w : Nat) (g : Granule), IssueDue s io w g → w % 256 = 0x0E →
    (field w 9 8 = 0 → ∃ t, exec (.eyeStart io) s = .next t ∧ Issued io g s t ∧ GoesOn 7 s t ∧
      Frame (eyeKeys ++ issueKeys) issueParts s t ∧
      (s.num K.CAP_MODE = 3 → t.num K.R_STATE = 1 ∧ t.num K.R_POINT = 0) ∧
      (s.num K.CAP_MODE ≠ 3 → t.num K.R_STRAY = inc32 (s.num K.R_STRAY) ∧ t.num K.R_STATE = s.num K.R_STATE ∧
        t.num K.R_POINT = s.num K.R_POINT)) ∧
    (field w 9 8 = 1 → ∃ t, exec (.eyeAdvance io) s = .next t ∧ Issued io g s t ∧ GoesOn 7 s t ∧
      Frame (eyeKeys ++ issueKeys) issueParts s t ∧
      (s.num K.CAP_MODE = 3 → s.num K.R_STATE = 1 → s.num K.R_POINT + 1 < s.num K.X_COUNT * s.num K.Y_COUNT →
        t.num K.R_STATE = 1 ∧ t.num K.R_POINT = s.num K.R_POINT + 1) ∧
      (s.num K.CAP_MODE = 3 → s.num K.R_STATE = 1 → s.num K.X_COUNT * s.num K.Y_COUNT ≤ s.num K.R_POINT + 1 →
        t.num K.R_STATE = 2) ∧
      (s.num K.CAP_MODE ≠ 3 ∨ s.num K.R_STATE ≠ 1 → t.num K.R_STRAY = inc32 (s.num K.R_STRAY) ∧
        t.num K.R_STATE = s.num K.R_STATE ∧ t.num K.R_POINT = s.num K.R_POINT)) ∧
    (field w 9 8 = 2 → ∃ t, exec (.eyeStop io) s = .next t ∧ Issued io g s t ∧ GoesOn 7 s t ∧
      Frame (eyeKeys ++ issueKeys) issueParts s t ∧
      (s.num K.CAP_MODE = 3 → s.num K.R_STATE = 1 → t.num K.R_STATE = 3) ∧
      (s.num K.CAP_MODE ≠ 3 ∨ s.num K.R_STATE ≠ 1 → t.num K.R_STRAY = inc32 (s.num K.R_STRAY) ∧
        t.num K.R_STATE = s.num K.R_STATE ∧ t.num K.R_POINT = s.num K.R_POINT))

/-- An issue of RPT before the last issues the granule again, counting the issues made of it; after issue N_M1 + 1 the
repeat is done and control goes on. HOLD issues again until a request is pending that has counted 8 issues, and then its
segment ends: the request lands, or with HOLDOFF control passes to the fall-through successor. -/
def Obligations.RptAndHoldRepeat : Prop :=
  (∀ (s : State) (io : Io) (w : Nat) (g : Granule), IssueDue s io w g →
    (w % 256 = 1 → ∃ t, exec (.rpt io) s = .next t ∧ Issued io g s t ∧ StacksStand s t ∧ Frame issueKeys issueParts s t ∧
      (s.seq.made ≠ field w 63 32 → IssuesAgain s t) ∧
      (s.seq.made = field w 63 32 → t.seq.wait = .repeatDone ∧ t.seq.seg = s.seq.seg ∧ t.seq.off = s.seq.off)) ∧
    (w % 256 = 9 → holdOver s = false → ∃ t, exec (.hold io) s = .next t ∧ Issued io g s t ∧ StacksStand s t ∧
      IssuesAgain s t ∧ Frame issueKeys issueParts s t)) ∧
  ∀ s : State, s.pwr.stopped = false → running s = true →
    (s.seq.wait = .repeatDone → ∃ t, exec .rptCountEnd s = .next t ∧ GoesOn 8 s t ∧ t.num K.ISSUES = s.num K.ISSUES ∧
      Frame [K.JUMPS_LANDED, K.RESTARTS] issueParts s t ∧ t.uc = s.uc ∧ (atLast s = false → t.seq.wait = .none)) ∧
    (∀ w, s.seq.wait = .none → dueWord s = some w → w % 256 = 9 → holdOver s = true →
      ∃ t, exec .holdEnd s = .next t ∧ GoesOn 8 s t ∧ t.num K.ISSUES = s.num K.ISSUES ∧
        Frame [K.JUMPS_LANDED, K.RESTARTS] issueParts s t ∧ t.uc = s.uc)

/-- A LOOP reached otherwise than through its loop-back pushes its remaining passes and its segment; reached through it,
it pushes nothing; either way control goes on. An ENDL with passes remaining counts one down and its segment ends for
START_SEG, entered by the loop-back; with none remaining it pops the entry and its segment ends for the fall-through
successor. A landing replaces either. -/
def Obligations.LoopAndEndl : Prop :=
  ∀ (s : State) (io : Io) (w : Nat) (g : Granule), IssueDue s io w g →
    (w % 256 = 2 → ∃ t, exec (.loop io) s = .next t ∧ Issued io g s t ∧
      GoesOnWith 7 (if s.seq.back then s.seq.loops else ⟨field w 63 32, s.seq.seg⟩ :: s.seq.loops) s t ∧
      Frame (headKeys ++ issueKeys) issueParts s t) ∧
    (∀ e r, w % 256 = 3 → s.seq.loops = e :: r → ∃ t, exec (.endl io) s = .next t ∧ Issued io g s t ∧
      (e.rem = 0 → Ends 7 (s.seq.after s.seq.seg) false r s.seq.calls s t) ∧
      (e.rem ≠ 0 → Ends 7 (some (field w 31 16)) true (⟨e.rem - 1, e.seg⟩ :: r) s.seq.calls s t) ∧
      Frame issueKeys issueParts s t)

/-- CALL pushes its segment's fall-through successor and goes to TARGET; RET pops the call stack and goes to the popped
segment; JMP goes to TARGET. The loop stack stands. A jump request that lands replaces each. -/
def Obligations.CallRetJmp : Prop :=
  ∀ (s : State) (io : Io) (w : Nat) (g : Granule), IssueDue s io w g →
    (w % 256 = 4 → ∃ t, exec (.call io) s = .next t ∧ Issued io g s t ∧ Frame issueKeys issueParts s t ∧
      Ends 7 (some (field w 31 16)) false s.seq.loops (s.seq.after s.seq.seg :: s.seq.calls) s t) ∧
    (∀ n r, w % 256 = 5 → s.seq.calls = n :: r → ∃ t, exec (.ret io) s = .next t ∧ Issued io g s t ∧
      Frame issueKeys issueParts s t ∧ Ends 7 n false s.seq.loops r s t) ∧
    (w % 256 = 6 → ∃ t, exec (.jmp io) s = .next t ∧ Issued io g s t ∧ Frame issueKeys issueParts s t ∧
      Ends 7 (some (field w 31 16)) false s.seq.loops s.seq.calls s t)

/-- JIF samples its condition in the cycle of its issue and restarts at TARGET when the test holds, and otherwise goes
on. MATCH goes on when its test holds; otherwise it issues again, or after its last permitted issue waits for its
timeout, which sets MATCH_TIMEOUT and restarts at TARGET. A landing replaces each. -/
def Obligations.JifAndMatch : Prop :=
  (∀ (s : State) (io : Io) (w : Nat) (g : Granule), IssueDue s io w g →
    (w % 256 = 7 → ∃ t, exec (.jif io) s = .next t ∧ Issued io g s t ∧ Frame issueKeys issueParts s t ∧
      (testNow s io w = true → Branches 7 (field w 31 16) s t) ∧ (testNow s io w = false → GoesOn 7 s t)) ∧
    (w % 256 = 8 → ∃ t, exec (.matchOp io) s = .next t ∧ Issued io g s t ∧ Frame issueKeys issueParts s t ∧
      (testNow s io w = true → GoesOn 7 s t) ∧
      (testNow s io w = false → s.seq.made ≠ field w 63 32 → IssuesAgain s t ∧ StacksStand s t) ∧
      (testNow s io w = false → s.seq.made = field w 63 32 → t.seq.wait = .timedOut ∧ t.seq.seg = s.seq.seg ∧
        t.seq.off = s.seq.off ∧ StacksStand s t))) ∧
  ∀ (s : State) (w : Nat), s.pwr.stopped = false → running s = true → s.seq.wait = .timedOut → dueWord s = some w →
    w % 256 = 8 → ∃ t, exec .matchTimeout s = .next t ∧ t.flag K.SEQ_FLAGS 0 = true ∧ Branches 8 (field w 31 16) s t ∧
      t.num K.ISSUES = s.num K.ISSUES ∧ Frame [K.SEQ_FLAGS, K.JUMPS_LANDED, K.RESTARTS] issueParts s t

/-- SYNCW goes on when a MARK message with its MARK_ID has arrived since its first issue; otherwise it issues again, or
after its last permitted issue waits for its timeout, which sets SYNCW_TIMEOUT and restarts at TARGET. SYNCS queues one
MARK message to the module's own group, where the ring port is not off and its queue has room, and goes on as VEC does.
-/
def Obligations.SyncwAndSyncs : Prop :=
  (∀ (s : State) (io : Io) (w : Nat) (g : Granule), IssueDue s io w g →
    (w % 256 = 0x0B → ∃ t, exec (.syncw io) s = .next t ∧ Issued io g s t ∧ Frame issueKeys issueParts s t ∧
      (s.seq.markSeen = true → GoesOn 7 s t) ∧
      (s.seq.markSeen = false → s.seq.made ≠ field w 63 32 → IssuesAgain s t ∧ StacksStand s t) ∧
      (s.seq.markSeen = false → s.seq.made = field w 63 32 → t.seq.wait = .timedOut ∧ t.seq.seg = s.seq.seg ∧
        t.seq.off = s.seq.off ∧ StacksStand s t)) ∧
    (w % 256 = 0x0C → ∃ t, exec (.syncs io) s = .next t ∧ Issued io g s t ∧ GoesOn 7 s t ∧
      Frame ([K.RING_CAUSE, K.DROPS] ++ issueKeys) (.ring :: issueParts) s t ∧
      (s.num K.RING_STATE ≠ 0 → s.ring.queue.length < 32 →
        t.ring = { s.ring with queue := s.ring.queue ++ [ringOwn s 4 (s.num K.SIG_GROUP % 64) (field w 15 8) 0 0] }))) ∧
  ∀ (s : State) (w : Nat), s.pwr.stopped = false → running s = true → s.seq.wait = .timedOut → dueWord s = some w →
    w % 256 = 0x0B → ∃ t, exec .syncwTimeout s = .next t ∧ t.flag K.SEQ_FLAGS 1 = true ∧ Branches 8 (field w 31 16) s t ∧
      t.num K.ISSUES = s.num K.ISSUES ∧ Frame [K.SEQ_FLAGS, K.JUMPS_LANDED, K.RESTARTS] issueParts s t

/-- HALT issues, and the burst ends with cause 0x20 and its HALT_CODE. After an issue that chose the missing successor
the burst ends with cause 9, naming that issue's granule. An instruction of any opcode that is a program error is not
issued: the burst ends with its cause, naming its granule. Each end leaves SEQ_STATE DRAINING, empties what was to be
played, discards a pending request, and parks the pins; fault source 0x70 is raised by the last two. -/
def Obligations.BurstEnds : Prop :=
  (∀ (s : State) (io : Io) (w : Nat) (g : Granule), IssueDue s io w g → w % 256 = 0x0F →
    ∃ t, exec (.halt io) s = .next t ∧ Stopped 0x20 t ∧ t.num K.HALT_CODE = field w 15 8 ∧
      t.num K.ISSUES = (s.num K.ISSUES + 1) % 2 ^ 64 ∧ Frame (K.HALT_CODE :: (endKeys ++ issueKeys)) endParts s t) ∧
  (∀ (s : State) (g : Granule), s.pwr.stopped = false → running s = true → s.seq.wait = .fallOff → s.seq.last = some g →
    ∃ t, exec .fallOff s = .next t ∧ Stopped 9 t ∧ t.num K.ERR_GRANULE = s.seq.index g.seg g.off ∧
      t.num K.ERR_SEGMENT = g.seg ∧ (0x70, false) ∈ t.flt.arrived ∧
      Frame (K.ERR_GRANULE :: K.ERR_SEGMENT :: endKeys) endParts s t) ∧
  ∀ (s : State) (io : Io) (w c : Nat), s.pwr.stopped = false → running s = true → s.seq.wait = .none →
    s.uc.routine = none → deferDue s = false → dueWord s = some w → (w % 256 = 9 → holdOver s = false) →
    programCause s w = some c →
    ∃ t, exec (issueCmd io w) s = .next t ∧ Stopped c t ∧ t.num K.ERR_GRANULE = s.seq.index s.seq.seg s.seq.off ∧
      t.num K.ERR_SEGMENT = s.seq.seg ∧ t.num K.ISSUES = s.num K.ISSUES ∧ (0x70, false) ∈ t.flt.arrived ∧
      Frame (K.ERR_GRANULE :: K.ERR_SEGMENT :: endKeys) endParts s t

/-- A user opcode whose entry is populated issues and runs the word at its entry in the same cycle; each shadow granule
issues and runs the next word of the routine; an opcode whose dispatch entry a patch has overwritten runs the word
there. A word with END set leaves no routine in progress, a word without it, of a sequential step, the next
micro-address where that lies in the customer region; control goes on, or with ISSUE SAME the same granule issues again.
At the last granule of a segment the routine is cut instead, which UR_CUT counts. Words that end the burst or branch are
not these. -/
def Obligations.UserOpcodesAndShadowGranules : Prop :=
  ∀ (s : State) (io : Io) (u : Nat), field u 111 108 ≠ 3 → field u 23 22 ≠ 2 →
    let Runs (g : Granule) (t : State) : Prop :=
      t.num K.ISSUES = (s.num K.ISSUES + 1) % 2 ^ 64 ∧ t.seq.last = some g ∧ Frame wordKeys wordParts s t ∧
      (field u 23 22 ≠ 1 → GoesOn 7 s t) ∧ (field u 23 22 = 1 → IssuesAgain s t)
    (∀ w g, IssueDue s io w g → 0xE0 ≤ w % 256 →
      let pc := 0x1800 + (w % 256 - 0xE0)
      microWord s pc = u →
      (bit u 24 = true → ∃ t, exec (.userOpcode io) s = .next t ∧ t.uc.routine = none ∧ t.uc.operand = w >>> 8 ∧ Runs g t) ∧
      (bit u 24 = false → field u 15 13 = 0 → ∃ t, exec (.userOpcode io) s = .next t ∧
        t.uc.routine = some (pc + 1) ∧ t.uc.operand = w >>> 8 ∧ Runs g t)) ∧
    (∀ w g, GranuleIssues s io w g → (w % 256 = 9 → holdOver s = false) → (aFind s.uc.dispatch (w % 256)).isSome = true →
      microWord s (dispatchEntry s (w % 256)) = u → bit u 24 = true →
      ∃ t, exec (issueCmd io w) s = .next t ∧ t.uc.routine = none ∧ t.uc.operand = w >>> 8 ∧ Runs g t) ∧
    (∀ pc, s.pwr.stopped = false → running s = true → s.seq.wait = .none → deferDue s = false → s.uc.routine = some pc →
      (atLast s = true → ∃ t, exec (.shadowGranule io) s = .next t ∧ t.num K.UR_CUT = inc32 (s.num K.UR_CUT) ∧
        t.uc = { s.uc with routine := none, deferred := none } ∧ Frame [K.UR_CUT] [.uc] s t) ∧
      (∀ g, atLast s = false → dueGranule s = some g → io.uc ≠ 2 → microWord s pc = u →
        (bit u 24 = true → ∃ t, exec (.shadowGranule io) s = .next t ∧ t.uc.routine = none ∧ Runs g t) ∧
        (bit u 24 = false → field u 15 13 = 0 → 0x1800 ≤ pc → pc + 1 ≤ 0x1FFF →
          ∃ t, exec (.shadowGranule io) s = .next t ∧ t.uc.routine = some (pc + 1) ∧ Runs g t)))

/-- An accepted RUN, and a permitted write of 1 to SEQ_RUN in IDLE, set SEQ_STATE to LOADING and SC_MODE of every
channel to NORMAL; a channel in NORMAL already stands. An accepted HALT, and a permitted write of 1 to SEQ_HALT, end a
running burst with cause 0x21, or 9 where it falls off at that boundary; they return LOADING and ARMED to IDLE,
discarding a scheduled start, wait for the handlers of a trap, and in any other state have no effect. A run request
outside IDLE through SEQ_RUN counts in RUN_DISCARDED alone, and so does one that a 64-bit write brings together with a
halt. -/
def Obligations.RunAndHaltRequests : Prop :=
  (∀ (s : State) (v : Via), AcceptedKey s v K.SEQ_CMD 1 → ∃ t, exec (.run v) s = .next t ∧ t.num K.SEQ_STATE = 2 ∧
    (∀ c < 96, t.num (atCh K.SC_MODE c) = 0 ∧ (s.num (atCh K.SC_MODE c) = 0 → t.chan c = s.chan c)) ∧
    t.seq = { s.seq with loaded := false } ∧
    Frame (K.SEQ_STATE :: K.SIG_CURRENT :: chKeys [K.SC_MODE, K.BAND_PRESETS] (List.range 96)) (.seq :: .chans :: answered) s t) ∧
  (∀ (s : State) (pf value : Nat), s.pwr.stopped = false → barOpen s = true → pf < 2 → barPermit s pf = true → value < 2 ^ 32 →
    bit value 0 = true →
    (s.num K.SEQ_STATE = 1 → ∃ t, exec (.seqRun pf value) s = .next t ∧ t.num K.SEQ_STATE = 2 ∧
      (∀ c < 96, t.num (atCh K.SC_MODE c) = 0 ∧ (s.num (atCh K.SC_MODE c) = 0 → t.chan c = s.chan c)) ∧
      t.seq = { s.seq with loaded := false } ∧
      Frame (K.SEQ_STATE :: chKeys [K.SC_MODE, K.BAND_PRESETS] (List.range 96)) [.seq, .chans] s t) ∧
    (s.num K.SEQ_STATE ≠ 1 → ∃ t, exec (.seqRun pf value) s = .next t ∧
      t.num K.RUN_DISCARDED = inc32 (s.num K.RUN_DISCARDED) ∧ Frame [K.RUN_DISCARDED] [] s t) ∧
    (∃ t, exec (.seqHalt pf value) s = .next t ∧ Halts 0x21 [] [] s t) ∧
    (s.num K.SEQ_STATE = 1 → ∃ t, exec (.registerWrite (.bar0Write pf 0x2000 (leBytes 4 value ++ leBytes 4 1))) s = .next t ∧
      t.num K.RUN_DISCARDED = inc32 (s.num K.RUN_DISCARDED) ∧ Frame [K.RUN_DISCARDED] [] s t)) ∧
  ∀ (s : State) (v : Via), AcceptedKey s v K.SEQ_CMD 2 →
    ∃ t, exec (.haltRequest v) s = .next t ∧ Halts 0x21 [K.SIG_CURRENT] answered s t

/-- LOADING with nothing to wait for checks the image in order and returns to IDLE with the cause of the first check
that fails; with all of them passed it loads the entry segment and the table, the heads' order and ENTRY's primed
targets, fetches at most START_FILL granules, notes whether the cistern region is short, and stays LOADING; while it is
held nothing changes. Once loaded the sequencer is ARMED with START_MODE 1, and otherwise RUNNING with ISSUES, RESTARTS,
TRAP_CYCLES and the capture's record objects at their start values, every first-fail record empty and, unless CAP_CTRL
keeps them, every channel's error, judgement and invalid counts and flags 0. No byte of memory changes. -/
def Obligations.LoadingToRunning : Prop :=
  (∀ s : State, s.pwr.stopped = false → s.num K.SEQ_STATE = 2 → s.seq.loaded = false →
    (loadingHeld s = true → ∀ ups, ∃ t, exec (.loadingBegin ups) s = .next t ∧ Frame [] [] s t) ∧
    (loadingHeld s = false →
      let a := s.num K.IMAGE_ADDR
      let h := imageHeader s a
      let ta := a + fieldAt h 24 8
      let tn := fieldAt h 8 4 * 16
      let refused (c : Nat) : Prop := ∃ t, exec (.loadingBegin []) s = .next t ∧ t.num K.SEQ_STATE = 1 ∧
        t.num K.END_CAUSE = c ∧ t.flag K.ATTN_EVENTS 11 = true ∧ Frame [K.SEQ_STATE, K.END_CAUSE, K.ATTN_EVENTS] [] s t
      (a % 4096 ≠ 0 ∨ inRegion s.mem 0 a 256 = false → refused 0x17) ∧
      (a % 4096 = 0 → inRegion s.mem 0 a 256 = true →
        (runDomainsOk s = false → refused 0x18) ∧
        (runDomainsOk s = true → badBlock s.mem a 256 = none →
          (headerOk h = false → refused 0x10) ∧
          (headerOk h = true → inRegion s.mem 0 a (fieldAt h 48 8) = false → refused 0x17) ∧
          (headerOk h = true → inRegion s.mem 0 a (fieldAt h 48 8) = true → badBlock s.mem ta tn = none →
            (∀ c, tn ≠ 0 → imageCheck s a h (memRead s.mem ta tn) = some c → refused c) ∧
            (imageCheck s a h (memRead s.mem ta tn) = none →
              ∃ t, exec (.loadingBegin []) s = .next t ∧ t.num K.SEQ_STATE = 2 ∧ t.seq.loaded = true ∧ t.seq.image = a ∧
                t.seq.segs = parseSegs (memRead s.mem ta tn) (fieldAt h 8 4) ∧ t.seq.fetchCh = fetchChannels s ∧
                t.seq.entrySeg = fieldAt h 12 2 ∧ t.seq.seg = t.seq.entrySeg ∧ t.seq.off = 0 ∧ t.seq.loops = [] ∧
                t.seq.calls = [] ∧ t.seq.jump = none ∧ t.seq.headOrder = headOrder t.seq ∧
                t.seq.stream.length ≤ s.num K.START_FILL ∧
                (∃ p, t.seq.primed = [p] ∧ p.owner = 1 ∧
                  p.targets.map (·.seg) = (t.seq.segAt t.seq.entrySeg).tgts ∧ ∀ x ∈ p.targets, x.ready = true) ∧
                t.cis = { s.cis with short := cisShort s } ∧ (∀ i < 12, t.num (atTile K.WH_MIN i) = 2032) ∧
                (cisShort s = true → t.flag K.CAP_FLAGS 0 = true ∧ t.flag K.CAP_FLAGS 3 = true) ∧
                (cisShort s = false → t.num K.CAP_FLAGS = s.num K.CAP_FLAGS) ∧
                (∀ x, memByte t.mem x = memByte s.mem x) ∧
                Frame (K.CAP_FLAGS :: tileKeys [K.WH_MIN] (List.range 12) ++ fetchKeys) (.cis :: fetchParts) s t)))))) ∧
  ∀ s : State, s.pwr.stopped = false → s.num K.SEQ_STATE = 2 → s.seq.loaded = true →
    (s.num K.START_MODE = 1 → ∃ t, exec .loadingComplete s = .next t ∧ t.num K.SEQ_STATE = 3 ∧
      t.flag K.ATTN_EVENTS 11 = true ∧ Frame [K.SEQ_STATE, K.ATTN_EVENTS] [] s t) ∧
    (s.num K.START_MODE ≠ 1 → ∃ t, exec .loadingComplete s = .next t ∧ BurstBegun (now16 s) [] s t)

/-- Once no captured issue waits, DRAINING ends: SEQ_STATE is IDLE and EV_BURST is set; while one waits nothing changes.
When D02, D03 or D04 turns off, or TICK stops, in LOADING, ARMED or RUNNING, the sequencer stops: in IDLE, or in OFF
where D03 is off, with cause 0x18 in LOADING and 0x23 otherwise; from ARMED and RUNNING a scheduled start is discarded,
the cistern queue is lost, CAP_DONE sets and the pins park. In any other state the command has no effect. -/
def Obligations.DrainingAndDomainLoss : Prop :=
  (∀ s : State, s.pwr.stopped = false → s.num K.SEQ_STATE = 5 →
    (capsWaiting s = false → ∃ t, exec .drainingEnd s = .next t ∧ t.num K.SEQ_STATE = 1 ∧ t.flag K.ATTN_EVENTS 11 = true ∧
      Frame [K.SEQ_STATE, K.ATTN_EVENTS] [] s t) ∧
    (capsWaiting s = true → ∃ t, exec .drainingEnd s = .next t ∧ Frame [] [] s t)) ∧
  ∀ (s : State) (d : Nat), s.pwr.stopped = false →
    (s.num K.SEQ_STATE ∈ [2, 3, 4] → ∃ t, exec (.domainLossDuringBurst d) s = .next t ∧
      t.num K.SEQ_STATE = (if d = 3 ∨ domState s 3 = 0 then 0 else 1) ∧
      t.num K.END_CAUSE = (if s.num K.SEQ_STATE = 2 then 0x18 else 0x23) ∧
      (d ∈ [2, 3, 4] → domState t d = 0) ∧ (d ∉ [2, 3, 4] → t.num K.TICK_STATE = 0) ∧
      (s.num K.SEQ_STATE ≠ 2 → t.num K.SCHED = 2 ^ 64 - 1 ∧ t.num K.CQ_LEVEL = 0 ∧ t.cis.queue = [] ∧ t.cis.caps = [] ∧
        t.cis.summaryDue = false ∧ t.flag K.CAP_FLAGS 4 = true ∧ Out.park ∈ t.out ∧ t.seq.jump = none ∧ t.uc.trap = none) ∧
      Frame offKeys offParts s t) ∧
    (s.num K.SEQ_STATE ∉ [2, 3, 4] → ∃ t, exec (.domainLossDuringBurst d) s = .next t ∧ Frame [] [] s t)

/-- An accepted JUMP_REQ, and a permitted write of SEQ_JUMP with bit 31 for a valid entry while RUNNING, latch the
request for their entry with D counting from 0, replacing and counting one that was pending, and begin a new fill of the
jump reserve for its target; beside a ring request of the same cycle they are themselves the one replaced. A request
through SEQ_JUMP outside RUNNING, or for an entry that is not valid, is counted in JUMPS_REJECTED alone. When the
reserve has filled it holds the first 16 granules of its target. No byte of memory changes. -/
def Obligations.JumpRequests : Prop :=
  (∀ (s : State) (v : Via) (n : Nat), n < 256 → AcceptedKey s v K.JUMP_REQ n →
    ∃ t, exec (.jumpReq v n) s = .next t ∧ JumpLatched (n % 16) false s t ∧
      Frame [K.JUMPS_REPLACED, K.SIG_CURRENT] (.seq :: answered) s t) ∧
  (∀ (s : State) (pf value : Nat), s.pwr.stopped = false → barOpen s = true → pf < 2 → barPermit s pf = true → value < 2 ^ 32 →
    bit value 31 = true →
    (s.num K.SEQ_STATE = 4 → bit s.seq.jtValid (value % 16) = true → ∃ t, exec (.seqJump pf value) s = .next t ∧
      JumpLatched (value % 16) false s t ∧ Frame [K.JUMPS_REPLACED] [.seq] s t) ∧
    (s.num K.SEQ_STATE ≠ 4 ∨ bit s.seq.jtValid (value % 16) = false → ∃ t, exec (.seqJump pf value) s = .next t ∧
      t.num K.JUMPS_REJECTED = inc32 (s.num K.JUMPS_REJECTED) ∧ Frame [K.JUMPS_REJECTED] [] s t)) ∧
  ∀ (s : State) (r : Reserve), s.pwr.stopped = false → fetching s = true → s.seq.reserve = some r → r.ready = false →
    ∀ ups, ∃ t x, exec (.jumpReserveFilled ups) s = .next t ∧ t.seq.reserve = some x ∧ x.seg = r.seg ∧ x.ready = true ∧
      (ups = [] → FirstGranules s r.seg x.data) ∧ Frame fetchKeys fetchParts s t ∧ (∀ a, memByte t.mem a = memByte s.mem a)

/-- While granules are fetched, data in flight reach all tiles but those named late, and a fetch that nothing stops
brings one granule, the one at the front, to the end of the stream: the loop cache's copy where one is held, else as the
image has it; never more granules than asked for, nor so that more than 2,032 wait. The start of priming gives the next
waiting segment entry a set of its targets where one is free. A target that is primed holds its first 16 granules. A
reload that is due, with the loop cache ready and outside OFF and LOADING, leaves only heads that have a place in the
load order, and reports them; otherwise it changes nothing. No byte of memory changes, and no other unit. -/
def Obligations.FetchingAndPriming : Prop :=
  (∀ s : State, s.pwr.stopped = false → fetching s = true →
    (∀ late, s.seq.front.stopped = false → s.seq.side.length + s.seq.stream.length < 2032 →
      ∃ t g, exec (.granuleFetch 1 ⟨late, []⟩) s = .next t ∧
      t.seq.stream = s.seq.stream.map (fun x => { x with late := x.late.filter (late.filter (tileFetchesNow s)).contains }) ++ [g] ∧
      g.seg = s.seq.front.seg ∧ g.off = s.seq.front.off ∧ g.entry = s.seq.front.entry ∧
      (cachedAt s.seq = none →
        g.word = instrWord s (s.seq.index s.seq.front.seg s.seq.front.off) ∧ g.late = late.filter (tileFetchesNow s)) ∧
      (∀ x o, cachedAt s.seq = some (x, o) → g.word = x.word ∧ g.planes = x.planes ∧ g.lost = x.lost) ∧
      Frame fetchKeys fetchParts s t ∧ (∀ a, memByte t.mem a = memByte s.mem a)) ∧
    (∀ n late ups, ∃ t l, exec (.granuleFetch n ⟨late, ups⟩) s = .next t ∧ l.length ≤ n ∧
      t.seq.stream = s.seq.stream.map (fun x => { x with late := x.late.filter (late.filter (tileFetchesNow s)).contains }) ++ l ∧
      (l ≠ [] → t.seq.side.length + t.seq.stream.length ≤ 2032) ∧
      Frame fetchKeys fetchParts s t ∧ (∀ a, memByte t.mem a = memByte s.mem a)) ∧
    (∀ e seg r, s.seq.primeQueue = (e, seg) :: r → s.seq.primed.length < 2 → ∃ t, exec .primingStart s = .next t ∧
      t.seq = { s.seq with primeQueue := r,
                           primed := s.seq.primed ++ [⟨e, false, (s.seq.segAt seg).tgts.map (fun x => ⟨x, false, []⟩)⟩] } ∧
      Frame [] [.seq] s t)) ∧
  (∀ (s : State) (e k : Nat) (p : PrimeSet) (x : PrimeTarget), s.pwr.stopped = false → fetching s = true →
    s.seq.primed.find? (fun p => p.owner == e && !p.supplying) = some p → p.targets[k]? = some x → x.ready = false →
    ∀ ups, ∃ t y, exec (.primingComplete e k ups) s = .next t ∧
      (∃ p', t.seq.primed.find? (fun p => p.owner == e && !p.supplying) = some p' ∧ p'.targets[k]? = some y) ∧
      y.seg = x.seg ∧ y.ready = true ∧ (ups = [] → FirstGranules s x.seg y.data) ∧ Frame fetchKeys fetchParts s t ∧
      (∀ a, memByte t.mem a = memByte s.mem a)) ∧
  ∀ s : State, s.pwr.stopped = false →
    if s.seq.reload = true ∧ s.flag K.READY 4 = true ∧ s.num K.SEQ_STATE ≠ 0 ∧ s.num K.SEQ_STATE ≠ 2 then
      ∃ t, exec .headReload s = .next t ∧ t.seq.reload = false ∧ t.num K.HEADS_RESIDENT = t.seq.heads.length ∧
        t.num K.HEADS_TOTAL = s.seq.headOrder.length ∧ (∀ h ∈ t.seq.heads, h.seg ∈ s.seq.headOrder) ∧
        Frame fetchKeys fetchParts s t ∧ (∀ a, memByte t.mem a = memByte s.mem a)
    else ∃ t, exec .headReload s = .next t ∧ Frame [] [] s t

/-- While the burst runs, an issue that falls due without its instruction or its data, its instruction being no program
error, is not made: the burst ends with cause 0x24, DRY_SOURCE names the lowest of what was missing, ERR_GRANULE and
ERR_SEGMENT the granule, and LOOP_SNAPSHOT the loop stack; fault source 0x75 is raised unless the data were lost by the
loop cache. -/
def Obligations.DryWell : Prop :=
  ∀ (s : State) (c : Nat), s.pwr.stopped = false → running s = true → s.seq.wait = .none → dryCode s = some c →
    s.uc.routine.isSome = true ∨ judgeDue s = none →
    ∃ t, exec .drywell s = .next t ∧ Stopped 0x24 t ∧ t.num K.DRY_SOURCE = c ∧ t.num K.ISSUES = s.num K.ISSUES ∧
      t.num K.ERR_GRANULE = s.seq.index s.seq.seg s.seq.off ∧ t.num K.ERR_SEGMENT = s.seq.seg ∧
      t.blob K.LOOP_SNAPSHOT = loopSnapshot s ∧ (c ≠ 0x13 → (0x75, false) ∈ t.flt.arrived) ∧
      Frame ([K.DRY_SOURCE, K.ERR_GRANULE, K.ERR_SEGMENT, K.LOOP_SNAPSHOT] ++ endKeys) endParts s t

/-- A trap that can be taken saves the frame in two cycles that replay the hold granule and count in TRAP_CYCLES, clears
TRAP_PENDING, counts in TRAPS and has the handlers of its causes to run; the stream context waits. With a SNAP cause
alone and clean reads, its other cycles write SNAPSHOT from the frame, clear TRAP_CMD.SNAP, and replay the hold granule
for the handler's length and 2 cycles, which TRAP_CYCLES counts; then the stream context goes on where it stood, with
the micro-registers and flags of the frame, and ISSUES stands. A halt latched during it ends the burst once the handler
has run. A USER handler that overran is ended and counted, and the next handler follows. A deferral of 64 microwords is
cleared and counted. -/
def Obligations.MicroTraps : Prop :=
  (∀ (s : State) (ios : List Io), s.pwr.stopped = false → trapReady s = true → s.uc.haltAfter = none →
    ∃ t, exec (.trapTaken ios) s = .next t ∧ t.blob K.TRAP_FRAME = trapFrame s (s.num K.TRAP_PENDING) ∧
      t.num K.TRAP_PENDING = 0 ∧ t.num K.TRAPS = inc32 (s.num K.TRAPS) ∧
      t.num K.TRAP_CYCLES = (s.num K.TRAP_CYCLES + 2) % 2 ^ 64 ∧
      t.uc = { s.uc with trap := some ⟨s.num K.TRAP_PENDING, 2, setBits (s.num K.TRAP_PENDING) 4, 0, 0, s.uc.userVec, false,
        s.uc.u, s.uc.z, s.uc.n, s.uc.c⟩ } ∧
      t.seq = { s.seq with
        markSeen := s.seq.markSeen && decide (s.seq.made ≠ 0), cycle := s.seq.cycle + 2, replays := s.seq.replays + 2,
        cnt := t.seq.cnt, ringMark := t.seq.ringMark, ringTime := t.seq.ringTime } ∧
      t.flt = Faults.withArrived (if bit (s.num K.TRAP_PENDING) 0 then
        { s.flt with fenceNext := s.flt.fenceNext ++ s.flt.fenceWait, fenceWait := [] } else s.flt) t.flt ∧
      Frame [K.TRAP_FRAME, K.TRAP_PENDING, K.TRAPS, K.TRAP_CYCLES] [.units, .seq, .uc, .flt, .chans, .cis, .out] s t) ∧
  (∀ (s : State) (ios : List Io) (tr : Trap) (g : Granule), s.pwr.stopped = false → s.uc.trap = some tr → tr.gone = 2 →
    tr.todo = [2] → tr.ran = 0 → tr.restored = 0 → tr.overran = false → s.seq.last = some g → s.flt.fenceNext = [] →
    (∀ io ∈ ios, io.uc = 0) →
    (s.uc.haltAfter = none → ∃ t, exec (.trapResume ios) s = .next t ∧
      t.uc = { s.uc with trap := none, u := tr.u, z := tr.z, n := tr.n, c := tr.c } ∧
      t.num K.TRAP_CYCLES = (s.num K.TRAP_CYCLES + (handlerLen s 2 + 2)) % 2 ^ 64 ∧
      s.blob K.TRAP_FRAME <+: t.blob K.SNAPSHOT ∧ t.flag K.TRAP_CMD 0 = false ∧
      t.seq = { s.seq with cycle := s.seq.cycle + (handlerLen s 2 + 2), replays := s.seq.replays + (handlerLen s 2 + 2),
                           cnt := t.seq.cnt, ringMark := t.seq.ringMark, ringTime := t.seq.ringTime } ∧
      Frame [K.TRAP_CYCLES, K.SNAPSHOT, K.TRAP_CMD, K.FENCE_CMD] [.units, .seq, .uc, .chans, .cis, .arrived, .out] s t) ∧
    (∀ c, s.uc.haltAfter = some c → ∃ t, exec (.trapResume ios) s = .next t ∧ Stopped c t ∧
      t.num K.TRAP_CYCLES = (s.num K.TRAP_CYCLES + handlerLen s 2) % 2 ^ 64 ∧
      (s.flag K.TRAP_PENDING 2 = false → s.blob K.TRAP_FRAME <+: t.blob K.SNAPSHOT) ∧
      Frame (K.TRAP_CYCLES :: endKeys) (.uc :: endParts) s t)) ∧
  (∀ (s : State) (tr : Trap), s.pwr.stopped = false → s.uc.trap = some tr → tr.overran = true → s.uc.haltAfter = none →
    ∃ t, exec .trapOverrun s = .next t ∧ t.num K.TRAP_OVERRUNS = inc32 (s.num K.TRAP_OVERRUNS) ∧
      t.flag K.TRAP_CMD 1 = false ∧
      t.uc = { s.uc with trap := some { tr with overran := false, todo := tr.todo.tail, ran := 0 } } ∧
      Frame [K.TRAP_OVERRUNS, K.TRAP_CMD] [.uc] s t) ∧
  ∀ (s : State) (ios : List Io), s.pwr.stopped = false → running s = true → deferDue s = true → s.num K.TRAP_PENDING = 0 →
    ∃ t, exec (.deferOverrun ios) s = .next t ∧ t.num K.DEFER_OVERRUNS = inc32 (s.num K.DEFER_OVERRUNS) ∧
      t.uc = { s.uc with deferred := none } ∧ Frame [K.DEFER_OVERRUNS] [.uc] s t

/-- An accepted SNAP sets its pending cause while the burst runs, and in any other state writes SNAPSHOT at once, its
bit and its cause clear. An accepted USER sets its cause and takes UTRAP_VEC as it stands, unless one is pending. -/
def Obligations.TrapCommands : Prop :=
  ∀ (s : State) (v : Via),
    (AcceptedKey s v K.TRAP_CMD 1 →
      (s.num K.SEQ_STATE = 4 → ∃ t, exec (.snap v) s = .next t ∧ t.flag K.TRAP_PENDING 2 = true ∧
        t.flag K.TRAP_CMD 0 = true ∧ Frame [K.TRAP_PENDING, K.TRAP_CMD, K.SIG_CURRENT] answered s t) ∧
      (s.num K.SEQ_STATE ≠ 4 → ∃ t, exec (.snap v) s = .next t ∧
        t.blob K.SNAPSHOT = frameBytes s 0 (znc s) 0x04 0xFFFFFFFF 0xFFFF ++ snapTail s ∧
        t.flag K.TRAP_PENDING 2 = false ∧ t.flag K.TRAP_CMD 0 = false ∧
        Frame [K.SNAPSHOT, K.TRAP_PENDING, K.TRAP_CMD, K.SIG_CURRENT] answered s t)) ∧
    (AcceptedKey s v K.TRAP_CMD 2 →
      (s.flag K.TRAP_PENDING 3 = false → ∃ t, exec (.user v) s = .next t ∧ t.flag K.TRAP_PENDING 3 = true ∧
        t.flag K.TRAP_CMD 1 = true ∧ t.uc = { s.uc with userVec := s.num K.UTRAP_VEC } ∧
        Frame [K.TRAP_PENDING, K.TRAP_CMD, K.SIG_CURRENT] (.uc :: answered) s t) ∧
      (s.flag K.TRAP_PENDING 3 = true → ∃ t, exec (.user v) s = .next t ∧ Frame [K.SIG_CURRENT] answered s t))

/-- While D03 is on the scrubber steps to the next word, counts a corrected one, and for an uncorrectable one records
its address, clears SEQ of READY and raises fault source 0x71; while D03 is off it does nothing. An accepted CUST_CLEAR,
and UC_ENFORCE from 0 to 1, leave every word of the customer region 0 and UENTRY_MAP 0. An accepted CUST_LOAD stores the
words of the image at its base, every other customer word 0, and its entries. An accepted PATCH_INSTALL takes the
container and sets its busy bit, which clears when the write ends with INSTALL_STATUS; only a container that passes its
checks is written, to the slot that does not hold the newest patch. -/
def Obligations.ControlStoreCommands : Prop :=
  (∀ s : State, s.pwr.stopped = false →
    (∀ n, domState s 3 = 0 → ∃ t, exec (.scrubRead n) s = .next t ∧ Frame [] [] s t) ∧
    (domState s 3 ≠ 0 → s.uc.bad = [] →
      (∃ t, exec (.scrubRead 0) s = .next t ∧ t.uc = { s.uc with scrub := (s.uc.scrub + 1) % 0x2000 } ∧ Frame [] [.uc] s t) ∧
      (∃ t, exec (.scrubRead 1) s = .next t ∧ t.num K.UC_CORRECTED = inc32 (s.num K.UC_CORRECTED) ∧
        t.uc = { s.uc with scrub := (s.uc.scrub + 1) % 0x2000 } ∧ Frame [K.UC_CORRECTED] [.uc] s t) ∧
      (∃ t, exec (.scrubRead 2) s = .next t ∧ t.num K.UC_UNCORRECTED = inc32 (s.num K.UC_UNCORRECTED) ∧
        t.num K.UC_BAD_ADDR = s.uc.scrub ∧ t.flag K.READY 3 = false ∧
        t.flt.arrived = s.flt.arrived ++ [(0x71, false)] ∧ t.uc.bad = [s.uc.scrub] ∧
        Frame [K.UC_UNCORRECTED, K.UC_BAD_ADDR, K.READY] [.uc, .arrived] s t)) ∧
    (∀ bad d, s.trust.patchJob = some d → ∃ t, exec (.patchInstallDone bad) s = .next t ∧ t.flag K.UC_CMD 0 = false ∧
      t.num K.INSTALL_STATUS =
        (if (patchCheck s d).1 = 0 ∧ slotBad bad (patchTarget s bad) = true then 8 else (patchCheck s d).1) ∧
      t.trust = (if (patchCheck s d).1 ≠ 0 then { s.trust with patchJob := none }
        else if patchTarget s bad then { s.trust with patchA := d, patchJob := none }
        else { s.trust with patchB := d, patchJob := none }) ∧
      Frame [K.INSTALL_STATUS, K.UC_CMD] [.trust] s t)) ∧
  ∀ (s : State) (v : Via), s.uc.bad = [] →
    (AcceptedKey s v K.UC_CMD 4 → ∃ t, exec (.custClear v) s = .next t ∧ t.num K.UENTRY_MAP = 0 ∧
      (∀ a, microWord t a = if customerAddr a then 0 else microWord s a) ∧
      Frame [K.UENTRY_MAP, K.SIG_CURRENT] (.uc :: answered) s t) ∧
    (AcceptedKey s v K.UC_CMD 2 → ∃ t, exec (.custLoad v) s = .next t ∧ t.num K.CUST_STATUS = 0 ∧
      t.num K.UENTRY_MAP = fieldAt (s.blob K.CUST_IMAGE) 12 4 ∧
      (∀ a, microWord t a =
        let b := fieldAt (s.blob K.CUST_IMAGE) 8 2
        if !customerAddr a then microWord s a
        else if a < b then 0 else ((imageWords (s.blob K.CUST_IMAGE))[a - b]?).getD 0) ∧
      Frame [K.UENTRY_MAP, K.CUST_STATUS, K.SIG_CURRENT] (.uc :: answered) s t) ∧
    (AcceptedKey s v K.UC_CMD 1 → ∃ t, exec (.patchInstall v) s = .next t ∧ t.flag K.UC_CMD 0 = true ∧
      t.trust = { s.trust with patchJob := some (s.blob K.PATCH_IMAGE) } ∧
      Frame [K.UC_CMD, K.SIG_CURRENT] (.trust :: answered) s t) ∧
    (∀ n, n < 2 → AcceptedKey s v K.UC_ENFORCE n → ∃ t, exec (.ucEnforce v n) s = .next t ∧ t.num K.UC_ENFORCE = n ∧
      (s.num K.UC_ENFORCE = 0 → n = 1 →
        t.num K.UENTRY_MAP = 0 ∧ ∀ a, microWord t a = if customerAddr a then 0 else microWord s a) ∧
      (¬(s.num K.UC_ENFORCE = 0 ∧ n = 1) → t.num K.UENTRY_MAP = s.num K.UENTRY_MAP ∧ t.uc = s.uc) ∧
      Frame [K.UC_ENFORCE, K.UENTRY_MAP, K.SIG_CURRENT, K.UNLOCK_STATE] (.uc :: answered) s t)

/-- An accepted write of another TICK_MULT stores it with TICK_NOM and, with D02 on, sets RELOCKING, counts a relock and
clears READY.TICK, every powered tile's PLL having to lock; with D02 off it is held alone, and a write of the value in
force changes nothing. Once the synthesiser and every tile PLL that is still powered have locked, TICK is locked:
READY.TICK sets, every channel's deskew is converted, and domains that waited start. A loss of lock is holdover,
counted, with fault source 0x77; it ends at a burst boundary with a lock. A deskew write is stored and its channel's
deskew converted. -/
def Obligations.TickAndDeskew : Prop :=
  (∀ (s : State) (v : Via) (m : Nat), m < 2 ^ 64 → AcceptedKey s v K.TICK_MULT m →
    (m = s.num K.TICK_MULT → ∃ t, exec (.tickMult v m) s = .next t ∧ Frame [K.SIG_CURRENT] answered s t) ∧
    (m ≠ s.num K.TICK_MULT → domState s 2 = 0 → ∃ t, exec (.tickMult v m) s = .next t ∧ t.num K.TICK_MULT = m ∧
      t.num K.TICK_NOM = tickNom m ∧ Frame [K.TICK_MULT, K.TICK_NOM, K.SIG_CURRENT] answered s t) ∧
    (m ≠ s.num K.TICK_MULT → domState s 2 ≠ 0 → ∃ t, exec (.tickMult v m) s = .next t ∧ t.num K.TICK_MULT = m ∧
      t.num K.TICK_NOM = tickNom m ∧ t.num K.TICK_STATE = 1 ∧ t.num K.TICK_RELOCKS = inc32 (s.num K.TICK_RELOCKS) ∧
      t.flag K.READY 2 = false ∧ t.tb = { s.tb with synth := false, plls := pllTiles s } ∧
      Frame [K.TICK_MULT, K.TICK_NOM, K.TICK_STATE, K.TICK_RELOCKS, K.READY, K.SIG_CURRENT] (.tb :: answered) s t)) ∧
  (∀ s : State, s.pwr.stopped = false →
    (domState s 2 ≠ 0 → s.num K.TICK_STATE < 2 →
      ((∀ u ∈ s.tb.plls, pllPowered s u = false) → ∃ t, exec .synthesiserLock s = .next t ∧ TickLocked s t) ∧
      ((∃ u ∈ s.tb.plls, pllPowered s u = true) → ∃ t, exec .synthesiserLock s = .next t ∧ t.num K.TICK_STATE = 1 ∧
        t.tb.synth = true ∧ t.tb.plls = s.tb.plls ∧ Frame startKeys startParts s t)) ∧
    (∀ u < 12, s.num K.TICK_STATE = 1 → s.tb.synth = true → u ∈ s.tb.plls → domState s 2 ≠ 0 →
      ((∀ w ∈ s.tb.plls, w ≠ u → pllPowered s w = false) → ∃ t, exec (.tilePllLock u) s = .next t ∧ TickLocked s t) ∧
      ((∃ w ∈ s.tb.plls, w ≠ u ∧ pllPowered s w = true) → ∃ t, exec (.tilePllLock u) s = .next t ∧ t.num K.TICK_STATE = 1 ∧
        t.tb.plls = s.tb.plls.filter (· != u) ∧ Frame startKeys startParts s t)) ∧
    (s.num K.TICK_STATE = 3 → seqQuiet s = true → domState s 2 ≠ 0 →
      ∃ t, exec .holdoverRelock s = .next t ∧ TickLocked s t) ∧
    (s.num K.TICK_STATE = 2 → ∃ t, exec .holdover s = .next t ∧ t.num K.TICK_STATE = 3 ∧
      t.num K.TICK_UNLOCKS = inc32 (s.num K.TICK_UNLOCKS) ∧ t.flag K.READY 2 = false ∧
      t.flt.arrived = s.flt.arrived ++ [(0x77, false)] ∧ Frame [K.TICK_STATE, K.TICK_UNLOCKS, K.READY] [.arrived] s t)) ∧
  ∀ (s : State) (v : Via) (c which : Nat) (value : Int), c < 96 → which < 3 →
    AcceptedKey s v (atCh (K.DESKEW_DRV + which) c) (raw 32 value) →
    ∃ t, exec (.deskewWrite v c which value) s = .next t ∧ t.num (atCh (K.DESKEW_DRV + which) c) = raw 32 value ∧
      DeskewConverted t c ∧ Frame (atCh (K.DESKEW_DRV + which) c :: K.SIG_CURRENT :: chKeys deskewKeys [c]) answered s t

/-- On a powered channel of which a window comparator is not valid, pad voltages that take Vs above a comparator's band
leave that comparator valid with output 1, ones below it valid with output 0, and ones inside leave output and validity
as they were. Without power the voltages alone are noted. Nothing else changes: no TMU, no attention bit or count, no
tile state, no other channel, no fault source. -/
def Obligations.ComparatorBecomesValid : Prop :=
  ∀ (s : State) (c : Nat) (v : Pad), s.pwr.stopped = false → c < 96 →
    (cmpPowered s c = true → (s.chan c).validH = false ∨ (s.chan c).validL = false →
      ∃ t, exec (.comparatorValid c v) s = .next t ∧
      (aboveBand s c K.THR_HI v = true → (t.chan c).validH = true ∧ (t.chan c).cmpH = true) ∧
      (belowBand s c K.THR_HI v = true → (t.chan c).validH = true ∧ (t.chan c).cmpH = false) ∧
      (aboveBand s c K.THR_HI v = false → belowBand s c K.THR_HI v = false →
        (t.chan c).validH = (s.chan c).validH ∧ (t.chan c).cmpH = (s.chan c).cmpH) ∧
      (aboveBand s c K.THR_LO v = true → (t.chan c).validL = true ∧ (t.chan c).cmpL = true) ∧
      (belowBand s c K.THR_LO v = true → (t.chan c).validL = true ∧ (t.chan c).cmpL = false) ∧
      (aboveBand s c K.THR_LO v = false → belowBand s c K.THR_LO v = false →
        (t.chan c).validL = (s.chan c).validL ∧ (t.chan c).cmpL = (s.chan c).cmpL) ∧
      t.chan c = { s.chan c with pad := v, cmpH := (t.chan c).cmpH, validH := (t.chan c).validH,
                                 cmpL := (t.chan c).cmpL, validL := (t.chan c).validL } ∧
      (∀ d, d ≠ c → t.chan d = s.chan d) ∧ Frame [] [.chans] s t) ∧
    (cmpPowered s c = false → ∃ t, exec (.comparatorValid c v) s = .next t ∧ t.chan c = { s.chan c with pad := v } ∧
      (∀ d, d ≠ c → t.chan d = s.chan d) ∧ Frame [] [.chans] s t)

/-- A PRBS checker in ACQUIRE whose run has reached LOCK_RUN enters LOCKED; one in LOCKED whose block has LOSS_ERRS
failures returns to ACQUIRE and counts. Pad voltages on a channel that can produce events move its outputs to the side
of the band that Vs is on, and inside the band leave them; each change that ATTN_EN selects sets its bit of ATTN_SEEN
and counts, and the first raises the channel's source where ATTN_SEEN was 0; beside it only TMUs of the tile change. A
driver leg in current limit raises its channel's source. A ready tile that fails parks its pins, leaves READY with its
cause recorded and raises its source. -/
def Obligations.PinEvents : Prop :=
  (∀ (s : State) (c : Nat), s.pwr.stopped = false → c < 96 →
    (s.num K.SEQ_STATE = 4 → liveRole s c = 6 →
      ((s.chan c).chk = 1 → s.num (atCh K.LOCK_RUN c) ≤ (s.chan c).chkRun → ∃ t, exec (.checkerLock c) s = .next t ∧
        t.chan c = { s.chan c with chk := 2, blkN := 0, blkFails := 0 } ∧ (∀ d, d ≠ c → t.chan d = s.chan d) ∧
        Frame [] [.chans] s t) ∧
      ((s.chan c).chk = 2 → s.num (atCh K.LOSS_ERRS c) ≤ (s.chan c).blkFails → ∃ t, exec (.checkerRelock c) s = .next t ∧
        t.chan c = { s.chan c with chk := 1, chkRun := 0, blkN := 0, blkFails := 0 } ∧
        (∀ d, d ≠ c → t.chan d = s.chan d) ∧ t.num (atCh K.RELOCKS c) = inc32 (s.num (atCh K.RELOCKS c)) ∧
        Frame [atCh K.RELOCKS c] [.chans] s t)) ∧
    (∀ v : Pad, producesEdges s c = true → ∃ t, exec (.attentionEvent c v) s = .next t ∧
      let seen := (outputEdges (s.chan c) (t.chan c)).filter (s.flag (atCh K.ATTN_EN c))
      t.chan c = { s.chan c with
        pad := v,
        cmpH := if aboveBand s c K.THR_HI v then true else if belowBand s c K.THR_HI v then false else (s.chan c).cmpH,
        cmpL := if aboveBand s c K.THR_LO v then true else if belowBand s c K.THR_LO v then false else (s.chan c).cmpL } ∧
      (∀ d, d ≠ c → t.chan d = s.chan d) ∧
      t.num (atCh K.ATTN_SEEN c) = seen.foldl (fun m e => putBit m e true) (s.num (atCh K.ATTN_SEEN c)) ∧
      t.num (atCh K.ATTN_COUNT c) =
        (if seen = [] then s.num (atCh K.ATTN_COUNT c) else (s.num (atCh K.ATTN_COUNT c) + seen.length) % 2 ^ 32) ∧
      t.flt.arrived = s.flt.arrived ++ (if s.num (atCh K.ATTN_SEEN c) = 0 ∧ seen ≠ [] then [(c, false)] else []) ∧
      Frame (atCh K.ATTN_SEEN c :: atCh K.ATTN_COUNT c :: chKeys tmuKeys (lanesOf (tileOf c)))
        [.chans, .arrived, .tb, .drawn] s t) ∧
    (tileReady s (tileOf c) = true → ∃ t, exec (.driverCurrentLimit c) s = .next t ∧
      t.flt.arrived = s.flt.arrived ++ [(c, false)] ∧ Frame [] [.arrived] s t)) ∧
  ∀ (s : State) (u : Nat) (link : Bool), s.pwr.stopped = false → u < 12 → tileReady s u = true →
    ∃ t, exec (.tileFailure u link) s = .next t ∧ t.num (atTile K.TILE_STATE u) = 1 ∧ t.flag K.READY (16 + u) = false ∧
      domState t (12 + u) = 1 ∧ t.flag (atTile K.TILE_CAUSE u) (if link then 2 else 1) = true ∧
      t.flt.arrived = s.flt.arrived ++ [(0x60 + u, false)] ∧
      (∀ c ∈ lanesOf u, t.chan c = { s.chan c with
        drive := parkDrive s c, vec := none, short := none, fed := [], hold := none, alt := none, skipCmp := 0 }) ∧
      (∀ c, c ∉ lanesOf u → t.chan c = s.chan c) ∧
      Frame (K.DOM_STATE :: K.READY :: (tileKeys [K.TILE_STATE, K.TILE_CAUSE] [u] ++ chKeys [K.PULSE_DROPS] (lanesOf u)))
        [.chans, .arrived, .out] s t

/-- An accepted LISTEN is pending in TILE_CMD until the tile is in listen state: drivers off, comparators of channels
with WAKE_EN 0 unpowered, TMUs idle, converter stopped, wake settings held; the condition lines stand. As pads of its
lanes move, those that make a selected edge wake it once: WAKING, TILE_WAKES and their WAKES counted, WAKE_LANES naming
them, source 0x60 + t raised; where none does, only outputs follow. An accepted WAKE wakes it with WAKE_LANES 0, and in
another state has no effect. Once TICK runs the tile is READY with its pins parked and the comparators that had no power
enabled. -/
def Obligations.ListenAndWake : Prop :=
  (∀ (s : State) (v : Via) (u : Nat), u < 12 →
    (AcceptedKey s v (atTile K.TILE_CMD u) 1 → ∃ t, exec (.listen v u) s = .next t ∧ t.flag (atTile K.TILE_CMD u) 0 = true ∧
      Frame [atTile K.TILE_CMD u, K.SIG_CURRENT] answered s t) ∧
    (AcceptedKey s v (atTile K.TILE_CMD u) 2 →
      (tileState s u = 3 → ∃ t, exec (.wake v u) s = .next t ∧ tileState t u = 4 ∧ t.num (atTile K.WAKE_LANES u) = 0 ∧
        t.num (atTile K.TILE_WAKES u) = inc32 (s.num (atTile K.TILE_WAKES u)) ∧ t.flag (atTile K.TILE_CMD u) 1 = true ∧
        t.flag (atTile K.TILE_CAUSE u) 0 = true ∧ domState t (12 + u) = 1 ∧
        t.flt.arrived = s.flt.arrived ++ [(0x60 + u, false)] ∧
        Frame (K.DOM_STATE :: K.SIG_CURRENT ::
            tileKeys [K.TILE_STATE, K.WAKE_LANES, K.TILE_WAKES, K.TILE_CMD, K.TILE_CAUSE] [u]) (.arrived :: answered) s t) ∧
      (tileState s u ≠ 3 → ∃ t, exec (.wake v u) s = .next t ∧ Frame [K.SIG_CURRENT] answered s t))) ∧
  ∀ (s : State) (u : Nat), s.pwr.stopped = false → u < 12 →
    (tileReady s u = true → s.flag (atTile K.TILE_CMD u) 0 = true → ∃ t, exec (.listenEntered u) s = .next t ∧
      tileState t u = 3 ∧ t.flag (atTile K.TILE_CMD u) 0 = false ∧ t.num (atTile K.CONV_CMD u) = 0 ∧
      domState t (12 + u) = 3 ∧ t.flag K.READY (16 + u) = false ∧
      (∀ c ∈ lanesOf u,
        t.chan c = (if s.num (atCh K.WAKE_EN c) = 1 then
          { s.chan c with drive := .off, vec := none, short := none, powered := true }
        else { s.chan c with drive := .off, vec := none, short := none, powered := false,
                             cmpH := false, cmpL := false, validH := false, validL := false }) ∧
        t.num (atCh K.TMU_STATE c) = (if s.num (atCh K.TMU_MODE c) = 0 then 0 else 1) ∧
        aFind t.slow.wake c = some (s.num (atCh K.WAKE_EN c), s.num (atCh K.WAKE_CMP c), s.num (atCh K.WAKE_SLOPE c))) ∧
      (∀ c, c ∉ lanesOf u → t.chan c = s.chan c) ∧
      Frame (K.DOM_STATE :: K.READY :: (tileKeys [K.TILE_STATE, K.TILE_CMD, K.CONV_CMD] [u] ++
        chKeys [K.TMU_STATE] (lanesOf u))) [.chans, .slow, .tb] s t) ∧
    (∀ inputs : List (Nat × Pad), tileState s u = 3 → (∀ p ∈ inputs, p.1 < 8) → (inputs.map Prod.fst).Nodup →
      let after (p : Nat × Pad) : Chan := (padSet s (8 * u + p.1) p.2).chan (8 * u + p.1)
      let hit (j : Nat) : Bool := inputs.any (fun p => p.1 == j && wakes s (8 * u + p.1) (after p))
      ∃ t, exec (.wakeEvent u inputs) s = .next t ∧ (∀ p ∈ inputs, t.chan (8 * u + p.1) = after p) ∧
        (∀ c, (∀ p ∈ inputs, c ≠ 8 * u + p.1) → t.chan c = s.chan c) ∧
        ((∀ j < 8, hit j = false) → Frame [] [.chans] s t) ∧
        ((∃ j < 8, hit j = true) → tileState t u = 4 ∧ domState t (12 + u) = 1 ∧
          t.num (atTile K.TILE_WAKES u) = inc32 (s.num (atTile K.TILE_WAKES u)) ∧
          (∀ j < 8, bit (t.num (atTile K.WAKE_LANES u)) j = hit j ∧
            t.num (atCh K.WAKES (8 * u + j)) =
              (if hit j then inc32 (s.num (atCh K.WAKES (8 * u + j))) else s.num (atCh K.WAKES (8 * u + j)))) ∧
          t.flag (atTile K.TILE_CAUSE u) 0 = true ∧ t.flt.arrived = s.flt.arrived ++ [(0x60 + u, false)] ∧
          Frame (K.DOM_STATE :: (tileKeys [K.TILE_STATE, K.WAKE_LANES, K.TILE_WAKES, K.TILE_CAUSE] [u] ++
            chKeys [K.WAKES] (lanesOf u))) [.chans, .arrived] s t)) ∧
    (tileState s u = 4 →
      (tickRuns s = true → ∃ t, exec (.tileReadyAfterWake u) s = .next t ∧ tileState t u = 2 ∧ domState t (12 + u) = 2 ∧
        t.flag K.READY (16 + u) = true ∧ t.flag (atTile K.TILE_CMD u) 1 = false ∧
        (∀ c ∈ lanesOf u, (t.chan c).powered = true ∧ (t.chan c).drive = parkDrive s c ∧
          ((s.chan c).powered = true → t.chan c = { s.chan c with drive := parkDrive s c }) ∧
          ((s.chan c).powered = false → (t.chan c).cmpH = aboveBand s c K.THR_HI (s.chan c).pad ∧
            (t.chan c).cmpL = aboveBand s c K.THR_LO (s.chan c).pad)) ∧
        (∀ c, c ∉ lanesOf u → t.chan c = s.chan c) ∧
        t.slow = { s.slow with locks := aPut s.slow.locks u ((aFind s.slow.locks u).getD 0 + 1) } ∧
        Frame (K.DOM_STATE :: K.READY :: K.READY_TIMES :: (tileKeys [K.TILE_STATE, K.TILE_CMD] [u] ++
          chKeys [K.BAND_PRESETS] (lanesOf u))) [.chans, .slow] s t) ∧
      (tickRuns s = false → ∃ t, exec (.tileReadyAfterWake u) s = .next t ∧ Frame [] [] s t))

/-- An accepted SC_CMD.RUN sets SC_STATE to running, clears SC_RESULT and turns the driver off. The test ends: with a
pad that moved by more than 20 mV or a comparator that changed it is aborted with PAD_BUSY alone; otherwise each
comparator tied above that reads 0, tied below that reads 1, or whose trips differ by more than twice 3 mV, and each DAC
off by more than 2 mV + 0.2 %, sets its bit, and SC_STATE is passed for no bit and failed otherwise. SC_MODE and SC_TIE
are as they were at the start, the pin parks and its comparators are enabled. An accepted CONV_CMD.START clears DONE;
the conversions end with the rounded mean of the readings in steps of the converter, clipped to its range, DONE set, and
OVER_RANGE where one lay outside. -/
def Obligations.SelfCheckAndConverter : Prop :=
  (∀ (s : State) (v : Via) (c : Nat), c < 96 → AcceptedKey s v (atCh K.SC_CMD c) 1 →
    ∃ t, exec (.selfCheckRun v c) s = .next t ∧ t.num (atCh K.SC_STATE c) = 1 ∧ t.num (atCh K.SC_CMD c) = 1 ∧
      t.num (atCh K.SC_RESULT c) = 0 ∧ t.chan c = { s.chan c with drive := .off } ∧ (∀ d, d ≠ c → t.chan d = s.chan d) ∧
      aFind t.slow.saved c = some (s.num (atCh K.SC_MODE c), s.num (atCh K.SC_TIE c)) ∧
      Frame (K.SIG_CURRENT :: chKeys [K.SC_STATE, K.SC_CMD, K.SC_RESULT] [c]) (.chans :: .slow :: answered) s t) ∧
  (∀ (s : State) (c mode tie : Nat) (m : SelfTest), s.pwr.stopped = false → c < 96 → s.num (atCh K.SC_STATE c) = 1 →
    aFind s.slow.saved c = some (mode, tie) → m.above.length = 5 → m.below.length = 5 → m.trips.length = 5 →
    m.dacs.length = 12 →
    ∃ t, exec (.selfCheckDone c m) s = .next t ∧
      (20000 < m.moved.1 ∨ 20000 < m.moved.2 ∨ m.changed = true →
        t.num (atCh K.SC_RESULT c) = 2 ^ 27 ∧ t.num (atCh K.SC_STATE c) = 4) ∧
      (m.moved.1 ≤ 20000 → m.moved.2 ≤ 20000 → m.changed = false →
        (∀ i < 5, bit (t.num (atCh K.SC_RESULT c)) i = !(m.above[i]?).getD false ∧
          bit (t.num (atCh K.SC_RESULT c)) (5 + i) = (m.below[i]?).getD false ∧
          bit (t.num (atCh K.SC_RESULT c)) (10 + i) = swapBad ((m.trips[i]?).getD (0, 0))) ∧
        (∀ i < 12, bit (t.num (atCh K.SC_RESULT c)) (15 + i) =
          dacBad (((dacVolts s c)[i]?).getD 0) ((m.dacs[i]?).getD 0)) ∧
        t.num (atCh K.SC_RESULT c) < 2 ^ 27 ∧
        t.num (atCh K.SC_STATE c) = (if t.num (atCh K.SC_RESULT c) = 0 then 2 else 3)) ∧
      t.num (atCh K.SC_CMD c) = 0 ∧ t.num (atCh K.SC_MODE c) = mode ∧ t.num (atCh K.SC_TIE c) = tie ∧
      (t.chan c).drive = parkDrive s c ∧ (t.chan c).powered = true ∧ (∀ d, d ≠ c → t.chan d = s.chan d) ∧
      Frame (chKeys [K.SC_STATE, K.SC_CMD, K.SC_RESULT, K.SC_MODE, K.SC_TIE, K.BAND_PRESETS] [c]) [.chans, .slow] s t) ∧
  (∀ (s : State) (v : Via) (u : Nat), u < 12 → AcceptedKey s v (atTile K.CONV_CMD u) 1 →
    ∃ t, exec (.convStart v u) s = .next t ∧ t.num (atTile K.CONV_CMD u) = 1 ∧ t.flag (atTile K.CONV_FLAGS u) 0 = false ∧
      aFind t.slow.conv u = some (s.num (atTile K.CONV_NODE u), s.num (atTile K.CONV_AVG u)) ∧
      Frame (K.SIG_CURRENT :: tileKeys [K.CONV_CMD, K.CONV_FLAGS] [u]) (.slow :: answered) s t) ∧
  ∀ (s : State) (u node avg : Nat) (vs : List Int), s.pwr.stopped = false → u < 12 →
    aFind s.slow.conv u = some (node, avg) → vs.length = 2 ^ avg →
    ∃ t, exec (.convDone u vs) s = .next t ∧
      t.num (atTile K.CONV_RESULT u) = raw 32 (roundDiv
        ((vs.map (fun x => convCode x * 4000000 - 1250000 * 262144)).sum) (2 ^ avg * 262144)) ∧
      t.num (atTile K.CONV_CMD u) = 0 ∧ t.flag (atTile K.CONV_FLAGS u) 0 = true ∧
      t.flag (atTile K.CONV_FLAGS u) 2 = vs.any (fun x => decide (x < -1250000) || decide (2750000 < x)) ∧
      t.slow = { s.slow with conv := aDel s.slow.conv u } ∧
      Frame (tileKeys [K.CONV_RESULT, K.CONV_CMD, K.CONV_FLAGS] [u]) [.slow] s t

/-- Once every judgement of a failing issue is made, in a burst that forms records its record is formed at the level its
last judgement found and joins the cistern queue where the region and the queue have room; where it has none it is lost
and counted. In any other burst the command has no effect. The oldest item of the queue is written: the bytes at its
offsets in the region are its bytes, all others stand, and it counts. With the burst over, or the next one waiting in
LOADING, and the queue empty the summary is written at the region's start, with a correct check word, where the stack
that holds it is mapped, and CAP_FLAGS says it is done. -/
def Obligations.RecordsAndSummary : Prop :=
  (∀ s : State, s.pwr.stopped = false → recordsFormed s = false → ∃ t, exec .failRecord s = .next t ∧ Frame [] [] s t) ∧
  (∀ (s : State) (x : IssueCap), s.pwr.stopped = false → recordsFormed s = true →
    s.cis.caps.find? (fun y => capFailed y && !capWaits s y) = some x →
    let lvl := x.level.getD (s.num K.CAP_LEVEL)
    let d := recordBytes x lvl (s.num K.CAP_MODE)
    let left := s.cis.caps.filter (fun y => y.issue != x.issue || y.cyc != x.cyc)
    lvl = 1 ∨ lvl = 2 →
    (∀ a pad, recordPlace s d.length = some (a, pad) → s.num K.CQ_LEVEL + d.length ≤ 262144 →
      ∃ t, exec .failRecord s = .next t ∧
        t.cis = { s.cis with queue := s.cis.queue ++ [⟨d.length, pad ++ [(a, d)], some (a, d.length)⟩],
                             next := a + d.length, caps := left } ∧
        t.num K.CQ_LEVEL = s.num K.CQ_LEVEL + d.length ∧ t.num K.CQ_MAX = max (s.num K.CQ_MAX) (t.num K.CQ_LEVEL) ∧
        Frame [K.CQ_LEVEL, K.CQ_MAX, K.CAP_FLAGS, K.DEMOTED, K.CAP_LEVEL, K.STEP1_ISSUE, K.STEP2_ISSUE] [.cis] s t) ∧
    (recordPlace s d.length = none → ∃ t, exec .failRecord s = .next t ∧
      t.cis = { s.cis with caps := left, full := true } ∧ t.num K.LOST_RECORDS = (s.num K.LOST_RECORDS + 1) % 2 ^ 64 ∧
      t.flag K.CAP_FLAGS 0 = true ∧ t.flag K.CAP_FLAGS 1 = true ∧ Frame [K.LOST_RECORDS, K.CAP_FLAGS] [.cis] s t) ∧
    (recordPlace s d.length ≠ none → 262144 < s.num K.CQ_LEVEL + d.length → ∃ t, exec .failRecord s = .next t ∧
      t.cis = { s.cis with caps := left } ∧ t.num K.LOST_RECORDS = (s.num K.LOST_RECORDS + 1) % 2 ^ 64 ∧
      t.flag K.CAP_FLAGS 0 = true ∧ Frame [K.LOST_RECORDS, K.CAP_FLAGS] [.cis] s t)) ∧
  (∀ (s : State) (it : CqItem) (rest : List CqItem), s.pwr.stopped = false → s.cis.queue = it :: rest →
    ∃ t, exec .recordInMemory s = .next t ∧ t.cis.queue = rest ∧ t.num K.CQ_LEVEL = s.num K.CQ_LEVEL - it.size ∧
      (∀ a, (∀ w ∈ it.writes, a < winCis + w.1 ∨ winCis + w.1 + w.2.length ≤ a) → memByte t.mem a = memByte s.mem a) ∧
      (∀ a d, it.writes = [(a, d)] → it.record = some (a, d.length) → d ≠ [] → s.mem.bad = [] →
        cisMapped s a d.length = true →
        memRead t.mem (winCis + a) d.length = d ∧ t.num K.RECORDS = (s.num K.RECORDS + 1) % 2 ^ 64 ∧
        t.num K.REC_END = a + d.length ∧ (a, d.length) ∈ t.cis.recs) ∧
      Frame [K.CQ_LEVEL, K.MEM_UE, K.MEM_UE_ADDR, K.LOST_RECORDS, K.CAP_FLAGS, K.RECORDS, K.R_POINTS_DONE, K.REC_END,
        K.REC_OLDEST] [.cis, .mem, .arrived] s t) ∧
  ∀ s : State, s.pwr.stopped = false → s.num K.SEQ_STATE = 1 ∨ s.num K.SEQ_STATE = 2 → s.cis.summaryDue = true →
    s.cis.queue = [] → capsWaiting s = false → ∃ t, exec .burstSummary s = .next t ∧ t.flag K.CAP_FLAGS 4 = true ∧
      t.cis = { s.cis with summaryDue := false } ∧ (summaryBytes s).length = 4096 ∧
      fieldAt (summaryBytes s) 8 8 = s.num K.ISSUES % 2 ^ 64 ∧
      fieldAt (summaryBytes s) 4092 4 = crc32c ((summaryBytes s).take 4092) ∧
      (4096 ≤ regionSize s.mem 1 → stackMapped s (stackOf s.mem 1 0) = true →
        memRead t.mem winCis 4096 = summaryBytes s ∧
        t.num K.CQ_MAX = max (s.num K.CQ_MAX) (s.num K.CQ_LEVEL + 4096)) ∧
      (∀ a, a < winCis ∨ winCis + 4096 ≤ a → memByte t.mem a = memByte s.mem a) ∧
      Frame [K.CAP_FLAGS, K.CQ_MAX] [.cis, .mem] s t

/-- An accepted ARM clears VALID, COINCIDENT, TIMEOUT, NOT_WARM, REF_SWITCHED and HOLDOVER in RES_FLAGS, keeps STALE and
SAT, discards a measurement in progress and leaves the unit ARMED from the present time; it is refused with code 8 while
TMU_MODE is OFF and otherwise with code 12 while the tile is not ready, off or in listen state among them. An accepted
CLEAR zeroes the accumulators, the timestamps and the histogram and clears SAT; it is refused with code 7 while the unit
is ARMED or STARTED. A refused write has no effect. -/
def Obligations.TmuArmAndClear : Prop :=
  ∀ (s : State) (v : Via) (c : Nat), c < 96 →
    (AcceptedKey s v (atCh K.TMU_CMD c) 1 → ∃ t, exec (.arm v c) s = .next t ∧ t.num (atCh K.TMU_STATE c) = 2 ∧
      (∀ i ∈ [0, 1, 2, 3, 5, 6], t.flag (atCh K.RES_FLAGS c) i = false) ∧
      (∀ i ∈ [4, 7], t.flag (atCh K.RES_FLAGS c) i = s.flag (atCh K.RES_FLAGS c) i) ∧
      t.tmu c = { tmuInit with cond := tbCond s, armAt := now16 s, presc := (t.tmu c).presc } ∧ (t.tmu c).presc < 8 ∧
      (∀ d, d ≠ c → t.tmu d = s.tmu d) ∧ t.tb = { s.tb with tmus := t.tb.tmus } ∧
      Frame (K.SIG_CURRENT :: chKeys [K.TMU_STATE, K.RES_FLAGS] [c]) (.tb :: .drawn :: answered) s t) ∧
    (AcceptedKey s v (atCh K.TMU_CMD c) 4 → ∃ t, exec (.clear v c) s = .next t ∧
      (∀ k ∈ [K.ACC_N, K.ACC_SUM, K.ACC_MIN, K.ACC_MAX, K.TS_COUNT, K.HIST_OUT], t.num (atCh k c) = 0) ∧
      t.blob (atCh K.TS_BUF c) = zeros 1024 ∧ t.blob (atCh K.HIST c) = zeros 1024 ∧
      t.num (atCh K.RES_FLAGS c) = putBit (s.num (atCh K.RES_FLAGS c)) 7 false ∧
      Frame (K.SIG_CURRENT :: chKeys [K.ACC_N, K.ACC_SUM, K.ACC_MIN, K.ACC_MAX, K.TS_COUNT, K.HIST_OUT, K.TS_BUF, K.HIST,
        K.RES_FLAGS] [c]) answered s t) ∧
    (PassesGate s v (atCh K.TMU_CMD c) 1 →
      (s.num (atCh K.TMU_MODE c) = 0 → ∃ t, exec (.arm v c) s = .next t ∧ RefusedWith s t v (atCh K.TMU_CMD c) 8) ∧
      (s.num (atCh K.TMU_MODE c) ≠ 0 → tileReady s (tileOf c) = false →
        ∃ t, exec (.arm v c) s = .next t ∧ RefusedWith s t v (atCh K.TMU_CMD c) 12)) ∧
    (PassesGate s v (atCh K.TMU_CMD c) 4 → tmuArmed s c = true →
      ∃ t, exec (.clear v c) s = .next t ∧ RefusedWith s t v (atCh K.TMU_CMD c) 7)

/-- As the pads of a lane make an edge, every unit of its tile that sees it takes it at its timestamp by its mode: in
INTERVAL a start and then a stop complete it, in either order with EITHER set, and a stop before the start is an orphan;
PERIOD completes at the edge that ends the count, FREQUENCY at the first one past the gate, with one edge of eight with
PRESC set; WIDTH at the opposite edge; TIMESTAMP adds an entry and HISTOGRAM a count to its bin, or an edge in the dead
time is missed. An edge a unit does not see, or whose code it does not select, leaves it as it was. Beside the units of
the tile only that lane's outputs and attention objects change; a code that names no comparator changes nothing. An
accepted DISARM discards the measurement and leaves the unit IDLE, or OFF with TMU_MODE OFF; a result that completed at
this moment stands, with no re-arm to follow. Once the time base has reached the n-th marker edge since the arming
without a completion the unit times out: TIMEOUT with VALID clear, and in the modes that collect DONE with its flags as
they were. A unit in DONE whose re-arm waits under CONT is ARMED again from the re-arm's time. Where nothing is due the
command has no effect. -/
def Obligations.TmuMeasures : Prop :=
  (∀ (s : State) (c e dt : Nat) (v : Pad), s.pwr.stopped = false → c < 96 → 32 ≤ e →
    ∃ t, exec (.tmuEdge c e dt v) s = .next t ∧ Frame [] [] s t) ∧
  (∀ (s : State) (c e dt : Nat) (v : Pad), s.pwr.stopped = false → c < 96 → EdgeComes s c e v →
    let l := 8 * tileOf c + e % 8
    let p := tmuStamp s c (now16 s + dt)
    let x := s.tmu c
    let cfg := s.num (atCh K.START_SRC c)
    let mode := s.num (atCh K.TMU_MODE c)
    let ctrl (i : Nat) : Bool := s.flag (atCh K.TMU_CTRL c) i
    let st := srcMatch cfg e
    let sp := srcMatch (s.num (atCh K.STOP_SRC c)) e
    let opposite := decide (e % 16 = cfg % 16 ∧ e / 16 ≠ cfg / 16)
    ∃ t, exec (.tmuEdge c e dt v) s = .next t ∧ t.chan l = (senseVs s l v).chan l ∧ (∀ d, d ≠ l → t.chan d = s.chan d) ∧
      Frame (atCh K.ATTN_SEEN l :: atCh K.ATTN_COUNT l :: chKeys tmuKeys (lanesOf (tileOf c))) [.chans, .arrived, .tb, .drawn] s t ∧
      (tmuRuns s c = false → TmuStands s t c) ∧
      (tmuRuns s c = true → tmuArmed s c = false → tmuRearmAt s c = none → TmuStands s t c) ∧
      (TmuSeesEdge s c p →
        (mode = 1 → ctrl 0 = false →
          (x.start = none → (st = true → TmuStarted s t c p false) ∧
            (st = false → sp = true → TmuCounted s t c K.ORPHAN_STOP) ∧ (st = false → sp = false → TmuStands s t c)) ∧
          (∀ a, x.start = some a → (sp = true → -16 < span a p → Measured s t c a p p 1) ∧
            (sp = true → span a p ≤ -16 → TmuCounted s t c K.ORPHAN_STOP) ∧ (sp = false → TmuStands s t c))) ∧
        (mode = 1 → ctrl 0 = true →
          (st = true → x.start = none → x.stop = none → TmuStarted s t c p false) ∧
          (∀ b, st = true → x.start = none → x.stop = some b → Measured s t c p b p 1) ∧
          (∀ a, sp = true → x.start = some a → x.stop = none → Measured s t c a p p 1) ∧
          (sp = true → st = false → x.start = none → x.stop = none →
            t.num (atCh K.TMU_STATE c) = 3 ∧ t.tmu c = { x with stop := some p })) ∧
        (mode = 2 ∨ mode = 3 ∧ ctrl 1 = false →
          (st = false → TmuStands s t c) ∧ (st = true → x.start = none → TmuStarted s t c p false) ∧
          (∀ a, st = true → x.start = some a →
            let enough := if mode = 2 then s.num (atCh K.TMU_COUNT c) ≤ x.count + 1
              else ((s.num (atCh K.GATE c) * markerStep : Nat) : Int) ≤ span a p
            (enough → Measured s t c a p p (x.count + 1)) ∧
            (¬enough → t.tmu c = { x with count := x.count + 1 } ∧ t.num (atCh K.TMU_STATE c) = s.num (atCh K.TMU_STATE c)))) ∧
        (mode = 3 → ctrl 1 = true → st = true → x.presc ≠ 7 → t.tmu c = { x with presc := (x.presc + 1) % 8 } ∧
          t.num (atCh K.TMU_STATE c) = s.num (atCh K.TMU_STATE c)) ∧
        (mode = 4 →
          (x.start = none → (st = true → TmuStarted s t c p (decide (e / 16 = 1))) ∧
            (st = false → opposite = true → TmuCounted s t c K.ORPHAN_STOP)) ∧
          (∀ a, x.start = some a → (opposite = true → -16 < span a p → Measured s t c a p p 1) ∧
            (opposite = false → TmuStands s t c))) ∧
        (mode = 5 ∨ mode = 6 → st = true → tmuAlive s c p = false → TmuCounted s t c K.TS_MISSED) ∧
        (mode = 5 → st = true → tmuAlive s c p = true → t.tmu c = { x with deadTo := some (p + 57344) } ∧
          t.num (atCh K.TS_COUNT c) = (s.num (atCh K.TS_COUNT c) + 1) % 2 ^ 64 ∧
          ((s.blob (atCh K.TS_BUF c)).length = 1024 → t.blob (atCh K.TS_BUF c) =
            splice (s.blob (atCh K.TS_BUF c)) (s.num (atCh K.TS_COUNT c) % 64 * 16) (tsEntry s p (decide (e / 16 = 1))))) ∧
        (mode = 6 → st = true → tmuAlive s c p = true → t.tmu c = { x with deadTo := some (p + 57344) } ∧
          let b := histBin s c (tickPos s (now16 s + dt))
          let old (i : Nat) : Nat := fieldAt (s.blob (atCh K.HIST c)) (4 * i) 4
          (256 ≤ b → t.num (atCh K.HIST_OUT c) = inc32 (s.num (atCh K.HIST_OUT c))) ∧
          (b < 256 → (s.blob (atCh K.HIST c)).length = 1024 → t.num (atCh K.HIST_OUT c) = s.num (atCh K.HIST_OUT c) ∧
            ∀ i < 256, fieldAt (t.blob (atCh K.HIST c)) (4 * i) 4 =
              if i = b then min (old b + 1) (2 ^ 32 - 1) else old i)))) ∧
  (∀ (s : State) (v : Via) (c : Nat), c < 96 → AcceptedKey s v (atCh K.TMU_CMD c) 2 →
    ∃ t, exec (.disarm v c) s = .next t ∧ (∀ d, d ≠ c → t.tmu d = s.tmu d) ∧
      (tmuJustDone s c = false → t.tmu c = tmuInit ∧
        t.num (atCh K.TMU_STATE c) = (if s.num (atCh K.TMU_MODE c) = 0 then 0 else 1) ∧
        Frame [K.SIG_CURRENT, atCh K.TMU_STATE c] (.tb :: answered) s t) ∧
      (tmuJustDone s c = true → t.tmu c = { s.tmu c with rearm := none } ∧ Frame [K.SIG_CURRENT] (.tb :: answered) s t)) ∧
  ∀ (s : State) (c : Nat), s.pwr.stopped = false → c < 96 →
    (tmuExpired s c = true → ∃ t, exec (.tmuTimeout c) s = .next t ∧ t.tmu c = tmuInit ∧
      (s.num (atCh K.TMU_MODE c) < 5 → t.num (atCh K.TMU_STATE c) = 5 ∧ t.flag (atCh K.RES_FLAGS c) 2 = true ∧
        t.flag (atCh K.RES_FLAGS c) 0 = false) ∧
      (5 ≤ s.num (atCh K.TMU_MODE c) → t.num (atCh K.TMU_STATE c) = 4 ∧
        t.num (atCh K.RES_FLAGS c) = s.num (atCh K.RES_FLAGS c)) ∧ (∀ d, d ≠ c → t.tmu d = s.tmu d) ∧
      Frame (chKeys [K.TMU_STATE, K.RES_FLAGS] [c]) [.tb] s t) ∧
    (tmuExpired s c = false → ∃ t, exec (.tmuTimeout c) s = .next t ∧ Frame [] [] s t) ∧
    (∀ r, tmuRearmAt s c = some r → tmuRuns s c = true → ∃ t, exec (.tmuRearm c) s = .next t ∧
      t.num (atCh K.TMU_STATE c) = 2 ∧
      t.tmu c = { tmuInit with cond := tbCond s, armAt := r, rearm := some r, presc := (t.tmu c).presc } ∧
      (t.tmu c).presc < 8 ∧ (∀ d, d ≠ c → t.tmu d = s.tmu d) ∧ Frame [atCh K.TMU_STATE c] [.tb, .drawn] s t) ∧
    (tmuRearmAt s c = none ∨ tmuRuns s c = false → ∃ t, exec (.tmuRearm c) s = .next t ∧ Frame [] [] s t)

/-- While D02 is on, REF B within 20 ppm that qualifies sets its flags and its offset and becomes active where REF_SEL
selects it; beyond 20 ppm it does not qualify. A qualified REF B without edges or beyond 20 ppm is lost: it counts and
raises 0x77. A change of the active reference counts and slews until the slew's end. Holdover clears TB_LOCKED and
raises 0x77; the stage's lock sets it, and the first one since D02's power-up sets TB_NOW to 0. Seconds in range count
while D01 is on, the sixtieth sets TB_WARM and READY.WARM; beyond 0.05 °C they restart, beyond 0.2 °C TB_WARM clears. A
TB_WARM that clears, one that has not set in time and a heater fault raise 0x78. With the domain off, or where there is
nothing to change, these have no effect. REFOUT presents the active reference, the held marker in holdover, and nothing
while REFOUT_EN is 0. -/
def Obligations.TimeBaseEvents : Prop :=
  ∀ s : State, s.pwr.stopped = false →
    (∀ ppb : Int, domState s 2 ≠ 0 → -20000000 ≤ ppb → ppb ≤ 20000000 → ∃ t, exec (.refinQualified ppb) s = .next t ∧
      t.num K.REFIN_PPB = raw 32 ppb ∧
      t.flag K.TB_FLAGS 2 = true ∧ t.flag K.TB_FLAGS 3 = true ∧ t.num K.REF_ACTIVE = (if s.num K.REF_SEL = 1 then 1 else 0) ∧
      (t.num K.REF_ACTIVE ≠ s.num K.REF_ACTIVE → t.num K.REF_SWITCHES = inc32 (s.num K.REF_SWITCHES) ∧
        t.flag K.TB_FLAGS 5 = true) ∧
      (t.num K.REF_ACTIVE = s.num K.REF_ACTIVE → t.num K.REF_SWITCHES = s.num K.REF_SWITCHES) ∧
      Frame [K.REFIN_PPB, K.TB_FLAGS, K.REF_ACTIVE, K.REF_SWITCHES] [.tb] s t) ∧
    (∀ ppb : Int, domState s 2 = 0 ∨ ppb < -20000000 ∨ 20000000 < ppb →
      ∃ t, exec (.refinQualified ppb) s = .next t ∧ Frame [] [] s t) ∧
    (∀ (present : Bool) (ppb : Int), s.flag K.TB_FLAGS 3 = true → present = false ∨ ppb < -20000000 ∨ 20000000 < ppb →
      ∃ t, exec (.refinLoss present ppb) s = .next t ∧
      t.flag K.TB_FLAGS 2 = present ∧ t.flag K.TB_FLAGS 3 = false ∧ t.num K.REFIN_LOSSES = inc32 (s.num K.REFIN_LOSSES) ∧
      t.num K.REF_ACTIVE = 0 ∧ t.num K.REFIN_PPB = (if present then raw 32 ppb else s.num K.REFIN_PPB) ∧
      (s.num K.REF_ACTIVE ≠ 0 → t.num K.REF_SWITCHES = inc32 (s.num K.REF_SWITCHES) ∧ t.flag K.TB_FLAGS 5 = true) ∧
      (s.num K.REF_ACTIVE = 0 → t.num K.REF_SWITCHES = s.num K.REF_SWITCHES) ∧
      t.flt.arrived = s.flt.arrived ++ [(0x77, false)] ∧
      Frame [K.REFIN_PPB, K.REFIN_LOSSES, K.TB_FLAGS, K.REF_ACTIVE, K.REF_SWITCHES] [.tb, .arrived] s t) ∧
    (∀ (present : Bool) (ppb : Int), present = true → s.flag K.TB_FLAGS 3 = false ∨ -20000000 ≤ ppb ∧ ppb ≤ 20000000 →
      ∃ t, exec (.refinLoss present ppb) s = .next t ∧ Frame [] [] s t) ∧
    (s.flag K.TB_FLAGS 3 = false → ∀ ppb : Int, ∃ t, exec (.refinLoss false ppb) s = .next t ∧
      t.num K.TB_FLAGS = putBit (s.num K.TB_FLAGS) 2 false ∧ Frame [K.TB_FLAGS] [] s t) ∧
    (∃ t, exec .slewEnd s = .next t ∧ t.num K.TB_FLAGS = putBit (s.num K.TB_FLAGS) 5 false ∧ Frame [K.TB_FLAGS] [] s t) ∧
    (tbHoldover s = false → domState s 2 ≠ 0 → ∃ t, exec .referenceHoldover s = .next t ∧ tbHoldover t = true ∧
      tbLocked t = false ∧ t.flt.arrived = s.flt.arrived ++ [(0x77, false)] ∧ Frame [K.TB_FLAGS] [.tb, .arrived] s t) ∧
    (tbHoldover s = true ∨ domState s 2 = 0 → ∃ t, exec .referenceHoldover s = .next t ∧ Frame [] [] s t) ∧
    (domState s 2 ≠ 0 → ∃ t, exec .referenceStageLock s = .next t ∧ tbHoldover t = false ∧ tbLocked t = true ∧
      (tbHoldover s = true → t.flag K.TB_FLAGS 5 = true) ∧
      t.tb.epoch = true ∧ t.num K.TB_NOW = (if s.tb.epoch then s.num K.TB_NOW else 0) ∧
      Frame [K.TB_FLAGS, K.TB_NOW] [.tb] s t) ∧
    (domState s 2 = 0 → ∃ t, exec .referenceStageLock s = .next t ∧ Frame [] [] s t) ∧
    (domState s 1 ≠ 0 → ∃ t, exec .warmSecond s = .next t ∧ t.num K.WARM_SECONDS = inc32 (s.num K.WARM_SECONDS) ∧
      (60 ≤ t.num K.WARM_SECONDS → tbWarm t = true ∧ (tbWarm s = false → t.flag K.READY 28 = true)) ∧
      (t.num K.WARM_SECONDS < 60 → tbWarm t = tbWarm s) ∧
      Frame [K.WARM_SECONDS, K.TB_FLAGS, K.READY, K.READY_TIMES] [.tb] s t) ∧
    (domState s 1 = 0 → ∃ t, exec .warmSecond s = .next t ∧ Frame [] [] s t) ∧
    (∀ temp : Int, let d := temp - s.int32 K.OVEN_SETPOINT
      ∃ t, exec (.ovenOutOfRange temp) s = .next t ∧ t.num K.OVEN_TEMP = raw 32 temp ∧
        (d < -50 ∨ 50 < d → t.num K.WARM_SECONDS = 0) ∧
        (d < -200 ∨ 200 < d → tbWarm t = false) ∧
        (d < -200 ∨ 200 < d → tbWarm s = true → t.flag K.READY 28 = false ∧
          t.flt.arrived = s.flt.arrived ++ [(0x78, false)]) ∧
        (-50 ≤ d → d ≤ 50 → Frame [K.OVEN_TEMP] [] s t) ∧
        (-200 ≤ d → d ≤ 200 → Frame [K.OVEN_TEMP, K.WARM_SECONDS] [] s t) ∧
        Frame [K.OVEN_TEMP, K.WARM_SECONDS, K.TB_FLAGS, K.READY] [.tb, .arrived] s t) ∧
    (domState s 1 ≠ 0 → s.tb.wasWarm = false → ∃ t, exec .ovenWarmTimeout s = .next t ∧
      t.flt.arrived = s.flt.arrived ++ [(0x78, false)] ∧ Frame [] [.arrived] s t) ∧
    (domState s 1 = 0 ∨ s.tb.wasWarm = true → ∃ t, exec .ovenWarmTimeout s = .next t ∧ Frame [] [] s t) ∧
    (∃ t, exec .ovenHeaterFault s = .next t ∧ t.flt.arrived = s.flt.arrived ++ [(0x78, false)] ∧ Frame [] [.arrived] s t) ∧
    (s.num K.REFOUT_EN = 0 → refout s = .off) ∧
    (s.num K.REFOUT_EN ≠ 0 → domState s 2 ≠ 0 → tbHoldover s = true → refout s = .held) ∧
    (s.num K.REFOUT_EN ≠ 0 → domState s 2 ≠ 0 → tbHoldover s = false →
      refout s = if s.num K.REF_ACTIVE = 0 then .refA else .refB (if s.num K.REFIN_FREQ = 0 then 10 else 100))

/-- An accepted APPLY, and the first application after a reset of a partition that passes the checks, put the
partition's masks and sizes in force with MAP_STATE 0; regions whose layout stands keep their bytes, and MAP_EPOCH
counts where one changes. A partition that fails leaves MAP_STATE 2 and no region; APPLY is refused with code 7 while
the sequencer or a pump channel is busy, and with code 8 where a value fails. A ready stack that loses training leaves
ready and raises its source; for one that is not ready, and for a second application, there is no effect. -/
def Obligations.MemoryMapInForce : Prop :=
  (∀ (s : State) (v : Via), AcceptedKey s v K.MAP_CMD 1 → ∃ t, exec (.apply v) s = .next t ∧ mapNow t.mem = partition_ s ∧
    t.num K.MAP_STATE = 0 ∧ t.mem.out = 0 ∧ t.num K.PAT_SIZE = regionSize t.mem 0 ∧ t.num K.CIS_SIZE = regionSize t.mem 1 ∧
    t.num K.SCR_SIZE = regionSize t.mem 2 ∧
    (∀ r < 3, layout (mapNow s.mem) r = layout (partition_ s) r →
      ∀ a, winBase r ≤ a → a < winBase r + 0x4000000000 → memByte t.mem a = memByte s.mem a) ∧
    ((∀ r < 3, layout (mapNow s.mem) r = layout (partition_ s) r) → t.num K.MAP_EPOCH = s.num K.MAP_EPOCH) ∧
    (∀ r < 3, layout (mapNow s.mem) r ≠ layout (partition_ s) r → t.num K.MAP_EPOCH = inc32 (s.num K.MAP_EPOCH)) ∧
    Frame [K.MAP_STATE, K.MAP_EPOCH, K.PAT_SIZE, K.CIS_SIZE, K.SCR_SIZE, K.SIG_CURRENT] (.mem :: answered) s t) ∧
  (∀ (s : State) (v : Via), PassesGate s v K.MAP_CMD 1 →
    (mapIdle s = false → ∃ t, exec (.apply v) s = .next t ∧ RefusedWith s t v K.MAP_CMD 7) ∧
    (mapIdle s = true → mapValuesOk s = false → ∃ t, exec (.apply v) s = .next t ∧ RefusedWith s t v K.MAP_CMD 8)) ∧
  (∀ s : State, s.pwr.stopped = false →
    (s.pwr.mapTried = true → ∃ t, exec .mapAutoApply s = .next t ∧ Frame [] [] s t) ∧
    (s.pwr.mapTried = false → ∃ t, exec .mapAutoApply s = .next t ∧ t.pwr = { s.pwr with mapTried := true } ∧
      (mapValuesOk s = true → mapNow t.mem = partition_ s ∧ t.num K.MAP_STATE = 0 ∧ t.mem.out = 0) ∧
      (mapValuesOk s = false → mapNow t.mem = [(0, 0), (0, 0), (0, 0)] ∧ t.num K.MAP_STATE = 2 ∧
        t.num K.PAT_SIZE = 0 ∧ t.num K.CIS_SIZE = 0 ∧ t.num K.SCR_SIZE = 0) ∧
      Frame [K.MAP_STATE, K.MAP_EPOCH, K.PAT_SIZE, K.CIS_SIZE, K.SCR_SIZE] [.mem, .pwr] s t)) ∧
  ∀ (s : State) (m : Nat), s.pwr.stopped = false → m < 4 →
    (s.flag K.STACK_STATE m = true →
      ∃ t, exec (.stackLinkTrainingLoss m) s = .next t ∧ t.flag K.STACK_STATE m = false ∧ t.flag K.READY (12 + m) = false ∧
      domState t (8 + m) = 1 ∧ t.flt.arrived = s.flt.arrived ++ [(0x6C + m, false)] ∧
      Frame [K.DOM_STATE, K.STACK_STATE, K.READY] [.arrived] s t) ∧
    (s.flag K.STACK_STATE m = false → ∃ t, exec (.stackLinkTrainingLoss m) s = .next t ∧ Frame [] [] s t)

/-- An accepted START runs the channel from the head of its chain with its errors and hops cleared and the class of its
port. DOORBELL is pending in RUNNING, runs a channel in WAIT_END and is counted elsewhere. STOP is asked of a RUNNING
channel, whose position it keeps when it takes effect, and puts one in WAIT_END or ERROR in IDLE. RESUME runs a stopped
channel. A write of CUR_DESC moves the position. A bus error stops every RUNNING channel with error 1 and raises 0x72;
at a stack's address it is an uncorrectable read, counted and raised too. With no channel RUNNING it has no effect. -/
def Obligations.PumpCommandsTakeEffect : Prop :=
  (∀ (s : State) (v : PumpVia) (p cls : Nat), p < 16 →
    (PumpAsked s p 1 cls v → ∃ t, exec (.start v p) s = .next t ∧ pumpState t p = 1 ∧ t.num (atPump K.CH_ERR p) = 0 ∧
      t.num (atPump K.HOPS p) = 0 ∧ t.num (atPump K.DB_PENDING p) = 0 ∧ t.num (atPump K.CH_CLASS p) = cls ∧
      t.num (atPump K.CUR_DESC p) = s.num (atPump K.HEAD_ADDR p) ∧ t.num (atPump K.CUR_I0 p) = 0 ∧
      t.pch p = { pumpInit with ep := s.num (atPump K.HEAD_EP p) } ∧ OnlyChannel p s t ∧
      Frame (K.SIG_CURRENT :: pumpKeys [K.CH_STATE, K.CH_ERR, K.HOPS, K.DB_PENDING, K.CH_CLASS, K.CUR_DESC, K.CUR_I0,
        K.CUR_I0 + 1, K.CUR_I0 + 2] [p]) pumpParts s t) ∧
    (PumpAsked s p 0 cls v →
      (pumpState s p = 1 → ∃ t, exec (.doorbell v p) s = .next t ∧ t.num (atPump K.DB_PENDING p) = 1 ∧
        Frame [K.SIG_CURRENT, atPump K.DB_PENDING p] answered s t) ∧
      (pumpState s p = 2 → ∃ t, exec (.doorbell v p) s = .next t ∧ pumpState t p = 1 ∧
        t.pch p = { s.pch p with refetch := true } ∧ OnlyChannel p s t ∧
        Frame [K.SIG_CURRENT, atPump K.CH_STATE p] pumpParts s t) ∧
      (pumpState s p ≠ 1 → pumpState s p ≠ 2 → ∃ t, exec (.doorbell v p) s = .next t ∧
        t.num (atPump K.DB_IGNORED p) = inc32 (s.num (atPump K.DB_IGNORED p)) ∧
        Frame [K.SIG_CURRENT, atPump K.DB_IGNORED p] answered s t)) ∧
    (PumpAsked s p 2 cls v →
      (pumpState s p = 1 → ∃ t, exec (.stop v p) s = .next t ∧ t.num (atPump K.CH_CMD p) = 4 ∧
        t.pch p = { s.pch p with stopAsked := true } ∧ OnlyChannel p s t ∧
        Frame [K.SIG_CURRENT, atPump K.CH_CMD p] pumpParts s t) ∧
      (pumpState s p = 2 ∨ pumpState s p = 4 → ∃ t, exec (.stop v p) s = .next t ∧ pumpState t p = 0 ∧ OnlyChannel p s t ∧
        Frame [K.SIG_CURRENT, atPump K.CH_STATE p] pumpParts s t)) ∧
    (PumpAsked s p 3 cls v → ∃ t, exec (.resume v p) s = .next t ∧ pumpState t p = 1 ∧ t.num (atPump K.CH_CLASS p) = cls ∧
      (t.pch p).done = (s.pch p).done ∧ (t.pch p).crc = (s.pch p).crc ∧ OnlyChannel p s t ∧
      Frame (K.SIG_CURRENT :: pumpKeys [K.CH_STATE, K.CH_CLASS] [p]) pumpParts s t)) ∧
  (∀ (s : State) (p : Nat), s.pwr.stopped = false → p < 16 → pumpState s p = 1 → (s.pch p).stopAsked = true →
    (∀ d, (s.pch p).desc = some d → (s.pch p).refetch = true ∨ (s.pch p).done < dscTotal d) →
    ∃ t, exec (.stopTakesEffect p) s = .next t ∧ pumpState t p = 3 ∧ t.num (atPump K.CH_CMD p) = 0 ∧
      t.pch p = { s.pch p with stopAsked := false } ∧ OnlyChannel p s t ∧
      Frame (pumpKeys [K.CH_STATE, K.CH_CMD] [p]) [.pump] s t) ∧
  (∀ (s : State) (v : Via) (p a : Nat), p < 16 → a < 2 ^ 64 → AcceptedKey s v (atPump K.CUR_DESC p) a →
    ∃ t, exec (.curDesc v p a) s = .next t ∧ t.num (atPump K.CUR_DESC p) = a ∧
      (∀ i < 3, t.num (atPump (K.CUR_I0 + i) p) = 0) ∧ (t.pch p).desc = none ∧ (t.pch p).done = 0 ∧ OnlyChannel p s t ∧
      Frame (K.SIG_CURRENT :: pumpKeys [K.CUR_DESC, K.CUR_I0, K.CUR_I0 + 1, K.CUR_I0 + 2] [p]) pumpParts s t) ∧
  ∀ (s : State) (a ep : Nat), s.pwr.stopped = false →
    ((∀ p < 16, pumpState s p ≠ 1) → ∃ t, exec (.busError a ep) s = .next t ∧ Frame [] [] s t) ∧
    ((∃ p < 16, pumpState s p = 1) →
      let hit := (ep = 2 ∨ ep = 4) ∧ (regionOf s.mem (pumpMemAddr ep a)).isSome = true
      ∃ t, exec (.busError a ep) s = .next t ∧ BusEnded s t a ep ∧ (¬hit → BusStops s t a ep) ∧
      (∀ r off, (ep = 2 ∨ ep = 4) → regionOf s.mem (pumpMemAddr ep a) = some (r, off) →
        t.flt.arrived = s.flt.arrived ++ [(0x6C + stackOf s.mem r off, false), (0x72, false)] ∧
        t.num K.MEM_UE = inc32 (s.num K.MEM_UE) ∧ t.num K.MEM_UE_ADDR = pumpMemAddr ep a / 32 * 32 ∧
        pumpMemAddr ep a / 32 ∈ t.mem.bad ∧ (∀ x, memByte t.mem x = memByte s.mem x)) ∧
      Frame (K.MEM_UE :: K.MEM_UE_ADDR :: pumpErrorKeys (List.range 16)) [.pump, .arrived, .mem] s t)

/-- A valid descriptor that is awaited is taken for execution and counts a hop; a bad one, and one beyond the hop limit,
stop the channel with their error. An element between host memory, stacks and SRAM moves its bytes alone and counts
them; an uncorrectable block is a bus error; one that a STOP cuts off moves only the blocks before it and is not done.
Without a link to the host, a read or write there is a bus error. An element that fails a check stops the channel with
its error, address and endpoint. A DICT element reads its object, or stops the channel with the code it meets. A
complete descriptor counts with its tag and check word and leads to NEXT, to WAIT_END, to a re-fetch for a doorbell, or
to error 8. A re-fetch goes on with NEXT or waits. -/
def Obligations.PumpChainRuns : Prop :=
  (∀ (s : State) (p : Nat) (data : Bytes), s.pwr.stopped = false → awaits s p false = true →
    let d := fetchBytes s p data
    let h := s.num (atPump K.HOPS p) + 1
    ((s.pch p).ep ≠ 1 ∨ hostUp s = true →
      (fetchCheck s p = none → dscOk d = true → (s.pch p).resume = false → dscRing d = false →
        h ≤ s.num (atPump K.HOP_LIMIT p) → ∃ t, exec (.descriptorFetch p data) s = .next t ∧
          t.pch p = { s.pch p with desc := some d } ∧ t.num (atPump K.HOPS p) = h ∧ OnlyChannel p s t ∧
          Frame [atPump K.HOPS p] [.pump] s t) ∧
      (fetchCheck s p = none → dscOk d = true → (s.pch p).resume = false → dscRing d = false →
        s.num (atPump K.HOP_LIMIT p) < h → ∃ t, exec (.descriptorFetch p data) s = .next t ∧ pumpState t p = 4 ∧
          t.num (atPump K.CH_ERR p) = 2 ∧ t.flt.arrived = s.flt.arrived ++ [(0x73, false)] ∧ OnlyChannel p s t ∧
          Frame (pumpErrorKeys [p]) [.pump, .arrived] s t) ∧
      (fetchCheck s p = none → dscOk d = false → ∃ t, exec (.descriptorFetch p data) s = .next t ∧ pumpState t p = 4 ∧
          t.num (atPump K.CH_ERR p) = 3 ∧ t.num (atPump K.ERR_ADDR p) = s.num (atPump K.CUR_DESC p) ∧ OnlyChannel p s t ∧
          Frame (pumpErrorKeys [p]) [.pump] s t)) ∧
    (fetchCheck s p = none → (s.pch p).ep = 1 → hostUp s = false → ∃ t, exec (.descriptorFetch p data) s = .next t ∧
      BusStops s t (s.num (atPump K.CUR_DESC p)) 1)) ∧
  (∀ (s : State) (p n : Nat) (d : Bytes) (io : ElementIo), s.pwr.stopped = false → p < 16 → nextElement s p = some (d, n) →
    let a := dscAddrs d n
    let whole := (s.pch p).stopAsked = false ∨ io.blocks = 0 ∨ dscLen d ≤ 4096 * io.blocks
    let posKeys := pumpKeys [K.BYTES, K.CUR_I0, K.CUR_I0 + 1, K.CUR_I0 + 2] [p]
    (dscSrcEp d ≠ 5 → dscDstEp d ≠ 5 →
      (∀ e x ep, elementCheck s d n 0 0 = some (e, x, ep) → ∃ t, exec (.elementMove p io) s = .next t ∧
        pumpState t p = 4 ∧ t.num (atPump K.CH_ERR p) = e ∧ t.num (atPump K.ERR_ADDR p) = x ∧
        t.num (atPump K.ERR_EP p) = ep ∧ OnlyChannel p s t ∧
        Frame (pumpErrorKeys [p]) [.pump] s t) ∧
      (elementCheck s d n 0 0 = none → dscSrcEp d = 1 ∧ hostUp s = true ∨ dscSrcEp d = 3 → dscDstEp d = 3 → io.ups = [] →
        whole →
        let w := if dscSrcEp d = 1 then (io.host ++ zeros (dscLen d)).take (dscLen d) else sramRead s.pump a.1 (dscLen d)
        ∃ t, exec (.elementMove p io) s = .next t ∧ sramRead t.pump a.2 (dscLen d) = w ∧
          (∀ x, x < a.2 ∨ a.2 + dscLen d ≤ x → sramByte t.pump x = sramByte s.pump x) ∧
          t.pch p = { s.pch p with done := n + 1, crc := crcRun (s.pch p).crc w } ∧
          t.num (atPump K.BYTES p) = (s.num (atPump K.BYTES p) + dscLen d) % 2 ^ 64 ∧
          t.num (atPump K.CUR_I0 p) = (dscIndex d (n + 1)).1 ∧ (∀ q, q ≠ p → t.pch q = s.pch q) ∧
          Frame posKeys [.pump] s t) ∧
      (elementCheck s d n 0 0 = none → dscSrcEp d = 3 → dscDstEp d = 3 → io.ups = [] → (s.pch p).stopAsked = true →
        let k := 4096 * io.blocks
        0 < k → k < dscLen d → ∃ t, exec (.elementMove p io) s = .next t ∧ pumpState t p = 3 ∧
          sramRead t.pump a.2 k = sramRead s.pump a.1 k ∧
          (∀ x, x < a.2 ∨ a.2 + k ≤ x → sramByte t.pump x = sramByte s.pump x) ∧
          t.pch p = { s.pch p with stopAsked := false } ∧ (∀ q, q ≠ p → t.pch q = s.pch q) ∧
          t.num (atPump K.BYTES p) = (s.num (atPump K.BYTES p) + k) % 2 ^ 64 ∧
          Frame (pumpKeys [K.BYTES, K.CH_STATE, K.CH_CMD] [p]) [.pump] s t) ∧
      (elementCheck s d n 0 0 = none → hostUp s = false → io.ups = [] → dscSrcEp d = 1 ∨ dscSrcEp d = 3 ∧ dscDstEp d = 1 →
        ∃ t, exec (.elementMove p io) s = .next t ∧
          BusStops s t (if dscSrcEp d = 1 then a.1 else a.2) 1) ∧
      (elementCheck s d n 0 0 = none → dscSrcEp d = 3 → dscDstEp d = 1 → hostUp s = true → io.ups = [] →
        whole → ∃ t, exec (.elementMove p io) s = .next t ∧
        Out.hostWrite (s.num (atPump K.CH_CTRL p) % 2) a.2 (sramRead s.pump a.1 (dscLen d)) ∈ t.out ∧
        (t.pch p).done = n + 1 ∧ OnlyChannel p s t ∧ Frame posKeys [.pump, .out] s t) ∧
      (elementCheck s d n 0 0 = none → dscSrcEp d = 2 ∨ dscSrcEp d = 4 → dscDstEp d = 3 → io.ups = [] → whole →
        let m := pumpMemAddr (dscSrcEp d) a.1
        (badBlock s.mem m (dscLen d) = none → ∃ t, exec (.elementMove p io) s = .next t ∧
          sramRead t.pump a.2 (dscLen d) = memRead s.mem m (dscLen d) ∧ (t.pch p).done = n + 1 ∧ Frame posKeys [.pump] s t) ∧
        (∀ b, badBlock s.mem m (dscLen d) = some b → ∃ t, exec (.elementMove p io) s = .next t ∧
          BusEnded s t a.1 (dscSrcEp d) ∧ t.num K.MEM_UE = inc32 (s.num K.MEM_UE) ∧ t.num K.MEM_UE_ADDR = 32 * b ∧
          t.pump.sram = s.pump.sram ∧
          Frame (K.MEM_UE :: K.MEM_UE_ADDR :: pumpErrorKeys (List.range 16)) [.pump, .arrived, .mem] s t)) ∧
      (elementCheck s d n 0 0 = none → dscSrcEp d = 3 → dscDstEp d = 2 ∨ dscDstEp d = 4 → io.ups = [] → whole →
        let m := pumpMemAddr (dscDstEp d) a.2
        badBlock s.mem m (dscLen d) = none → ∃ t, exec (.elementMove p io) s = .next t ∧
          memRead t.mem m (dscLen d) = sramRead s.pump a.1 (dscLen d) ∧
          (∀ x, x < m ∨ m + dscLen d ≤ x → memByte t.mem x = memByte s.mem x) ∧ (t.pch p).done = n + 1 ∧
          OnlyChannel p s t ∧ Frame posKeys [.pump, .mem] s t)) ∧
    (dscSrcEp d = 5 → dscDstEp d = 3 → serving s = true → s.mgmt.held = none → s.pwr.softReset = false →
      elementCheck s d n (dictLimit a.1) (dictLimit a.2) = none →
      let i := a.1 / 2 ^ 32 % 65536
      let u := a.1 / 2 ^ 24 % 256
      let c := readCode s (askerCh s p) false i u (a.1 % 2 ^ 24) (dscLen d)
      (c = 0 → ∃ t, exec (.dictElement p io.host) s = .next t ∧
        sramRead t.pump a.2 (dscLen d) = readData s i u (a.1 % 2 ^ 24) (dscLen d) ∧ (t.pch p).done = n + 1 ∧
        Frame posKeys [.pump, .mgmt] s t) ∧
      (c ≠ 0 → ∃ t, exec (.dictElement p io.host) s = .next t ∧ pumpState t p = 4 ∧ t.num (atPump K.CH_ERR p) = 7 ∧
        t.num (atPump K.DICT_CODE p) = c ∧ OnlyChannel p s t ∧
        Frame (K.ATTN_EVENTS :: pumpKeys [K.CH_STATE, K.CH_CMD, K.CH_ERR, K.ERR_ADDR, K.ERR_EP, K.DICT_CODE] [p])
          [.pump, .mgmt] s t))) ∧
  (∀ (s : State) (p : Nat) (d : Bytes), s.pwr.stopped = false → p < 16 → (s.pch p).desc = some d → pumpState s p = 1 →
    (s.pch p).refetch = false → dscTotal d ≤ (s.pch p).done →
    let crc := (s.pch p).crc ^^^ 0xFFFFFFFF
    ∃ t, exec (.descriptorComplete p) s = .next t ∧ t.num (atPump K.DONE_COUNT p) = inc32 (s.num (atPump K.DONE_COUNT p)) ∧
      t.num (atPump K.LAST_TAG p) = dscTag d ∧ t.num (atPump K.CRC_LAST p) = crc ∧ OnlyChannel p s t ∧
      (dscFlag d 4 = true → crc ≠ dscCrc d → pumpState t p = 4 ∧ t.num (atPump K.CH_ERR p) = 8 ∧
        t.num (atPump K.CRC_FAILS p) = inc32 (s.num (atPump K.CRC_FAILS p))) ∧
      (dscFlag d 4 = false ∨ crc = dscCrc d → dscEnd d = false → t.num (atPump K.CUR_DESC p) = dscNext d ∧
        (t.pch p).desc = none ∧ pumpState t p = 1) ∧
      (dscFlag d 4 = false ∨ crc = dscCrc d → dscEnd d = true →
        (s.num (atPump K.DB_PENDING p) = 1 → (t.pch p).refetch = true ∧ pumpState t p = 1 ∧ t.num (atPump K.DB_PENDING p) = 0) ∧
        (s.num (atPump K.DB_PENDING p) ≠ 1 → pumpState t p = 2 ∧ t.flag K.ATTN_EVENTS 10 = true)) ∧
      Frame (K.ATTN_EVENTS :: pumpKeys [K.CH_STATE, K.CH_CMD, K.CH_ERR, K.ERR_ADDR, K.ERR_EP, K.DONE_COUNT, K.LAST_TAG,
        K.CRC_LAST, K.CRC_FAILS, K.CUR_DESC, K.CUR_I0, K.CUR_I0 + 1, K.CUR_I0 + 2, K.DB_PENDING] [p]) [.pump, .out] s t) ∧
  ∀ (s : State) (p : Nat) (data : Bytes), s.pwr.stopped = false → awaits s p true = true → fetchCheck s p = none →
    let d := fetchBytes s p data
    ((s.pch p).ep = 1 → hostUp s = false → ∃ t, exec (.refetch p data) s = .next t ∧
      BusStops s t (s.num (atPump K.CUR_DESC p)) 1) ∧
    ((s.pch p).ep ≠ 1 ∨ hostUp s = true → ∃ t, exec (.refetch p data) s = .next t ∧ t.num (atPump K.REFETCHES p) = inc32 (s.num (atPump K.REFETCHES p)) ∧
      OnlyChannel p s t ∧
      (dscEnd d = false → t.num (atPump K.CUR_DESC p) = dscNext d ∧ (t.pch p).desc = none ∧ pumpState t p = 1) ∧
      (dscEnd d = true → s.num (atPump K.DB_PENDING p) = 1 → (t.pch p).refetch = true ∧ pumpState t p = 1 ∧
        t.num (atPump K.DB_PENDING p) = 0) ∧
      (dscEnd d = true → s.num (atPump K.DB_PENDING p) ≠ 1 → (t.pch p).refetch = false ∧ pumpState t p = 2) ∧
      Frame (pumpKeys [K.REFETCHES, K.CH_STATE, K.CH_CMD, K.CUR_DESC, K.CUR_I0, K.CUR_I0 + 1, K.CUR_I0 + 2, K.DB_PENDING] [p])
        [.pump] s t)

/-- An accepted SELF queues the selected channels whose tile is ready and that are not fenced, sets the others SKIPPED
and begins one in each tile; with none to run it ends at once, counted. An ABORT ends the channels in progress as
ABORTED. A result within its limits goes to the channel's pending set as TRIMMED; one beyond a limit leaves the trims,
names the limits and raises the channel's source. An interpolator result that comes with it goes to the tile's pending
set, or beyond its limit raises the tile's source. A busy input ends the channel as BUSY, counted. A channel that is not
being calibrated stands. The pending sets become active while no burst runs, and at no other time. A base write replaces
one base with its drifts at 0 and takes the channel's last reading as its reference; a VREF write is stored; UNSAVED
follows. -/
def Obligations.SelfCalibration : Prop :=
  (∀ (s : State) (v : Via), AcceptedKey s v K.CAL_CMD 1 →
    let run := (List.range 96).filter (fun c => calSelected s c && calRuns s c)
    (run ≠ [] → ∃ t, exec (.self v) s = .next t ∧ t.num K.CAL_STATE = 1 ∧ t.num K.CAL_CMD = 1 ∧
      t.cal = { s.cal with todo := s.cal.todo ++ run.filter (fun c => !s.cal.todo.contains c), chosen := run } ∧
      (∀ c < 96, calSelected s c = true → c ∉ run → calibrating s c = false → t.num (atCh K.CAL_STATUS c) = 5) ∧
      (∀ c ∈ run, ∃ d ∈ lanesOf (tileOf c), calibrating t d = true) ∧ Frame (K.SIG_CURRENT :: calKeys) (calParts ++ answered) s t) ∧
    (run = [] → ∃ t, exec (.self v) s = .next t ∧ t.num K.CAL_STATE = 0 ∧
      t.num K.SELF_RUNS = inc32 (s.num K.SELF_RUNS) ∧ t.flag K.ATTN_EVENTS 9 = true ∧
      Frame (K.SIG_CURRENT :: calKeys) (calParts ++ answered) s t)) ∧
  (∀ (s : State) (v : Via), AcceptedKey s v K.CAL_CMD 2 →
    (s.num K.CAL_STATE ≠ 1 → ∃ t, exec (.abort v) s = .next t ∧ Frame [K.SIG_CURRENT] answered s t) ∧
    (s.num K.CAL_STATE = 1 → ∃ t, exec (.abort v) s = .next t ∧ t.num K.CAL_STATE = 0 ∧
      (∀ c < 96, calibrating s c = true → tileReady s (tileOf c) = true → t.num (atCh K.CAL_STATUS c) = 6 ∧
        t.num (atCh K.CH_STALE c) = 0) ∧ t.cal.pending = s.cal.pending ∧
      Frame (K.SIG_CURRENT :: calKeys) (calParts ++ answered) s t)) ∧
  (∀ (s : State) (c : Nat), s.pwr.stopped = false → c < 96 → calibrating s c = true →
    (∀ r : CalResult,
      let u := tileOf c
      let dr := drifts s c r.ldrv r.lcmp
      let bits := ofBool (!dacOk r.dac) + 2 * ofBool (!within 15000 (i16s r.ofs 5)) + 4 * ofBool (!within 25000 [dr.1, dr.2])
      let piBad := match r.pi with | some d => !within 32 (i16s d 32) | none => false
      let piKeys := if piBad then [K.CAL_FLAGS, atTile K.TILE_CAUSE u] else []
      let tileRaised : List (Nat × Bool) := if piBad then [(0x60 + u, false)] else []
      ∃ t, exec (.channelCalComplete c r) s = .next t ∧
      t.cal.pendPi = (match r.pi with | some d => if piBad then s.cal.pendPi else aPut s.cal.pendPi u d | none => s.cal.pendPi) ∧
      (piBad = true → t.flag K.CAL_FLAGS 3 = true ∧ t.flag K.ATTN_EVENTS 9 = true ∧ t.flag (atTile K.TILE_CAUSE u) 3 = true) ∧
      (bits = 0 → t.num (atCh K.CAL_STATUS c) = 2 ∧
        t.num (atCh K.LAST_CAL c) = s.num K.TB_NOW ∧ t.num (atCh K.CH_STALE c) = 0 ∧
        nextTrims t c = { nextTrims s c with dDrv := dr.1, dCmp := dr.2, dCap := dr.2, dac := r.dac, ofs := r.ofs } ∧
        aFind t.cal.readings c = some (r.ldrv, r.lcmp) ∧ t.flt.arrived = s.flt.arrived ++ tileRaised ∧
        Frame (piKeys ++ chKeys [K.PENDING, K.LAST_CAL] [c] ++ calKeys) (.arrived :: calParts) s t) ∧
      (bits ≠ 0 → t.num (atCh K.CAL_STATUS c) = 4 ∧
        t.num (atCh K.CAL_FAIL_BITS c) = bits ∧ t.flag K.CAL_FLAGS 3 = true ∧ t.flag K.ATTN_EVENTS 9 = true ∧
        t.flt.arrived = s.flt.arrived ++ tileRaised ++ [(c, false)] ∧ t.cal.pending = s.cal.pending ∧
        Frame (K.CAL_FLAGS :: (piKeys ++ calKeys)) (.arrived :: calParts) s t)) ∧
    ∃ t, exec (.calInputBusy c) s = .next t ∧ t.num (atCh K.CAL_STATUS c) = 3 ∧
      t.num (atCh K.BUSY_COUNT c) = inc32 (s.num (atCh K.BUSY_COUNT c)) ∧ t.flag K.CAL_FLAGS 2 = true ∧
      t.cal.pending = s.cal.pending ∧ Frame (K.CAL_FLAGS :: atCh K.BUSY_COUNT c :: calKeys) calParts s t) ∧
  (∀ (s : State) (c : Nat), s.pwr.stopped = false → c < 96 → calibrating s c = false →
    (∀ r : CalResult, ∃ t, exec (.channelCalComplete c r) s = .next t ∧ Frame [] [] s t) ∧
    ∃ t, exec (.calInputBusy c) s = .next t ∧ Frame [] [] s t) ∧
  (∀ s : State, s.pwr.stopped = false → (s.cal.pending.map Prod.fst).Nodup →
    (∀ p ∈ s.cal.pending, p.1 < 96) → (∀ p ∈ s.cal.pendPi, p.1 < 12) →
    (seqQuiet s = true ∨ s.num K.SEQ_STATE = 2 ∧ s.seq.loaded = false → ∃ t, exec .trimApply s = .next t ∧
      t.cal = { s.cal with pending := [], pendPi := [] } ∧
      (∀ c x, (c, x) ∈ s.cal.pending → t.num (atCh K.DRV_BASE c) = raw 32 x.drv ∧ t.num (atCh K.CMP_BASE c) = raw 32 x.cmp ∧
        t.num (atCh K.CAP_BASE c) = raw 32 x.cap ∧ t.num (atCh K.DRV_DRIFT c) = raw 32 x.dDrv ∧
        t.num (atCh K.CMP_DRIFT c) = raw 32 x.dCmp ∧ t.num (atCh K.CAP_DRIFT c) = raw 32 x.dCap ∧
        t.blob (atCh K.DAC_TRIM c) = x.dac ∧ t.blob (atCh K.CMP_OFS c) = x.ofs ∧ t.num (atCh K.PENDING c) = 0) ∧
      Frame (s.cal.pendPi.map (fun p => K.PI_CORR_T0 + p.1) ++ chKeys [K.DRV_BASE, K.CMP_BASE, K.CAP_BASE, K.DRV_DRIFT,
        K.CMP_DRIFT, K.CAP_DRIFT, K.DAC_TRIM, K.CMP_OFS, K.PENDING] (s.cal.pending.map Prod.fst)) [.cal] s t) ∧
    (seqQuiet s = false → s.num K.SEQ_STATE ≠ 2 ∨ s.seq.loaded = true → ∃ t, exec .trimApply s = .next t ∧ Frame [] [] s t)) ∧
  (∀ (s : State) (v : Via) (c which : Nat) (value : Int), c < 96 → which < 3 →
    AcceptedKey s v (atCh (K.DRV_BASE + which) c) (raw 32 value) →
    let x := { nextTrims s c with dDrv := 0, dCmp := 0, dCap := 0 }
    let b := signed 32 (raw 32 value)
    ∃ t, exec (.baseWrite v c which value) s = .next t ∧
      nextTrims t c = (if which = 0 then { x with drv := b } else if which = 1 then { x with cmp := b } else { x with cap := b }) ∧
      t.num (atCh K.BASE_SOURCE c) = 2 ∧ t.flag K.CAL_FLAGS 5 = unsaved t ∧
      aFind t.cal.refs c = some ((aFind s.cal.readings c).getD (0, 0)) ∧
      Frame (K.CAL_FLAGS :: K.SIG_CURRENT :: chKeys [K.PENDING, K.BASE_SOURCE] [c]) (.cal :: answered) s t) ∧
  ∀ (s : State) (v : Via) (u : Nat) (value : Int), u < 12 → AcceptedKey s v (K.VREF_T0 + u) (raw 32 value) →
    ∃ t, exec (.vrefWrite v u value) s = .next t ∧ t.num (K.VREF_T0 + u) = raw 32 value ∧
      t.flag K.CAL_FLAGS 5 = unsaved t ∧ Frame [K.CAL_FLAGS, K.SIG_CURRENT, K.VREF_T0 + u] answered s t

/-- An accepted STORE or REVERT takes the record it will write as the module stands, and is STORING; an accepted RELOAD
loads the bases and VREF of the active record with drift 0 and every CAL_STATUS 0. A store that passes its read-back
makes its record the active one in the other bank, counted; one that fails leaves the active record, counts and raises
0x7E. On hold-up power D00, and the ALIVE pair with it, then stops, and it stops at V_MIN with the store cut. HOLD_V and
the capacitance give HOLD_E; above 6.0 V the first test gives the capacitance once, a free value where the fall measured
is 0 (log entry 4). Without a store, and below that voltage, these have no effect. -/
def Obligations.RecordsAndHoldup : Prop :=
  (∀ (s : State) (v : Via),
    (AcceptedKey s v K.STORE_CMD 1 → ∃ t, exec (.store v) s = .next t ∧ t.cal = { s.cal with job := some (newRecord s 2) } ∧
      t.num K.CAL_STATE = 2 ∧ t.num K.STORE_CMD = 1 ∧ Frame [K.CAL_STATE, K.STORE_CMD, K.SIG_CURRENT] (.cal :: answered) s t) ∧
    (AcceptedKey s v K.STORE_CMD 2 → ∃ t, exec (.revert v) s = .next t ∧ t.cal = { s.cal with job := some (newRecord s 1) } ∧
      t.num K.CAL_STATE = 2 ∧ t.num K.STORE_CMD = 2 ∧ Frame [K.CAL_STATE, K.STORE_CMD, K.SIG_CURRENT] (.cal :: answered) s t) ∧
    (AcceptedKey s v K.STORE_CMD 4 →
      let d := baseSection s.cal.record
      ∃ t, exec (.reload v) s = .next t ∧
        (∀ c < 96, t.num (atCh K.CAL_STATUS c) = 0 ∧ (nextTrims t c).drv = (secBases d c).1 ∧
          (nextTrims t c).cmp = (secBases d c).2.1 ∧ (nextTrims t c).cap = (secBases d c).2.2.1 ∧
          (nextTrims t c).dDrv = 0 ∧ (nextTrims t c).dCmp = 0 ∧ (nextTrims t c).dCap = 0 ∧
          t.num (atCh K.BASE_SOURCE c) = byteAt s.cal.record 6 ∧
          aFind t.cal.refs c = some ((secBases d c).2.2.2.1, (secBases d c).2.2.2.2)) ∧
        (∀ u < 12, t.num (K.VREF_T0 + u) = raw 32 (secVref d u)) ∧ t.flag K.CAL_FLAGS 5 = unsaved t ∧
        Frame ([K.CAL_FLAGS, K.SIG_CURRENT] ++ (List.range 12).map (K.VREF_T0 + ·) ++
          chKeys [K.CAL_STATUS, K.PENDING, K.BASE_SOURCE] (List.range 96)) (.cal :: answered) s t)) ∧
  (∀ (s : State) (d : Bytes), s.pwr.stopped = false → s.cal.job = some d →
    (∃ t, exec (.storeComplete true) s = .next t ∧ t.cal.record = d ∧ t.cal.job = none ∧ t.num K.ACTIVE_BANK = storeBank s ∧
      t.num K.ACTIVE_SEQ = fieldAt d 8 4 ∧ (if storeBank s = 1 then t.cal.bankA = d else t.cal.bankB = d) ∧
      t.num K.STORES = inc32 (s.num K.STORES) ∧ t.num K.CAL_STATE = 0 ∧ t.num K.STORE_CMD = 0 ∧
      t.flag K.ATTN_EVENTS 9 = true ∧ t.flag K.CAL_FLAGS 5 = unsaved t ∧ t.pwr.stopped = s.pwr.holding ∧
      t.flt = (if s.pwr.holding then { s.flt with aliveP := false, aliveN := false } else s.flt) ∧
      Frame [K.ACTIVE_BANK, K.ACTIVE_SEQ, K.STORES, K.CAL_STATE, K.STORE_CMD, K.CAL_FLAGS, K.ATTN_EVENTS] [.cal, .pwr, .flt] s t) ∧
    (∃ t, exec (.storeComplete false) s = .next t ∧ t.cal.record = s.cal.record ∧ t.cal.job = none ∧
      t.num K.STORE_FAILS = inc32 (s.num K.STORE_FAILS) ∧
      t.flt = (if s.pwr.holding then { s.flt with arrived := s.flt.arrived ++ [(0x7E, false)], aliveP := false, aliveN := false }
        else { s.flt with arrived := s.flt.arrived ++ [(0x7E, false)] }) ∧
      t.num K.CAL_STATE = 0 ∧ t.num K.STORE_CMD = 0 ∧ t.pwr.stopped = s.pwr.holding ∧
      (if storeBank s = 1 then t.cal.bankB = s.cal.bankB else t.cal.bankA = s.cal.bankA) ∧
      Frame [K.STORE_FAILS, K.CAL_STATE, K.STORE_CMD, K.ATTN_EVENTS] [.cal, .pwr, .flt] s t) ∧
    (s.pwr.holding = true → ∃ t, exec .vholdAtVMin s = .next t ∧ t.pwr.stopped = true ∧ t.cal.job = none ∧
      t.cal.record = s.cal.record ∧ t.flt = { s.flt with aliveP := false, aliveN := false } ∧
      (if storeBank s = 1 then t.cal.bankB = s.cal.bankB else t.cal.bankA = s.cal.bankA) ∧
      Frame [] [.cal, .pwr, .flt] s t)) ∧
  ∀ s : State, s.pwr.stopped = false →
    (s.cal.job = none → ∀ ok, ∃ t, exec (.storeComplete ok) s = .next t ∧ Frame [] [] s t) ∧
    (s.cal.job = none ∨ s.pwr.holding = false → ∃ t, exec .vholdAtVMin s = .next t ∧ Frame [] [] s t) ∧
    (s.num K.HOLD_V ≤ 6000 ∨ s.flag K.CAL_FLAGS 6 = true → ∀ fall, ∃ t, exec (.holdupTest fall) s = .next t ∧ Frame [] [] s t) ∧
    (6000 < s.num K.HOLD_V → s.flag K.CAL_FLAGS 6 = false → ∀ fall,
      ∃ t, exec (.holdupTest fall) s = .next t ∧ t.flag K.CAL_FLAGS 6 = true ∧ t.flag K.READY 29 = true ∧
        t.num K.HOLD_E = holdEnergy t ∧
        (fall ≠ 0 → t.num K.HOLD_C = (if 1000000 < fall then 0 else 1000000000 / fall) ∧ t.freeCtr = s.freeCtr) ∧
        (fall = 0 → t.freeCtr = s.freeCtr + 1) ∧
        Frame [K.HOLD_C, K.HOLD_E, K.CAL_FLAGS, K.READY, K.READY_TIMES] [.drawn] s t) ∧
    (∀ mv < 2 ^ 32, ∃ t, exec (.holdVRefresh mv) s = .next t ∧ t.num K.HOLD_V = mv ∧
      t.flag K.SUPPLY_OK 7 = decide (5000 < mv) ∧ t.num K.HOLD_E = holdEnergy t ∧
      Frame [K.HOLD_V, K.SUPPLY_OK, K.HOLD_E] [] s t)

/-- A collection cycle that collects one source records it with the severity in force. A notice, and an injected source
while INJ_REACT is clear, does nothing more; S1 and S3 while RUNNING wait for a FAULT trap; S1 of source 0x7C throttles;
S3 outside a burst fences the unit; S2 ends the burst with cause 0x23 and its position; S4 enters the safe state. With
nothing arrived nothing changes. Writes of STICKY clear the records of the bits written. FIRE counts and raises its
source injected. SET fences the unit, during a burst through a trap until which its bit reads 1; LIFT lifts it. A
watchdog that expires locks the core and enters the safe state; its first refresh starts the ALIVE pair, which toggles
and tells healthy from degraded; without an effect left to make these leave everything as it was. -/
def Obligations.FaultsAndFences : Prop :=
  (∀ (s : State) (n : Nat) (inj : Bool), s.pwr.stopped = false → n < 128 → s.flt.arrived = [(n, inj)] →
    (s.blob K.SEV_MAP).length = 128 → reactOf s n < 5 →
    let acts := inj = false ∨ s.num K.INJ_REACT = 1
    ∃ t, exec .faultCollect s = .next t ∧ srcFlag t K.STICKY_LO n = true ∧ sevOf t n = reactOf s n ∧
      srcFlag t K.REAL_LO n = (srcFlag s K.REAL_LO n || !inj) ∧ srcFlag t K.INJ_LO n = (srcFlag s K.INJ_LO n || inj) ∧
      t.num K.OCCURRENCES = inc32 (s.num K.OCCURRENCES) ∧
      (anySticky s = false → t.num K.FIRST_LO = t.num K.STICKY_LO ∧ t.num K.FIRST_HI = t.num K.STICKY_HI) ∧
      (anySticky s = true → t.num K.FIRST_LO = s.num K.FIRST_LO ∧ t.num K.FIRST_HI = s.num K.FIRST_HI) ∧
      (reactOf s n = 0 ∨ ¬acts → t.flt = { s.flt with arrived := [] } ∧ Frame (advanceKeys ++ faultKeys) (.flt :: startParts) s t) ∧
      (acts → reactOf s n = 1 → s.num K.SEQ_STATE = 4 → t.flag K.TRAP_PENDING 0 = true ∧ t.num K.SEQ_STATE = 4 ∧
        t.flt = { s.flt with arrived := [] } ∧
        (n = 0x7C → t.num K.THERM_STATE = 1 ∧
          t.num K.THROTTLES = if s.num K.THERM_STATE = 1 then s.num K.THROTTLES else inc32 (s.num K.THROTTLES)) ∧
        (n ≠ 0x7C → t.num K.THERM_STATE = s.num K.THERM_STATE ∧ t.num K.THROTTLES = s.num K.THROTTLES) ∧
        Frame (K.THERM_STATE :: K.THROTTLES :: K.TRAP_PENDING :: (advanceKeys ++ faultKeys)) (.flt :: startParts) s t) ∧
      (acts → reactOf s n = 1 → s.num K.SEQ_STATE ≠ 4 → t.flt = { s.flt with arrived := [] } ∧
        t.num K.FAULT_ISSUE = s.num K.ISSUES ∧ (n = 0x7C → t.num K.THERM_STATE = 1) ∧
        Frame ([K.THERM_STATE, K.THROTTLES, K.FAULT_ISSUE, K.FAULT_SEGMENT] ++ advanceKeys ++ faultKeys) (.flt :: startParts) s t) ∧
      (acts → reactOf s n = 3 → s.num K.SEQ_STATE = 4 → t.flag K.TRAP_PENDING 0 = true ∧
        t.flt = { s.flt with arrived := [], fenceWait := s.flt.fenceWait ++ [n] } ∧
        Frame (K.TRAP_PENDING :: (advanceKeys ++ faultKeys)) (.flt :: startParts) s t) ∧
      (acts → reactOf s n = 3 → s.num K.SEQ_STATE ≠ 4 → n < 0x70 → unitFenced t n = true ∧
        t.num K.FAULT_ISSUE = s.num K.ISSUES ∧
        t.num K.FENCES = (if unitFenced s n then s.num K.FENCES else inc32 (s.num K.FENCES)) ∧
        Frame ([K.FAULT_ISSUE, K.FAULT_SEGMENT] ++ fenceKeys ++ advanceKeys ++ faultKeys) (.flt :: fenceParts) s t) ∧
      (acts → reactOf s n = 2 → t.num K.FAULT_ISSUE = s.num K.ISSUES ∧
        Halts 0x23 ([K.FAULT_ISSUE, K.FAULT_SEGMENT, K.FENCE_CMD, K.DROPS, K.RING_CAUSE] ++ fenceKeys ++ advanceKeys ++ faultKeys)
          (.ring :: .flt :: fenceParts) s t) ∧
      (acts → reactOf s n = 4 → t.num K.FAULT_ISSUE = s.num K.ISSUES ∧ t.num K.SAFE = 1 ∧ t.num K.ALIVE_STATE = 0 ∧
        t.flt.aliveP = false ∧ t.flt.aliveN = false ∧ (∀ d < 24, d ∈ [2, 3, 4] ∨ 8 ≤ d → domState t d = 0) ∧
        Frame ([K.DROPS, K.ALIVE_STATE, K.ALIVE_CHANGES, K.SAFE, K.ERR_GRANULE, K.ERR_SEGMENT, K.RING_CAUSE] ++ offKeys ++
          advanceKeys ++ faultKeys) offParts s t)) ∧
  (∀ (s : State) (v : Via),
    (∀ (hi : Bool) (m : Nat), m < 2 ^ 64 → AcceptedKey s v (if hi then K.STICKY_HI else K.STICKY_LO) m →
      (s.blob K.SEV_MAP).length = 128 →
      let hit (n : Nat) : Bool := bit m (n % 64) && decide (n / 64 = ofBool hi)
      ∃ t, exec (.stickyClear v hi m) s = .next t ∧
        (∀ n < 128, srcFlag t K.STICKY_LO n = (srcFlag s K.STICKY_LO n && !hit n) ∧
          srcFlag t K.REAL_LO n = (srcFlag s K.REAL_LO n && !hit n) ∧
          srcFlag t K.INJ_LO n = (srcFlag s K.INJ_LO n && !hit n) ∧ sevOf t n = (if hit n then 0xFF else sevOf s n)) ∧
        (anySticky t = false → t.num K.FIRST_LO = 0 ∧ t.num K.FIRST_HI = 0) ∧
        Frame (K.SIG_CURRENT :: faultKeys) answered s t) ∧
    (∀ src value, src < 128 → value < 256 → AcceptedKey s v (K.REACT_s + src) value →
      ∃ t, exec (.reactWrite v src value) s = .next t ∧ reactOf t src = value ∧
        Frame [K.SIG_CURRENT, K.REACT_s + src] answered s t) ∧
    (AcceptedKey s v K.INJ_CMD 1 → ∃ t, exec (.fire v) s = .next t ∧ t.num K.INJ_FIRED = inc32 (s.num K.INJ_FIRED) ∧
      t.flt.arrived = s.flt.arrived ++ [(s.num K.INJ_SRC, true)] ∧ Frame [K.SIG_CURRENT, K.INJ_FIRED] (.arrived :: answered) s t) ∧
    (AcceptedKey s v K.FENCE_CMD 1 →
      let u := s.num K.FENCE_UNIT
      (unitFenced s u = true → ∃ t, exec (.set v) s = .next t ∧ Frame [K.SIG_CURRENT] answered s t) ∧
      (unitFenced s u = false → s.num K.SEQ_STATE = 4 → ∃ t, exec (.set v) s = .next t ∧ t.flag K.TRAP_PENDING 0 = true ∧
        t.flag K.FENCE_CMD 0 = true ∧ t.flt = { s.flt with fenceWait := s.flt.fenceWait ++ [u] } ∧
        Frame [K.SIG_CURRENT, K.TRAP_PENDING, K.FENCE_CMD] (.flt :: answered) s t) ∧
      (unitFenced s u = false → s.num K.SEQ_STATE ≠ 4 → ∃ t, exec (.set v) s = .next t ∧ unitFenced t u = true ∧
        t.num K.FENCES = inc32 (s.num K.FENCES) ∧
        Frame (K.SIG_CURRENT :: (advanceKeys ++ fenceKeys)) (fenceParts ++ answered) s t)) ∧
    (AcceptedKey s v K.FENCE_CMD 2 →
      let u := s.num K.FENCE_UNIT
      (unitFenced s u = false → ∃ t, exec (.lift v) s = .next t ∧ Frame [K.SIG_CURRENT] answered s t) ∧
      (unitFenced s u = true → ∃ t, exec (.lift v) s = .next t ∧ unitFenced t u = false ∧
        t.num K.FENCES = s.num K.FENCES ∧
        Frame (K.SIG_CURRENT :: (fenceKeys ++ advanceKeys)) (.units :: (startParts ++ answered)) s t))) ∧
  ∀ s : State, s.pwr.stopped = false →
    (s.flt.arrived = [] → ∃ t, exec .faultCollect s = .next t ∧ Frame [] [] s t) ∧
    (s.pwr.locked = false → ∃ t, exec .watchdogExpiry s = .next t ∧ t.pwr.locked = true ∧ t.num K.SAFE = 1 ∧
      t.num K.ALIVE_STATE = 0 ∧ t.flt.aliveP = false ∧ t.flt.aliveN = false ∧ t.flag K.READY 0 = false ∧
      (∀ d < 24, d ∈ [2, 3, 4] ∨ 8 ≤ d → domState t d = 0) ∧
      Frame ([K.ALIVE_STATE, K.ALIVE_CHANGES, K.SAFE, K.ERR_GRANULE, K.ERR_SEGMENT] ++ offKeys) (.pwr :: offParts) s t) ∧
    (s.pwr.locked = true → ∃ t, exec .watchdogExpiry s = .next t ∧ Frame [] [] s t) ∧
    (s.pwr.locked = false → s.flag K.READY 0 = true → s.flt.refreshed = false → ∃ t, exec .watchdogRefresh s = .next t ∧
      t.flt.refreshed = true ∧ (s.num K.SAFE ≠ 1 → t.num K.ALIVE_STATE = (if degraded s then 2 else 1) ∧
        t.flt.aliveP = true ∧ t.flt.aliveN = false) ∧ Frame [K.ALIVE_STATE, K.ALIVE_CHANGES] [.flt] s t) ∧
    (s.pwr.locked = true ∨ s.flag K.READY 0 = false ∨ s.flt.refreshed = true →
      ∃ t, exec .watchdogRefresh s = .next t ∧ Frame [] [] s t) ∧
    (s.num K.ALIVE_STATE ≠ 0 → ∃ t, exec .aliveToggle s = .next t ∧ t.flt.aliveP = (!s.flt.aliveP) ∧
      t.flt.aliveN = s.flt.aliveP ∧ t.num K.ALIVE_STATE = (if degraded s then 2 else 1) ∧
      Frame [K.ALIVE_STATE, K.ALIVE_CHANGES] [.flt] s t) ∧
    (s.num K.ALIVE_STATE = 0 → ∃ t, exec .aliveToggle s = .next t ∧ Frame [] [] s t)

/-- A message from another module is sent on; in another group it has no other effect. In the module's group a START in
ARMED is pending for its time, late where that has passed, and is counted elsewhere; a HALT ends a running burst with
cause 0x22; a JUMP is scheduled, or latched late; a MARK sets RING_MARK and meets a SYNCW that waits for it. A SIG
updates its sender's entry and counts a difference. A message whose check word is wrong is counted, sets its cause and
is not sent on; a message of the module's own is not sent on. At its time a pending START begins the burst and a
scheduled JUMP is latched, or rejected and counted. An entry not refreshed is stale. -/
def Obligations.RingMessages : Prop :=
  (∀ (s : State) (m : Bytes),
    let only (c : Instr) : Prop := ∃ t, exec c s = .next t ∧ Out.ring (msgForward s m) ∈ t.out ∧ Frame [] [.out] s t
    (RingArrives s 1 m → inGroup s (msgGroup m) = false → only (.ringStart m)) ∧
    (RingArrives s 2 m → inGroup s (msgGroup m) = false → only (.ringHalt m)) ∧
    (RingArrives s 3 m → inGroup s (msgGroup m) = false → only (.ringJump m)) ∧
    (RingArrives s 4 m → inGroup s (msgGroup m) = false → only (.ringMark m))) ∧
  (∀ (s : State) (m : Bytes), RingArrives s 1 m → inGroup s (msgGroup m) = true →
    (s.num K.SEQ_STATE = 3 → ∃ t, exec (.ringStart m) s = .next t ∧
      Out.ring (msgForward s m) ∈ t.out ∧ t.num K.SCHED = msgA m ∧
      t.ring = { s.ring with startLate := decide (msgA m < fleetNow s) } ∧ t.num K.MSGS_RX = inc32 (s.num K.MSGS_RX) ∧
      t.num K.START_REPLACED = (if s.num K.SCHED = 2 ^ 64 - 1 then s.num K.START_REPLACED else inc32 (s.num K.START_REPLACED)) ∧
      Frame [K.MSGS_RX, K.SCHED, K.START_REPLACED] [.ring, .out] s t) ∧
    (s.num K.SEQ_STATE ≠ 3 → ∃ t, exec (.ringStart m) s = .next t ∧
      Out.ring (msgForward s m) ∈ t.out ∧ t.num K.START_IGNORED = inc32 (s.num K.START_IGNORED) ∧
      Frame [K.MSGS_RX, K.START_IGNORED] [.out] s t)) ∧
  (∀ (s : State) (m : Bytes), RingArrives s 2 m → inGroup s (msgGroup m) = true →
    ∃ t, exec (.ringHalt m) s = .next t ∧ Out.ring (msgForward s m) ∈ t.out ∧ Halts 0x22 [K.MSGS_RX] [.out] s t) ∧
  (∀ (s : State) (m : Bytes), RingArrives s 3 m → inGroup s (msgGroup m) = true →
    (fleetNow s ≤ msgA m → ∃ t, exec (.ringJump m) s = .next t ∧ Out.ring (msgForward s m) ∈ t.out ∧
      t.ring = { s.ring with jump := some (msgArg16 m % 16, msgA m) } ∧ Frame [K.MSGS_RX] [.ring, .out] s t) ∧
    (msgA m < fleetNow s → ∃ t, exec (.ringJump m) s = .next t ∧ Out.ring (msgForward s m) ∈ t.out ∧
      t.ring = { s.ring with jump := none } ∧ t.num K.JUMP_LATE = inc32 (s.num K.JUMP_LATE) ∧ CauseRaised 3 s t ∧
      (JumpMayLatch s (msgArg16 m % 16) → JumpLatched (msgArg16 m % 16) true s t ∧
        t.num K.JUMPS_REJECTED = s.num K.JUMPS_REJECTED) ∧
      (¬JumpMayLatch s (msgArg16 m % 16) → t.seq = s.seq ∧ t.num K.JUMPS_REJECTED = inc32 (s.num K.JUMPS_REJECTED) ∧
        t.num K.JUMPS_REPLACED = s.num K.JUMPS_REPLACED) ∧
      Frame [K.MSGS_RX, K.JUMP_LATE, K.RING_CAUSE, K.JUMPS_REJECTED, K.JUMPS_REPLACED] [.ring, .seq, .arrived, .out] s t)) ∧
  (∀ (s : State) (m : Bytes), RingArrives s 4 m → inGroup s (msgGroup m) = true → ∃ t, exec (.ringMark m) s = .next t ∧
    Out.ring (msgForward s m) ∈ t.out ∧ t.seq = { s.seq with ringMark := true, markSeen := t.seq.markSeen } ∧
    (∀ w, dueWord s = some w → s.num K.SEQ_STATE = 4 → s.uc.trap = none → s.uc.routine = none → w % 256 = 0x0B →
      field w 15 8 = msgArg16 m % 256 → s.seq.wait = .none → t.seq.markSeen = true) ∧
    (∀ w, dueWord s = some w → w % 256 ≠ 0x0B ∨ field w 15 8 ≠ msgArg16 m % 256 → t.seq.markSeen = s.seq.markSeen) ∧
    Frame [K.MSGS_RX] [.seq, .out] s t) ∧
  (∀ (s : State) (m : Bytes), RingArrives s 6 m →
    let differs := msgA m % 2 ^ 32 ≠ s.num K.SIG_REF
    let compared := s.num K.SIG_VALID = 1 ∧ msgGroup m % 64 = s.num K.SIG_GROUP ∧ bit (msgArg16 m) 1 = true
    ∃ t x, exec (.sig m) s = .next t ∧ Out.ring (msgForward s m) ∈ t.out ∧ aFind t.ring.peers (msgOrigin m) = some x ∧
      x.live = msgA m % 2 ^ 32 ∧ x.ref = msgA m / 2 ^ 32 ∧ x.group = msgGroup m % 64 ∧ bit x.flags 0 = true ∧ bit x.flags 4 = false ∧
      (compared → differs → bit x.flags 3 = true ∧ t.num K.PEER_MISMATCHES = inc32 (s.num K.PEER_MISMATCHES)) ∧
      (compared → ¬differs → bit x.flags 3 = false) ∧
      (¬compared ∨ ¬differs → t.num K.PEER_MISMATCHES = s.num K.PEER_MISMATCHES) ∧
      (∀ p, p ≠ msgOrigin m → aFind t.ring.peers p = aFind s.ring.peers p) ∧
      Frame [K.MSGS_RX, K.PEERS_STALE, K.PEER_MISMATCHES] [.ring, .arrived, .out] s t) ∧
  ∀ s : State, s.pwr.stopped = false →
    (∀ m c, c = .ringStart m ∨ c = .ringHalt m ∨ c = .ringJump m ∨ c = .ringMark m ∨ c = .sig m →
      (ringLive s = true → msgOk m = false → ∃ t, exec c s = .next t ∧ t.num K.CRC_ERRS = inc32 (s.num K.CRC_ERRS) ∧
        CauseRaised 1 s t ∧ Frame [K.CRC_ERRS, K.RING_CAUSE] [.arrived] s t) ∧
      (ringLive s = false ∨ msgOk m = true ∧ msgOwn s m = true → ∃ t, exec c s = .next t ∧ Frame [] [] s t)) ∧
    (s.num K.SEQ_STATE = 3 → s.num K.SCHED ≠ 2 ^ 64 - 1 →
      (s.ring.startLate = false → ∃ t, exec .scheduledStart s = .next t ∧ t.num K.SCHED = 2 ^ 64 - 1 ∧
        BurstBegun (16 * localTime s (s.num K.SCHED) : Nat) [K.SCHED] s t) ∧
      (s.ring.startLate = true → ∃ t, exec .scheduledStart s = .next t ∧ t.num K.SCHED = 2 ^ 64 - 1 ∧
        t.num K.START_LATE = inc32 (s.num K.START_LATE) ∧ CauseRaised 3 s t ∧
        Frame [K.SCHED, K.START_LATE, K.RING_CAUSE] [.arrived] s t)) ∧
    (s.num K.SEQ_STATE ≠ 3 ∨ s.num K.SCHED = 2 ^ 64 - 1 → ∃ t, exec .scheduledStart s = .next t ∧ Frame [] [] s t) ∧
    (∀ e x, s.ring.jump = some (e, x) → ∃ t, exec .scheduledJump s = .next t ∧ t.ring = { s.ring with jump := none } ∧
      (JumpMayLatch s e → JumpLatched e true s t ∧ Frame [K.JUMPS_REPLACED] [.ring, .seq] s t) ∧
      (¬JumpMayLatch s e → t.num K.JUMPS_REJECTED = inc32 (s.num K.JUMPS_REJECTED) ∧ Frame [K.JUMPS_REJECTED] [.ring] s t)) ∧
    (s.ring.jump = none → ∃ t, exec .scheduledJump s = .next t ∧ Frame [] [] s t) ∧
    (∀ p x, aFind s.ring.peers p = some x → bit x.flags 0 = true → ∃ t, exec (.peerStale p) s = .next t ∧
      aFind t.ring.peers p = some { x with flags := putBit x.flags 4 true } ∧
      (∀ q, q ≠ p → aFind t.ring.peers q = aFind s.ring.peers q) ∧ Frame [K.PEERS_STALE] [.ring] s t) ∧
    (∀ p, aFind s.ring.peers p = none → ∃ t, exec (.peerStale p) s = .next t ∧ Frame [] [] s t)

/-- Block lock makes a DOWN port UP; its loss makes it DOWN again with its cause. A follower's TIME gives its position,
the loop's length and FLEET_OFS, and CAL_OK makes it CALIBRATED; a master's own TIME that returns enumerates the ring.
The master emits TIME with the event it names. An event sets RING_TIME and, while RING_TRAP_EN is 1, the RING cause. A
module queues its SIG; a queued message leaves in its turn. Delay calibration begins with its block and ends with the
link's delay, until which RING_CMD.CAL reads 1. A RING_CMD queues its message and acts on its own module; another
SIG_GROUP discards what was scheduled; another role restarts the port. Where there is nothing to do these have no
effect. -/
def Obligations.RingStatesAndFleetTime : Prop :=
  (∀ s : State, s.pwr.stopped = false →
    (s.num K.RING_STATE = 1 → ∃ t, exec .ringLock s = .next t ∧ t.num K.RING_STATE = 2 ∧ t.num K.RING_POS = 0xFFFF ∧
      t.flag K.READY 9 = true ∧ Frame [K.RING_STATE, K.RING_POS, K.READY, K.READY_TIMES] [] s t) ∧
    (s.num K.RING_STATE ≠ 1 → ∃ t, exec .ringLock s = .next t ∧ Frame [] [] s t) ∧
    (2 ≤ s.num K.RING_STATE → s.ring.calBusy = false → ∃ t, exec .lockLoss s = .next t ∧ t.num K.RING_STATE = 1 ∧
      t.num K.RING_POS = 0xFFFF ∧ t.num K.RING_SIZE = 0 ∧ t.flag K.READY 9 = false ∧ CauseRaised 0 s t ∧
      Frame [K.RING_STATE, K.RING_POS, K.RING_SIZE, K.READY, K.RING_CAUSE] [.arrived] s t) ∧
    (s.num K.RING_STATE < 2 ∨ s.ring.calBusy = true → ∃ t, exec .lockLoss s = .next t ∧ Frame [] [] s t) ∧
    (ringLive s = true → ringMaster s = false → ∃ t, exec .calibrationBlock s = .next t ∧
      t.ring = { s.ring with calBusy := true } ∧ Out.calBlock ∈ t.out ∧ Frame [] [.ring, .out] s t) ∧
    (ringLive s = false ∨ ringMaster s = true → ∃ t, exec .calibrationBlock s = .next t ∧ Frame [] [] s t) ∧
    (∀ ps < 2 ^ 32, s.ring.calBusy = true → ∃ t, exec (.delayCalibrationEnd ps) s = .next t ∧ t.num K.LINK_OUT_PS = ps ∧
      t.flag K.RING_CMD 3 = false ∧
      t.ring = { s.ring with calBusy := false, check := ringMaster s } ∧ Frame [K.LINK_OUT_PS, K.RING_CMD] [.ring] s t) ∧
    (s.ring.calBusy = false → ∀ ps, ∃ t, exec (.delayCalibrationEnd ps) s = .next t ∧ Frame [] [] s t) ∧
    (ringMaster s = true → ringLive s = true → s.ring.queue.length < 32 → ∃ t m, exec .timeEmit s = .next t ∧
      t.ring.queue = s.ring.queue ++ [m] ∧ msgType m = 5 ∧ msgOk m = true ∧ msgHops m = 0 ∧
      msgA m = s.num K.TB_NOW / ringPeriod * ringPeriod % 2 ^ 64 ∧ Frame [K.RING_CAUSE] [.ring, .arrived] s t) ∧
    (ringMaster s = false ∨ ringLive s = false → ∃ t, exec .timeEmit s = .next t ∧ Frame [] [] s t) ∧
    (∀ x, earliest s.ring.events = some x → ∃ t, exec .timeEvent s = .next t ∧ t.seq = { s.seq with ringTime := true } ∧
      t.ring = { s.ring with events := s.ring.events.erase x } ∧
      (s.num K.RING_TRAP_EN = 1 → t.flag K.TRAP_PENDING 1 = true ∧ t.uc.timeAt.1 = s.num K.ISSUES) ∧
      (s.num K.RING_TRAP_EN ≠ 1 → t.uc = s.uc ∧ t.num K.TRAP_PENDING = s.num K.TRAP_PENDING) ∧
      Frame (K.TRAP_PENDING :: chKeys tmuKeys (List.range 96)) [.ring, .seq, .uc, .tb, .drawn] s t) ∧
    (s.ring.events = [] → ∃ t, exec .timeEvent s = .next t ∧ Frame [] [] s t) ∧
    (3 ≤ s.num K.RING_STATE → s.ring.calBusy = false → s.ring.queue.length < 32 → ∃ t m, exec .sigSend s = .next t ∧
      t.ring = { s.ring with queue := s.ring.queue ++ [m] } ∧ msgType m = 6 ∧ msgOk m = true ∧ Frame [] [.ring] s t) ∧
    (s.num K.RING_STATE < 3 ∨ s.ring.calBusy = true → ∃ t, exec .sigSend s = .next t ∧ Frame [] [] s t) ∧
    (∀ m r, s.ring.queue = m :: r → ringSends s = true → ∃ t, exec .ringQueueSend s = .next t ∧
      t.ring = { s.ring with queue := r } ∧ Out.ring m ∈ t.out ∧ Frame [] [.ring, .out] s t) ∧
    (s.ring.queue = [] ∨ ringSends s = false → ∃ t, exec .ringQueueSend s = .next t ∧ Frame [] [] s t)) ∧
  (∀ (s : State) (m : Bytes) (ta : Nat), s.pwr.stopped = false → ringLive s = true → msgOk m = true → msgType m = 5 →
    (ringMaster s = false → msgOwn s m = false → msgHops m ≠ 1023 →
      let pos := msgHops m + 1
      let st := s.num K.RING_STATE
      let ofs : Int := (msgA m : Int) + roundDiv (((msgAcc m) * 3584 : Nat) : Int) 1000 - ta
      ∃ t, exec (.time m ta) s = .next t ∧ Out.ring (msgForward s m) ∈ t.out ∧ t.num K.MSGS_RX = inc32 (s.num K.MSGS_RX) ∧
        t.num K.RING_SIZE = msgArg16 m ∧ t.num K.LOOP_PS = 31000 * msgArg16 m ∧
        (st = 2 → t.num K.RING_POS = pos ∧ t.num K.RING_STATE = if bit (msgGroup m) 7 then 4 else 3) ∧
        (st ≠ 2 → s.num K.RING_POS = pos → t.num K.RING_POS = pos ∧
          t.num K.RING_STATE = if bit (msgGroup m) 7 = true ∧ st = 3 then 4 else st) ∧
        (st ≠ 2 → s.num K.RING_POS ≠ pos → t.num K.RING_POS = 0xFFFF ∧ t.num K.RING_STATE = 2 ∧ t.flag K.RING_CAUSE 5 = true) ∧
        (s.flag K.RING_CTRL 2 = false ∨ t.num K.RING_STATE ≠ 4 →
          t.num K.FLEET_OFS = raw 64 ofs ∧ t.num K.TB_NOW = s.num K.TB_NOW ∧ t.tb = s.tb) ∧
        (s.flag K.RING_CTRL 2 = true → t.num K.RING_STATE = 4 → s.ring.stepped = false → tmusQuiet s = true →
          let o := signed 64 (raw 64 ofs)
          let d := roundDiv o 35840 * 35840
          t.num K.TB_NOW = raw 64 ((s.num K.TB_NOW : Int) + d) ∧ t.num K.FLEET_OFS = raw 64 (o - d) ∧ t.ring.stepped = true) ∧
        ((ta : Int) + ofs ≤ msgB m → t.ring.events = s.ring.events ++ [msgB m]) ∧
        ((msgB m : Int) < (ta : Int) + ofs → t.ring.events = s.ring.events ∧ t.flag K.RING_CAUSE 3 = true) ∧
        Frame [K.MSGS_RX, K.RING_POS, K.RING_SIZE, K.LOOP_PS, K.RING_STATE, K.FLEET_OFS, K.RING_CAUSE, K.TB_NOW]
          [.ring, .tb, .arrived, .out] s t) ∧
    (ringMaster s = true → s.ring.check = false →
      ∃ t, exec (.time m ta) s = .next t ∧ t.num K.RING_SIZE = msgHops m + 1 ∧
        (s.num K.RING_STATE = 2 → t.num K.RING_STATE = 3 ∧ t.num K.RING_POS = 0 ∧
          (s.flag K.RING_CTRL 0 = true → t.ring = { s.ring with calBusy := true } ∧ Out.calBlock ∈ t.out) ∧
          (s.flag K.RING_CTRL 0 = false → t.ring = s.ring ∧ AttnOnly s t) ∧
          Frame [K.RING_STATE, K.RING_POS, K.RING_SIZE] [.ring, .out] s t) ∧
        (s.num K.RING_STATE ≠ 2 → Frame [K.RING_SIZE] [] s t)) ∧
    (ringMaster s = true → s.ring.check = true →
      let n := msgHops m + 1
      let l := loopPs m ta
      ∃ t, exec (.time m ta) s = .next t ∧ t.num K.LOOP_PS = l ∧ t.num K.RING_SIZE = n ∧ t.ring.check = false ∧
        t.num K.RING_POS = (if s.num K.RING_STATE = 2 then 0 else s.num K.RING_POS) ∧
        (l ≤ msgAcc m + 10 + 3 * n → msgAcc m ≤ l + 10 + 3 * n → t.num K.RING_STATE = 4 ∧ t.ring.calOk = true ∧
          t.num K.RING_CAUSE = s.num K.RING_CAUSE ∧ t.flt = s.flt) ∧
        (msgAcc m + 10 + 3 * n < l ∨ l + 10 + 3 * n < msgAcc m → t.num K.RING_STATE = 3 ∧ t.ring.calOk = false ∧
          CauseRaised 4 s t) ∧
        Frame [K.RING_STATE, K.RING_POS, K.RING_SIZE, K.LOOP_PS, K.RING_CAUSE] [.ring, .arrived] s t)) ∧
  ∀ (s : State) (v : Via),
    let mine := inGroup s (s.num K.CMD_GROUP % 128)
    (AcceptedKey s v K.RING_CMD 1 → s.ring.queue.length < 32 → ∃ t m, exec (.ringCmdStart v) s = .next t ∧
      t.ring.queue = s.ring.queue ++ [m] ∧ msgType m = 1 ∧ msgOk m = true ∧ msgA m = schedTime s ∧
      (mine = true → s.num K.SEQ_STATE = 3 → t.num K.SCHED = schedTime s) ∧
      (mine = true → s.num K.SEQ_STATE ≠ 3 → t.num K.SCHED = s.num K.SCHED ∧
        t.num K.START_IGNORED = inc32 (s.num K.START_IGNORED)) ∧
      (mine = false → t.num K.SCHED = s.num K.SCHED) ∧
      Frame [K.SIG_CURRENT, K.SCHED, K.START_REPLACED, K.START_IGNORED] (.ring :: answered) s t) ∧
    (AcceptedKey s v K.RING_CMD 2 → s.ring.queue.length < 32 → ∃ t m, exec (.ringCmdHalt v) s = .next t ∧
      t.ring = { s.ring with queue := s.ring.queue ++ [m] } ∧ msgType m = 2 ∧ msgOk m = true ∧
      (mine = true → Halts 0x22 [K.SIG_CURRENT] (.ring :: answered) s t) ∧
      (mine = false → Frame [K.SIG_CURRENT] (.ring :: answered) s t)) ∧
    (AcceptedKey s v K.RING_CMD 4 → s.ring.queue.length < 32 → ∃ t m, exec (.ringCmdJump v) s = .next t ∧
      t.ring.queue = s.ring.queue ++ [m] ∧ msgType m = 3 ∧ msgOk m = true ∧ msgArg16 m = s.num K.CMD_ENTRY % 16 ∧
      msgA m = schedTime s ∧ (mine = false → t.ring.jump = s.ring.jump) ∧
      (mine = true → fleetNow s ≤ schedTime s → t.ring.jump = some (s.num K.CMD_ENTRY % 16, schedTime s)) ∧
      (mine = false ∨ fleetNow s ≤ schedTime s → Frame [K.SIG_CURRENT] (.ring :: answered) s t)) ∧
    (AcceptedKey s v K.RING_CMD 8 → ∃ t, exec (.cal v) s = .next t ∧ t.ring = { s.ring with calBusy := true } ∧
      t.flag K.RING_CMD 3 = true ∧ Out.calBlock ∈ t.out ∧ Frame [K.SIG_CURRENT, K.RING_CMD] (.ring :: answered) s t) ∧
    (∀ n < 256, AcceptedKey s v K.SIG_GROUP n → ∃ t, exec (.sigGroup v n) s = .next t ∧ t.num K.SIG_GROUP = n ∧
      t.num K.SCHED = 2 ^ 64 - 1 ∧ t.ring = { s.ring with jump := none } ∧
      Frame [K.SIG_CURRENT, K.SIG_GROUP, K.SCHED] (.ring :: answered) s t) ∧
    (∀ n < 256, AcceptedKey s v K.RING_ROLE n →
      (n = s.num K.RING_ROLE → ∃ t, exec (.ringRole v n) s = .next t ∧ Frame [K.SIG_CURRENT] answered s t) ∧
      (n ≠ s.num K.RING_ROLE → ∃ t, exec (.ringRole v n) s = .next t ∧ t.num K.RING_ROLE = n ∧
        t.num K.RING_STATE = (if n = 0 ∨ domState s 7 = 0 then 0 else 1) ∧ t.num K.RING_POS = 0xFFFF ∧
        t.num K.RING_SIZE = 0 ∧ t.flag K.RING_CMD 3 = false ∧ t.flag K.READY 9 = false ∧
        t.ring = { s.ring with queue := [], calOk := false, check := false, stepped := false, calBusy := false } ∧
        Frame [K.SIG_CURRENT, K.RING_ROLE, K.RING_STATE, K.RING_POS, K.RING_SIZE, K.RING_CMD, K.READY] (.ring :: answered) s t))

/-- An accepted DOM_EN turns the domains it clears off. A function whose condition is met sets its READY bit; MGMT
brings keys and identity, SEQ and a tile their state; before MGMT none does. A valid supply is noted; one that fails
turns the domains on it off, counts and raises 0x7D. VAUX's failure turns every domain off and stops D00 and the ALIVE
pair, unless a store goes on from the hold-up store. Each reset leaves RESET_CAUSE, the sequencer OFF, what it keeps as
it was and the other objects at their defaults: a power-on reset keeps none, RESET_N the live readings and D01's, a soft
reset memory, locks, the rings and the objects of R641; the voltages at the pads and the boundary cells stand. PERST
resets BAR0's registers but keeps their copies of the classes. A sample is stored; a warning raises 0x7C; a shutdown
threshold enters the safe state. -/
def Obligations.PowerAndResets : Prop :=
  (∀ (s : State) (v : Via) (m : Nat), m < 2 ^ 24 → AcceptedKey s v K.DOM_EN m → ∃ t, exec (.domEn v m) s = .next t ∧
    t.num K.DOM_EN = m ∧ (∀ d < 24, s.flag K.DOM_EN d = true → bit m d = false → domState t d = 0) ∧
    Frame (K.DOM_EN :: K.SIG_CURRENT :: (offKeys ++ advanceKeys)) (offParts ++ answered) s t) ∧
  (∀ s : State, s.pwr.stopped = false →
    (s.pwr.recovery = false → s.pwr.locked = false → s.flag K.READY 0 = false → ∃ t,
      exec (.functionReady 0 0) s = .next t ∧ t.flag K.READY 0 = true ∧ t.num K.IDENT_STATUS = identStatus s ∧
      (∀ k < 8, t.blob (K.CUST_KEY0 + k) =
        if s.flag K.LOCK_SET 6 then s.blob (K.CUST_KEY0 + k) else (s.trust.keys[k]?).getD []) ∧
      Frame ([K.IDENT_STATUS, K.KEYS_SAVED, K.KEY_MAP] ++ (List.range 8).map (K.CUST_KEY0 + ·) ++ advanceKeys)
        (.arrived :: startParts) s t) ∧
    (∀ b, b ≠ 0 → s.flag K.READY 0 = false → ∃ t, exec (.functionReady b 0) s = .next t ∧ Frame [] [] s t) ∧
    (s.flag K.READY 0 = true →
      (∀ b, b = 10 ∨ (b = 9 ∧ 2 ≤ s.num K.RING_STATE) ∨ (b = 28 ∧ tbWarm s = true) ∨ (b = 29 ∧ s.flag K.CAL_FLAGS 6 = true) ∨
          (b = 6 ∧ s.flag K.READY 5 = true ∧ s.pwr.perst = false) ∨
          (b = 7 ∧ domState s 6 ≠ 0 ∧ s.num K.E0_MODE ≠ 0) ∨ (b = 8 ∧ domState s 6 ≠ 0 ∧ s.num K.E1_MODE ≠ 0) →
        ∃ t, exec (.functionReady b 0) s = .next t ∧ t.flag K.READY b = true ∧ Frame advanceKeys startParts s t) ∧
      (∀ b, (b = 1 ∨ b = 4 ∨ b = 5) ∧ domState s b ≠ 0 ∨ b = 2 ∧ s.num K.TICK_STATE = 2 →
        ∃ t, exec (.functionReady b 0) s = .next t ∧ t.flag K.READY b = true ∧ (domState s b = 1 → domState t b = 2) ∧
          Frame advanceKeys startParts s t) ∧
      (∀ m < 4, domState s (8 + m) ≠ 0 → s.flag K.FENCE_STACK m = false →
        ∃ t, exec (.functionReady (12 + m) 0) s = .next t ∧ t.flag K.READY (12 + m) = true ∧ t.flag K.STACK_STATE m = true ∧
          (domState s (8 + m) = 1 → domState t (8 + m) = 2) ∧ Frame (K.STACK_STATE :: advanceKeys) startParts s t) ∧
      (s.flag K.READY 10 = true → s.flag K.READY 11 = false → ∃ t, exec (.functionReady 11 0) s = .next t ∧
        t.flag K.READY 11 = true) ∧
      (domState s 3 ≠ 0 → s.flag K.READY 3 = false → s.uc.bad = [] → firstReady s 3 = false →
        ∃ t, exec (.functionReady 3 0) s = .next t ∧ t.flag K.READY 3 = true ∧ t.pwr = { s.pwr with seqOnce := true } ∧
          t.num K.SEQ_STATE = (if s.num K.SEQ_STATE = 0 then 1 else s.num K.SEQ_STATE) ∧
          (s.num K.SEQ_STATE = 0 → t.flag K.ATTN_EVENTS 11 = true) ∧
          Frame (K.SEQ_STATE :: K.ATTN_EVENTS :: advanceKeys) (.pwr :: startParts) s t) ∧
      (∀ u < 12, tileMayReady s u = true → ∃ t, exec (.functionReady (16 + u) 0) s = .next t ∧
        tileState t u = 2 ∧ domState t (12 + u) = 2 ∧ t.flag K.READY (16 + u) = true ∧
        Frame advanceKeys (.units :: startParts) s t)) ∧
    (∀ b, 1 ≤ b → b ≤ 6 → ∃ t, exec (.supplyValid b) s = .next t ∧ t.flag K.SUPPLY_OK b = true ∧
      t.pwr = { s.pwr with start := t.pwr.start } ∧ Frame (K.SUPPLY_OK :: advanceKeys) (.pwr :: startParts) s t) ∧
    (∀ b, 1 ≤ b → b ≤ 6 → s.flag K.SUPPLY_OK b = true → ∃ t, exec (.supplyFault b) s = .next t ∧
      t.flag K.SUPPLY_OK b = false ∧ t.num K.SUPPLY_FAILS = inc32 (s.num K.SUPPLY_FAILS) ∧ (0x7D, false) ∈ t.flt.arrived ∧
      (∀ d < 24, b ∈ domSupplies d → domState t d = 0) ∧ t.pwr = { s.pwr with supplyActed := true } ∧
      Frame (K.SUPPLY_OK :: K.SUPPLY_FAILS :: (offKeys ++ advanceKeys)) (.pwr :: offParts) s t) ∧
    (∀ b, b = 0 ∨ 6 < b → (∃ t, exec (.supplyValid b) s = .next t ∧ Frame [] [] s t) ∧
      ∃ t, exec (.supplyFault b) s = .next t ∧ Frame [] [] s t) ∧
    (s.pwr.holding = false → ∃ t, exec .vauxFailure s = .next t ∧ (∀ d < 24, d ≠ 0 → domState t d = 0) ∧
      (s.cal.job = none ∨ s.num K.HOLD_V ≤ 5000 → t.pwr = { s.pwr with stopped := true } ∧
        t.flt.aliveP = false ∧ t.flt.aliveN = false) ∧
      (s.cal.job.isSome = true → 5000 < s.num K.HOLD_V → t.pwr = { s.pwr with holding := true }) ∧
      Frame (K.SUPPLY_OK :: offKeys) (.pwr :: offParts) s t) ∧
    (∃ t, exec .perst s = .next t ∧ (PcieFn.init s.pf0.cls).Same false t.pf0 ∧ (PcieFn.init s.pf1.cls).Same false t.pf1 ∧
      t.flag K.READY 6 = false ∧ t.pwr = { s.pwr with perst := true } ∧
      t.flt.arrived = s.flt.arrived ++ (if s.flag K.READY 6 then [(0x7A, false)] else []) ∧
      Frame [K.READY] [.fns, .pwr, .arrived] s t) ∧
    (∃ t, exec .perstDeassertion s = .next t ∧ t.pwr = { s.pwr with perst := false } ∧ Frame [] [.pwr] s t) ∧
    (∀ x : Sensors, ∃ t, exec (.temperatureSample x) s = .next t ∧ t.num K.MODULE_PWR = x.power % 2 ^ 32 ∧
      t.num K.HUB_TEMP = raw 32 x.hub ∧
      (∀ u < 12, ∀ v, domState s (12 + u) ≠ 0 → x.tileTemps[u]? = some v → t.num (atTile K.TILE_TEMP u) = raw 32 v) ∧
      (∀ m < 4, ∀ v, domState s (8 + m) ≠ 0 → x.stackTemps[m]? = some v → t.num (K.STACK_TEMP0 + m) = raw 32 v) ∧
      let hot := (sensorList s x).any (fun p => decide (shutdownAt p.1 ≤ p.2))
      (hot = true → s.pwr.thermal = false → t.pwr.thermal = true ∧ (0x7C, false) ∈ t.flt.arrived ∧
        (s.num K.SAFE = 0 → t.num K.SAFE = 1 ∧ ∀ d < 24, d ∈ [2, 3, 4] ∨ 8 ≤ d → domState t d = 0)) ∧
      (s.int32 K.T_WARN ≤ x.hub → 0 ∉ s.pwr.warned → (0x7C, false) ∈ t.flt.arrived) ∧
      (hot = false ∨ s.pwr.thermal = true ∨ s.num K.SAFE ≠ 0 → Frame ([K.MODULE_PWR, K.HUB_TEMP, K.PEAK_TEMP, K.THERM_STATE] ++
        (List.range 4).map (K.STACK_TEMP0 + ·) ++ tileKeys [K.TILE_TEMP, K.TILE_PEAK, K.TILE_PWR, K.TILE_CAUSE] (List.range 12))
        [.pwr, .arrived] s t))) ∧
  (∀ (s : State) (a b : Bool), ∃ t, exec (.powerOnReset a b) s = .next t ∧ t.pending = s.pending ∧
    t.num K.READY = 0 ∧ t.num K.DOM_STATE = 2 ∧ t.num K.SUPPLY_OK = 1 ∧ t.num K.RESET_CAUSE = resetCause s 0 ∧
    (∀ k, k ∉ K.SUPPLY_OK :: bootKeys → t.num k = dfltNum k) ∧ t.pwr.stopped = false ∧ t.seq = State.reset.seq ∧
    t.pump = State.reset.pump ∧ (∀ c, (t.chan c).pad = (s.chan c).pad) ∧ t.jtag.cells = s.jtag.cells) ∧
  (∀ (s : State) (a b : Bool), s.pwr.stopped = false → s.pwr.holding = false → ∃ t, exec (.resetN a b) s = .next t ∧
    t.pending = s.pending ∧ t.num K.RESET_CAUSE = resetCause s 1 ∧
    (∀ k, k ∉ bootKeys → t.num k = if keptLive k || keptOven k then s.num k else dfltNum k) ∧
    domState t 1 = domState s 1 ∧ (∀ d < 24, 2 ≤ d → domState t d = 0) ∧ t.flag K.READY 1 = s.flag K.READY 1 ∧
    t.flag K.READY 28 = s.flag K.READY 28 ∧ t.flag K.READY 0 = false ∧ t.seq = State.reset.seq ∧
    (∀ c, (t.chan c).pad = (s.chan c).pad) ∧ t.jtag.cells = s.jtag.cells) ∧
  ∀ (s : State) (v : Via), AcceptedKey s v K.RESET_CMD 1 → ∃ t, exec (.soft v) s = .next t ∧ t.num K.SEQ_STATE = 0 ∧
    t.num K.RESET_CAUSE = resetCause s 2 ∧ t.num K.LOCK_SET = s.num K.LOCK_SET ∧ t.flag K.READY 0 = false ∧
    (s.cal.pending = [] → ∀ k, k ∉ K.CAL_FLAGS :: (bootKeys ++ tileKeys [K.TILE_STATE] (List.range 12)) →
      t.num k = if keptSoft s k then s.num k else dfltNum k) ∧
    t.pwr.softReset = false ∧ (∀ a, memByte t.mem a = memByte s.mem a) ∧ t.seq = State.reset.seq ∧
    s.pf0.Same true { t.pf0 with cls := s.pf0.cls } ∧ s.pf1.Same true { t.pf1 with cls := s.pf1.cls }

/-- An accepted INSTALL takes the image as it stands; its end leaves its status, and only an image that passes the
checks is written, to the slot that does not run, which holds none if the write fails. An accepted ADV_FW or ADV_PATCH
programs the next slot of its floor, or none where its value is the floor; the programming's end leaves the floor the
slots hold. An accepted key is stored with its bit of KEY_MAP and is not saved until the store holds it. An accepted
SIGN counts and takes the report of its moment, which the signature ends; one refused with code 12 leaves ATT_STATE
FAILED. With nothing under way these ends have no effect. -/
def Obligations.TrustCommands : Prop :=
  (∀ (s : State) (v : Via),
    (AcceptedKey s v K.FW_CMD 1 → ∃ t, exec (.install v) s = .next t ∧ t.num K.FW_CMD = 1 ∧
      t.trust = { s.trust with fwJob := some (s.blob K.FW_IMAGE) } ∧ Frame [K.FW_CMD, K.SIG_CURRENT] (.trust :: answered) s t) ∧
    (AcceptedKey s v K.ROLLBACK_CMD 1 →
      ((advCheck s false).2 = true → ∃ t, exec (.advFw v) s = .next t ∧
        t.trust = { s.trust with fuse := some (false, s.num K.FW_VERSION) } ∧ t.num K.ROLLBACK_CMD = 1 ∧
        Frame [K.ROLLBACK_CMD, K.UNLOCK_STATE, K.SIG_CURRENT] (.trust :: answered) s t) ∧
      (s.num K.FW_VERSION = s.num K.FW_FLOOR → ∃ t, exec (.advFw v) s = .next t ∧
        Frame [K.UNLOCK_STATE, K.SIG_CURRENT] answered s t)) ∧
    (AcceptedKey s v K.ROLLBACK_CMD 2 →
      ((advCheck s true).2 = true → ∃ t, exec (.advPatch v) s = .next t ∧
        t.trust = { s.trust with fuse := some (true, s.num K.PATCH_LEVEL) } ∧ t.num K.ROLLBACK_CMD = 2 ∧
        Frame [K.ROLLBACK_CMD, K.UNLOCK_STATE, K.SIG_CURRENT] (.trust :: answered) s t) ∧
      (s.num K.PATCH_LEVEL = s.num K.PATCH_FLOOR → ∃ t, exec (.advPatch v) s = .next t ∧
        Frame [K.UNLOCK_STATE, K.SIG_CURRENT] answered s t)) ∧
    (∀ k d, k < 8 → Accepted s v 0x2900 (0x20 + k) d → ∃ t, exec (.custKey v k d) s = .next t ∧
      t.blob (K.CUST_KEY0 + k) = d ∧ t.flag K.KEY_MAP k = !d.isEmpty ∧ t.num K.KEYS_SAVED = 0 ∧ t.num K.UNLOCK_STATE = 0 ∧
      Frame [K.CUST_KEY0 + k, K.KEY_MAP, K.KEYS_SAVED, K.UNLOCK_STATE, K.SIG_CURRENT] answered s t) ∧
    (AcceptedKey s v K.ATT_CMD 1 → ∃ t, exec (.sign v) s = .next t ∧ t.num K.ATT_STATE = 1 ∧ t.num K.ATT_CMD = 1 ∧
      t.num K.ATT_COUNT = inc32 (s.num K.ATT_COUNT) ∧ t.trust = { s.trust with report := some (attBody (s.inc K.ATT_COUNT)) } ∧
      Frame [K.ATT_STATE, K.ATT_CMD, K.ATT_COUNT, K.SIG_CURRENT] (.trust :: answered) s t) ∧
    (PassesGate s v K.ATT_CMD 1 → 32 ≤ (s.blob K.ATT_NONCE).length → s.num K.IDENT_STATUS ≠ 0 →
      ∃ t, exec (.sign v) s = .next t ∧ t.num K.ATT_STATE = 3 ∧
        Frame [K.ATT_STATE, K.BAR_WR_REJECT, K.BAR_LAST, K.BAR_LAST_CODE] answered s t)) ∧
  ∀ s : State, s.pwr.stopped = false →
    (∀ d ok, s.trust.fwJob = some d → ∃ t, exec (.firmwareInstallDone ok) s = .next t ∧ t.num K.FW_CMD = 0 ∧
      t.num K.FW_INST_STATUS = (if fwCheck s d ≠ 0 then fwCheck s d else if ok then 0 else 7) ∧
      (fwCheck s d ≠ 0 → t.trust = { s.trust with fwJob := none }) ∧
      (fwCheck s d = 0 → ok = true → t.trust = (if s.num K.FW_SLOT = 1 then { s.trust with fwJob := none, fwB := d }
        else { s.trust with fwJob := none, fwA := d })) ∧
      (fwCheck s d = 0 → ok = false → slotStatus t (if s.num K.FW_SLOT = 1 then t.trust.fwB else t.trust.fwA) false ≠ 0 ∧
        (if s.num K.FW_SLOT = 1 then t.trust.fwA = s.trust.fwA else t.trust.fwB = s.trust.fwB)) ∧
      Frame [K.FW_CMD, K.FW_INST_STATUS] [.trust] s t) ∧
    (∀ ok, (s.trust.fwJob = none → ∃ t, exec (.firmwareInstallDone ok) s = .next t ∧ Frame [] [] s t) ∧
      (s.trust.fuse = none → ∃ t, exec (.fuseProgrammingDone ok) s = .next t ∧ Frame [] [] s t)) ∧
    (s.num K.KEYS_SAVED = 1 → ∃ t, exec .keysSaved s = .next t ∧ Frame [] [] s t) ∧
    (s.trust.report = none → ∃ t, exec .attestationSigned s = .next t ∧ Frame [] [] s t) ∧
    (∀ p x ok, s.trust.fuse = some (p, x) → ∃ t, exec (.fuseProgrammingDone ok) s = .next t ∧ t.num K.ROLLBACK_CMD = 0 ∧
      t.trust = (if p then { s.trust with fuse := none, patchFloor := fuseSlot s.trust.patchFloor x ok }
        else { s.trust with fuse := none, fwFloor := fuseSlot s.trust.fwFloor x ok }) ∧
      t.num K.FW_FLOOR = floorOf t.trust.fwFloor ∧ t.num K.PATCH_FLOOR = floorOf t.trust.patchFloor ∧
      t.num K.FW_SLOTS_LEFT = slotsLeft t.trust.fwFloor ∧ t.num K.PATCH_SLOTS_LEFT = slotsLeft t.trust.patchFloor ∧
      Frame [K.ROLLBACK_CMD, K.FW_FLOOR, K.PATCH_FLOOR, K.FW_SLOTS_LEFT, K.PATCH_SLOTS_LEFT] [.trust] s t) ∧
    (s.num K.KEYS_SAVED ≠ 1 → ∃ t, exec .keysSaved s = .next t ∧ t.num K.KEYS_SAVED = 1 ∧
      t.trust = { s.trust with keys := (List.range 8).map (fun k => s.blob (K.CUST_KEY0 + k)) } ∧
      Frame [K.KEYS_SAVED] [.trust] s t) ∧
    (∀ b, s.trust.report = some b → ∃ t, exec .attestationSigned s = .next t ∧ t.num K.ATT_STATE = 2 ∧
      t.num K.ATT_CMD = 0 ∧ t.trust = { s.trust with report := none } ∧ (t.blob K.ATT_REPORT).take b.length = b ∧
      (t.blob K.ATT_REPORT).length = b.length + 132 ∧ Frame [K.ATT_STATE, K.ATT_CMD, K.ATT_REPORT] [.trust] s t)
end

