-- ==== Sys2Proof/Laws/Assoc.lean ====
section
/-! SUPPORT. Sorted association lists: what a lookup gives after an update, and that the updates keep the keys rising. -/

namespace Sys2Proof

variable {α : Type}

@[simp] theorem aFind_aPut (l : Assoc α) (k j : Nat) (v : α) :
    aFind (aPut l k v) j = if j = k then some v else aFind l j := by
  induction l with
  | nil => simp [aPut, aFind]
  | cons p r ih =>
    obtain ⟨a, b⟩ := p
    simp only [aPut]
    split
    · simp [aFind]
    · split
      · subst_vars; simp only [aFind]; split <;> simp_all
      · simp only [aFind, ih]
        split
        · subst_vars; split <;> simp_all
        · rfl

theorem mem_aPut {l : Assoc α} {k : Nat} {v : α} {p : Nat × α} (h : p ∈ aPut l k v) : p = (k, v) ∨ p ∈ l := by
  induction l with
  | nil => simpa [aPut] using h
  | cons q r ih =>
    obtain ⟨a, b⟩ := q
    simp only [aPut] at h
    split at h
    · simpa using h
    · split at h
      · rcases List.mem_cons.1 h with h | h
        · exact .inl h
        · exact .inr (List.mem_cons_of_mem _ h)
      · rcases List.mem_cons.1 h with h | h
        · exact .inr (h ▸ List.mem_cons_self)
        · exact (ih h).imp_right (List.mem_cons_of_mem _)

theorem mem_aDel {l : Assoc α} {k : Nat} {p : Nat × α} (h : p ∈ aDel l k) : p ∈ l := by
  induction l with
  | nil => simp [aDel] at h
  | cons q r ih =>
    obtain ⟨a, b⟩ := q
    simp only [aDel] at h
    split at h
    · exact List.mem_cons_of_mem _ h
    · rcases List.mem_cons.1 h with h | h
      · exact h ▸ List.mem_cons_self
      · exact List.mem_cons_of_mem _ (ih h)

namespace Machine

theorem rising_nil : Rising ([] : Assoc α) := List.Pairwise.nil

theorem Rising.aPut {l : Assoc α} (h : Rising l) (k : Nat) (v : α) : Rising (aPut l k v) := by
  induction l with
  | nil => simp [Sys2Proof.aPut, Rising]
  | cons q r ih =>
    obtain ⟨a, b⟩ := q
    obtain ⟨h1, h2⟩ := List.pairwise_cons.1 h
    simp only [Sys2Proof.aPut]
    split
    · refine List.pairwise_cons.2 ⟨fun p hp => ?_, h⟩
      rcases List.mem_cons.1 hp with rfl | hp
      · assumption
      · exact Nat.lt_trans ‹_› (h1 p hp)
    · split
      · subst_vars; exact List.pairwise_cons.2 ⟨h1, h2⟩
      · refine List.pairwise_cons.2 ⟨fun p hp => ?_, ih h2⟩
        rcases mem_aPut hp with rfl | hp
        · simp only; omega
        · exact h1 p hp

theorem Rising.aDel {l : Assoc α} (h : Rising l) (k : Nat) : Rising (aDel l k) := by
  induction l with
  | nil => simpa [Sys2Proof.aDel] using h
  | cons q r ih =>
    obtain ⟨a, b⟩ := q
    obtain ⟨h1, h2⟩ := List.pairwise_cons.1 h
    simp only [Sys2Proof.aDel]
    split
    · exact h2
    · exact List.pairwise_cons.2 ⟨fun p hp => h1 p (mem_aDel hp), ih h2⟩

theorem Rising.filter {l : Assoc α} (h : Rising l) (p : Nat × α → Bool) : Rising (l.filter p) := List.Pairwise.filter p h

theorem aFind_none_of_lt {l : Assoc α} {k : Nat} (h : ∀ p ∈ l, k < p.1) : aFind l k = none := by
  induction l with
  | nil => rfl
  | cons q r ih =>
    obtain ⟨a, b⟩ := q
    have h1 := h (a, b) List.mem_cons_self
    have : k ≠ a := by simp only at h1; omega
    simp [aFind, this, ih (fun p hp => h p (List.mem_cons_of_mem _ hp))]

theorem Rising.aFind_aDel {l : Assoc α} (h : Rising l) (k j : Nat) :
    aFind (Sys2Proof.aDel l k) j = if j = k then none else aFind l j := by
  induction l with
  | nil => simp [Sys2Proof.aDel, aFind]
  | cons q r ih =>
    obtain ⟨a, b⟩ := q
    obtain ⟨h1, h2⟩ := List.pairwise_cons.1 h
    simp only [Sys2Proof.aDel]
    split
    · subst_vars
      split
      · subst_vars; exact aFind_none_of_lt h1
      · simp [aFind, *]
    · simp only [aFind, ih h2]
      split
      · subst_vars; split <;> simp_all
      · rfl

theorem aFind_filter {l : Assoc α} (p : Nat → Bool) (k : Nat) :
    aFind (l.filter (fun c => p c.1)) k = if p k then aFind l k else none := by
  induction l with
  | nil => simp [aFind]
  | cons q r ih =>
    obtain ⟨a, b⟩ := q
    by_cases hk : k = a
    · subst hk
      cases h : p k <;> simp [List.filter_cons, h, aFind, ih]
    · cases h : p a <;> simp [List.filter_cons, h, aFind, ih, hk]

end Machine
end Sys2Proof
end

