-- ==== Sys2Proof/Laws/State.lean ====
section
/-! SUPPORT. What a named update of the state leaves and what it changes: one small lemma for each field and update, so
that no proof unfolds a record update. -/

namespace Sys2Proof.Machine

variable (s : State)

/-! ### Objects after an update -/

@[simp] theorem num_setNum (k v j : Nat) : (s.setNum k v).num j = if j = k then v else s.num j := by
  simp only [State.num, State.setNum, aFind_aPut]; split <;> rfl
@[simp] theorem num_inc (k j : Nat) : (s.inc k).num j = if j = k then inc32 (s.num k) else s.num j := num_setNum ..
@[simp] theorem num_add (n k d j : Nat) : (s.add n k d).num j = if j = k then (s.num k + d) % 2 ^ n else s.num j :=
  num_setNum ..
@[simp] theorem num_setFlag (k i : Nat) (b : Bool) (j : Nat) :
    (s.setFlag k i b).num j = if j = k then putBit (s.num k) i b else s.num j := num_setNum ..
theorem setNums_nil : s.setNums [] = s := rfl
theorem setNums_cons (p : Nat × Nat) (l : List (Nat × Nat)) : s.setNums (p :: l) = (s.setNum p.1 p.2).setNums l := rfl
theorem num_setNums (l : List (Nat × Nat)) (j : Nat) (h : ∀ p ∈ l, j ≠ p.1) : (s.setNums l).num j = s.num j := by
  induction l generalizing s with
  | nil => rfl
  | cons p r ih =>
    rw [setNums_cons, ih _ (fun q hq => h q (List.mem_cons_of_mem _ hq)), num_setNum, if_neg (h p List.mem_cons_self)]
@[simp] theorem num_evBurst (j : Nat) :
    s.evBurst.num j = if j = K.ATTN_EVENTS then putBit (s.num K.ATTN_EVENTS) 11 true else s.num j := num_setNum ..
@[simp] theorem num_evPump (j : Nat) :
    s.evPump.num j = if j = K.ATTN_EVENTS then putBit (s.num K.ATTN_EVENTS) 10 true else s.num j := num_setNum ..
@[simp] theorem num_evCal (j : Nat) :
    s.evCal.num j = if j = K.ATTN_EVENTS then putBit (s.num K.ATTN_EVENTS) 9 true else s.num j := num_setNum ..
@[simp] theorem blob_setBlob (k : Nat) (v : Bytes) (j : Nat) :
    (s.setBlob k v).blob j = if j = k then v else s.blob j := by
  simp only [State.blob, State.setBlob, aFind_aPut]; split <;> rfl
@[simp] theorem chan_setChan (c : Nat) (x : Chan) (d : Nat) : (s.setChan c x).chan d = if d = c then x else s.chan d := by
  simp only [State.chan, State.setChan, aFind_aPut]; split <;> rfl
@[simp] theorem tmu_setTmu (c : Nat) (x : Tmu) (d : Nat) : (s.setTmu c x).tmu d = if d = c then x else s.tmu d := by
  simp only [State.tmu, State.setTmu, aFind_aPut]; split <;> rfl
@[simp] theorem pch_setPch (p : Nat) (x : PumpCh) (q : Nat) : (s.setPch p x).pch q = if q = p then x else s.pch q := by
  simp only [State.pch, State.setPch, aFind_aPut]; split <;> rfl
theorem putBit_get (v i : Nat) (b : Bool) : bit (putBit v i b) i = b := by
  unfold putBit bit
  split
  · assumption
  · rename_i h
    cases b
    · have hv : Nat.testBit v i = true := by cases hb : Nat.testBit v i <;> simp_all
      have h2 := Nat.testBit_eq_decide_div_mod_eq ▸ hv
      simp only [Bool.false_eq_true, if_false]
      rw [Nat.testBit_eq_decide_div_mod_eq]
      have h3 : v / 2 ^ i % 2 = 1 := by simpa using h2
      have hpos : 0 < 2 ^ i := Nat.two_pow_pos i
      have hle : 2 ^ i ≤ v := by
        by_contra hc
        rw [Nat.div_eq_of_lt (by omega)] at h3
        omega
      have h4 : v / 2 ^ i = (v - 2 ^ i) / 2 ^ i + 1 := by
        rw [← Nat.add_div_right _ hpos, Nat.sub_add_cancel hle]
      simp only [decide_eq_false_iff_not]; omega
    · have hv : Nat.testBit v i = false := by cases hb : Nat.testBit v i <;> simp_all
      have h2 := Nat.testBit_eq_decide_div_mod_eq ▸ hv
      simp only [if_true]
      rw [Nat.testBit_eq_decide_div_mod_eq]
      have h3 : v / 2 ^ i % 2 = 0 := by have := decide_eq_false_iff_not.1 h2; omega
      have h4 : (v + 2 ^ i) / 2 ^ i = v / 2 ^ i + 1 := Nat.add_div_right _ (Nat.two_pow_pos i)
      simp only [h4, decide_eq_true_eq]; omega

/-! ### Fields after an update -/

@[simp] theorem pending_setNum (k v : Nat) : (s.setNum k v).pending = s.pending := rfl
@[simp] theorem blobs_setNum (k v : Nat) : (s.setNum k v).blobs = s.blobs := rfl
@[simp] theorem pf0_setNum (k v : Nat) : (s.setNum k v).pf0 = s.pf0 := rfl
@[simp] theorem pf1_setNum (k v : Nat) : (s.setNum k v).pf1 = s.pf1 := rfl
@[simp] theorem seq_setNum (k v : Nat) : (s.setNum k v).seq = s.seq := rfl
@[simp] theorem uc_setNum (k v : Nat) : (s.setNum k v).uc = s.uc := rfl
@[simp] theorem chans_setNum (k v : Nat) : (s.setNum k v).chans = s.chans := rfl
@[simp] theorem cis_setNum (k v : Nat) : (s.setNum k v).cis = s.cis := rfl
@[simp] theorem mem_setNum (k v : Nat) : (s.setNum k v).mem = s.mem := rfl
@[simp] theorem flt_setNum (k v : Nat) : (s.setNum k v).flt = s.flt := rfl
@[simp] theorem pwr_setNum (k v : Nat) : (s.setNum k v).pwr = s.pwr := rfl
@[simp] theorem slow_setNum (k v : Nat) : (s.setNum k v).slow = s.slow := rfl
@[simp] theorem tb_setNum (k v : Nat) : (s.setNum k v).tb = s.tb := rfl
@[simp] theorem pump_setNum (k v : Nat) : (s.setNum k v).pump = s.pump := rfl
@[simp] theorem cal_setNum (k v : Nat) : (s.setNum k v).cal = s.cal := rfl
@[simp] theorem ring_setNum (k v : Nat) : (s.setNum k v).ring = s.ring := rfl
@[simp] theorem trust_setNum (k v : Nat) : (s.setNum k v).trust = s.trust := rfl
@[simp] theorem mgmt_setNum (k v : Nat) : (s.setNum k v).mgmt = s.mgmt := rfl
@[simp] theorem jtag_setNum (k v : Nat) : (s.setNum k v).jtag = s.jtag := rfl
@[simp] theorem freeCtr_setNum (k v : Nat) : (s.setNum k v).freeCtr = s.freeCtr := rfl
@[simp] theorem out_setNum (k v : Nat) : (s.setNum k v).out = s.out := rfl
@[simp] theorem blob_setNum (k v : Nat) (j : Nat) : (s.setNum k v).blob j = s.blob j := rfl
@[simp] theorem chan_setNum (k v : Nat) (j : Nat) : (s.setNum k v).chan j = s.chan j := rfl
@[simp] theorem tmu_setNum (k v : Nat) (j : Nat) : (s.setNum k v).tmu j = s.tmu j := rfl
@[simp] theorem pch_setNum (k v : Nat) (j : Nat) : (s.setNum k v).pch j = s.pch j := rfl
@[simp] theorem pending_inc (k : Nat) : (s.inc k).pending = s.pending := rfl
@[simp] theorem blobs_inc (k : Nat) : (s.inc k).blobs = s.blobs := rfl
@[simp] theorem pf0_inc (k : Nat) : (s.inc k).pf0 = s.pf0 := rfl
@[simp] theorem pf1_inc (k : Nat) : (s.inc k).pf1 = s.pf1 := rfl
@[simp] theorem seq_inc (k : Nat) : (s.inc k).seq = s.seq := rfl
@[simp] theorem uc_inc (k : Nat) : (s.inc k).uc = s.uc := rfl
@[simp] theorem chans_inc (k : Nat) : (s.inc k).chans = s.chans := rfl
@[simp] theorem cis_inc (k : Nat) : (s.inc k).cis = s.cis := rfl
@[simp] theorem mem_inc (k : Nat) : (s.inc k).mem = s.mem := rfl
@[simp] theorem flt_inc (k : Nat) : (s.inc k).flt = s.flt := rfl
@[simp] theorem pwr_inc (k : Nat) : (s.inc k).pwr = s.pwr := rfl
@[simp] theorem slow_inc (k : Nat) : (s.inc k).slow = s.slow := rfl
@[simp] theorem tb_inc (k : Nat) : (s.inc k).tb = s.tb := rfl
@[simp] theorem pump_inc (k : Nat) : (s.inc k).pump = s.pump := rfl
@[simp] theorem cal_inc (k : Nat) : (s.inc k).cal = s.cal := rfl
@[simp] theorem ring_inc (k : Nat) : (s.inc k).ring = s.ring := rfl
@[simp] theorem trust_inc (k : Nat) : (s.inc k).trust = s.trust := rfl
@[simp] theorem mgmt_inc (k : Nat) : (s.inc k).mgmt = s.mgmt := rfl
@[simp] theorem jtag_inc (k : Nat) : (s.inc k).jtag = s.jtag := rfl
@[simp] theorem freeCtr_inc (k : Nat) : (s.inc k).freeCtr = s.freeCtr := rfl
@[simp] theorem out_inc (k : Nat) : (s.inc k).out = s.out := rfl
@[simp] theorem blob_inc (k : Nat) (j : Nat) : (s.inc k).blob j = s.blob j := rfl
@[simp] theorem chan_inc (k : Nat) (j : Nat) : (s.inc k).chan j = s.chan j := rfl
@[simp] theorem tmu_inc (k : Nat) (j : Nat) : (s.inc k).tmu j = s.tmu j := rfl
@[simp] theorem pch_inc (k : Nat) (j : Nat) : (s.inc k).pch j = s.pch j := rfl
@[simp] theorem pending_add (n k d : Nat) : (s.add n k d).pending = s.pending := rfl
@[simp] theorem blobs_add (n k d : Nat) : (s.add n k d).blobs = s.blobs := rfl
@[simp] theorem pf0_add (n k d : Nat) : (s.add n k d).pf0 = s.pf0 := rfl
@[simp] theorem pf1_add (n k d : Nat) : (s.add n k d).pf1 = s.pf1 := rfl
@[simp] theorem seq_add (n k d : Nat) : (s.add n k d).seq = s.seq := rfl
@[simp] theorem uc_add (n k d : Nat) : (s.add n k d).uc = s.uc := rfl
@[simp] theorem chans_add (n k d : Nat) : (s.add n k d).chans = s.chans := rfl
@[simp] theorem cis_add (n k d : Nat) : (s.add n k d).cis = s.cis := rfl
@[simp] theorem mem_add (n k d : Nat) : (s.add n k d).mem = s.mem := rfl
@[simp] theorem flt_add (n k d : Nat) : (s.add n k d).flt = s.flt := rfl
@[simp] theorem pwr_add (n k d : Nat) : (s.add n k d).pwr = s.pwr := rfl
@[simp] theorem slow_add (n k d : Nat) : (s.add n k d).slow = s.slow := rfl
@[simp] theorem tb_add (n k d : Nat) : (s.add n k d).tb = s.tb := rfl
@[simp] theorem pump_add (n k d : Nat) : (s.add n k d).pump = s.pump := rfl
@[simp] theorem cal_add (n k d : Nat) : (s.add n k d).cal = s.cal := rfl
@[simp] theorem ring_add (n k d : Nat) : (s.add n k d).ring = s.ring := rfl
@[simp] theorem trust_add (n k d : Nat) : (s.add n k d).trust = s.trust := rfl
@[simp] theorem mgmt_add (n k d : Nat) : (s.add n k d).mgmt = s.mgmt := rfl
@[simp] theorem jtag_add (n k d : Nat) : (s.add n k d).jtag = s.jtag := rfl
@[simp] theorem freeCtr_add (n k d : Nat) : (s.add n k d).freeCtr = s.freeCtr := rfl
@[simp] theorem out_add (n k d : Nat) : (s.add n k d).out = s.out := rfl
@[simp] theorem blob_add (n k d : Nat) (j : Nat) : (s.add n k d).blob j = s.blob j := rfl
@[simp] theorem chan_add (n k d : Nat) (j : Nat) : (s.add n k d).chan j = s.chan j := rfl
@[simp] theorem tmu_add (n k d : Nat) (j : Nat) : (s.add n k d).tmu j = s.tmu j := rfl
@[simp] theorem pch_add (n k d : Nat) (j : Nat) : (s.add n k d).pch j = s.pch j := rfl
@[simp] theorem pending_setFlag (k i : Nat) (b : Bool) : (s.setFlag k i b).pending = s.pending := rfl
@[simp] theorem blobs_setFlag (k i : Nat) (b : Bool) : (s.setFlag k i b).blobs = s.blobs := rfl
@[simp] theorem pf0_setFlag (k i : Nat) (b : Bool) : (s.setFlag k i b).pf0 = s.pf0 := rfl
@[simp] theorem pf1_setFlag (k i : Nat) (b : Bool) : (s.setFlag k i b).pf1 = s.pf1 := rfl
@[simp] theorem seq_setFlag (k i : Nat) (b : Bool) : (s.setFlag k i b).seq = s.seq := rfl
@[simp] theorem uc_setFlag (k i : Nat) (b : Bool) : (s.setFlag k i b).uc = s.uc := rfl
@[simp] theorem chans_setFlag (k i : Nat) (b : Bool) : (s.setFlag k i b).chans = s.chans := rfl
@[simp] theorem cis_setFlag (k i : Nat) (b : Bool) : (s.setFlag k i b).cis = s.cis := rfl
@[simp] theorem mem_setFlag (k i : Nat) (b : Bool) : (s.setFlag k i b).mem = s.mem := rfl
@[simp] theorem flt_setFlag (k i : Nat) (b : Bool) : (s.setFlag k i b).flt = s.flt := rfl
@[simp] theorem pwr_setFlag (k i : Nat) (b : Bool) : (s.setFlag k i b).pwr = s.pwr := rfl
@[simp] theorem slow_setFlag (k i : Nat) (b : Bool) : (s.setFlag k i b).slow = s.slow := rfl
@[simp] theorem tb_setFlag (k i : Nat) (b : Bool) : (s.setFlag k i b).tb = s.tb := rfl
@[simp] theorem pump_setFlag (k i : Nat) (b : Bool) : (s.setFlag k i b).pump = s.pump := rfl
@[simp] theorem cal_setFlag (k i : Nat) (b : Bool) : (s.setFlag k i b).cal = s.cal := rfl
@[simp] theorem ring_setFlag (k i : Nat) (b : Bool) : (s.setFlag k i b).ring = s.ring := rfl
@[simp] theorem trust_setFlag (k i : Nat) (b : Bool) : (s.setFlag k i b).trust = s.trust := rfl
@[simp] theorem mgmt_setFlag (k i : Nat) (b : Bool) : (s.setFlag k i b).mgmt = s.mgmt := rfl
@[simp] theorem jtag_setFlag (k i : Nat) (b : Bool) : (s.setFlag k i b).jtag = s.jtag := rfl
@[simp] theorem freeCtr_setFlag (k i : Nat) (b : Bool) : (s.setFlag k i b).freeCtr = s.freeCtr := rfl
@[simp] theorem out_setFlag (k i : Nat) (b : Bool) : (s.setFlag k i b).out = s.out := rfl
@[simp] theorem blob_setFlag (k i : Nat) (b : Bool) (j : Nat) : (s.setFlag k i b).blob j = s.blob j := rfl
@[simp] theorem chan_setFlag (k i : Nat) (b : Bool) (j : Nat) : (s.setFlag k i b).chan j = s.chan j := rfl
@[simp] theorem tmu_setFlag (k i : Nat) (b : Bool) (j : Nat) : (s.setFlag k i b).tmu j = s.tmu j := rfl
@[simp] theorem pch_setFlag (k i : Nat) (b : Bool) (j : Nat) : (s.setFlag k i b).pch j = s.pch j := rfl
@[simp] theorem pending_evBurst : s.evBurst.pending = s.pending := rfl
@[simp] theorem blobs_evBurst : s.evBurst.blobs = s.blobs := rfl
@[simp] theorem pf0_evBurst : s.evBurst.pf0 = s.pf0 := rfl
@[simp] theorem pf1_evBurst : s.evBurst.pf1 = s.pf1 := rfl
@[simp] theorem seq_evBurst : s.evBurst.seq = s.seq := rfl
@[simp] theorem uc_evBurst : s.evBurst.uc = s.uc := rfl
@[simp] theorem chans_evBurst : s.evBurst.chans = s.chans := rfl
@[simp] theorem cis_evBurst : s.evBurst.cis = s.cis := rfl
@[simp] theorem mem_evBurst : s.evBurst.mem = s.mem := rfl
@[simp] theorem flt_evBurst : s.evBurst.flt = s.flt := rfl
@[simp] theorem pwr_evBurst : s.evBurst.pwr = s.pwr := rfl
@[simp] theorem slow_evBurst : s.evBurst.slow = s.slow := rfl
@[simp] theorem tb_evBurst : s.evBurst.tb = s.tb := rfl
@[simp] theorem pump_evBurst : s.evBurst.pump = s.pump := rfl
@[simp] theorem cal_evBurst : s.evBurst.cal = s.cal := rfl
@[simp] theorem ring_evBurst : s.evBurst.ring = s.ring := rfl
@[simp] theorem trust_evBurst : s.evBurst.trust = s.trust := rfl
@[simp] theorem mgmt_evBurst : s.evBurst.mgmt = s.mgmt := rfl
@[simp] theorem jtag_evBurst : s.evBurst.jtag = s.jtag := rfl
@[simp] theorem freeCtr_evBurst : s.evBurst.freeCtr = s.freeCtr := rfl
@[simp] theorem out_evBurst : s.evBurst.out = s.out := rfl
@[simp] theorem blob_evBurst (j : Nat) : s.evBurst.blob j = s.blob j := rfl
@[simp] theorem chan_evBurst (j : Nat) : s.evBurst.chan j = s.chan j := rfl
@[simp] theorem tmu_evBurst (j : Nat) : s.evBurst.tmu j = s.tmu j := rfl
@[simp] theorem pch_evBurst (j : Nat) : s.evBurst.pch j = s.pch j := rfl
@[simp] theorem pending_evPump : s.evPump.pending = s.pending := rfl
@[simp] theorem blobs_evPump : s.evPump.blobs = s.blobs := rfl
@[simp] theorem pf0_evPump : s.evPump.pf0 = s.pf0 := rfl
@[simp] theorem pf1_evPump : s.evPump.pf1 = s.pf1 := rfl
@[simp] theorem seq_evPump : s.evPump.seq = s.seq := rfl
@[simp] theorem uc_evPump : s.evPump.uc = s.uc := rfl
@[simp] theorem chans_evPump : s.evPump.chans = s.chans := rfl
@[simp] theorem cis_evPump : s.evPump.cis = s.cis := rfl
@[simp] theorem mem_evPump : s.evPump.mem = s.mem := rfl
@[simp] theorem flt_evPump : s.evPump.flt = s.flt := rfl
@[simp] theorem pwr_evPump : s.evPump.pwr = s.pwr := rfl
@[simp] theorem slow_evPump : s.evPump.slow = s.slow := rfl
@[simp] theorem tb_evPump : s.evPump.tb = s.tb := rfl
@[simp] theorem pump_evPump : s.evPump.pump = s.pump := rfl
@[simp] theorem cal_evPump : s.evPump.cal = s.cal := rfl
@[simp] theorem ring_evPump : s.evPump.ring = s.ring := rfl
@[simp] theorem trust_evPump : s.evPump.trust = s.trust := rfl
@[simp] theorem mgmt_evPump : s.evPump.mgmt = s.mgmt := rfl
@[simp] theorem jtag_evPump : s.evPump.jtag = s.jtag := rfl
@[simp] theorem freeCtr_evPump : s.evPump.freeCtr = s.freeCtr := rfl
@[simp] theorem out_evPump : s.evPump.out = s.out := rfl
@[simp] theorem blob_evPump (j : Nat) : s.evPump.blob j = s.blob j := rfl
@[simp] theorem chan_evPump (j : Nat) : s.evPump.chan j = s.chan j := rfl
@[simp] theorem tmu_evPump (j : Nat) : s.evPump.tmu j = s.tmu j := rfl
@[simp] theorem pch_evPump (j : Nat) : s.evPump.pch j = s.pch j := rfl
@[simp] theorem pending_evCal : s.evCal.pending = s.pending := rfl
@[simp] theorem blobs_evCal : s.evCal.blobs = s.blobs := rfl
@[simp] theorem pf0_evCal : s.evCal.pf0 = s.pf0 := rfl
@[simp] theorem pf1_evCal : s.evCal.pf1 = s.pf1 := rfl
@[simp] theorem seq_evCal : s.evCal.seq = s.seq := rfl
@[simp] theorem uc_evCal : s.evCal.uc = s.uc := rfl
@[simp] theorem chans_evCal : s.evCal.chans = s.chans := rfl
@[simp] theorem cis_evCal : s.evCal.cis = s.cis := rfl
@[simp] theorem mem_evCal : s.evCal.mem = s.mem := rfl
@[simp] theorem flt_evCal : s.evCal.flt = s.flt := rfl
@[simp] theorem pwr_evCal : s.evCal.pwr = s.pwr := rfl
@[simp] theorem slow_evCal : s.evCal.slow = s.slow := rfl
@[simp] theorem tb_evCal : s.evCal.tb = s.tb := rfl
@[simp] theorem pump_evCal : s.evCal.pump = s.pump := rfl
@[simp] theorem cal_evCal : s.evCal.cal = s.cal := rfl
@[simp] theorem ring_evCal : s.evCal.ring = s.ring := rfl
@[simp] theorem trust_evCal : s.evCal.trust = s.trust := rfl
@[simp] theorem mgmt_evCal : s.evCal.mgmt = s.mgmt := rfl
@[simp] theorem jtag_evCal : s.evCal.jtag = s.jtag := rfl
@[simp] theorem freeCtr_evCal : s.evCal.freeCtr = s.freeCtr := rfl
@[simp] theorem out_evCal : s.evCal.out = s.out := rfl
@[simp] theorem blob_evCal (j : Nat) : s.evCal.blob j = s.blob j := rfl
@[simp] theorem chan_evCal (j : Nat) : s.evCal.chan j = s.chan j := rfl
@[simp] theorem tmu_evCal (j : Nat) : s.evCal.tmu j = s.tmu j := rfl
@[simp] theorem pch_evCal (j : Nat) : s.evCal.pch j = s.pch j := rfl
@[simp] theorem pending_setBlob (k : Nat) (v : Bytes) : (s.setBlob k v).pending = s.pending := rfl
@[simp] theorem objs_setBlob (k : Nat) (v : Bytes) : (s.setBlob k v).objs = s.objs := rfl
@[simp] theorem pf0_setBlob (k : Nat) (v : Bytes) : (s.setBlob k v).pf0 = s.pf0 := rfl
@[simp] theorem pf1_setBlob (k : Nat) (v : Bytes) : (s.setBlob k v).pf1 = s.pf1 := rfl
@[simp] theorem seq_setBlob (k : Nat) (v : Bytes) : (s.setBlob k v).seq = s.seq := rfl
@[simp] theorem uc_setBlob (k : Nat) (v : Bytes) : (s.setBlob k v).uc = s.uc := rfl
@[simp] theorem chans_setBlob (k : Nat) (v : Bytes) : (s.setBlob k v).chans = s.chans := rfl
@[simp] theorem cis_setBlob (k : Nat) (v : Bytes) : (s.setBlob k v).cis = s.cis := rfl
@[simp] theorem mem_setBlob (k : Nat) (v : Bytes) : (s.setBlob k v).mem = s.mem := rfl
@[simp] theorem flt_setBlob (k : Nat) (v : Bytes) : (s.setBlob k v).flt = s.flt := rfl
@[simp] theorem pwr_setBlob (k : Nat) (v : Bytes) : (s.setBlob k v).pwr = s.pwr := rfl
@[simp] theorem slow_setBlob (k : Nat) (v : Bytes) : (s.setBlob k v).slow = s.slow := rfl
@[simp] theorem tb_setBlob (k : Nat) (v : Bytes) : (s.setBlob k v).tb = s.tb := rfl
@[simp] theorem pump_setBlob (k : Nat) (v : Bytes) : (s.setBlob k v).pump = s.pump := rfl
@[simp] theorem cal_setBlob (k : Nat) (v : Bytes) : (s.setBlob k v).cal = s.cal := rfl
@[simp] theorem ring_setBlob (k : Nat) (v : Bytes) : (s.setBlob k v).ring = s.ring := rfl
@[simp] theorem trust_setBlob (k : Nat) (v : Bytes) : (s.setBlob k v).trust = s.trust := rfl
@[simp] theorem mgmt_setBlob (k : Nat) (v : Bytes) : (s.setBlob k v).mgmt = s.mgmt := rfl
@[simp] theorem jtag_setBlob (k : Nat) (v : Bytes) : (s.setBlob k v).jtag = s.jtag := rfl
@[simp] theorem freeCtr_setBlob (k : Nat) (v : Bytes) : (s.setBlob k v).freeCtr = s.freeCtr := rfl
@[simp] theorem out_setBlob (k : Nat) (v : Bytes) : (s.setBlob k v).out = s.out := rfl
@[simp] theorem num_setBlob (k : Nat) (v : Bytes) (j : Nat) : (s.setBlob k v).num j = s.num j := rfl
@[simp] theorem chan_setBlob (k : Nat) (v : Bytes) (j : Nat) : (s.setBlob k v).chan j = s.chan j := rfl
@[simp] theorem tmu_setBlob (k : Nat) (v : Bytes) (j : Nat) : (s.setBlob k v).tmu j = s.tmu j := rfl
@[simp] theorem pch_setBlob (k : Nat) (v : Bytes) (j : Nat) : (s.setBlob k v).pch j = s.pch j := rfl
@[simp] theorem pending_emit (o : Out) : (s.emit o).pending = s.pending := rfl
@[simp] theorem objs_emit (o : Out) : (s.emit o).objs = s.objs := rfl
@[simp] theorem blobs_emit (o : Out) : (s.emit o).blobs = s.blobs := rfl
@[simp] theorem pf0_emit (o : Out) : (s.emit o).pf0 = s.pf0 := rfl
@[simp] theorem pf1_emit (o : Out) : (s.emit o).pf1 = s.pf1 := rfl
@[simp] theorem seq_emit (o : Out) : (s.emit o).seq = s.seq := rfl
@[simp] theorem uc_emit (o : Out) : (s.emit o).uc = s.uc := rfl
@[simp] theorem chans_emit (o : Out) : (s.emit o).chans = s.chans := rfl
@[simp] theorem cis_emit (o : Out) : (s.emit o).cis = s.cis := rfl
@[simp] theorem mem_emit (o : Out) : (s.emit o).mem = s.mem := rfl
@[simp] theorem flt_emit (o : Out) : (s.emit o).flt = s.flt := rfl
@[simp] theorem pwr_emit (o : Out) : (s.emit o).pwr = s.pwr := rfl
@[simp] theorem slow_emit (o : Out) : (s.emit o).slow = s.slow := rfl
@[simp] theorem tb_emit (o : Out) : (s.emit o).tb = s.tb := rfl
@[simp] theorem pump_emit (o : Out) : (s.emit o).pump = s.pump := rfl
@[simp] theorem cal_emit (o : Out) : (s.emit o).cal = s.cal := rfl
@[simp] theorem ring_emit (o : Out) : (s.emit o).ring = s.ring := rfl
@[simp] theorem trust_emit (o : Out) : (s.emit o).trust = s.trust := rfl
@[simp] theorem mgmt_emit (o : Out) : (s.emit o).mgmt = s.mgmt := rfl
@[simp] theorem jtag_emit (o : Out) : (s.emit o).jtag = s.jtag := rfl
@[simp] theorem freeCtr_emit (o : Out) : (s.emit o).freeCtr = s.freeCtr := rfl
@[simp] theorem num_emit (o : Out) (j : Nat) : (s.emit o).num j = s.num j := rfl
@[simp] theorem blob_emit (o : Out) (j : Nat) : (s.emit o).blob j = s.blob j := rfl
@[simp] theorem chan_emit (o : Out) (j : Nat) : (s.emit o).chan j = s.chan j := rfl
@[simp] theorem tmu_emit (o : Out) (j : Nat) : (s.emit o).tmu j = s.tmu j := rfl
@[simp] theorem pch_emit (o : Out) (j : Nat) : (s.emit o).pch j = s.pch j := rfl
@[simp] theorem pending_raise (n : Nat) : (s.raise n).pending = s.pending := rfl
@[simp] theorem objs_raise (n : Nat) : (s.raise n).objs = s.objs := rfl
@[simp] theorem blobs_raise (n : Nat) : (s.raise n).blobs = s.blobs := rfl
@[simp] theorem pf0_raise (n : Nat) : (s.raise n).pf0 = s.pf0 := rfl
@[simp] theorem pf1_raise (n : Nat) : (s.raise n).pf1 = s.pf1 := rfl
@[simp] theorem seq_raise (n : Nat) : (s.raise n).seq = s.seq := rfl
@[simp] theorem uc_raise (n : Nat) : (s.raise n).uc = s.uc := rfl
@[simp] theorem chans_raise (n : Nat) : (s.raise n).chans = s.chans := rfl
@[simp] theorem cis_raise (n : Nat) : (s.raise n).cis = s.cis := rfl
@[simp] theorem mem_raise (n : Nat) : (s.raise n).mem = s.mem := rfl
@[simp] theorem pwr_raise (n : Nat) : (s.raise n).pwr = s.pwr := rfl
@[simp] theorem slow_raise (n : Nat) : (s.raise n).slow = s.slow := rfl
@[simp] theorem tb_raise (n : Nat) : (s.raise n).tb = s.tb := rfl
@[simp] theorem pump_raise (n : Nat) : (s.raise n).pump = s.pump := rfl
@[simp] theorem cal_raise (n : Nat) : (s.raise n).cal = s.cal := rfl
@[simp] theorem ring_raise (n : Nat) : (s.raise n).ring = s.ring := rfl
@[simp] theorem trust_raise (n : Nat) : (s.raise n).trust = s.trust := rfl
@[simp] theorem mgmt_raise (n : Nat) : (s.raise n).mgmt = s.mgmt := rfl
@[simp] theorem jtag_raise (n : Nat) : (s.raise n).jtag = s.jtag := rfl
@[simp] theorem freeCtr_raise (n : Nat) : (s.raise n).freeCtr = s.freeCtr := rfl
@[simp] theorem out_raise (n : Nat) : (s.raise n).out = s.out := rfl
@[simp] theorem num_raise (n : Nat) (j : Nat) : (s.raise n).num j = s.num j := rfl
@[simp] theorem blob_raise (n : Nat) (j : Nat) : (s.raise n).blob j = s.blob j := rfl
@[simp] theorem chan_raise (n : Nat) (j : Nat) : (s.raise n).chan j = s.chan j := rfl
@[simp] theorem tmu_raise (n : Nat) (j : Nat) : (s.raise n).tmu j = s.tmu j := rfl
@[simp] theorem pch_raise (n : Nat) (j : Nat) : (s.raise n).pch j = s.pch j := rfl
@[simp] theorem pending_setSeq (q : Seq) : (s.setSeq q).pending = s.pending := rfl
@[simp] theorem objs_setSeq (q : Seq) : (s.setSeq q).objs = s.objs := rfl
@[simp] theorem blobs_setSeq (q : Seq) : (s.setSeq q).blobs = s.blobs := rfl
@[simp] theorem pf0_setSeq (q : Seq) : (s.setSeq q).pf0 = s.pf0 := rfl
@[simp] theorem pf1_setSeq (q : Seq) : (s.setSeq q).pf1 = s.pf1 := rfl
@[simp] theorem uc_setSeq (q : Seq) : (s.setSeq q).uc = s.uc := rfl
@[simp] theorem chans_setSeq (q : Seq) : (s.setSeq q).chans = s.chans := rfl
@[simp] theorem cis_setSeq (q : Seq) : (s.setSeq q).cis = s.cis := rfl
@[simp] theorem mem_setSeq (q : Seq) : (s.setSeq q).mem = s.mem := rfl
@[simp] theorem flt_setSeq (q : Seq) : (s.setSeq q).flt = s.flt := rfl
@[simp] theorem pwr_setSeq (q : Seq) : (s.setSeq q).pwr = s.pwr := rfl
@[simp] theorem slow_setSeq (q : Seq) : (s.setSeq q).slow = s.slow := rfl
@[simp] theorem tb_setSeq (q : Seq) : (s.setSeq q).tb = s.tb := rfl
@[simp] theorem pump_setSeq (q : Seq) : (s.setSeq q).pump = s.pump := rfl
@[simp] theorem cal_setSeq (q : Seq) : (s.setSeq q).cal = s.cal := rfl
@[simp] theorem ring_setSeq (q : Seq) : (s.setSeq q).ring = s.ring := rfl
@[simp] theorem trust_setSeq (q : Seq) : (s.setSeq q).trust = s.trust := rfl
@[simp] theorem mgmt_setSeq (q : Seq) : (s.setSeq q).mgmt = s.mgmt := rfl
@[simp] theorem jtag_setSeq (q : Seq) : (s.setSeq q).jtag = s.jtag := rfl
@[simp] theorem freeCtr_setSeq (q : Seq) : (s.setSeq q).freeCtr = s.freeCtr := rfl
@[simp] theorem out_setSeq (q : Seq) : (s.setSeq q).out = s.out := rfl
@[simp] theorem num_setSeq (q : Seq) (j : Nat) : (s.setSeq q).num j = s.num j := rfl
@[simp] theorem blob_setSeq (q : Seq) (j : Nat) : (s.setSeq q).blob j = s.blob j := rfl
@[simp] theorem chan_setSeq (q : Seq) (j : Nat) : (s.setSeq q).chan j = s.chan j := rfl
@[simp] theorem tmu_setSeq (q : Seq) (j : Nat) : (s.setSeq q).tmu j = s.tmu j := rfl
@[simp] theorem pch_setSeq (q : Seq) (j : Nat) : (s.setSeq q).pch j = s.pch j := rfl
@[simp] theorem pending_setUc (u : Micro) : (s.setUc u).pending = s.pending := rfl
@[simp] theorem objs_setUc (u : Micro) : (s.setUc u).objs = s.objs := rfl
@[simp] theorem blobs_setUc (u : Micro) : (s.setUc u).blobs = s.blobs := rfl
@[simp] theorem pf0_setUc (u : Micro) : (s.setUc u).pf0 = s.pf0 := rfl
@[simp] theorem pf1_setUc (u : Micro) : (s.setUc u).pf1 = s.pf1 := rfl
@[simp] theorem seq_setUc (u : Micro) : (s.setUc u).seq = s.seq := rfl
@[simp] theorem chans_setUc (u : Micro) : (s.setUc u).chans = s.chans := rfl
@[simp] theorem cis_setUc (u : Micro) : (s.setUc u).cis = s.cis := rfl
@[simp] theorem mem_setUc (u : Micro) : (s.setUc u).mem = s.mem := rfl
@[simp] theorem flt_setUc (u : Micro) : (s.setUc u).flt = s.flt := rfl
@[simp] theorem pwr_setUc (u : Micro) : (s.setUc u).pwr = s.pwr := rfl
@[simp] theorem slow_setUc (u : Micro) : (s.setUc u).slow = s.slow := rfl
@[simp] theorem tb_setUc (u : Micro) : (s.setUc u).tb = s.tb := rfl
@[simp] theorem pump_setUc (u : Micro) : (s.setUc u).pump = s.pump := rfl
@[simp] theorem cal_setUc (u : Micro) : (s.setUc u).cal = s.cal := rfl
@[simp] theorem ring_setUc (u : Micro) : (s.setUc u).ring = s.ring := rfl
@[simp] theorem trust_setUc (u : Micro) : (s.setUc u).trust = s.trust := rfl
@[simp] theorem mgmt_setUc (u : Micro) : (s.setUc u).mgmt = s.mgmt := rfl
@[simp] theorem jtag_setUc (u : Micro) : (s.setUc u).jtag = s.jtag := rfl
@[simp] theorem freeCtr_setUc (u : Micro) : (s.setUc u).freeCtr = s.freeCtr := rfl
@[simp] theorem out_setUc (u : Micro) : (s.setUc u).out = s.out := rfl
@[simp] theorem num_setUc (u : Micro) (j : Nat) : (s.setUc u).num j = s.num j := rfl
@[simp] theorem blob_setUc (u : Micro) (j : Nat) : (s.setUc u).blob j = s.blob j := rfl
@[simp] theorem chan_setUc (u : Micro) (j : Nat) : (s.setUc u).chan j = s.chan j := rfl
@[simp] theorem tmu_setUc (u : Micro) (j : Nat) : (s.setUc u).tmu j = s.tmu j := rfl
@[simp] theorem pch_setUc (u : Micro) (j : Nat) : (s.setUc u).pch j = s.pch j := rfl
@[simp] theorem pending_setChan (c : Nat) (x : Chan) : (s.setChan c x).pending = s.pending := rfl
@[simp] theorem objs_setChan (c : Nat) (x : Chan) : (s.setChan c x).objs = s.objs := rfl
@[simp] theorem blobs_setChan (c : Nat) (x : Chan) : (s.setChan c x).blobs = s.blobs := rfl
@[simp] theorem pf0_setChan (c : Nat) (x : Chan) : (s.setChan c x).pf0 = s.pf0 := rfl
@[simp] theorem pf1_setChan (c : Nat) (x : Chan) : (s.setChan c x).pf1 = s.pf1 := rfl
@[simp] theorem seq_setChan (c : Nat) (x : Chan) : (s.setChan c x).seq = s.seq := rfl
@[simp] theorem uc_setChan (c : Nat) (x : Chan) : (s.setChan c x).uc = s.uc := rfl
@[simp] theorem cis_setChan (c : Nat) (x : Chan) : (s.setChan c x).cis = s.cis := rfl
@[simp] theorem mem_setChan (c : Nat) (x : Chan) : (s.setChan c x).mem = s.mem := rfl
@[simp] theorem flt_setChan (c : Nat) (x : Chan) : (s.setChan c x).flt = s.flt := rfl
@[simp] theorem pwr_setChan (c : Nat) (x : Chan) : (s.setChan c x).pwr = s.pwr := rfl
@[simp] theorem slow_setChan (c : Nat) (x : Chan) : (s.setChan c x).slow = s.slow := rfl
@[simp] theorem tb_setChan (c : Nat) (x : Chan) : (s.setChan c x).tb = s.tb := rfl
@[simp] theorem pump_setChan (c : Nat) (x : Chan) : (s.setChan c x).pump = s.pump := rfl
@[simp] theorem cal_setChan (c : Nat) (x : Chan) : (s.setChan c x).cal = s.cal := rfl
@[simp] theorem ring_setChan (c : Nat) (x : Chan) : (s.setChan c x).ring = s.ring := rfl
@[simp] theorem trust_setChan (c : Nat) (x : Chan) : (s.setChan c x).trust = s.trust := rfl
@[simp] theorem mgmt_setChan (c : Nat) (x : Chan) : (s.setChan c x).mgmt = s.mgmt := rfl
@[simp] theorem jtag_setChan (c : Nat) (x : Chan) : (s.setChan c x).jtag = s.jtag := rfl
@[simp] theorem freeCtr_setChan (c : Nat) (x : Chan) : (s.setChan c x).freeCtr = s.freeCtr := rfl
@[simp] theorem out_setChan (c : Nat) (x : Chan) : (s.setChan c x).out = s.out := rfl
@[simp] theorem num_setChan (c : Nat) (x : Chan) (j : Nat) : (s.setChan c x).num j = s.num j := rfl
@[simp] theorem blob_setChan (c : Nat) (x : Chan) (j : Nat) : (s.setChan c x).blob j = s.blob j := rfl
@[simp] theorem tmu_setChan (c : Nat) (x : Chan) (j : Nat) : (s.setChan c x).tmu j = s.tmu j := rfl
@[simp] theorem pch_setChan (c : Nat) (x : Chan) (j : Nat) : (s.setChan c x).pch j = s.pch j := rfl
@[simp] theorem pending_setTmu (c : Nat) (x : Tmu) : (s.setTmu c x).pending = s.pending := rfl
@[simp] theorem objs_setTmu (c : Nat) (x : Tmu) : (s.setTmu c x).objs = s.objs := rfl
@[simp] theorem blobs_setTmu (c : Nat) (x : Tmu) : (s.setTmu c x).blobs = s.blobs := rfl
@[simp] theorem pf0_setTmu (c : Nat) (x : Tmu) : (s.setTmu c x).pf0 = s.pf0 := rfl
@[simp] theorem pf1_setTmu (c : Nat) (x : Tmu) : (s.setTmu c x).pf1 = s.pf1 := rfl
@[simp] theorem seq_setTmu (c : Nat) (x : Tmu) : (s.setTmu c x).seq = s.seq := rfl
@[simp] theorem uc_setTmu (c : Nat) (x : Tmu) : (s.setTmu c x).uc = s.uc := rfl
@[simp] theorem chans_setTmu (c : Nat) (x : Tmu) : (s.setTmu c x).chans = s.chans := rfl
@[simp] theorem cis_setTmu (c : Nat) (x : Tmu) : (s.setTmu c x).cis = s.cis := rfl
@[simp] theorem mem_setTmu (c : Nat) (x : Tmu) : (s.setTmu c x).mem = s.mem := rfl
@[simp] theorem flt_setTmu (c : Nat) (x : Tmu) : (s.setTmu c x).flt = s.flt := rfl
@[simp] theorem pwr_setTmu (c : Nat) (x : Tmu) : (s.setTmu c x).pwr = s.pwr := rfl
@[simp] theorem slow_setTmu (c : Nat) (x : Tmu) : (s.setTmu c x).slow = s.slow := rfl
@[simp] theorem pump_setTmu (c : Nat) (x : Tmu) : (s.setTmu c x).pump = s.pump := rfl
@[simp] theorem cal_setTmu (c : Nat) (x : Tmu) : (s.setTmu c x).cal = s.cal := rfl
@[simp] theorem ring_setTmu (c : Nat) (x : Tmu) : (s.setTmu c x).ring = s.ring := rfl
@[simp] theorem trust_setTmu (c : Nat) (x : Tmu) : (s.setTmu c x).trust = s.trust := rfl
@[simp] theorem mgmt_setTmu (c : Nat) (x : Tmu) : (s.setTmu c x).mgmt = s.mgmt := rfl
@[simp] theorem jtag_setTmu (c : Nat) (x : Tmu) : (s.setTmu c x).jtag = s.jtag := rfl
@[simp] theorem freeCtr_setTmu (c : Nat) (x : Tmu) : (s.setTmu c x).freeCtr = s.freeCtr := rfl
@[simp] theorem out_setTmu (c : Nat) (x : Tmu) : (s.setTmu c x).out = s.out := rfl
@[simp] theorem num_setTmu (c : Nat) (x : Tmu) (j : Nat) : (s.setTmu c x).num j = s.num j := rfl
@[simp] theorem blob_setTmu (c : Nat) (x : Tmu) (j : Nat) : (s.setTmu c x).blob j = s.blob j := rfl
@[simp] theorem chan_setTmu (c : Nat) (x : Tmu) (j : Nat) : (s.setTmu c x).chan j = s.chan j := rfl
@[simp] theorem pch_setTmu (c : Nat) (x : Tmu) (j : Nat) : (s.setTmu c x).pch j = s.pch j := rfl
@[simp] theorem pending_setPch (p : Nat) (x : PumpCh) : (s.setPch p x).pending = s.pending := rfl
@[simp] theorem objs_setPch (p : Nat) (x : PumpCh) : (s.setPch p x).objs = s.objs := rfl
@[simp] theorem blobs_setPch (p : Nat) (x : PumpCh) : (s.setPch p x).blobs = s.blobs := rfl
@[simp] theorem pf0_setPch (p : Nat) (x : PumpCh) : (s.setPch p x).pf0 = s.pf0 := rfl
@[simp] theorem pf1_setPch (p : Nat) (x : PumpCh) : (s.setPch p x).pf1 = s.pf1 := rfl
@[simp] theorem seq_setPch (p : Nat) (x : PumpCh) : (s.setPch p x).seq = s.seq := rfl
@[simp] theorem uc_setPch (p : Nat) (x : PumpCh) : (s.setPch p x).uc = s.uc := rfl
@[simp] theorem chans_setPch (p : Nat) (x : PumpCh) : (s.setPch p x).chans = s.chans := rfl
@[simp] theorem cis_setPch (p : Nat) (x : PumpCh) : (s.setPch p x).cis = s.cis := rfl
@[simp] theorem mem_setPch (p : Nat) (x : PumpCh) : (s.setPch p x).mem = s.mem := rfl
@[simp] theorem flt_setPch (p : Nat) (x : PumpCh) : (s.setPch p x).flt = s.flt := rfl
@[simp] theorem pwr_setPch (p : Nat) (x : PumpCh) : (s.setPch p x).pwr = s.pwr := rfl
@[simp] theorem slow_setPch (p : Nat) (x : PumpCh) : (s.setPch p x).slow = s.slow := rfl
@[simp] theorem tb_setPch (p : Nat) (x : PumpCh) : (s.setPch p x).tb = s.tb := rfl
@[simp] theorem cal_setPch (p : Nat) (x : PumpCh) : (s.setPch p x).cal = s.cal := rfl
@[simp] theorem ring_setPch (p : Nat) (x : PumpCh) : (s.setPch p x).ring = s.ring := rfl
@[simp] theorem trust_setPch (p : Nat) (x : PumpCh) : (s.setPch p x).trust = s.trust := rfl
@[simp] theorem mgmt_setPch (p : Nat) (x : PumpCh) : (s.setPch p x).mgmt = s.mgmt := rfl
@[simp] theorem jtag_setPch (p : Nat) (x : PumpCh) : (s.setPch p x).jtag = s.jtag := rfl
@[simp] theorem freeCtr_setPch (p : Nat) (x : PumpCh) : (s.setPch p x).freeCtr = s.freeCtr := rfl
@[simp] theorem out_setPch (p : Nat) (x : PumpCh) : (s.setPch p x).out = s.out := rfl
@[simp] theorem num_setPch (p : Nat) (x : PumpCh) (j : Nat) : (s.setPch p x).num j = s.num j := rfl
@[simp] theorem blob_setPch (p : Nat) (x : PumpCh) (j : Nat) : (s.setPch p x).blob j = s.blob j := rfl
@[simp] theorem chan_setPch (p : Nat) (x : PumpCh) (j : Nat) : (s.setPch p x).chan j = s.chan j := rfl
@[simp] theorem tmu_setPch (p : Nat) (x : PumpCh) (j : Nat) : (s.setPch p x).tmu j = s.tmu j := rfl
@[simp] theorem pending_setCal (c : Cal) : (s.setCal c).pending = s.pending := rfl
@[simp] theorem objs_setCal (c : Cal) : (s.setCal c).objs = s.objs := rfl
@[simp] theorem blobs_setCal (c : Cal) : (s.setCal c).blobs = s.blobs := rfl
@[simp] theorem pf0_setCal (c : Cal) : (s.setCal c).pf0 = s.pf0 := rfl
@[simp] theorem pf1_setCal (c : Cal) : (s.setCal c).pf1 = s.pf1 := rfl
@[simp] theorem seq_setCal (c : Cal) : (s.setCal c).seq = s.seq := rfl
@[simp] theorem uc_setCal (c : Cal) : (s.setCal c).uc = s.uc := rfl
@[simp] theorem chans_setCal (c : Cal) : (s.setCal c).chans = s.chans := rfl
@[simp] theorem cis_setCal (c : Cal) : (s.setCal c).cis = s.cis := rfl
@[simp] theorem mem_setCal (c : Cal) : (s.setCal c).mem = s.mem := rfl
@[simp] theorem flt_setCal (c : Cal) : (s.setCal c).flt = s.flt := rfl
@[simp] theorem pwr_setCal (c : Cal) : (s.setCal c).pwr = s.pwr := rfl
@[simp] theorem slow_setCal (c : Cal) : (s.setCal c).slow = s.slow := rfl
@[simp] theorem tb_setCal (c : Cal) : (s.setCal c).tb = s.tb := rfl
@[simp] theorem pump_setCal (c : Cal) : (s.setCal c).pump = s.pump := rfl
@[simp] theorem ring_setCal (c : Cal) : (s.setCal c).ring = s.ring := rfl
@[simp] theorem trust_setCal (c : Cal) : (s.setCal c).trust = s.trust := rfl
@[simp] theorem mgmt_setCal (c : Cal) : (s.setCal c).mgmt = s.mgmt := rfl
@[simp] theorem jtag_setCal (c : Cal) : (s.setCal c).jtag = s.jtag := rfl
@[simp] theorem freeCtr_setCal (c : Cal) : (s.setCal c).freeCtr = s.freeCtr := rfl
@[simp] theorem out_setCal (c : Cal) : (s.setCal c).out = s.out := rfl
@[simp] theorem num_setCal (c : Cal) (j : Nat) : (s.setCal c).num j = s.num j := rfl
@[simp] theorem blob_setCal (c : Cal) (j : Nat) : (s.setCal c).blob j = s.blob j := rfl
@[simp] theorem chan_setCal (c : Cal) (j : Nat) : (s.setCal c).chan j = s.chan j := rfl
@[simp] theorem tmu_setCal (c : Cal) (j : Nat) : (s.setCal c).tmu j = s.tmu j := rfl
@[simp] theorem pch_setCal (c : Cal) (j : Nat) : (s.setCal c).pch j = s.pch j := rfl
@[simp] theorem pending_setTrust (t : Trust) : (s.setTrust t).pending = s.pending := rfl
@[simp] theorem objs_setTrust (t : Trust) : (s.setTrust t).objs = s.objs := rfl
@[simp] theorem blobs_setTrust (t : Trust) : (s.setTrust t).blobs = s.blobs := rfl
@[simp] theorem pf0_setTrust (t : Trust) : (s.setTrust t).pf0 = s.pf0 := rfl
@[simp] theorem pf1_setTrust (t : Trust) : (s.setTrust t).pf1 = s.pf1 := rfl
@[simp] theorem seq_setTrust (t : Trust) : (s.setTrust t).seq = s.seq := rfl
@[simp] theorem uc_setTrust (t : Trust) : (s.setTrust t).uc = s.uc := rfl
@[simp] theorem chans_setTrust (t : Trust) : (s.setTrust t).chans = s.chans := rfl
@[simp] theorem cis_setTrust (t : Trust) : (s.setTrust t).cis = s.cis := rfl
@[simp] theorem mem_setTrust (t : Trust) : (s.setTrust t).mem = s.mem := rfl
@[simp] theorem flt_setTrust (t : Trust) : (s.setTrust t).flt = s.flt := rfl
@[simp] theorem pwr_setTrust (t : Trust) : (s.setTrust t).pwr = s.pwr := rfl
@[simp] theorem slow_setTrust (t : Trust) : (s.setTrust t).slow = s.slow := rfl
@[simp] theorem tb_setTrust (t : Trust) : (s.setTrust t).tb = s.tb := rfl
@[simp] theorem pump_setTrust (t : Trust) : (s.setTrust t).pump = s.pump := rfl
@[simp] theorem cal_setTrust (t : Trust) : (s.setTrust t).cal = s.cal := rfl
@[simp] theorem ring_setTrust (t : Trust) : (s.setTrust t).ring = s.ring := rfl
@[simp] theorem mgmt_setTrust (t : Trust) : (s.setTrust t).mgmt = s.mgmt := rfl
@[simp] theorem jtag_setTrust (t : Trust) : (s.setTrust t).jtag = s.jtag := rfl
@[simp] theorem freeCtr_setTrust (t : Trust) : (s.setTrust t).freeCtr = s.freeCtr := rfl
@[simp] theorem out_setTrust (t : Trust) : (s.setTrust t).out = s.out := rfl
@[simp] theorem num_setTrust (t : Trust) (j : Nat) : (s.setTrust t).num j = s.num j := rfl
@[simp] theorem blob_setTrust (t : Trust) (j : Nat) : (s.setTrust t).blob j = s.blob j := rfl
@[simp] theorem chan_setTrust (t : Trust) (j : Nat) : (s.setTrust t).chan j = s.chan j := rfl
@[simp] theorem tmu_setTrust (t : Trust) (j : Nat) : (s.setTrust t).tmu j = s.tmu j := rfl
@[simp] theorem pch_setTrust (t : Trust) (j : Nat) : (s.setTrust t).pch j = s.pch j := rfl
@[simp] theorem pending_setPwr (p : Power) : (s.setPwr p).pending = s.pending := rfl
@[simp] theorem objs_setPwr (p : Power) : (s.setPwr p).objs = s.objs := rfl
@[simp] theorem blobs_setPwr (p : Power) : (s.setPwr p).blobs = s.blobs := rfl
@[simp] theorem pf0_setPwr (p : Power) : (s.setPwr p).pf0 = s.pf0 := rfl
@[simp] theorem pf1_setPwr (p : Power) : (s.setPwr p).pf1 = s.pf1 := rfl
@[simp] theorem seq_setPwr (p : Power) : (s.setPwr p).seq = s.seq := rfl
@[simp] theorem uc_setPwr (p : Power) : (s.setPwr p).uc = s.uc := rfl
@[simp] theorem chans_setPwr (p : Power) : (s.setPwr p).chans = s.chans := rfl
@[simp] theorem cis_setPwr (p : Power) : (s.setPwr p).cis = s.cis := rfl
@[simp] theorem mem_setPwr (p : Power) : (s.setPwr p).mem = s.mem := rfl
@[simp] theorem flt_setPwr (p : Power) : (s.setPwr p).flt = s.flt := rfl
@[simp] theorem slow_setPwr (p : Power) : (s.setPwr p).slow = s.slow := rfl
@[simp] theorem tb_setPwr (p : Power) : (s.setPwr p).tb = s.tb := rfl
@[simp] theorem pump_setPwr (p : Power) : (s.setPwr p).pump = s.pump := rfl
@[simp] theorem cal_setPwr (p : Power) : (s.setPwr p).cal = s.cal := rfl
@[simp] theorem ring_setPwr (p : Power) : (s.setPwr p).ring = s.ring := rfl
@[simp] theorem trust_setPwr (p : Power) : (s.setPwr p).trust = s.trust := rfl
@[simp] theorem mgmt_setPwr (p : Power) : (s.setPwr p).mgmt = s.mgmt := rfl
@[simp] theorem jtag_setPwr (p : Power) : (s.setPwr p).jtag = s.jtag := rfl
@[simp] theorem freeCtr_setPwr (p : Power) : (s.setPwr p).freeCtr = s.freeCtr := rfl
@[simp] theorem out_setPwr (p : Power) : (s.setPwr p).out = s.out := rfl
@[simp] theorem num_setPwr (p : Power) (j : Nat) : (s.setPwr p).num j = s.num j := rfl
@[simp] theorem blob_setPwr (p : Power) (j : Nat) : (s.setPwr p).blob j = s.blob j := rfl
@[simp] theorem chan_setPwr (p : Power) (j : Nat) : (s.setPwr p).chan j = s.chan j := rfl
@[simp] theorem tmu_setPwr (p : Power) (j : Nat) : (s.setPwr p).tmu j = s.tmu j := rfl
@[simp] theorem pch_setPwr (p : Power) (j : Nat) : (s.setPwr p).pch j = s.pch j := rfl
@[simp] theorem pending_setRing (r : Ring) : (s.setRing r).pending = s.pending := rfl
@[simp] theorem objs_setRing (r : Ring) : (s.setRing r).objs = s.objs := rfl
@[simp] theorem blobs_setRing (r : Ring) : (s.setRing r).blobs = s.blobs := rfl
@[simp] theorem pf0_setRing (r : Ring) : (s.setRing r).pf0 = s.pf0 := rfl
@[simp] theorem pf1_setRing (r : Ring) : (s.setRing r).pf1 = s.pf1 := rfl
@[simp] theorem seq_setRing (r : Ring) : (s.setRing r).seq = s.seq := rfl
@[simp] theorem uc_setRing (r : Ring) : (s.setRing r).uc = s.uc := rfl
@[simp] theorem chans_setRing (r : Ring) : (s.setRing r).chans = s.chans := rfl
@[simp] theorem cis_setRing (r : Ring) : (s.setRing r).cis = s.cis := rfl
@[simp] theorem mem_setRing (r : Ring) : (s.setRing r).mem = s.mem := rfl
@[simp] theorem flt_setRing (r : Ring) : (s.setRing r).flt = s.flt := rfl
@[simp] theorem pwr_setRing (r : Ring) : (s.setRing r).pwr = s.pwr := rfl
@[simp] theorem slow_setRing (r : Ring) : (s.setRing r).slow = s.slow := rfl
@[simp] theorem tb_setRing (r : Ring) : (s.setRing r).tb = s.tb := rfl
@[simp] theorem pump_setRing (r : Ring) : (s.setRing r).pump = s.pump := rfl
@[simp] theorem cal_setRing (r : Ring) : (s.setRing r).cal = s.cal := rfl
@[simp] theorem trust_setRing (r : Ring) : (s.setRing r).trust = s.trust := rfl
@[simp] theorem mgmt_setRing (r : Ring) : (s.setRing r).mgmt = s.mgmt := rfl
@[simp] theorem jtag_setRing (r : Ring) : (s.setRing r).jtag = s.jtag := rfl
@[simp] theorem freeCtr_setRing (r : Ring) : (s.setRing r).freeCtr = s.freeCtr := rfl
@[simp] theorem out_setRing (r : Ring) : (s.setRing r).out = s.out := rfl
@[simp] theorem num_setRing (r : Ring) (j : Nat) : (s.setRing r).num j = s.num j := rfl
@[simp] theorem blob_setRing (r : Ring) (j : Nat) : (s.setRing r).blob j = s.blob j := rfl
@[simp] theorem chan_setRing (r : Ring) (j : Nat) : (s.setRing r).chan j = s.chan j := rfl
@[simp] theorem tmu_setRing (r : Ring) (j : Nat) : (s.setRing r).tmu j = s.tmu j := rfl
@[simp] theorem pch_setRing (r : Ring) (j : Nat) : (s.setRing r).pch j = s.pch j := rfl
@[simp] theorem pending_setJtag (x : Jtag) : (s.setJtag x).pending = s.pending := rfl
@[simp] theorem objs_setJtag (x : Jtag) : (s.setJtag x).objs = s.objs := rfl
@[simp] theorem blobs_setJtag (x : Jtag) : (s.setJtag x).blobs = s.blobs := rfl
@[simp] theorem pf0_setJtag (x : Jtag) : (s.setJtag x).pf0 = s.pf0 := rfl
@[simp] theorem pf1_setJtag (x : Jtag) : (s.setJtag x).pf1 = s.pf1 := rfl
@[simp] theorem seq_setJtag (x : Jtag) : (s.setJtag x).seq = s.seq := rfl
@[simp] theorem uc_setJtag (x : Jtag) : (s.setJtag x).uc = s.uc := rfl
@[simp] theorem chans_setJtag (x : Jtag) : (s.setJtag x).chans = s.chans := rfl
@[simp] theorem cis_setJtag (x : Jtag) : (s.setJtag x).cis = s.cis := rfl
@[simp] theorem mem_setJtag (x : Jtag) : (s.setJtag x).mem = s.mem := rfl
@[simp] theorem flt_setJtag (x : Jtag) : (s.setJtag x).flt = s.flt := rfl
@[simp] theorem pwr_setJtag (x : Jtag) : (s.setJtag x).pwr = s.pwr := rfl
@[simp] theorem slow_setJtag (x : Jtag) : (s.setJtag x).slow = s.slow := rfl
@[simp] theorem tb_setJtag (x : Jtag) : (s.setJtag x).tb = s.tb := rfl
@[simp] theorem pump_setJtag (x : Jtag) : (s.setJtag x).pump = s.pump := rfl
@[simp] theorem cal_setJtag (x : Jtag) : (s.setJtag x).cal = s.cal := rfl
@[simp] theorem ring_setJtag (x : Jtag) : (s.setJtag x).ring = s.ring := rfl
@[simp] theorem trust_setJtag (x : Jtag) : (s.setJtag x).trust = s.trust := rfl
@[simp] theorem mgmt_setJtag (x : Jtag) : (s.setJtag x).mgmt = s.mgmt := rfl
@[simp] theorem freeCtr_setJtag (x : Jtag) : (s.setJtag x).freeCtr = s.freeCtr := rfl
@[simp] theorem out_setJtag (x : Jtag) : (s.setJtag x).out = s.out := rfl
@[simp] theorem num_setJtag (x : Jtag) (j : Nat) : (s.setJtag x).num j = s.num j := rfl
@[simp] theorem blob_setJtag (x : Jtag) (j : Nat) : (s.setJtag x).blob j = s.blob j := rfl
@[simp] theorem chan_setJtag (x : Jtag) (j : Nat) : (s.setJtag x).chan j = s.chan j := rfl
@[simp] theorem tmu_setJtag (x : Jtag) (j : Nat) : (s.setJtag x).tmu j = s.tmu j := rfl
@[simp] theorem pch_setJtag (x : Jtag) (j : Nat) : (s.setJtag x).pch j = s.pch j := rfl
@[simp] theorem pending_setCis (x : Cistern) : (s.setCis x).pending = s.pending := rfl
@[simp] theorem objs_setCis (x : Cistern) : (s.setCis x).objs = s.objs := rfl
@[simp] theorem blobs_setCis (x : Cistern) : (s.setCis x).blobs = s.blobs := rfl
@[simp] theorem pf0_setCis (x : Cistern) : (s.setCis x).pf0 = s.pf0 := rfl
@[simp] theorem pf1_setCis (x : Cistern) : (s.setCis x).pf1 = s.pf1 := rfl
@[simp] theorem seq_setCis (x : Cistern) : (s.setCis x).seq = s.seq := rfl
@[simp] theorem uc_setCis (x : Cistern) : (s.setCis x).uc = s.uc := rfl
@[simp] theorem chans_setCis (x : Cistern) : (s.setCis x).chans = s.chans := rfl
@[simp] theorem mem_setCis (x : Cistern) : (s.setCis x).mem = s.mem := rfl
@[simp] theorem flt_setCis (x : Cistern) : (s.setCis x).flt = s.flt := rfl
@[simp] theorem pwr_setCis (x : Cistern) : (s.setCis x).pwr = s.pwr := rfl
@[simp] theorem slow_setCis (x : Cistern) : (s.setCis x).slow = s.slow := rfl
@[simp] theorem tb_setCis (x : Cistern) : (s.setCis x).tb = s.tb := rfl
@[simp] theorem pump_setCis (x : Cistern) : (s.setCis x).pump = s.pump := rfl
@[simp] theorem cal_setCis (x : Cistern) : (s.setCis x).cal = s.cal := rfl
@[simp] theorem ring_setCis (x : Cistern) : (s.setCis x).ring = s.ring := rfl
@[simp] theorem trust_setCis (x : Cistern) : (s.setCis x).trust = s.trust := rfl
@[simp] theorem mgmt_setCis (x : Cistern) : (s.setCis x).mgmt = s.mgmt := rfl
@[simp] theorem jtag_setCis (x : Cistern) : (s.setCis x).jtag = s.jtag := rfl
@[simp] theorem freeCtr_setCis (x : Cistern) : (s.setCis x).freeCtr = s.freeCtr := rfl
@[simp] theorem out_setCis (x : Cistern) : (s.setCis x).out = s.out := rfl
@[simp] theorem num_setCis (x : Cistern) (j : Nat) : (s.setCis x).num j = s.num j := rfl
@[simp] theorem blob_setCis (x : Cistern) (j : Nat) : (s.setCis x).blob j = s.blob j := rfl
@[simp] theorem chan_setCis (x : Cistern) (j : Nat) : (s.setCis x).chan j = s.chan j := rfl
@[simp] theorem tmu_setCis (x : Cistern) (j : Nat) : (s.setCis x).tmu j = s.tmu j := rfl
@[simp] theorem pch_setCis (x : Cistern) (j : Nat) : (s.setCis x).pch j = s.pch j := rfl
@[simp] theorem pending_setMem (x : Mem) : (s.setMem x).pending = s.pending := rfl
@[simp] theorem objs_setMem (x : Mem) : (s.setMem x).objs = s.objs := rfl
@[simp] theorem blobs_setMem (x : Mem) : (s.setMem x).blobs = s.blobs := rfl
@[simp] theorem pf0_setMem (x : Mem) : (s.setMem x).pf0 = s.pf0 := rfl
@[simp] theorem pf1_setMem (x : Mem) : (s.setMem x).pf1 = s.pf1 := rfl
@[simp] theorem seq_setMem (x : Mem) : (s.setMem x).seq = s.seq := rfl
@[simp] theorem uc_setMem (x : Mem) : (s.setMem x).uc = s.uc := rfl
@[simp] theorem chans_setMem (x : Mem) : (s.setMem x).chans = s.chans := rfl
@[simp] theorem cis_setMem (x : Mem) : (s.setMem x).cis = s.cis := rfl
@[simp] theorem flt_setMem (x : Mem) : (s.setMem x).flt = s.flt := rfl
@[simp] theorem pwr_setMem (x : Mem) : (s.setMem x).pwr = s.pwr := rfl
@[simp] theorem slow_setMem (x : Mem) : (s.setMem x).slow = s.slow := rfl
@[simp] theorem tb_setMem (x : Mem) : (s.setMem x).tb = s.tb := rfl
@[simp] theorem pump_setMem (x : Mem) : (s.setMem x).pump = s.pump := rfl
@[simp] theorem cal_setMem (x : Mem) : (s.setMem x).cal = s.cal := rfl
@[simp] theorem ring_setMem (x : Mem) : (s.setMem x).ring = s.ring := rfl
@[simp] theorem trust_setMem (x : Mem) : (s.setMem x).trust = s.trust := rfl
@[simp] theorem mgmt_setMem (x : Mem) : (s.setMem x).mgmt = s.mgmt := rfl
@[simp] theorem jtag_setMem (x : Mem) : (s.setMem x).jtag = s.jtag := rfl
@[simp] theorem freeCtr_setMem (x : Mem) : (s.setMem x).freeCtr = s.freeCtr := rfl
@[simp] theorem out_setMem (x : Mem) : (s.setMem x).out = s.out := rfl
@[simp] theorem num_setMem (x : Mem) (j : Nat) : (s.setMem x).num j = s.num j := rfl
@[simp] theorem blob_setMem (x : Mem) (j : Nat) : (s.setMem x).blob j = s.blob j := rfl
@[simp] theorem chan_setMem (x : Mem) (j : Nat) : (s.setMem x).chan j = s.chan j := rfl
@[simp] theorem tmu_setMem (x : Mem) (j : Nat) : (s.setMem x).tmu j = s.tmu j := rfl
@[simp] theorem pch_setMem (x : Mem) (j : Nat) : (s.setMem x).pch j = s.pch j := rfl
@[simp] theorem pending_setFlt (x : Faults) : (s.setFlt x).pending = s.pending := rfl
@[simp] theorem objs_setFlt (x : Faults) : (s.setFlt x).objs = s.objs := rfl
@[simp] theorem blobs_setFlt (x : Faults) : (s.setFlt x).blobs = s.blobs := rfl
@[simp] theorem pf0_setFlt (x : Faults) : (s.setFlt x).pf0 = s.pf0 := rfl
@[simp] theorem pf1_setFlt (x : Faults) : (s.setFlt x).pf1 = s.pf1 := rfl
@[simp] theorem seq_setFlt (x : Faults) : (s.setFlt x).seq = s.seq := rfl
@[simp] theorem uc_setFlt (x : Faults) : (s.setFlt x).uc = s.uc := rfl
@[simp] theorem chans_setFlt (x : Faults) : (s.setFlt x).chans = s.chans := rfl
@[simp] theorem cis_setFlt (x : Faults) : (s.setFlt x).cis = s.cis := rfl
@[simp] theorem mem_setFlt (x : Faults) : (s.setFlt x).mem = s.mem := rfl
@[simp] theorem pwr_setFlt (x : Faults) : (s.setFlt x).pwr = s.pwr := rfl
@[simp] theorem slow_setFlt (x : Faults) : (s.setFlt x).slow = s.slow := rfl
@[simp] theorem tb_setFlt (x : Faults) : (s.setFlt x).tb = s.tb := rfl
@[simp] theorem pump_setFlt (x : Faults) : (s.setFlt x).pump = s.pump := rfl
@[simp] theorem cal_setFlt (x : Faults) : (s.setFlt x).cal = s.cal := rfl
@[simp] theorem ring_setFlt (x : Faults) : (s.setFlt x).ring = s.ring := rfl
@[simp] theorem trust_setFlt (x : Faults) : (s.setFlt x).trust = s.trust := rfl
@[simp] theorem mgmt_setFlt (x : Faults) : (s.setFlt x).mgmt = s.mgmt := rfl
@[simp] theorem jtag_setFlt (x : Faults) : (s.setFlt x).jtag = s.jtag := rfl
@[simp] theorem freeCtr_setFlt (x : Faults) : (s.setFlt x).freeCtr = s.freeCtr := rfl
@[simp] theorem out_setFlt (x : Faults) : (s.setFlt x).out = s.out := rfl
@[simp] theorem num_setFlt (x : Faults) (j : Nat) : (s.setFlt x).num j = s.num j := rfl
@[simp] theorem blob_setFlt (x : Faults) (j : Nat) : (s.setFlt x).blob j = s.blob j := rfl
@[simp] theorem chan_setFlt (x : Faults) (j : Nat) : (s.setFlt x).chan j = s.chan j := rfl
@[simp] theorem tmu_setFlt (x : Faults) (j : Nat) : (s.setFlt x).tmu j = s.tmu j := rfl
@[simp] theorem pch_setFlt (x : Faults) (j : Nat) : (s.setFlt x).pch j = s.pch j := rfl
@[simp] theorem pending_setSlow (x : Slow) : (s.setSlow x).pending = s.pending := rfl
@[simp] theorem objs_setSlow (x : Slow) : (s.setSlow x).objs = s.objs := rfl
@[simp] theorem blobs_setSlow (x : Slow) : (s.setSlow x).blobs = s.blobs := rfl
@[simp] theorem pf0_setSlow (x : Slow) : (s.setSlow x).pf0 = s.pf0 := rfl
@[simp] theorem pf1_setSlow (x : Slow) : (s.setSlow x).pf1 = s.pf1 := rfl
@[simp] theorem seq_setSlow (x : Slow) : (s.setSlow x).seq = s.seq := rfl
@[simp] theorem uc_setSlow (x : Slow) : (s.setSlow x).uc = s.uc := rfl
@[simp] theorem chans_setSlow (x : Slow) : (s.setSlow x).chans = s.chans := rfl
@[simp] theorem cis_setSlow (x : Slow) : (s.setSlow x).cis = s.cis := rfl
@[simp] theorem mem_setSlow (x : Slow) : (s.setSlow x).mem = s.mem := rfl
@[simp] theorem flt_setSlow (x : Slow) : (s.setSlow x).flt = s.flt := rfl
@[simp] theorem pwr_setSlow (x : Slow) : (s.setSlow x).pwr = s.pwr := rfl
@[simp] theorem tb_setSlow (x : Slow) : (s.setSlow x).tb = s.tb := rfl
@[simp] theorem pump_setSlow (x : Slow) : (s.setSlow x).pump = s.pump := rfl
@[simp] theorem cal_setSlow (x : Slow) : (s.setSlow x).cal = s.cal := rfl
@[simp] theorem ring_setSlow (x : Slow) : (s.setSlow x).ring = s.ring := rfl
@[simp] theorem trust_setSlow (x : Slow) : (s.setSlow x).trust = s.trust := rfl
@[simp] theorem mgmt_setSlow (x : Slow) : (s.setSlow x).mgmt = s.mgmt := rfl
@[simp] theorem jtag_setSlow (x : Slow) : (s.setSlow x).jtag = s.jtag := rfl
@[simp] theorem freeCtr_setSlow (x : Slow) : (s.setSlow x).freeCtr = s.freeCtr := rfl
@[simp] theorem out_setSlow (x : Slow) : (s.setSlow x).out = s.out := rfl
@[simp] theorem num_setSlow (x : Slow) (j : Nat) : (s.setSlow x).num j = s.num j := rfl
@[simp] theorem blob_setSlow (x : Slow) (j : Nat) : (s.setSlow x).blob j = s.blob j := rfl
@[simp] theorem chan_setSlow (x : Slow) (j : Nat) : (s.setSlow x).chan j = s.chan j := rfl
@[simp] theorem tmu_setSlow (x : Slow) (j : Nat) : (s.setSlow x).tmu j = s.tmu j := rfl
@[simp] theorem pch_setSlow (x : Slow) (j : Nat) : (s.setSlow x).pch j = s.pch j := rfl
@[simp] theorem pending_setTb (x : TimeBase) : (s.setTb x).pending = s.pending := rfl
@[simp] theorem objs_setTb (x : TimeBase) : (s.setTb x).objs = s.objs := rfl
@[simp] theorem blobs_setTb (x : TimeBase) : (s.setTb x).blobs = s.blobs := rfl
@[simp] theorem pf0_setTb (x : TimeBase) : (s.setTb x).pf0 = s.pf0 := rfl
@[simp] theorem pf1_setTb (x : TimeBase) : (s.setTb x).pf1 = s.pf1 := rfl
@[simp] theorem seq_setTb (x : TimeBase) : (s.setTb x).seq = s.seq := rfl
@[simp] theorem uc_setTb (x : TimeBase) : (s.setTb x).uc = s.uc := rfl
@[simp] theorem chans_setTb (x : TimeBase) : (s.setTb x).chans = s.chans := rfl
@[simp] theorem cis_setTb (x : TimeBase) : (s.setTb x).cis = s.cis := rfl
@[simp] theorem mem_setTb (x : TimeBase) : (s.setTb x).mem = s.mem := rfl
@[simp] theorem flt_setTb (x : TimeBase) : (s.setTb x).flt = s.flt := rfl
@[simp] theorem pwr_setTb (x : TimeBase) : (s.setTb x).pwr = s.pwr := rfl
@[simp] theorem slow_setTb (x : TimeBase) : (s.setTb x).slow = s.slow := rfl
@[simp] theorem pump_setTb (x : TimeBase) : (s.setTb x).pump = s.pump := rfl
@[simp] theorem cal_setTb (x : TimeBase) : (s.setTb x).cal = s.cal := rfl
@[simp] theorem ring_setTb (x : TimeBase) : (s.setTb x).ring = s.ring := rfl
@[simp] theorem trust_setTb (x : TimeBase) : (s.setTb x).trust = s.trust := rfl
@[simp] theorem mgmt_setTb (x : TimeBase) : (s.setTb x).mgmt = s.mgmt := rfl
@[simp] theorem jtag_setTb (x : TimeBase) : (s.setTb x).jtag = s.jtag := rfl
@[simp] theorem freeCtr_setTb (x : TimeBase) : (s.setTb x).freeCtr = s.freeCtr := rfl
@[simp] theorem out_setTb (x : TimeBase) : (s.setTb x).out = s.out := rfl
@[simp] theorem num_setTb (x : TimeBase) (j : Nat) : (s.setTb x).num j = s.num j := rfl
@[simp] theorem blob_setTb (x : TimeBase) (j : Nat) : (s.setTb x).blob j = s.blob j := rfl
@[simp] theorem chan_setTb (x : TimeBase) (j : Nat) : (s.setTb x).chan j = s.chan j := rfl
@[simp] theorem pch_setTb (x : TimeBase) (j : Nat) : (s.setTb x).pch j = s.pch j := rfl
@[simp] theorem pending_setMgmt (x : Mgmt) : (s.setMgmt x).pending = s.pending := rfl
@[simp] theorem objs_setMgmt (x : Mgmt) : (s.setMgmt x).objs = s.objs := rfl
@[simp] theorem blobs_setMgmt (x : Mgmt) : (s.setMgmt x).blobs = s.blobs := rfl
@[simp] theorem pf0_setMgmt (x : Mgmt) : (s.setMgmt x).pf0 = s.pf0 := rfl
@[simp] theorem pf1_setMgmt (x : Mgmt) : (s.setMgmt x).pf1 = s.pf1 := rfl
@[simp] theorem seq_setMgmt (x : Mgmt) : (s.setMgmt x).seq = s.seq := rfl
@[simp] theorem uc_setMgmt (x : Mgmt) : (s.setMgmt x).uc = s.uc := rfl
@[simp] theorem chans_setMgmt (x : Mgmt) : (s.setMgmt x).chans = s.chans := rfl
@[simp] theorem cis_setMgmt (x : Mgmt) : (s.setMgmt x).cis = s.cis := rfl
@[simp] theorem mem_setMgmt (x : Mgmt) : (s.setMgmt x).mem = s.mem := rfl
@[simp] theorem flt_setMgmt (x : Mgmt) : (s.setMgmt x).flt = s.flt := rfl
@[simp] theorem pwr_setMgmt (x : Mgmt) : (s.setMgmt x).pwr = s.pwr := rfl
@[simp] theorem slow_setMgmt (x : Mgmt) : (s.setMgmt x).slow = s.slow := rfl
@[simp] theorem tb_setMgmt (x : Mgmt) : (s.setMgmt x).tb = s.tb := rfl
@[simp] theorem pump_setMgmt (x : Mgmt) : (s.setMgmt x).pump = s.pump := rfl
@[simp] theorem cal_setMgmt (x : Mgmt) : (s.setMgmt x).cal = s.cal := rfl
@[simp] theorem ring_setMgmt (x : Mgmt) : (s.setMgmt x).ring = s.ring := rfl
@[simp] theorem trust_setMgmt (x : Mgmt) : (s.setMgmt x).trust = s.trust := rfl
@[simp] theorem jtag_setMgmt (x : Mgmt) : (s.setMgmt x).jtag = s.jtag := rfl
@[simp] theorem freeCtr_setMgmt (x : Mgmt) : (s.setMgmt x).freeCtr = s.freeCtr := rfl
@[simp] theorem out_setMgmt (x : Mgmt) : (s.setMgmt x).out = s.out := rfl
@[simp] theorem num_setMgmt (x : Mgmt) (j : Nat) : (s.setMgmt x).num j = s.num j := rfl
@[simp] theorem blob_setMgmt (x : Mgmt) (j : Nat) : (s.setMgmt x).blob j = s.blob j := rfl
@[simp] theorem chan_setMgmt (x : Mgmt) (j : Nat) : (s.setMgmt x).chan j = s.chan j := rfl
@[simp] theorem tmu_setMgmt (x : Mgmt) (j : Nat) : (s.setMgmt x).tmu j = s.tmu j := rfl
@[simp] theorem pch_setMgmt (x : Mgmt) (j : Nat) : (s.setMgmt x).pch j = s.pch j := rfl
@[simp] theorem pending_setPump (x : Pump) : (s.setPump x).pending = s.pending := rfl
@[simp] theorem objs_setPump (x : Pump) : (s.setPump x).objs = s.objs := rfl
@[simp] theorem blobs_setPump (x : Pump) : (s.setPump x).blobs = s.blobs := rfl
@[simp] theorem pf0_setPump (x : Pump) : (s.setPump x).pf0 = s.pf0 := rfl
@[simp] theorem pf1_setPump (x : Pump) : (s.setPump x).pf1 = s.pf1 := rfl
@[simp] theorem seq_setPump (x : Pump) : (s.setPump x).seq = s.seq := rfl
@[simp] theorem uc_setPump (x : Pump) : (s.setPump x).uc = s.uc := rfl
@[simp] theorem chans_setPump (x : Pump) : (s.setPump x).chans = s.chans := rfl
@[simp] theorem cis_setPump (x : Pump) : (s.setPump x).cis = s.cis := rfl
@[simp] theorem mem_setPump (x : Pump) : (s.setPump x).mem = s.mem := rfl
@[simp] theorem flt_setPump (x : Pump) : (s.setPump x).flt = s.flt := rfl
@[simp] theorem pwr_setPump (x : Pump) : (s.setPump x).pwr = s.pwr := rfl
@[simp] theorem slow_setPump (x : Pump) : (s.setPump x).slow = s.slow := rfl
@[simp] theorem tb_setPump (x : Pump) : (s.setPump x).tb = s.tb := rfl
@[simp] theorem cal_setPump (x : Pump) : (s.setPump x).cal = s.cal := rfl
@[simp] theorem ring_setPump (x : Pump) : (s.setPump x).ring = s.ring := rfl
@[simp] theorem trust_setPump (x : Pump) : (s.setPump x).trust = s.trust := rfl
@[simp] theorem mgmt_setPump (x : Pump) : (s.setPump x).mgmt = s.mgmt := rfl
@[simp] theorem jtag_setPump (x : Pump) : (s.setPump x).jtag = s.jtag := rfl
@[simp] theorem freeCtr_setPump (x : Pump) : (s.setPump x).freeCtr = s.freeCtr := rfl
@[simp] theorem out_setPump (x : Pump) : (s.setPump x).out = s.out := rfl
@[simp] theorem num_setPump (x : Pump) (j : Nat) : (s.setPump x).num j = s.num j := rfl
@[simp] theorem blob_setPump (x : Pump) (j : Nat) : (s.setPump x).blob j = s.blob j := rfl
@[simp] theorem chan_setPump (x : Pump) (j : Nat) : (s.setPump x).chan j = s.chan j := rfl
@[simp] theorem tmu_setPump (x : Pump) (j : Nat) : (s.setPump x).tmu j = s.tmu j := rfl
@[simp] theorem seq_setSeq (q : Seq) : (s.setSeq q).seq = q := rfl
@[simp] theorem uc_setUc (u : Micro) : (s.setUc u).uc = u := rfl
@[simp] theorem cal_setCal (c : Cal) : (s.setCal c).cal = c := rfl
@[simp] theorem trust_setTrust (t : Trust) : (s.setTrust t).trust = t := rfl
@[simp] theorem pwr_setPwr (p : Power) : (s.setPwr p).pwr = p := rfl
@[simp] theorem ring_setRing (r : Ring) : (s.setRing r).ring = r := rfl
@[simp] theorem jtag_setJtag (j : Jtag) : (s.setJtag j).jtag = j := rfl
@[simp] theorem cis_setCis (x : Cistern) : (s.setCis x).cis = x := rfl
@[simp] theorem mem_setMem (x : Mem) : (s.setMem x).mem = x := rfl
@[simp] theorem flt_setFlt (x : Faults) : (s.setFlt x).flt = x := rfl
@[simp] theorem slow_setSlow (x : Slow) : (s.setSlow x).slow = x := rfl
@[simp] theorem tb_setTb (x : TimeBase) : (s.setTb x).tb = x := rfl
@[simp] theorem mgmt_setMgmt (x : Mgmt) : (s.setMgmt x).mgmt = x := rfl
@[simp] theorem pump_setPump (x : Pump) : (s.setPump x).pump = x := rfl
@[simp] theorem out_emit (o : Out) : (s.emit o).out = s.out ++ [o] := rfl
@[simp] theorem flt_raise (n : Nat) : (s.raise n).flt = { s.flt with arrived := s.flt.arrived ++ [(n, false)] } := rfl

/-! ### Objects after an update of one field -/

@[simp] theorem num_with_pending (x : List Instr) (j : Nat) : State.num { s with pending := x } j = s.num j := rfl
@[simp] theorem blob_with_pending (x : List Instr) (j : Nat) : State.blob { s with pending := x } j = s.blob j := rfl
@[simp] theorem chan_with_pending (x : List Instr) (j : Nat) : State.chan { s with pending := x } j = s.chan j := rfl
@[simp] theorem blob_with_objs (x : Assoc Nat) (j : Nat) : State.blob { s with objs := x } j = s.blob j := rfl
@[simp] theorem chan_with_objs (x : Assoc Nat) (j : Nat) : State.chan { s with objs := x } j = s.chan j := rfl
@[simp] theorem num_with_blobs (x : Assoc Bytes) (j : Nat) : State.num { s with blobs := x } j = s.num j := rfl
@[simp] theorem chan_with_blobs (x : Assoc Bytes) (j : Nat) : State.chan { s with blobs := x } j = s.chan j := rfl
@[simp] theorem num_with_pf0 (x : PcieFn) (j : Nat) : State.num { s with pf0 := x } j = s.num j := rfl
@[simp] theorem blob_with_pf0 (x : PcieFn) (j : Nat) : State.blob { s with pf0 := x } j = s.blob j := rfl
@[simp] theorem chan_with_pf0 (x : PcieFn) (j : Nat) : State.chan { s with pf0 := x } j = s.chan j := rfl
@[simp] theorem num_with_pf1 (x : PcieFn) (j : Nat) : State.num { s with pf1 := x } j = s.num j := rfl
@[simp] theorem blob_with_pf1 (x : PcieFn) (j : Nat) : State.blob { s with pf1 := x } j = s.blob j := rfl
@[simp] theorem chan_with_pf1 (x : PcieFn) (j : Nat) : State.chan { s with pf1 := x } j = s.chan j := rfl
@[simp] theorem num_with_seq (x : Seq) (j : Nat) : State.num { s with seq := x } j = s.num j := rfl
@[simp] theorem blob_with_seq (x : Seq) (j : Nat) : State.blob { s with seq := x } j = s.blob j := rfl
@[simp] theorem chan_with_seq (x : Seq) (j : Nat) : State.chan { s with seq := x } j = s.chan j := rfl
@[simp] theorem num_with_uc (x : Micro) (j : Nat) : State.num { s with uc := x } j = s.num j := rfl
@[simp] theorem blob_with_uc (x : Micro) (j : Nat) : State.blob { s with uc := x } j = s.blob j := rfl
@[simp] theorem chan_with_uc (x : Micro) (j : Nat) : State.chan { s with uc := x } j = s.chan j := rfl
@[simp] theorem num_with_chans (x : Assoc Chan) (j : Nat) : State.num { s with chans := x } j = s.num j := rfl
@[simp] theorem blob_with_chans (x : Assoc Chan) (j : Nat) : State.blob { s with chans := x } j = s.blob j := rfl
@[simp] theorem num_with_cis (x : Cistern) (j : Nat) : State.num { s with cis := x } j = s.num j := rfl
@[simp] theorem blob_with_cis (x : Cistern) (j : Nat) : State.blob { s with cis := x } j = s.blob j := rfl
@[simp] theorem chan_with_cis (x : Cistern) (j : Nat) : State.chan { s with cis := x } j = s.chan j := rfl
@[simp] theorem num_with_mem (x : Mem) (j : Nat) : State.num { s with mem := x } j = s.num j := rfl
@[simp] theorem blob_with_mem (x : Mem) (j : Nat) : State.blob { s with mem := x } j = s.blob j := rfl
@[simp] theorem chan_with_mem (x : Mem) (j : Nat) : State.chan { s with mem := x } j = s.chan j := rfl
@[simp] theorem num_with_flt (x : Faults) (j : Nat) : State.num { s with flt := x } j = s.num j := rfl
@[simp] theorem blob_with_flt (x : Faults) (j : Nat) : State.blob { s with flt := x } j = s.blob j := rfl
@[simp] theorem chan_with_flt (x : Faults) (j : Nat) : State.chan { s with flt := x } j = s.chan j := rfl
@[simp] theorem num_with_pwr (x : Power) (j : Nat) : State.num { s with pwr := x } j = s.num j := rfl
@[simp] theorem blob_with_pwr (x : Power) (j : Nat) : State.blob { s with pwr := x } j = s.blob j := rfl
@[simp] theorem chan_with_pwr (x : Power) (j : Nat) : State.chan { s with pwr := x } j = s.chan j := rfl
@[simp] theorem num_with_slow (x : Slow) (j : Nat) : State.num { s with slow := x } j = s.num j := rfl
@[simp] theorem blob_with_slow (x : Slow) (j : Nat) : State.blob { s with slow := x } j = s.blob j := rfl
@[simp] theorem chan_with_slow (x : Slow) (j : Nat) : State.chan { s with slow := x } j = s.chan j := rfl
@[simp] theorem num_with_tb (x : TimeBase) (j : Nat) : State.num { s with tb := x } j = s.num j := rfl
@[simp] theorem blob_with_tb (x : TimeBase) (j : Nat) : State.blob { s with tb := x } j = s.blob j := rfl
@[simp] theorem chan_with_tb (x : TimeBase) (j : Nat) : State.chan { s with tb := x } j = s.chan j := rfl
@[simp] theorem num_with_pump (x : Pump) (j : Nat) : State.num { s with pump := x } j = s.num j := rfl
@[simp] theorem blob_with_pump (x : Pump) (j : Nat) : State.blob { s with pump := x } j = s.blob j := rfl
@[simp] theorem chan_with_pump (x : Pump) (j : Nat) : State.chan { s with pump := x } j = s.chan j := rfl
@[simp] theorem num_with_cal (x : Cal) (j : Nat) : State.num { s with cal := x } j = s.num j := rfl
@[simp] theorem blob_with_cal (x : Cal) (j : Nat) : State.blob { s with cal := x } j = s.blob j := rfl
@[simp] theorem chan_with_cal (x : Cal) (j : Nat) : State.chan { s with cal := x } j = s.chan j := rfl
@[simp] theorem num_with_ring (x : Ring) (j : Nat) : State.num { s with ring := x } j = s.num j := rfl
@[simp] theorem blob_with_ring (x : Ring) (j : Nat) : State.blob { s with ring := x } j = s.blob j := rfl
@[simp] theorem chan_with_ring (x : Ring) (j : Nat) : State.chan { s with ring := x } j = s.chan j := rfl
@[simp] theorem num_with_trust (x : Trust) (j : Nat) : State.num { s with trust := x } j = s.num j := rfl
@[simp] theorem blob_with_trust (x : Trust) (j : Nat) : State.blob { s with trust := x } j = s.blob j := rfl
@[simp] theorem chan_with_trust (x : Trust) (j : Nat) : State.chan { s with trust := x } j = s.chan j := rfl
@[simp] theorem num_with_mgmt (x : Mgmt) (j : Nat) : State.num { s with mgmt := x } j = s.num j := rfl
@[simp] theorem blob_with_mgmt (x : Mgmt) (j : Nat) : State.blob { s with mgmt := x } j = s.blob j := rfl
@[simp] theorem chan_with_mgmt (x : Mgmt) (j : Nat) : State.chan { s with mgmt := x } j = s.chan j := rfl
@[simp] theorem num_with_jtag (x : Jtag) (j : Nat) : State.num { s with jtag := x } j = s.num j := rfl
@[simp] theorem blob_with_jtag (x : Jtag) (j : Nat) : State.blob { s with jtag := x } j = s.blob j := rfl
@[simp] theorem chan_with_jtag (x : Jtag) (j : Nat) : State.chan { s with jtag := x } j = s.chan j := rfl
@[simp] theorem num_with_freeCtr (x : Nat) (j : Nat) : State.num { s with freeCtr := x } j = s.num j := rfl
@[simp] theorem blob_with_freeCtr (x : Nat) (j : Nat) : State.blob { s with freeCtr := x } j = s.blob j := rfl
@[simp] theorem chan_with_freeCtr (x : Nat) (j : Nat) : State.chan { s with freeCtr := x } j = s.chan j := rfl
@[simp] theorem num_with_out (x : List Out) (j : Nat) : State.num { s with out := x } j = s.num j := rfl
@[simp] theorem blob_with_out (x : List Out) (j : Nat) : State.blob { s with out := x } j = s.blob j := rfl
@[simp] theorem chan_with_out (x : List Out) (j : Nat) : State.chan { s with out := x } j = s.chan j := rfl

end Sys2Proof.Machine
end

