-- ==== Sys2Proof/Laws/Frame.lean ====
section
/-! SUPPORT. The frame relation: it is a preorder, grows with its lists, and every named update of the state is a frame of
the object or the part it changes. -/

namespace Sys2Proof.Machine

variable {ks : List Nat} {ps : List Part}

theorem PcieFn.Same.refl (b : Bool) (x : PcieFn) : x.Same b x := by cases b <;> rfl

theorem PcieFn.Same.trans {b : Bool} {x y z : PcieFn} (h : x.Same b y) (g : y.Same b z) : x.Same b z := by
  cases b <;> cases x <;> cases y <;> cases z <;> simp_all [PcieFn.Same]

theorem PcieFn.Same.mono {b c : Bool} {x y : PcieFn} (h : x.Same b y) (hb : b = true → c = true) : x.Same c y := by
  cases b <;> cases c <;> cases x <;> cases y <;> simp_all [PcieFn.Same]

theorem AttnOnly.refl (s : State) : AttnOnly s s := ⟨[], by simp⟩

theorem AttnOnly.trans {s t u : State} (h : AttnOnly s t) (g : AttnOnly t u) : AttnOnly s u := by
  obtain ⟨l, e, p⟩ := h
  obtain ⟨m, f, q⟩ := g
  refine ⟨l ++ m, by rw [f, e, List.append_assoc], fun o ho => ?_⟩
  rcases List.mem_append.1 ho with h | h
  · exact p o h
  · exact q o h

theorem Frame.refl (ks : List Nat) (ps : List Part) (s : State) : Frame ks ps s s where
  pending := rfl
  num := fun _ _ _ => rfl
  blob := fun _ _ => rfl
  pf0 := fun _ => .refl _ _
  pf1 := fun _ => .refl _ _
  seq := fun _ => rfl
  uc := fun _ => rfl
  chans := fun _ => rfl
  cis := fun _ => rfl
  mem := fun _ => ⟨rfl, fun _ => rfl⟩
  flt := fun _ => by split <;> rfl
  pwr := fun _ => rfl
  slow := fun _ => rfl
  tb := fun _ => rfl
  pump := fun _ => ⟨rfl, fun _ => rfl⟩
  cal := fun _ => rfl
  ring := fun _ => rfl
  trust := fun _ => rfl
  mgmt := fun _ => rfl
  jtag := fun _ => rfl
  drawn := fun _ => rfl
  out := fun _ => .refl _

theorem Frame.trans {a b c : State} (h : Frame ks ps a b) (g : Frame ks ps b c) : Frame ks ps a c where
  pending := g.pending.trans h.pending
  num := fun k hk hu => (g.num k hk hu).trans (h.num k hk hu)
  blob := fun k hk => (g.blob k hk).trans (h.blob k hk)
  pf0 := fun hp => (h.pf0 hp).trans (g.pf0 hp)
  pf1 := fun hp => (h.pf1 hp).trans (g.pf1 hp)
  seq := fun hp => (g.seq hp).trans (h.seq hp)
  uc := fun hp => (g.uc hp).trans (h.uc hp)
  chans := fun hp => (g.chans hp).trans (h.chans hp)
  cis := fun hp => (g.cis hp).trans (h.cis hp)
  mem := fun hp => ⟨(g.mem hp).1.trans (h.mem hp).1, fun x => ((g.mem hp).2 x).trans ((h.mem hp).2 x)⟩
  flt := fun hp => by
    have h1 := h.flt hp
    have h2 := g.flt hp
    by_cases hm : Part.arrived ∈ ps
    · rw [if_pos hm] at h1 h2 ⊢
      exact h2.trans ((congrArg (Faults.withArrived · c.flt) h1).trans rfl)
    · rw [if_neg hm] at h1 h2 ⊢
      exact h2.trans h1
  pwr := fun hp => (g.pwr hp).trans (h.pwr hp)
  slow := fun hp => (g.slow hp).trans (h.slow hp)
  tb := fun hp => (g.tb hp).trans (h.tb hp)
  pump := fun hp => ⟨(g.pump hp).1.trans (h.pump hp).1, fun x => ((g.pump hp).2 x).trans ((h.pump hp).2 x)⟩
  cal := fun hp => (g.cal hp).trans (h.cal hp)
  ring := fun hp => (g.ring hp).trans (h.ring hp)
  trust := fun hp => (g.trust hp).trans (h.trust hp)
  mgmt := fun hp => (g.mgmt hp).trans (h.mgmt hp)
  jtag := fun hp => (g.jtag hp).trans (h.jtag hp)
  drawn := fun hp => (g.drawn hp).trans (h.drawn hp)
  out := fun hp => (h.out hp).trans (g.out hp)

/-- A frame of fewer objects and parts is one of more. -/
theorem Frame.mono {ks' : List Nat} {ps' : List Part} {s t : State} (h : Frame ks ps s t) (hk : ∀ k ∈ ks, k ∈ ks')
    (hp : ∀ p ∈ ps, p ∈ ps') : Frame ks' ps' s t where
  pending := h.pending
  num := fun k a b => h.num k (fun c => a (hk k c)) (fun c => b (hp _ c))
  blob := fun k a => h.blob k (fun c => a (hk k c))
  pf0 := fun a => (h.pf0 (fun c => a (hp _ c))).mono (by simpa using hp _)
  pf1 := fun a => (h.pf1 (fun c => a (hp _ c))).mono (by simpa using hp _)
  seq := fun a => h.seq (fun c => a (hp _ c))
  uc := fun a => h.uc (fun c => a (hp _ c))
  chans := fun a => h.chans (fun c => a (hp _ c))
  cis := fun a => h.cis (fun c => a (hp _ c))
  mem := fun a => h.mem (fun c => a (hp _ c))
  flt := fun a => by
    have := h.flt (fun c => a (hp _ c))
    split at this
    · rw [if_pos (hp _ ‹_›)]; exact this
    · rw [this]; split <;> rfl
  pwr := fun a => h.pwr (fun c => a (hp _ c))
  slow := fun a => h.slow (fun c => a (hp _ c))
  tb := fun a => h.tb (fun c => a (hp _ c))
  pump := fun a => h.pump (fun c => a (hp _ c))
  cal := fun a => h.cal (fun c => a (hp _ c))
  ring := fun a => h.ring (fun c => a (hp _ c))
  trust := fun a => h.trust (fun c => a (hp _ c))
  mgmt := fun a => h.mgmt (fun c => a (hp _ c))
  jtag := fun a => h.jtag (fun c => a (hp _ c))
  drawn := fun a => h.drawn (fun c => a (hp _ c))
  out := fun a => h.out (fun c => a (hp _ c))

variable {a s : State} (h : Frame ks ps a s)
include h

theorem Frame.ite {c : Prop} [Decidable c] {t : State} (g : Frame ks ps a t) : Frame ks ps a (if c then s else t) := by
  split <;> assumption

theorem Frame.foldl {α : Type} {f : State → α → State} (l : List α) (hf : ∀ s x, x ∈ l → Frame ks ps a s → Frame ks ps a (f s x)) :
    Frame ks ps a (l.foldl f s) := by
  induction l generalizing s with
  | nil => exact h
  | cons x r ih =>
    exact ih (hf s x List.mem_cons_self h) (fun s y hy g => hf s y (List.mem_cons_of_mem _ hy) g)

theorem frame_setNum {k : Nat} (v : Nat) (hk : k ∈ ks ∨ Part.units ∈ ps ∧ Played k) : Frame ks ps a (s.setNum k v) :=
  h.trans { Frame.refl ks ps s with
    num := fun j hj hu => by
      have hne : j ≠ k := by
        rintro rfl
        rcases hk with hk | ⟨hk, hp⟩
        · exact hj hk
        · exact hu hk hp
      rw [num_setNum, if_neg hne] }
theorem frame_setNums (l : List (Nat × Nat)) (hk : ∀ p ∈ l, p.1 ∈ ks ∨ Part.units ∈ ps ∧ Played p.1) :
    Frame ks ps a (s.setNums l) :=
  h.foldl (f := fun s (p : Nat × Nat) => s.setNum p.1 p.2) l (fun _ p hp g => frame_setNum g p.2 (hk p hp))
theorem frame_inc {k : Nat} (hk : k ∈ ks ∨ Part.units ∈ ps ∧ Played k) : Frame ks ps a (s.inc k) := frame_setNum h _ hk
theorem frame_add {k : Nat} (n d : Nat) (hk : k ∈ ks ∨ Part.units ∈ ps ∧ Played k) : Frame ks ps a (s.add n k d) :=
  frame_setNum h _ hk
theorem frame_setFlag {k : Nat} (i : Nat) (b : Bool) (hk : k ∈ ks ∨ Part.units ∈ ps ∧ Played k) :
    Frame ks ps a (s.setFlag k i b) := frame_setNum h _ hk
theorem frame_evBurst (hk : K.ATTN_EVENTS ∈ ks) : Frame ks ps a s.evBurst := frame_setNum h _ (.inl hk)
theorem frame_evPump (hk : K.ATTN_EVENTS ∈ ks) : Frame ks ps a s.evPump := frame_setNum h _ (.inl hk)
theorem frame_evCal (hk : K.ATTN_EVENTS ∈ ks) : Frame ks ps a s.evCal := frame_setNum h _ (.inl hk)
theorem frame_setBlob {k : Nat} (v : Bytes) (hk : k ∈ ks) : Frame ks ps a (s.setBlob k v) :=
  h.trans { Frame.refl ks ps s with
    blob := fun j hj => by
      have hne : j ≠ k := fun e => hj (e ▸ hk)
      rw [blob_setBlob, if_neg hne] }
theorem frame_setSeq (x : Seq) (hp : Part.seq ∈ ps) : Frame ks ps a (s.setSeq x) :=
  h.trans { Frame.refl ks ps s with seq := fun a => absurd hp a }
theorem frame_setUc (x : Micro) (hp : Part.uc ∈ ps) : Frame ks ps a (s.setUc x) :=
  h.trans { Frame.refl ks ps s with uc := fun a => absurd hp a }
theorem frame_setCis (x : Cistern) (hp : Part.cis ∈ ps) : Frame ks ps a (s.setCis x) :=
  h.trans { Frame.refl ks ps s with cis := fun a => absurd hp a }
theorem frame_setMem (x : Mem) (hp : Part.mem ∈ ps) : Frame ks ps a (s.setMem x) :=
  h.trans { Frame.refl ks ps s with mem := fun a => absurd hp a }
theorem frame_setFlt (x : Faults) (hp : Part.flt ∈ ps) : Frame ks ps a (s.setFlt x) :=
  h.trans { Frame.refl ks ps s with flt := fun a => absurd hp a }
theorem frame_raise (n : Nat) (hp : Part.flt ∈ ps ∨ Part.arrived ∈ ps) : Frame ks ps a (s.raise n) :=
  h.trans { Frame.refl ks ps s with
    flt := fun a => by
      rcases hp with hp | hp
      · exact absurd hp a
      · rw [if_pos hp]; rfl }
theorem frame_setPwr (x : Power) (hp : Part.pwr ∈ ps) : Frame ks ps a (s.setPwr x) :=
  h.trans { Frame.refl ks ps s with pwr := fun a => absurd hp a }
theorem frame_setSlow (x : Slow) (hp : Part.slow ∈ ps) : Frame ks ps a (s.setSlow x) :=
  h.trans { Frame.refl ks ps s with slow := fun a => absurd hp a }
theorem frame_setTb (x : TimeBase) (hp : Part.tb ∈ ps) : Frame ks ps a (s.setTb x) :=
  h.trans { Frame.refl ks ps s with tb := fun a => absurd hp a }
theorem frame_setPump (x : Pump) (hp : Part.pump ∈ ps) : Frame ks ps a (s.setPump x) :=
  h.trans { Frame.refl ks ps s with pump := fun a => absurd hp a }
theorem frame_setCal (x : Cal) (hp : Part.cal ∈ ps) : Frame ks ps a (s.setCal x) :=
  h.trans { Frame.refl ks ps s with cal := fun a => absurd hp a }
theorem frame_setRing (x : Ring) (hp : Part.ring ∈ ps) : Frame ks ps a (s.setRing x) :=
  h.trans { Frame.refl ks ps s with ring := fun a => absurd hp a }
theorem frame_setTrust (x : Trust) (hp : Part.trust ∈ ps) : Frame ks ps a (s.setTrust x) :=
  h.trans { Frame.refl ks ps s with trust := fun a => absurd hp a }
theorem frame_setMgmt (x : Mgmt) (hp : Part.mgmt ∈ ps) : Frame ks ps a (s.setMgmt x) :=
  h.trans { Frame.refl ks ps s with mgmt := fun a => absurd hp a }
theorem frame_setJtag (x : Jtag) (hp : Part.jtag ∈ ps) : Frame ks ps a (s.setJtag x) :=
  h.trans { Frame.refl ks ps s with jtag := fun a => absurd hp a }
theorem frame_setChan (c : Nat) (x : Chan) (hp : Part.chans ∈ ps) : Frame ks ps a (s.setChan c x) :=
  h.trans { Frame.refl ks ps s with chans := fun a => absurd hp a }
theorem frame_setTmu (c : Nat) (x : Tmu) (hp : Part.tb ∈ ps) : Frame ks ps a (s.setTmu c x) := frame_setTb h _ hp
theorem frame_setPch (p : Nat) (x : PumpCh) (hp : Part.pump ∈ ps) : Frame ks ps a (s.setPch p x) := frame_setPump h _ hp
theorem frame_emit (o : Out) (hp : Part.out ∈ ps) : Frame ks ps a (s.emit o) :=
  h.trans { Frame.refl ks ps s with out := fun a => absurd hp a }
theorem frame_fresh (n : Nat) (hp : Part.drawn ∈ ps) : Frame ks ps a (s.fresh n).2 :=
  h.trans { Frame.refl ks ps s with drawn := fun a => absurd hp a }

/-- A function's registers, where they may change, or change only in replies and pending bits. -/
theorem frame_setPf (pf : Nat) (x : PcieFn) (hp : Part.fns ∈ ps ∨ (s.pf pf).Same (ps.contains .replies) x) :
    Frame ks ps a (s.setPf pf x) := by
  unfold State.setPf
  unfold State.pf at hp
  split
  · rw [if_pos ‹_›] at hp
    exact h.trans { Frame.refl ks ps s with pf0 := fun a => hp.resolve_left a }
  · rw [if_neg ‹_›] at hp
    exact h.trans { Frame.refl ks ps s with pf1 := fun a => hp.resolve_left a }

theorem frame_msix0 (pf : Nat) (hpf : pf = 0 ∨ pf = 1) : Frame ks ps a (s.msix pf 0) := by
  unfold State.msix
  split
  · exact h
  · split
    · exact frame_setPf h _ _ (.inr (by unfold PcieFn.Same; split <;> rfl))
    · refine h.trans { Frame.refl ks ps s with out := fun _ => ⟨[.msix pf 0], rfl, fun o ho => ?_⟩ }
      rw [List.mem_singleton.1 ho]
      rcases hpf with rfl | rfl
      · exact .inl rfl
      · exact .inr rfl

theorem frame_attnSeen (b : Bool) : Frame ks ps a (attnSeen s b) :=
  h.trans { Frame.refl ks ps s with
    pf0 := fun _ => by unfold PcieFn.Same; split <;> rfl
    pf1 := fun _ => by unfold PcieFn.Same; split <;> rfl }

/-- A change of ATTN changes nothing but what the functions see of it, pending bits and the outputs. -/
theorem frame_attnNote : Frame ks ps a (attnNote s) := by
  unfold attnNote
  exact h.ite ((frame_msix0 (frame_msix0 (frame_attnSeen h true) 0 (.inl rfl)) 1 (.inr rfl)).ite (frame_attnSeen h false))

omit h

/-- A command that takes effect answers a state that is its effect's, but for a change of ATTN. -/
theorem took_next {s : State} (f : State → State) (hs : s.pwr.stopped = false) :
    ∃ t, took s f = .next t ∧ ∀ ks ps, Frame ks ps (f s) t :=
  ⟨attnNote (f s), by unfold took; rw [hs]; rfl, fun ks ps => frame_attnNote (.refl ks ps _)⟩

end Sys2Proof.Machine
end

