-- ==== Sys2Proof/Laws/Memory.lean ====
section
/-! SUPPORT. Memory and pump SRAM: what a byte reads as after each operation, and that every operation keeps the one
canonical form. -/

namespace Sys2Proof.Machine

variable (m : Mem)

/-! ### One byte -/

@[simp] theorem memFill_memPut (a : Nat) (b : Byte) (x : Nat) : memFill (memPut m a b) x = memFill m x := rfl

theorem Mem.Canon.memByte_memPut {m : Mem} (h : m.Canon) (a : Nat) (b : Byte) (x : Nat) :
    memByte (memPut m a b) x = if x = a then b else memByte m x := by
  by_cases hb : b = memFill m a
  · have : (memPut m a b).cells = aDel m.cells a := by simp [memPut, hb]
    simp only [memByte, this, memFill_memPut, h.1.aFind_aDel]
    split
    · subst_vars; rfl
    · rfl
  · have : (memPut m a b).cells = aPut m.cells a b := by simp [memPut, hb]
    simp only [memByte, this, memFill_memPut, aFind_aPut]
    split <;> rfl

theorem Mem.Canon.memPut {m : Mem} (h : m.Canon) (a : Nat) (b : Byte) : (memPut m a b).Canon := by
  by_cases hb : b = memFill m a
  · have e : (Machine.memPut m a b).cells = aDel m.cells a := by simp [Machine.memPut, hb]
    refine ⟨e ▸ h.1.aDel a, fun c hc => ?_⟩
    exact h.2 c (mem_aDel (e ▸ hc))
  · have e : (Machine.memPut m a b).cells = aPut m.cells a b := by simp [Machine.memPut, hb]
    refine ⟨e ▸ h.1.aPut a b, fun c hc => ?_⟩
    rcases mem_aPut (e ▸ hc) with rfl | hc
    · exact hb
    · exact h.2 c hc

/-! ### Strings of bytes -/

theorem Mem.Canon.memWrite {m : Mem} (h : m.Canon) (a : Nat) (d : Bytes) : (memWrite m a d).Canon := by
  induction d generalizing m a with
  | nil => exact h
  | cons b r ih => exact ih (h.memPut a b) (a + 1)

theorem Mem.Canon.memByte_memWrite {m : Mem} (h : m.Canon) (a : Nat) (d : Bytes) (x : Nat) :
    memByte (Machine.memWrite m a d) x = if a ≤ x ∧ x < a + d.length then (d[x - a]?).getD 0#8 else memByte m x := by
  induction d generalizing m a with
  | nil =>
    have : ¬(a ≤ x ∧ x < a + 0) := by omega
    simp [Machine.memWrite, this]
  | cons b r ih =>
    simp only [Machine.memWrite, ih (h.memPut a b), h.memByte_memPut, List.length_cons]
    by_cases hx : x = a
    · subst hx
      have h1 : ¬(x + 1 ≤ x ∧ x < x + 1 + r.length) := by omega
      have h2 : x ≤ x ∧ x < x + (r.length + 1) := by omega
      simp [h1, h2]
    · by_cases hr : a + 1 ≤ x ∧ x < a + 1 + r.length
      · have h2 : a ≤ x ∧ x < a + (r.length + 1) := by omega
        obtain ⟨n, rfl⟩ : ∃ n, x = a + 1 + n := ⟨x - (a + 1), by omega⟩
        have e1 : a + 1 + n - (a + 1) = n := by omega
        have e2 : a + 1 + n - a = n + 1 := by omega
        rw [if_pos hr, if_pos h2, e1, e2]; rfl
      · have h2 : ¬(a ≤ x ∧ x < a + (r.length + 1)) := by omega
        rw [if_neg hr, if_neg h2, if_neg hx]

theorem Mem.Canon.memLosePart {m : Mem} (h : m.Canon) (lo hi period index : Nat) :
    (memLosePart m lo hi period index).Canon := by
  refine ⟨h.1.filter _, fun c hc => ?_⟩
  obtain ⟨h1, h2⟩ := List.mem_filter.1 hc
  have h3 := (Bool.not_eq_true' _).mp h2
  have := h.2 c h1
  simpa only [memFill, Machine.memLosePart, List.find?_cons, h3] using this

theorem Mem.Canon.memLose {m : Mem} (h : m.Canon) (lo hi : Nat) : (memLose m lo hi).Canon := h.memLosePart lo hi 1 0

theorem Mem.Canon.memLoseStack {m : Mem} (h : m.Canon) (k r : Nat) : (memLoseStack k m r).Canon := by
  unfold Machine.memLoseStack
  dsimp only
  split
  · exact h.memLosePart ..
  · exact h

/-- A byte that a loss does not cover reads as before. -/
theorem memByte_memLosePart (lo hi period index x : Nat)
    (h : (Loss.mk lo hi period index m.epochs).covers x = false) :
    memByte (memLosePart m lo hi period index) x = memByte m x := by
  have h2 : (!(Loss.mk lo hi period index m.epochs).covers x) = true := by rw [h]; rfl
  have e := aFind_filter (l := m.cells) (fun a => !(Loss.mk lo hi period index m.epochs).covers a) x
  simp only [h2, if_true] at e
  simp only [memByte, memLosePart, e, memFill, List.find?_cons, h]

theorem memByte_memLose (lo hi x : Nat) (h : x < lo ∨ hi ≤ x) : memByte (memLose m lo hi) x = memByte m x := by
  refine memByte_memLosePart m lo hi 1 0 x ?_
  have : (decide (lo ≤ x) && decide (x < hi)) = false := by
    rw [Bool.and_eq_false_iff]
    rcases h with h | h
    · exact .inl (by simpa using h)
    · exact .inr (by simpa using h)
  simp only [Loss.covers, this, Bool.false_and]

/-! ### Maps and states that differ elsewhere -/

theorem Mem.Canon.congr {m n : Mem} (h : m.Canon) (hc : n.cells = m.cells) (hl : n.lost = m.lost) : n.Canon := by
  obtain ⟨h1, h2⟩ := h
  refine ⟨hc ▸ h1, fun c hm => ?_⟩
  have := h2 c (hc ▸ hm)
  simpa [memFill, hl] using this

theorem Mem.init_canon : Mem.init.Canon := ⟨List.Pairwise.nil, by simp [Mem.init]⟩

theorem Mem.Canon.memReset {m : Mem} (h : m.Canon) : (memReset m).Canon := (h.memLose 0 0xC000000000).congr rfl rfl

/-! ### Pump SRAM -/

theorem Pump.Canon.congr {q r : Pump} (h : q.Canon) (hc : r.sram = q.sram) (hl : r.epoch = q.epoch) : r.Canon := by
  obtain ⟨h1, h2⟩ := h
  refine ⟨hc ▸ h1, fun c hm => ?_⟩
  have := h2 c (hc ▸ hm)
  simpa [sramFill, hl] using this

theorem Pump.Canon.sramByte_sramPut {q : Pump} (h : q.Canon) (a : Nat) (b : Byte) (x : Nat) :
    sramByte (sramPut q a b) x = if x = a then b else sramByte q x := by
  by_cases hb : b = sramFill q a
  · have : (sramPut q a b).sram = aDel q.sram a := if_pos hb
    have he : (sramPut q a b).epoch = q.epoch := rfl
    simp only [sramByte, this, he, h.1.aFind_aDel]
    split
    · subst_vars; rfl
    · rfl
  · have : (sramPut q a b).sram = aPut q.sram a b := if_neg hb
    have he : (sramPut q a b).epoch = q.epoch := rfl
    simp only [sramByte, this, he, aFind_aPut]
    split <;> rfl

theorem Pump.Canon.sramPut {q : Pump} (h : q.Canon) (a : Nat) (b : Byte) : (sramPut q a b).Canon := by
  by_cases hb : b = sramFill q a
  · have e : (Machine.sramPut q a b).sram = aDel q.sram a := if_pos hb
    exact ⟨e ▸ h.1.aDel a, fun c hc => h.2 c (mem_aDel (e ▸ hc))⟩
  · have e : (Machine.sramPut q a b).sram = aPut q.sram a b := if_neg hb
    refine ⟨e ▸ h.1.aPut a b, fun c hc => ?_⟩
    rcases mem_aPut (e ▸ hc) with rfl | hc
    · exact hb
    · exact h.2 c hc

theorem Pump.Canon.sramWrite {q : Pump} (h : q.Canon) (a : Nat) (d : Bytes) : (sramWrite q a d).Canon := by
  induction d generalizing q a with
  | nil => exact h
  | cons b r ih => exact ih (h.sramPut a b) (a + 1)

end Sys2Proof.Machine
end

