-- ==== Sys2Proof/Laws/Keeps.lean ====
section
/-! SUPPORT. What every operation of the model keeps: the queue of waiting commands, what has been sent out so far, and the
canonical form of every sparse store. One relation, a preorder, and its lemmas for the named operations. -/

namespace Sys2Proof.Machine

/-- From `s` the model has come to `t` by operations that respect the queue, the outputs and the canonical forms. -/
structure Keeps (s t : State) : Prop where
  queue : t.pending = s.pending
  sent : s.out <+: t.out
  drawn : s.freeCtr ≤ t.freeCtr
  mem : s.mem.Canon → t.mem.Canon
  pump : s.pump.Canon → t.pump.Canon
  objs : Rising s.objs → Rising t.objs
  blobs : Rising s.blobs → Rising t.blobs

theorem Keeps.refl (s : State) : Keeps s s := ⟨rfl, List.prefix_rfl, Nat.le_refl _, id, id, id, id⟩

theorem Keeps.trans {a b c : State} (h : Keeps a b) (g : Keeps b c) : Keeps a c :=
  ⟨g.queue.trans h.queue, h.sent.trans g.sent, Nat.le_trans h.drawn g.drawn, g.mem ∘ h.mem, g.pump ∘ h.pump,
   g.objs ∘ h.objs, g.blobs ∘ h.blobs⟩

theorem Keeps.sound {s t : State} (h : Keeps s t) (hs : s.Sound) : t.Sound :=
  ⟨h.mem hs.1, h.pump hs.2.1, h.objs hs.2.2.1, h.blobs hs.2.2.2⟩

/-- Fields the relation says nothing about may change. -/
theorem keeps_mk (a : State) (p0 p1 seq uc chans cis flt pwr slow tb cal ring trust mgmt jtag) :
    Keeps a ⟨a.pending, a.objs, a.blobs, p0, p1, seq, uc, chans, cis, a.mem, flt, pwr, slow, tb, a.pump, cal, ring, trust,
      mgmt, jtag, a.freeCtr, a.out⟩ := ⟨rfl, List.prefix_rfl, Nat.le_refl _, id, id, id, id⟩

variable {a s : State} (h : Keeps a s)
include h

theorem Keeps.foldl {α : Type} {f : State → α → State} (hf : ∀ s x, Keeps a s → Keeps a (f s x)) (l : List α) :
    Keeps a (l.foldl f s) := by
  induction l generalizing s with
  | nil => exact h
  | cons x r ih => exact ih (hf s x h)

omit h in
theorem Keeps.foldl_fst {α β : Type} {f : State × β → α → State × β} {p : State × β} (h : Keeps a p.1)
    (hf : ∀ p x, Keeps a p.1 → Keeps a (f p x).1) (l : List α) : Keeps a (l.foldl f p).1 := by
  induction l generalizing p with
  | nil => exact h
  | cons x r ih => exact ih (hf p x h)

omit h in
theorem Keeps.foldl_snd {α β : Type} {f : β × State → α → β × State} {p : β × State} (h : Keeps a p.2)
    (hf : ∀ p x, Keeps a p.2 → Keeps a (f p x).2) (l : List α) : Keeps a (l.foldl f p).2 := by
  induction l generalizing p with
  | nil => exact h
  | cons x r ih => exact ih (hf p x h)

theorem Keeps.ite {c : Prop} [Decidable c] {t : State} (g : Keeps a t) : Keeps a (if c then s else t) := by
  split <;> assumption

/-- Whatever state an option holds keeps `a`. -/
def KeepsOpt (a : State) (o : Option State) : Prop := ∀ t, o = some t → Keeps a t

theorem KeepsOpt.some : KeepsOpt a (some s) := fun _ e => Option.some.inj e ▸ h
omit h in
theorem KeepsOpt.none : KeepsOpt a none := fun _ e => nomatch e
omit h in
theorem KeepsOpt.ite {c : Prop} [Decidable c] {o p : Option State} (g : KeepsOpt a o) (k : KeepsOpt a p) :
    KeepsOpt a (if c then o else p) := by split <;> assumption

/-! ### The named operations -/

theorem keeps_setMem (m : Mem) (hm : s.mem.Canon → m.Canon) : Keeps a (s.setMem m) :=
  h.trans ⟨rfl, List.prefix_rfl, Nat.le_refl _, hm, id, id, id⟩
theorem keeps_setPump (q : Pump) (hq : s.pump.Canon → q.Canon) : Keeps a (s.setPump q) :=
  h.trans ⟨rfl, List.prefix_rfl, Nat.le_refl _, id, hq, id, id⟩
theorem keeps_setNum (k v : Nat) : Keeps a (s.setNum k v) :=
  h.trans ⟨rfl, List.prefix_rfl, Nat.le_refl _, id, id, fun h => h.aPut k v, id⟩
theorem keeps_setNums (l : List (Nat × Nat)) : Keeps a (s.setNums l) :=
  h.foldl (f := fun s (p : Nat × Nat) => s.setNum p.1 p.2) (fun _ p g => keeps_setNum g p.1 p.2) l
theorem keeps_inc (k : Nat) : Keeps a (s.inc k) := keeps_setNum h ..
theorem keeps_add (n k d : Nat) : Keeps a (s.add n k d) := keeps_setNum h ..
theorem keeps_setFlag (k i : Nat) (b : Bool) : Keeps a (s.setFlag k i b) := keeps_setNum h ..
theorem keeps_evBurst : Keeps a s.evBurst := keeps_setNum h ..
theorem keeps_evPump : Keeps a s.evPump := keeps_setNum h ..
theorem keeps_evCal : Keeps a s.evCal := keeps_setNum h ..
theorem keeps_setBlob (k : Nat) (v : Bytes) : Keeps a (s.setBlob k v) :=
  h.trans ⟨rfl, List.prefix_rfl, Nat.le_refl _, id, id, id, fun h => h.aPut k v⟩
theorem keeps_emit (o : Out) : Keeps a (s.emit o) :=
  h.trans ⟨rfl, List.prefix_append _ _, Nat.le_refl _, id, id, id, id⟩
theorem keeps_fresh (n : Nat) : Keeps a (s.fresh n).2 :=
  h.trans ⟨rfl, List.prefix_rfl, Nat.le_succ _, id, id, id, id⟩
theorem keeps_raise (n : Nat) : Keeps a (s.raise n) := h.trans (keeps_mk ..)
theorem keeps_setSeq (x : Seq) : Keeps a (s.setSeq x) := h.trans (keeps_mk ..)
theorem keeps_setUc (x : Micro) : Keeps a (s.setUc x) := h.trans (keeps_mk ..)
theorem keeps_setCis (x : Cistern) : Keeps a (s.setCis x) := h.trans (keeps_mk ..)
theorem keeps_setFlt (x : Faults) : Keeps a (s.setFlt x) := h.trans (keeps_mk ..)
theorem keeps_setPwr (x : Power) : Keeps a (s.setPwr x) := h.trans (keeps_mk ..)
theorem keeps_setSlow (x : Slow) : Keeps a (s.setSlow x) := h.trans (keeps_mk ..)
theorem keeps_setTb (x : TimeBase) : Keeps a (s.setTb x) := h.trans (keeps_mk ..)
theorem keeps_setCal (x : Cal) : Keeps a (s.setCal x) := h.trans (keeps_mk ..)
theorem keeps_setRing (x : Ring) : Keeps a (s.setRing x) := h.trans (keeps_mk ..)
theorem keeps_setTrust (x : Trust) : Keeps a (s.setTrust x) := h.trans (keeps_mk ..)
theorem keeps_setMgmt (x : Mgmt) : Keeps a (s.setMgmt x) := h.trans (keeps_mk ..)
theorem keeps_setJtag (x : Jtag) : Keeps a (s.setJtag x) := h.trans (keeps_mk ..)
theorem keeps_setChan (c : Nat) (x : Chan) : Keeps a (s.setChan c x) := h.trans (keeps_mk ..)
theorem keeps_setTmu (c : Nat) (x : Tmu) : Keeps a (s.setTmu c x) := h.trans (keeps_mk ..)
theorem keeps_setPch (p : Nat) (x : PumpCh) : Keeps a (s.setPch p x) := keeps_setPump h _ (fun h => h.congr rfl rfl)
theorem keeps_setPf (pf : Nat) (x : PcieFn) : Keeps a (s.setPf pf x) := by
  unfold State.setPf; split <;> exact h.trans (keeps_mk ..)

end Sys2Proof.Machine
end

