-- ==== Sys2Proof/Laws/KeepsIssue.lean ====
section
/-! SUPPORT. What the operations keep (see Keeps): the issues of a burst, fetching, traps and runs. One lemma for each. -/

namespace Sys2Proof.Machine

theorem keeps_deskewApply {a0 : State} {s : State} (h : Keeps a0 s) (c : Nat) : Keeps a0 (deskewApply s c) := by
  unfold deskewApply
  (try dsimp only)
  repeat' first
    | with_reducible assumption
    | with_reducible apply keeps_setNums

theorem keeps_deskewAll {a0 : State} {s : State} (h : Keeps a0 s)  : Keeps a0 (deskewAll s) := by
  unfold deskewAll
  repeat' first
    | with_reducible assumption
    | with_reducible apply keeps_deskewApply
    | with_reducible apply Keeps.foldl
    | with_reducible apply Keeps.foldl_fst
    | with_reducible apply Keeps.foldl_snd
    | intro _ _ _

theorem keeps_senseVs {a0 : State} {s : State} (h : Keeps a0 s) (c : Nat) (v : Pad) : Keeps a0 (senseVs s c v) := by
  unfold senseVs
  (try dsimp only)
  repeat' first
    | with_reducible assumption
    | with_reducible apply Keeps.ite
    | with_reducible apply keeps_setChan

theorem keeps_enableOne {a0 : State} {s : State} (h : Keeps a0 s) (c : Nat) (high : Bool) : Keeps a0 (enableOne s c high) := by
  unfold enableOne
  (try dsimp only)
  repeat' first
    | with_reducible assumption
    | with_reducible apply Keeps.ite
    | with_reducible apply keeps_inc
    | with_reducible apply keeps_setChan

theorem keeps_enableCmp {a0 : State} {s : State} (h : Keeps a0 s) (c : Nat) : Keeps a0 (enableCmp s c) := by
  unfold enableCmp
  repeat' first
    | with_reducible assumption
    | with_reducible apply keeps_enableOne

theorem keeps_enablePowered {a0 : State} {s : State} (hk : Keeps a0 s) (c : Nat) (h : Bool) (l : Bool) : Keeps a0 (enablePowered s c h l) := by
  unfold enablePowered
  (try dsimp only)
  repeat' first
    | with_reducible assumption
    | with_reducible apply Keeps.ite
    | with_reducible apply keeps_enableOne

theorem keeps_attnRecord {a0 : State} {s : State} (h : Keeps a0 s) (c : Nat) (e : Nat) : Keeps a0 (attnRecord c s e) := by
  unfold attnRecord
  (try dsimp only)
  repeat' first
    | with_reducible assumption
    | with_reducible apply Keeps.ite
    | with_reducible apply keeps_inc
    | with_reducible apply keeps_setFlag
    | with_reducible apply keeps_raise

theorem keeps_senseEdge {a0 : State} {s : State} (h : Keeps a0 s) (c : Nat) (v : Pad) : Keeps a0 (senseEdge s c v) := by
  unfold senseEdge
  (try dsimp only)
  repeat' first
    | with_reducible assumption
    | with_reducible apply Keeps.ite
    | with_reducible apply keeps_attnRecord
    | with_reducible apply keeps_senseVs
    | with_reducible apply Keeps.foldl
    | with_reducible apply Keeps.foldl_fst
    | with_reducible apply Keeps.foldl_snd
    | intro _ _ _

theorem keeps_satCount {a0 : State} {s : State} (h : Keeps a0 s) (k : Nat) (flags : Nat) (i : Nat) : Keeps a0 (satCount s k flags i) := by
  unfold satCount
  (try dsimp only)
  repeat' first
    | with_reducible assumption
    | with_reducible apply Keeps.ite
    | with_reducible apply keeps_setNum
    | with_reducible apply keeps_setFlag

theorem keeps_capMap {a0 : State} {s : State} (h : Keeps a0 s) (issue : Nat) (cyc : Nat) (f : IssueCap → IssueCap) : Keeps a0 (capMap s issue cyc f) := by
  unfold capMap
  (try dsimp only)
  repeat' first
    | with_reducible assumption
    | with_reducible apply Keeps.ite
    | with_reducible apply keeps_setCis

theorem keeps_capFail {a0 : State} {s : State} (h : Keeps a0 s) (c : Nat) (j : Judgement) : Keeps a0 (capFail s c j) := by
  unfold capFail
  (try dsimp only)
  repeat' first
    | with_reducible assumption
    | with_reducible apply Keeps.ite
    | with_reducible apply keeps_capMap

theorem keeps_wordMark {a0 : State} {s : State} (h : Keeps a0 s) (c : Nat) (w : Nat) (bits : Nat) : Keeps a0 (wordMark s c w bits) := by
  unfold wordMark
  (try dsimp only)
  repeat' first
    | with_reducible assumption
    | with_reducible apply keeps_setChan

theorem keeps_firstFail {a0 : State} {s : State} (h : Keeps a0 s) (c : Nat) (j : Judgement) : Keeps a0 (firstFail s c j) := by
  unfold firstFail
  (try dsimp only)
  repeat' first
    | with_reducible assumption
    | with_reducible apply Keeps.ite
    | with_reducible apply keeps_setNums

theorem keeps_invSeen {a0 : State} {s : State} (h : Keeps a0 s) (c : Nat) : Keeps a0 (invSeen s c) := by
  unfold invSeen
  repeat' first
    | with_reducible assumption
    | with_reducible apply keeps_setFlag

theorem keeps_countJudgement {a0 : State} {s : State} (h : Keeps a0 s) (c : Nat) (j : Judgement) : Keeps a0 (countJudgement s c j) := by
  unfold countJudgement
  (try dsimp only)
  repeat' first
    | with_reducible assumption
    | with_reducible apply Keeps.ite
    | with_reducible apply keeps_inc
    | with_reducible apply keeps_firstFail
    | with_reducible apply keeps_invSeen
    | with_reducible apply keeps_satCount

theorem keeps_binMap {a0 : State} {s : State} (h : Keeps a0 s) (c : Nat) (w : Nat) (f : Nat → Nat) : Keeps a0 (binMap s c w f) := by
  unfold binMap
  (try dsimp only)
  repeat' first
    | with_reducible assumption
    | with_reducible apply Keeps.ite
    | with_reducible apply keeps_setCis

theorem keeps_binJudgement {a0 : State} {s : State} (h : Keeps a0 s) (c : Nat) (j : Judgement) : Keeps a0 (binJudgement s c j) := by
  unfold binJudgement
  (try dsimp only)
  repeat' first
    | with_reducible assumption
    | with_reducible apply Keeps.ite
    | with_reducible apply keeps_binMap

theorem keeps_suspectMark {a0 : State} {s : State} (h : Keeps a0 s) (c : Nat) (w : Nat) : Keeps a0 (suspectMark s c w) := by
  unfold suspectMark
  repeat' first
    | with_reducible assumption
    | with_reducible apply Keeps.ite
    | with_reducible apply keeps_binMap

theorem keeps_blockJudgement {a0 : State} {s : State} (h : Keeps a0 s) (c : Nat) (fail : Bool) : Keeps a0 (blockJudgement s c fail) := by
  unfold blockJudgement
  (try dsimp only)
  repeat' first
    | with_reducible assumption
    | with_reducible apply Keeps.ite
    | with_reducible apply keeps_inc
    | with_reducible apply keeps_setChan

theorem keeps_settleOne {a0 : State} {s : State} (h : Keeps a0 s) (c : Nat) (j : Judgement) : Keeps a0 (settleOne s c j) := by
  unfold settleOne
  (try dsimp only)
  repeat' first
    | with_reducible assumption
    | with_reducible apply Keeps.ite
    | with_reducible apply keeps_binJudgement
    | with_reducible apply keeps_blockJudgement
    | with_reducible apply keeps_capFail
    | with_reducible apply keeps_countJudgement
    | with_reducible apply keeps_wordMark

theorem keeps_judge {a0 : State} {s : State} (h : Keeps a0 s) (c : Nat) (m : Nat) (j : Judgement) : Keeps a0 (judge s c m j) := by
  unfold judge
  (try dsimp only)
  repeat' first
    | with_reducible assumption
    | with_reducible apply Keeps.ite
    | with_reducible apply keeps_setChan
    | with_reducible apply keeps_settleOne

theorem keeps_settleLater {a0 : State} {s : State} (h : Keeps a0 s) (m : Nat) (c : Nat) : Keeps a0 (settleLater s m c) := by
  unfold settleLater
  (try dsimp only)
  repeat' first
    | with_reducible assumption
    | with_reducible apply Keeps.ite
    | with_reducible apply keeps_setChan
    | with_reducible apply keeps_settleOne
    | with_reducible apply Keeps.foldl
    | with_reducible apply Keeps.foldl_fst
    | with_reducible apply Keeps.foldl_snd
    | intro _ _ _

theorem keeps_capPrune {a0 : State} {s : State} (h : Keeps a0 s)  : Keeps a0 (capPrune s) := by
  unfold capPrune
  (try dsimp only)
  repeat' first
    | with_reducible assumption
    | with_reducible apply Keeps.ite
    | with_reducible apply keeps_setCis

theorem keeps_dropWords {a0 : State} {s : State} (h : Keeps a0 s) (t : Nat) (w : Nat) : Keeps a0 (dropWords s t w) := by
  unfold dropWords
  (try dsimp only)
  repeat' first
    | with_reducible assumption
    | with_reducible apply Keeps.ite
    | with_reducible apply keeps_setChan
    | with_reducible apply Keeps.foldl
    | with_reducible apply Keeps.foldl_fst
    | with_reducible apply Keeps.foldl_snd
    | intro _ _ _

theorem keeps_tileWord {a0 : State} {acc : State × List Nat} (h : Keeps a0 acc.1) (t : Nat) (w : Nat) : Keeps a0 (tileWord t w acc).1 := by
  unfold tileWord
  (try dsimp only)
  repeat' first
    | with_reducible assumption
    | with_reducible apply keeps_setNum

theorem keeps_tileCycle {a0 : State} {acc : State × List Nat} (h : Keeps a0 acc.1) (m : Nat) (t : Nat) : Keeps a0 (tileCycle m acc t).1 := by
  unfold tileCycle
  (try dsimp only)
  repeat' first
    | with_reducible assumption
    | with_reducible apply Keeps.ite
    | with_reducible apply keeps_dropWords
    | with_reducible apply keeps_tileWord
    | split

theorem keeps_linesCycle {a0 : State} {s : State} (h : Keeps a0 s) (m : Nat) : Keeps a0 (linesCycle s m).1 := by
  unfold linesCycle
  repeat' first
    | with_reducible assumption
    | with_reducible apply keeps_tileCycle
    | with_reducible apply Keeps.foldl
    | with_reducible apply Keeps.foldl_fst
    | with_reducible apply Keeps.foldl_snd
    | intro _ _ _

theorem keeps_consume {a0 : State} {s : State} (h : Keeps a0 s) (k : Nat) : Keeps a0 (consume s k) := by
  unfold consume
  (try dsimp only)
  repeat' first
    | with_reducible assumption
    | with_reducible apply keeps_setSeq

theorem keeps_countersCycle {a0 : State} {s : State} (h : Keeps a0 s) (issue : Bool) (up : List Nat) : Keeps a0 (countersCycle s issue up) := by
  unfold countersCycle
  (try dsimp only)
  repeat' first
    | with_reducible assumption
    | with_reducible apply Keeps.ite
    | with_reducible apply keeps_setSeq

theorem keeps_memFault {a0 s : State} (h : Keeps a0 s) (a : Nat) : Keeps a0 (memFault s a) := by
  unfold memFault
  generalize regionOf s.mem a = o
  cases o with
  | none => exact h
  | some p => exact keeps_raise h _

theorem keeps_memUE {a0 s : State} (h : Keeps a0 s) (a : Nat) : Keeps a0 (memUE s a) := by
  unfold memUE
  apply keeps_memFault
  apply keeps_setNum
  apply keeps_inc
  exact keeps_setMem h _ (fun hc => Mem.Canon.congr hc rfl rfl)

theorem keeps_memStore {a0 s : State} (h : Keeps a0 s) (a : Nat) (d : Bytes) : Keeps a0 (memStore s a d).2 := by
  unfold memStore
  apply Keeps.foldl_snd (p := (true, s)) h
  intro p b hp
  dsimp only
  split
  · exact keeps_memUE hp _
  · exact keeps_setMem hp _ (fun hc => (hc.memWrite _ _).congr rfl rfl)

theorem keeps_fetchUE {a0 : State} {s : State} (h : Keeps a0 s) (gone : List (Nat × Nat)) : Keeps a0 (fetchUE s gone) := by
  unfold fetchUE
  repeat' first
    | with_reducible assumption
    | with_reducible apply keeps_memUE
    | split

theorem keeps_fetchMemory {a0 s : State} (h : Keeps a0 s) (seg off entry : Nat) :
    Keeps a0 (fetchMemory s seg off entry).2 := keeps_fetchUE h _

theorem keeps_streamOut {a0 : State} {s : State} (h : Keeps a0 s) (c : Nat) (m : Nat) (levels : List Drive) : Keeps a0 (streamOut s c m levels) := by
  unfold streamOut
  (try dsimp only)
  repeat' first
    | with_reducible assumption
    | with_reducible apply keeps_emit
    | with_reducible apply keeps_setChan

theorem keeps_genPlay {a0 : State} {s : State} (h : Keeps a0 s) (c : Nat) (m : Nat) : Keeps a0 (genPlay s c m) := by
  unfold genPlay
  (try dsimp only)
  repeat' first
    | with_reducible assumption
    | with_reducible apply Keeps.ite
    | with_reducible apply keeps_setChan
    | with_reducible apply keeps_streamOut

theorem keeps_capData {a0 : State} {s : State} (h : Keeps a0 s) (c : Nat) (x : PlayCtx) (data : Nat) : Keeps a0 (capData s c x data) := by
  unfold capData
  (try dsimp only)
  repeat' first
    | with_reducible assumption
    | with_reducible apply keeps_capMap

theorem keeps_wordStart {a0 : State} {s : State} (h : Keeps a0 s) (c : Nat) (w : Nat) : Keeps a0 (wordStart s c w) := by
  unfold wordStart
  repeat' first
    | with_reducible assumption
    | with_reducible apply Keeps.ite
    | with_reducible apply keeps_suspectMark
    | with_reducible apply keeps_wordMark

theorem keeps_slotStart {a0 : State} {s : State} (h : Keeps a0 s) (c : Nat) (m : Nat) (n : Nat) (u : Nat) : Keeps a0 (slotStart s c m n u) := by
  unfold slotStart
  repeat' first
    | with_reducible assumption
    | with_reducible apply Keeps.ite
    | with_reducible apply keeps_suspectMark
    | with_reducible apply keeps_wordStart

theorem keeps_streamJudge {a0 : State} {s : State} (h : Keeps a0 s) (c : Nat) (x : PlayCtx) (chk : Bool) (u : Nat) (slot : Nat) (ok : Bool) : Keeps a0 (streamJudge c x chk s u slot ok) := by
  unfold streamJudge
  (try dsimp only)
  repeat' first
    | with_reducible assumption
    | with_reducible apply keeps_judge

theorem keeps_comparePlay {a0 : State} {s : State} (h : Keeps a0 s) (c : Nat) (x : PlayCtx) (io : List (List Pad)) : Keeps a0 (comparePlay s c x io) := by
  unfold comparePlay
  (try dsimp only)
  repeat' first
    | with_reducible assumption
    | with_reducible apply Keeps.ite
    | with_reducible apply keeps_capData
    | with_reducible apply keeps_senseEdge
    | with_reducible apply keeps_slotStart
    | with_reducible apply keeps_streamJudge
    | with_reducible apply Keeps.foldl
    | with_reducible apply Keeps.foldl_fst
    | with_reducible apply Keeps.foldl_snd
    | intro _ _ _

theorem keeps_checkBit {a0 : State} {s : State} (h : Keeps a0 s) (c : Nat) (x : PlayCtx) (u : Nat) (slot : Nat) (received : Bool) : Keeps a0 (checkBit c x s u slot received) := by
  unfold checkBit
  (try dsimp only)
  repeat' first
    | with_reducible assumption
    | with_reducible apply Keeps.ite
    | with_reducible apply keeps_setChan
    | with_reducible apply keeps_streamJudge

theorem keeps_checkPlay {a0 : State} {s : State} (h : Keeps a0 s) (c : Nat) (x : PlayCtx) (io : List (List Pad)) : Keeps a0 (checkPlay s c x io) := by
  unfold checkPlay
  (try dsimp only)
  repeat' first
    | with_reducible assumption
    | with_reducible apply Keeps.ite
    | with_reducible apply keeps_capData
    | with_reducible apply keeps_checkBit
    | with_reducible apply keeps_senseEdge
    | with_reducible apply keeps_slotStart
    | with_reducible apply Keeps.foldl
    | with_reducible apply Keeps.foldl_fst
    | with_reducible apply Keeps.foldl_snd
    | intro _ _ _
    | split

theorem keeps_edgeChange {a0 : State} {s : State} (h : Keeps a0 s) (c : Nat) (t : Int) (new : Drive) : Keeps a0 (edgeChange s c t new) := by
  unfold edgeChange
  (try dsimp only)
  repeat' first
    | with_reducible assumption
    | with_reducible apply Keeps.ite
    | with_reducible apply keeps_inc
    | with_reducible apply keeps_emit
    | with_reducible apply keeps_setChan
    | split

theorem keeps_edgeFlush {a0 : State} {s : State} (h : Keeps a0 s) (c : Nat) (m : Nat) : Keeps a0 (edgeFlush s c m) := by
  unfold edgeFlush
  (try dsimp only)
  repeat' first
    | with_reducible assumption
    | with_reducible apply Keeps.ite
    | with_reducible apply keeps_emit
    | with_reducible apply keeps_setChan
    | split

theorem keeps_setAwait {a0 : State} {s : State} (h : Keeps a0 s) (c : Nat) (b : Bool) : Keeps a0 (setAwait s c b) := by
  unfold setAwait
  (try dsimp only)
  repeat' first
    | with_reducible assumption
    | with_reducible apply keeps_setChan

theorem keeps_edgeApply {a0 : State} {s : State} (h : Keeps a0 s) (c : Nat) (tset : Nat) (t : Int) (e : EdgeEvent) : Keeps a0 (edgeApply c tset t e s) := by
  unfold edgeApply
  (try dsimp only)
  repeat' first
    | with_reducible assumption
    | with_reducible apply Keeps.ite
    | with_reducible apply keeps_edgeChange
    | with_reducible apply keeps_setAwait
    | with_reducible apply keeps_tset
    | with_reducible apply keeps_vec
    | split

theorem keeps_vectorStart {a0 : State} {s : State} (h : Keeps a0 s) (c : Nat) (x : PlayCtx) (t : Int) (field_ : Nat) (tset : Nat) (slot : Nat) (len : Nat) : Keeps a0 (vectorStart s c x t field_ tset slot len) := by
  unfold vectorStart
  (try dsimp only)
  repeat' first
    | with_reducible assumption
    | with_reducible apply Keeps.ite
    | with_reducible apply keeps_add
    | with_reducible apply keeps_raise
    | with_reducible apply keeps_setChan
    | with_reducible apply keeps_edgeChange

theorem keeps_vectorJudge {a0 : State} {s : State} (h : Keeps a0 s) (c : Nat) (x : PlayCtx) (v : Vector) (t : Int) (pass : Bool) : Keeps a0 (vectorJudge s c x v t pass) := by
  unfold vectorJudge
  (try dsimp only)
  repeat' first
    | with_reducible assumption
    | with_reducible apply keeps_capMap
    | with_reducible apply keeps_judge

theorem keeps_windowSense {a0 : State} {s : State} (hk : Keeps a0 s) (c : Nat) (h : Bool) (l : Bool) (vs : List Pad) : Keeps a0 (windowSense s c h l vs).1 := by
  unfold windowSense
  (try dsimp only)
  repeat' first
    | with_reducible assumption
    | with_reducible apply keeps_senseEdge
    | with_reducible apply Keeps.foldl
    | with_reducible apply Keeps.foldl_fst
    | with_reducible apply Keeps.foldl_snd
    | intro _ _ _

theorem keeps_senseAll {a0 : State} {s : State} (h : Keeps a0 s) (c : Nat) (vs : List Pad) : Keeps a0 (senseAll s c vs) := by
  unfold senseAll
  repeat' first
    | with_reducible assumption
    | with_reducible apply keeps_senseEdge
    | with_reducible apply Keeps.foldl
    | with_reducible apply Keeps.foldl_fst
    | with_reducible apply Keeps.foldl_snd
    | intro _ _ _

theorem keeps_vectorCompare {a0 : State} {s : State} (h : Keeps a0 s) (c : Nat) (x : PlayCtx) (t : Int) (n : Nat) (ls : List (List Pad)) : Keeps a0 (vectorCompare s c x t n ls).1 := by
  unfold vectorCompare
  (try dsimp only)
  repeat' first
    | with_reducible assumption
    | with_reducible apply Keeps.ite
    | with_reducible apply keeps_setChan
    | with_reducible apply keeps_senseAll
    | with_reducible apply keeps_vec
    | with_reducible apply keeps_vectorJudge
    | with_reducible apply keeps_windowSense
    | split

theorem keeps_vectorDrive {a0 : State} {s : State} (h : Keeps a0 s) (c : Nat) (t : Int) (n : Nat) : Keeps a0 (vectorDrive s c t n) := by
  unfold vectorDrive
  (try dsimp only)
  repeat' first
    | with_reducible assumption
    | with_reducible apply Keeps.ite
    | with_reducible apply keeps_edgeApply
    | with_reducible apply keeps_vec
    | with_reducible apply Keeps.foldl
    | with_reducible apply Keeps.foldl_fst
    | with_reducible apply Keeps.foldl_snd
    | intro _ _ _
    | split

theorem keeps_vectorAge {a0 : State} {s : State} (h : Keeps a0 s) (c : Nat) (n : Nat) : Keeps a0 (vectorAge s c n) := by
  unfold vectorAge
  (try dsimp only)
  repeat' first
    | with_reducible assumption
    | with_reducible apply Keeps.ite
    | with_reducible apply keeps_setChan
    | with_reducible apply keeps_vec
    | split

theorem keeps_vectorPlay {a0 : State} {acc : State × List (List Pad)} (h : Keeps a0 acc.1) (x : PlayCtx) (c : Nat) (t : Int) (n : Nat) : Keeps a0 (vectorPlay x c t n acc).1 := by
  unfold vectorPlay
  (try dsimp only)
  repeat' first
    | with_reducible assumption
    | with_reducible apply Keeps.ite
    | with_reducible apply keeps_vectorAge
    | with_reducible apply keeps_vectorCompare
    | with_reducible apply keeps_vectorDrive

theorem keeps_edgePlay {a0 : State} {s : State} (h : Keeps a0 s) (c : Nat) (x : PlayCtx) (io : List (List Pad)) : Keeps a0 (edgePlay s c x io) := by
  unfold edgePlay
  (try dsimp only)
  repeat' first
    | with_reducible assumption
    | with_reducible apply Keeps.ite
    | with_reducible apply keeps_edgeFlush
    | with_reducible apply keeps_vec
    | with_reducible apply keeps_vectorPlay
    | with_reducible apply keeps_vectorStart
    | with_reducible apply keeps_wordStart
    | with_reducible apply Keeps.foldl
    | with_reducible apply Keeps.foldl_fst
    | with_reducible apply Keeps.foldl_snd
    | intro _ _ _

theorem keeps_edgeFed {a0 : State} {s : State} (h : Keeps a0 s) (c : Nat) (x : PlayCtx) (d : Granule) : Keeps a0 (edgeFed s c x d) := by
  unfold edgeFed
  (try dsimp only)
  repeat' first
    | with_reducible assumption
    | with_reducible apply keeps_setChan
    | with_reducible apply keeps_edgePlay

theorem keeps_neutralPlay {a0 : State} {s : State} (h : Keeps a0 s) (c : Nat) (m : Nat) : Keeps a0 (neutralPlay s c m) := by
  unfold neutralPlay
  (try dsimp only)
  repeat' first
    | with_reducible assumption
    | with_reducible apply keeps_wordMark

theorem keeps_fedPass {a0 : State} {s : State} (h : Keeps a0 s) (c : Nat) : Keeps a0 (fedPass s c) := by
  unfold fedPass
  (try dsimp only)
  repeat' first
    | with_reducible assumption
    | with_reducible apply keeps_setChan

theorem keeps_pinPlay {a0 : State} {s : State} (h : Keeps a0 s) (x : PlayCtx) (io : List (Nat × List (List Pad))) (c : Nat) : Keeps a0 (pinPlay x io s c) := by
  unfold pinPlay
  (try dsimp only)
  repeat' first
    | with_reducible assumption
    | with_reducible apply Keeps.ite
    | with_reducible apply keeps_checkPlay
    | with_reducible apply keeps_comparePlay
    | with_reducible apply keeps_edgeFed
    | with_reducible apply keeps_edgePlay
    | with_reducible apply keeps_fedPass
    | with_reducible apply keeps_genPlay
    | with_reducible apply keeps_neutralPlay
    | with_reducible apply keeps_streamOut
    | split

theorem keeps_playAll {a0 : State} {s : State} (h : Keeps a0 s) (x : PlayCtx) (io : List (Nat × List (List Pad))) : Keeps a0 (playAll s x io) := by
  unfold playAll
  (try dsimp only)
  repeat' first
    | with_reducible assumption
    | with_reducible apply keeps_pinPlay
    | with_reducible apply keeps_settleLater
    | with_reducible apply Keeps.foldl
    | with_reducible apply Keeps.foldl_fst
    | with_reducible apply Keeps.foldl_snd
    | intro _ _ _

theorem keeps_earlyFeed {a0 : State} {s : State} (h : Keeps a0 s) (discarded : List Granule) : Keeps a0 (earlyFeed s discarded) := by
  unfold earlyFeed
  (try dsimp only)
  repeat' first
    | with_reducible assumption
    | with_reducible apply Keeps.ite
    | with_reducible apply keeps_setChan
    | with_reducible apply Keeps.foldl
    | with_reducible apply Keeps.foldl_fst
    | with_reducible apply Keeps.foldl_snd
    | intro _ _ _

theorem keeps_pinTo {a0 : State} {s : State} (h : Keeps a0 s) (c : Nat) (new : Drive) : Keeps a0 (pinTo s c new) := by
  unfold pinTo
  (try dsimp only)
  repeat' first
    | with_reducible assumption
    | with_reducible apply Keeps.ite
    | with_reducible apply keeps_emit
    | with_reducible apply keeps_setChan
    | with_reducible apply keeps_edgeChange
    | with_reducible apply keeps_hold
    | with_reducible apply keeps_vec
    | split

theorem keeps_parkPin {a0 : State} {s : State} (h : Keeps a0 s) (c : Nat) : Keeps a0 (parkPin s c) := by
  unfold parkPin
  repeat' first
    | with_reducible assumption
    | with_reducible apply keeps_pinTo

theorem keeps_parkAll {a0 : State} {s : State} (h : Keeps a0 s)  : Keeps a0 (parkAll s) := by
  unfold parkAll
  repeat' first
    | with_reducible assumption
    | with_reducible apply Keeps.ite
    | with_reducible apply keeps_emit
    | with_reducible apply keeps_parkPin
    | with_reducible apply Keeps.foldl
    | with_reducible apply Keeps.foldl_fst
    | with_reducible apply Keeps.foldl_snd
    | intro _ _ _

theorem keeps_reportHeads {a0 : State} {s : State} (h : Keeps a0 s)  : Keeps a0 (reportHeads s) := by
  unfold reportHeads
  (try dsimp only)
  repeat' first
    | with_reducible assumption
    | with_reducible apply keeps_setNums
    | with_reducible apply keeps_setFlag

theorem keeps_loadHead {a0 : State} {s : State} (hk : Keeps a0 s) (h : Nat) : Keeps a0 (loadHead s h) := by
  unfold loadHead
  (try dsimp only)
  repeat' first
    | with_reducible assumption
    | with_reducible apply Keeps.ite
    | with_reducible apply keeps_setSeq
    | with_reducible apply keeps_memUE
    | split

theorem keeps_openBody {a0 : State} {s : State} (h : Keeps a0 s) (l : Nat) : Keeps a0 (openBody s l) := by
  unfold openBody
  (try dsimp only)
  repeat' first
    | with_reducible assumption
    | with_reducible apply Keeps.ite
    | with_reducible apply keeps_inc
    | with_reducible apply keeps_setFlag
    | with_reducible apply keeps_setSeq
    | with_reducible apply keeps_reportHeads
    | split

theorem keeps_releaseBodies {a0 : State} {s : State} (h : Keeps a0 s)  : Keeps a0 (releaseBodies s) := by
  unfold releaseBodies
  (try dsimp only)
  repeat' first
    | with_reducible assumption
    | with_reducible apply keeps_setSeq

theorem keeps_reloadHeads {a0 : State} {s : State} (h : Keeps a0 s)  : Keeps a0 (reloadHeads s) := by
  unfold reloadHeads
  (try dsimp only)
  repeat' first
    | with_reducible assumption
    | with_reducible apply keeps_setSeq
    | with_reducible apply keeps_loadHead
    | with_reducible apply keeps_reportHeads
    | with_reducible apply Keeps.foldl
    | with_reducible apply Keeps.foldl_fst
    | with_reducible apply Keeps.foldl_snd
    | intro _ _ _

theorem keeps_cacheUE {a0 : State} {s : State} (h : Keeps a0 s) (addr : Nat) (g : Nat) (head : Option Nat) : Keeps a0 (cacheUE s addr g head) := by
  unfold cacheUE
  (try dsimp only)
  repeat' first
    | with_reducible assumption
    | with_reducible apply Keeps.ite
    | with_reducible apply keeps_setNum
    | with_reducible apply keeps_inc
    | with_reducible apply keeps_add
    | with_reducible apply keeps_setFlag
    | with_reducible apply keeps_raise
    | with_reducible apply keeps_setSeq
    | with_reducible apply keeps_reportHeads
    | split

theorem keeps_applyUpset {a0 s : State} (h : Keeps a0 s) (u : Upset) : Keeps a0 (applyUpset s u) := by
  unfold applyUpset
  split
  · exact keeps_inc h ..
  · split
    · exact h
    · exact keeps_setMem h _ (fun hc => hc.congr rfl rfl)
  · exact keeps_inc h ..
  · exact h

theorem keeps_frontTo {a0 : State} {s : State} (h : Keeps a0 s) (t : Option Nat) (back : Bool) : Keeps a0 (frontTo s t back) := by
  unfold frontTo
  (try dsimp only)
  repeat' first
    | with_reducible assumption
    | with_reducible apply Keeps.ite
    | with_reducible apply keeps_setSeq
    | split

theorem keeps_frontPass {a0 : State} {s : State} (h : Keeps a0 s) (w : Nat) : Keeps a0 (frontPass s w) := by
  unfold frontPass
  (try dsimp only)
  repeat' first
    | with_reducible assumption
    | with_reducible apply Keeps.ite
    | with_reducible apply keeps_setSeq
    | with_reducible apply keeps_frontTo
    | split

theorem keeps_frontTake {a0 : State} {s : State} (h : Keeps a0 s) (gr : Granule) (cached : Bool) : Keeps a0 (frontTake s gr cached) := by
  unfold frontTake
  (try dsimp only)
  repeat' first
    | with_reducible assumption
    | with_reducible apply keeps_setSeq
    | with_reducible apply keeps_frontPass

theorem keeps_fetchOne {a0 : State} {s : State} (h : Keeps a0 s) (bad : Option Nat) (lost : Bool) (late : List Nat) : Keeps a0 (fetchOne bad lost late s) := by
  unfold fetchOne
  (try dsimp only)
  repeat' first
    | with_reducible assumption
    | with_reducible apply Keeps.ite
    | with_reducible apply keeps_cacheUE
    | with_reducible apply keeps_fetchMemory
    | with_reducible apply keeps_frontTake
    | split

theorem keeps_fetchLost {a0 s : State} (h : Keeps a0 s) (late : List Nat) (k n : Nat) :
    Keeps a0 (fetchMany.fetchLost late k n s) := by
  induction n generalizing k s with
  | zero => cases k <;> exact h
  | succ n ih => cases k <;> exact ih (keeps_fetchOne h ..) _

theorem keeps_fetchMany {a0 s : State} (h : Keeps a0 s) (late : List Nat) (u : Option (Nat × Nat × Nat)) (n : Nat) :
    Keeps a0 (fetchMany late u n s) := by
  induction n generalizing u s with
  | zero => unfold fetchMany; exact h
  | succ n ih =>
    unfold fetchMany
    split
    · split
      · exact keeps_fetchLost (keeps_fetchOne h ..) ..
      · exact ih (keeps_fetchOne h ..) _
    · exact ih (keeps_fetchOne h ..) _

theorem keeps_arrive {a0 : State} {s : State} (h : Keeps a0 s) (late : List Nat) : Keeps a0 (arrive s late) := by
  unfold arrive
  (try dsimp only)
  repeat' first
    | with_reducible assumption
    | with_reducible apply keeps_setSeq

theorem keeps_whReport {a0 : State} {s : State} (h : Keeps a0 s)  : Keeps a0 (whReport s) := by
  unfold whReport
  (try dsimp only)
  repeat' first
    | with_reducible assumption
    | with_reducible apply Keeps.ite
    | with_reducible apply keeps_setNum
    | with_reducible apply Keeps.foldl
    | with_reducible apply Keeps.foldl_fst
    | with_reducible apply Keeps.foldl_snd
    | intro _ _ _

theorem keeps_readFirst {a0 s : State} (h : Keeps a0 s) (seg : Nat) (u : Option (Nat × Nat × Nat)) :
    Keeps a0 (readFirst s seg u).2 := by
  unfold readFirst
  split
  · dsimp only
    split
    · exact (keeps_cacheUE h ..).ite h
    · exact h
  · exact Keeps.foldl_snd (p := ([], s)) h (fun p o hp => keeps_fetchMemory hp seg o 0) _

theorem keeps_primeStart {a0 : State} {s : State} (h : Keeps a0 s)  : Keeps a0 (primeStart s) := by
  unfold primeStart
  (try dsimp only)
  repeat' first
    | with_reducible assumption
    | with_reducible apply Keeps.ite
    | with_reducible apply keeps_setSeq
    | split

theorem keeps_primeComplete {a0 : State} {s : State} (h : Keeps a0 s) (entry : Nat) (k : Nat) (u : Option (Nat × Nat × Nat)) : Keeps a0 (primeComplete s entry k u) := by
  unfold primeComplete
  (try dsimp only)
  repeat' first
    | with_reducible assumption
    | with_reducible apply Keeps.ite
    | with_reducible apply keeps_setSeq
    | with_reducible apply keeps_readFirst
    | split

theorem keeps_reserveStart {a0 : State} {s : State} (h : Keeps a0 s) (seg : Nat) : Keeps a0 (reserveStart s seg) := by
  unfold reserveStart
  (try dsimp only)
  repeat' first
    | with_reducible assumption
    | with_reducible apply keeps_setSeq

theorem keeps_reserveFill {a0 : State} {s : State} (h : Keeps a0 s) (u : Option (Nat × Nat × Nat)) : Keeps a0 (reserveFill s u) := by
  unfold reserveFill
  (try dsimp only)
  repeat' first
    | with_reducible assumption
    | with_reducible apply Keeps.ite
    | with_reducible apply keeps_setSeq
    | with_reducible apply keeps_readFirst
    | split

theorem keeps_enterSegment {a0 : State} {s : State} (h : Keeps a0 s) (seg : Nat) (back : Bool) : Keeps a0 (enterSegment s seg back) := by
  unfold enterSegment
  (try dsimp only)
  repeat' first
    | with_reducible assumption
    | with_reducible apply keeps_setSeq

theorem keeps_restart {a0 : State} {s : State} (h : Keeps a0 s) (t : Nat) (data : List Granule) (supply : Bool) : Keeps a0 (restart s t data supply) := by
  unfold restart
  (try dsimp only)
  repeat' first
    | with_reducible assumption
    | with_reducible apply Keeps.ite
    | with_reducible apply keeps_add
    | with_reducible apply keeps_setSeq
    | with_reducible apply keeps_earlyFeed
    | with_reducible apply keeps_whReport

theorem keeps_ringCalStop {a0 : State} {s : State} (h : Keeps a0 s)  : Keeps a0 (ringCalStop s) := by
  unfold ringCalStop
  (try dsimp only)
  repeat' first
    | with_reducible assumption
    | with_reducible apply keeps_setFlag
    | with_reducible apply keeps_setRing

theorem keeps_portRest {a0 : State} {s : State} (h : Keeps a0 s) (st : Nat) : Keeps a0 (portRest s st) := by
  unfold portRest
  (try dsimp only)
  repeat' first
    | with_reducible assumption
    | with_reducible apply keeps_setNums
    | with_reducible apply keeps_setRing
    | with_reducible apply keeps_ringCalStop

theorem keeps_ringCause {a0 : State} {s : State} (h : Keeps a0 s) (i : Nat) : Keeps a0 (ringCause s i) := by
  unfold ringCause
  repeat' first
    | with_reducible assumption
    | with_reducible apply keeps_setFlag
    | with_reducible apply keeps_raise

theorem keeps_ringQueue {a0 : State} {s : State} (h : Keeps a0 s) (m : Bytes) : Keeps a0 (ringQueue s m) := by
  unfold ringQueue
  (try dsimp only)
  repeat' first
    | with_reducible assumption
    | with_reducible apply Keeps.ite
    | with_reducible apply keeps_inc
    | with_reducible apply keeps_setRing
    | with_reducible apply keeps_ringCause

theorem keeps_ringMark {a0 : State} {s : State} (h : Keeps a0 s) (id : Nat) : Keeps a0 (ringMark s id) := by
  unfold ringMark
  repeat' first
    | with_reducible assumption
    | with_reducible apply keeps_ringQueue

theorem keeps_ringFaultHalt {a0 : State} {s : State} (h : Keeps a0 s)  : Keeps a0 (ringFaultHalt s) := by
  unfold ringFaultHalt
  repeat' first
    | with_reducible assumption
    | with_reducible apply Keeps.ite
    | with_reducible apply keeps_ringQueue

theorem keeps_setReady {a0 : State} {s : State} (h : Keeps a0 s) (b : Nat) : Keeps a0 (setReady s b) := by
  unfold setReady
  (try dsimp only)
  repeat' first
    | with_reducible assumption
    | with_reducible apply Keeps.ite
    | with_reducible apply keeps_setFlag
    | with_reducible apply keeps_setBlob

theorem keeps_clearReady {a0 : State} {s : State} (h : Keeps a0 s) (l : List Nat) : Keeps a0 (clearReady s l) := by
  unfold clearReady
  repeat' first
    | with_reducible assumption
    | with_reducible apply keeps_setFlag
    | with_reducible apply Keeps.foldl
    | with_reducible apply Keeps.foldl_fst
    | with_reducible apply Keeps.foldl_snd
    | intro _ _ _

theorem keeps_setDom {a0 : State} {s : State} (h : Keeps a0 s) (d : Nat) (v : Nat) : Keeps a0 (setDom s d v) := by
  unfold setDom
  repeat' first
    | with_reducible assumption
    | with_reducible apply keeps_setNum

theorem keeps_tmuIdle {a0 : State} {s : State} (h : Keeps a0 s) (c : Nat) : Keeps a0 (tmuIdle s c) := by
  unfold tmuIdle
  (try dsimp only)
  repeat' first
    | with_reducible assumption
    | with_reducible apply Keeps.ite
    | with_reducible apply keeps_setNum
    | with_reducible apply keeps_setTmu

theorem keeps_tmuHold {a0 : State} {s : State} (h : Keeps a0 s) (c : Nat) : Keeps a0 (tmuHold s c) := by
  unfold tmuHold
  (try dsimp only)
  repeat' first
    | with_reducible assumption
    | with_reducible apply keeps_setFlag
    | with_reducible apply keeps_setTmu

theorem keeps_tmuRelease {a0 : State} {s : State} (h : Keeps a0 s) (c : Nat) : Keeps a0 (tmuRelease s c) := by
  unfold tmuRelease
  (try dsimp only)
  repeat' first
    | with_reducible assumption
    | with_reducible apply Keeps.ite
    | with_reducible apply keeps_setNum
    | with_reducible apply keeps_setFlag
    | with_reducible apply keeps_setTmu

theorem keeps_tmuNote {a0 : State} {s : State} (h : Keeps a0 s) (more : Nat) : Keeps a0 (tmuNote s more) := by
  unfold tmuNote
  (try dsimp only)
  repeat' first
    | with_reducible assumption
    | with_reducible apply Keeps.ite
    | with_reducible apply keeps_setTmu
    | with_reducible apply Keeps.foldl
    | with_reducible apply Keeps.foldl_fst
    | with_reducible apply Keeps.foldl_snd
    | intro _ _ _

theorem keeps_calBegin {a0 : State} {s : State} (h : Keeps a0 s) (c : Nat) : Keeps a0 (calBegin s c) := by
  unfold calBegin
  (try dsimp only)
  repeat' first
    | with_reducible assumption
    | with_reducible apply keeps_setSlow
    | with_reducible apply keeps_setNums
    | with_reducible apply keeps_setFlag
    | with_reducible apply keeps_setChan
    | with_reducible apply keeps_tmuHold

theorem keeps_calNext {a0 : State} {s : State} (h : Keeps a0 s)  : Keeps a0 (calNext s) := by
  unfold calNext
  repeat' first
    | with_reducible assumption
    | with_reducible apply Keeps.ite
    | with_reducible apply keeps_calBegin
    | with_reducible apply Keeps.foldl
    | with_reducible apply Keeps.foldl_fst
    | with_reducible apply Keeps.foldl_snd
    | intro _ _ _
    | split

theorem keeps_calFinish {a0 : State} {s : State} (h : Keeps a0 s)  : Keeps a0 (calFinish s) := by
  unfold calFinish
  repeat' first
    | with_reducible assumption
    | with_reducible apply Keeps.ite
    | with_reducible apply keeps_setNums
    | with_reducible apply keeps_inc
    | with_reducible apply keeps_evCal

theorem keeps_calDrop {a0 s : State} (h : Keeps a0 s) (p : Nat → Bool) : Keeps a0 (calDrop s p) := keeps_setCal h ..

theorem keeps_calSkip {a0 s : State} (h : Keeps a0 s) (c : Nat) : Keeps a0 (calSkip s c) :=
  keeps_calFinish (keeps_calDrop (Keeps.ite (keeps_setNum h ..) h) _)

theorem keeps_calEnd {a0 : State} {s : State} (h : Keeps a0 s) (c : Nat) (status : Nat) : Keeps a0 (calEnd s c status) := by
  unfold calEnd
  (try dsimp only)
  repeat' first
    | with_reducible assumption
    | with_reducible apply Keeps.ite
    | with_reducible apply keeps_setSlow
    | with_reducible apply keeps_setNums
    | with_reducible apply keeps_setFlag
    | with_reducible apply keeps_setChan
    | with_reducible apply keeps_calDrop
    | with_reducible apply keeps_calFinish
    | with_reducible apply keeps_calNext
    | with_reducible apply keeps_enableCmp
    | with_reducible apply keeps_tmuRelease

theorem keeps_tileDown {a0 : State} {s : State} (h : Keeps a0 s) (t : Nat) : Keeps a0 (tileDown s t) := by
  unfold tileDown
  (try dsimp only)
  repeat' first
    | with_reducible assumption
    | with_reducible apply Keeps.ite
    | with_reducible apply keeps_setSlow
    | with_reducible apply keeps_setNum
    | with_reducible apply keeps_setNums
    | with_reducible apply keeps_setFlag
    | with_reducible apply keeps_setChan
    | with_reducible apply keeps_calDrop
    | with_reducible apply keeps_calFinish
    | with_reducible apply keeps_pinTo
    | with_reducible apply keeps_tmuIdle
    | with_reducible apply Keeps.foldl
    | with_reducible apply Keeps.foldl_fst
    | with_reducible apply Keeps.foldl_snd
    | intro _ _ _

theorem canon_foldl_memLoseStack (k : Nat) (l : List Nat) {m : Mem} (h : m.Canon) :
    (l.foldl (memLoseStack k) m).Canon := by
  induction l generalizing m with
  | nil => exact h
  | cons x r ih => exact ih (h.memLoseStack ..)

theorem keeps_stackDown {a0 s : State} (h : Keeps a0 s) (k : Nat) : Keeps a0 (stackDown s k) := by
  unfold stackDown
  exact keeps_setMem (keeps_setFlag h ..) _ (fun hc => canon_foldl_memLoseStack _ _ hc)

theorem keeps_domDown {a0 s : State} (h : Keeps a0 s) (d : Nat) : Keeps a0 (domDown s d) := by
  unfold domDown
  extract_lets t
  have ht : Keeps a0 t := keeps_clearReady (keeps_setDom h ..) ..
  clear_value t
  repeat' first
    | with_reducible assumption
    | with_reducible apply Keeps.ite
    | with_reducible apply keeps_tileDown
    | with_reducible apply keeps_stackDown
    | with_reducible apply keeps_tmuNote
    | with_reducible apply keeps_portRest
    | with_reducible apply keeps_raise
    | with_reducible apply keeps_setFlag
    | with_reducible apply keeps_setNum
    | with_reducible apply keeps_setTb
    | with_reducible apply keeps_reportHeads
    | with_reducible apply keeps_setSeq
    | exact keeps_setMem (keeps_setPump ht _ (fun _ => ⟨rising_nil, by simp⟩)) _ (fun hc => hc.congr rfl rfl)

theorem keeps_setChFence {a0 : State} {s : State} (h : Keeps a0 s) (c : Nat) (b : Bool) : Keeps a0 (setChFence s c b) := by
  unfold setChFence
  repeat' first
    | with_reducible assumption
    | with_reducible apply Keeps.ite
    | with_reducible apply keeps_setFlag

theorem keeps_fenceChannel {a0 : State} {s : State} (h : Keeps a0 s) (c : Nat) : Keeps a0 (fenceChannel s c) := by
  unfold fenceChannel
  (try dsimp only)
  repeat' first
    | with_reducible assumption
    | with_reducible apply Keeps.ite
    | with_reducible apply keeps_calSkip
    | with_reducible apply keeps_calEnd
    | with_reducible apply keeps_parkPin
    | with_reducible apply keeps_setChFence

theorem keeps_fenceUnit {a0 : State} {s : State} (h : Keeps a0 s) (u : Nat) : Keeps a0 (fenceUnit s u) := by
  unfold fenceUnit
  (try dsimp only)
  repeat' first
    | with_reducible assumption
    | with_reducible apply Keeps.ite
    | with_reducible apply keeps_setNum
    | with_reducible apply keeps_inc
    | with_reducible apply keeps_setFlag
    | with_reducible apply keeps_domDown
    | with_reducible apply keeps_fenceChannel
    | with_reducible apply keeps_setMem
    | exact fun hc => hc.congr rfl rfl
    | with_reducible apply Keeps.foldl
    | with_reducible apply Keeps.foldl_fst
    | with_reducible apply Keeps.foldl_snd
    | intro _ _ _

theorem keeps_fenceUnits {a0 : State} {s : State} (h : Keeps a0 s) (l : List Nat) : Keeps a0 (fenceUnits s l) := by
  unfold fenceUnits
  repeat' first
    | with_reducible assumption
    | with_reducible apply keeps_fenceUnit
    | with_reducible apply Keeps.foldl
    | with_reducible apply Keeps.foldl_fst
    | with_reducible apply Keeps.foldl_snd
    | intro _ _ _

theorem keeps_fenceWaited {a0 : State} {s : State} (h : Keeps a0 s) (l : List Nat) : Keeps a0 (fenceWaited s l) := by
  unfold fenceWaited
  (try dsimp only)
  repeat' first
    | with_reducible assumption
    | with_reducible apply Keeps.ite
    | with_reducible apply keeps_setFlag
    | with_reducible apply keeps_fenceUnits

theorem keeps_tbStep {a0 : State} {s : State} (h : Keeps a0 s) (d : Int) : Keeps a0 (tbStep s d) := by
  unfold tbStep
  (try dsimp only)
  repeat' first
    | with_reducible assumption
    | with_reducible apply keeps_setTb
    | with_reducible apply keeps_setNum

theorem keeps_tmuEnter {a0 : State} {s : State} (h : Keeps a0 s) (c : Nat) (at_ : Int) (again : Bool) : Keeps a0 (tmuEnter s c at_ again) := by
  unfold tmuEnter
  (try dsimp only)
  repeat' first
    | with_reducible assumption
    | with_reducible apply Keeps.ite
    | with_reducible apply keeps_setNum
    | with_reducible apply keeps_fresh
    | with_reducible apply keeps_setTmu
    | split

theorem keeps_tmuArm {a0 : State} {s : State} (h : Keeps a0 s) (c : Nat) : Keeps a0 (tmuArm s c) := by
  unfold tmuArm
  repeat' first
    | with_reducible assumption
    | with_reducible apply keeps_setNum
    | with_reducible apply keeps_tmuEnter

theorem keeps_tmuDisarm {a0 : State} {s : State} (h : Keeps a0 s) (c : Nat) : Keeps a0 (tmuDisarm s c) := by
  unfold tmuDisarm
  (try dsimp only)
  repeat' first
    | with_reducible assumption
    | with_reducible apply Keeps.ite
    | with_reducible apply keeps_setTmu
    | with_reducible apply keeps_tmuIdle

theorem keeps_tmuClear {a0 : State} {s : State} (h : Keeps a0 s) (c : Nat) : Keeps a0 (tmuClear s c) := by
  unfold tmuClear
  (try dsimp only)
  repeat' first
    | with_reducible assumption
    | with_reducible apply keeps_setNums
    | with_reducible apply keeps_setFlag
    | with_reducible apply keeps_setBlob

theorem keeps_tmuRearm {a0 : State} {s : State} (h : Keeps a0 s) (c : Nat) : Keeps a0 (tmuRearm s c) := by
  unfold tmuRearm
  repeat' first
    | with_reducible assumption
    | with_reducible apply Keeps.ite
    | with_reducible apply keeps_tmuEnter
    | split

theorem keeps_tmuExpire {a0 : State} {s : State} (h : Keeps a0 s) (c : Nat) : Keeps a0 (tmuExpire s c) := by
  unfold tmuExpire
  (try dsimp only)
  repeat' first
    | with_reducible assumption
    | with_reducible apply Keeps.ite
    | with_reducible apply keeps_setNum
    | with_reducible apply keeps_setFlag
    | with_reducible apply keeps_setTmu

theorem keeps_tmuTimeout {a0 : State} {s : State} (h : Keeps a0 s) (c : Nat) : Keeps a0 (tmuTimeout s c) := by
  unfold tmuTimeout
  repeat' first
    | with_reducible assumption
    | with_reducible apply Keeps.ite
    | with_reducible apply keeps_tmuExpire

theorem keeps_tmuAccumulate {a0 : State} {s : State} (h : Keeps a0 s) (c : Nat) (r : Int) : Keeps a0 (tmuAccumulate s c r) := by
  unfold tmuAccumulate
  (try dsimp only)
  repeat' first
    | with_reducible assumption
    | with_reducible apply Keeps.ite
    | with_reducible apply keeps_setNums
    | with_reducible apply keeps_setFlag

theorem keeps_tmuComplete {a0 : State} {s : State} (h : Keeps a0 s) (c : Nat) (a : Int) (b : Int) (e : Int) (count : Nat) : Keeps a0 (tmuComplete s c a b e count) := by
  unfold tmuComplete
  (try dsimp only)
  repeat' first
    | with_reducible assumption
    | with_reducible apply Keeps.ite
    | with_reducible apply keeps_setNum
    | with_reducible apply keeps_setNums
    | with_reducible apply keeps_inc
    | with_reducible apply keeps_setTmu
    | with_reducible apply keeps_tmuAccumulate

theorem keeps_tmuStart {a0 : State} {s : State} (h : Keeps a0 s) (c : Nat) (t : Int) (falling : Bool) : Keeps a0 (tmuStart s c t falling) := by
  unfold tmuStart
  (try dsimp only)
  repeat' first
    | with_reducible assumption
    | with_reducible apply keeps_setNum
    | with_reducible apply keeps_setTmu

theorem keeps_tmuStop {a0 : State} {s : State} (h : Keeps a0 s) (c : Nat) (a : Int) (t : Int) : Keeps a0 (tmuStop s c a t) := by
  unfold tmuStop
  repeat' first
    | with_reducible assumption
    | with_reducible apply Keeps.ite
    | with_reducible apply keeps_inc
    | with_reducible apply keeps_tmuComplete

theorem keeps_tmuInterval {a0 : State} {s : State} (h : Keeps a0 s) (c : Nat) (t : Int) (st : Bool) (sp : Bool) : Keeps a0 (tmuInterval s c t st sp) := by
  unfold tmuInterval
  (try dsimp only)
  repeat' first
    | with_reducible assumption
    | with_reducible apply Keeps.ite
    | with_reducible apply keeps_setNum
    | with_reducible apply keeps_inc
    | with_reducible apply keeps_setTmu
    | with_reducible apply keeps_tmuComplete
    | with_reducible apply keeps_tmuStart
    | with_reducible apply keeps_tmuStop
    | split

theorem keeps_tmuCounted {a0 : State} {s : State} (h : Keeps a0 s) (c : Nat) (t : Int) : Keeps a0 (tmuCounted s c t) := by
  unfold tmuCounted
  (try dsimp only)
  repeat' first
    | with_reducible assumption
    | with_reducible apply Keeps.ite
    | with_reducible apply keeps_setTmu
    | with_reducible apply keeps_tmuComplete
    | with_reducible apply keeps_tmuStart
    | split

theorem keeps_tmuPrescaled {a0 : State} {s : State} (h : Keeps a0 s) (c : Nat) (t : Int) : Keeps a0 (tmuPrescaled s c t) := by
  unfold tmuPrescaled
  (try dsimp only)
  repeat' first
    | with_reducible assumption
    | with_reducible apply Keeps.ite
    | with_reducible apply keeps_setTmu
    | with_reducible apply keeps_tmuCounted

theorem keeps_tmuWidth {a0 : State} {s : State} (h : Keeps a0 s) (c : Nat) (edge : Nat) (t : Int) : Keeps a0 (tmuWidth s c edge t) := by
  unfold tmuWidth
  (try dsimp only)
  repeat' first
    | with_reducible assumption
    | with_reducible apply Keeps.ite
    | with_reducible apply keeps_inc
    | with_reducible apply keeps_tmuStart
    | with_reducible apply keeps_tmuStop
    | split

theorem keeps_tmuCollect {a0 : State} {s : State} (h : Keeps a0 s) (c : Nat) (t : Int) (falling : Bool) (x : Nat) : Keeps a0 (tmuCollect s c t falling x) := by
  unfold tmuCollect
  (try dsimp only)
  repeat' first
    | with_reducible assumption
    | with_reducible apply Keeps.ite
    | with_reducible apply keeps_inc
    | with_reducible apply keeps_add
    | with_reducible apply keeps_setFlag
    | with_reducible apply keeps_setBlob
    | with_reducible apply keeps_setTmu

theorem keeps_tmuTake {a0 : State} {s : State} (h : Keeps a0 s) (c : Nat) (edge : Nat) (t : Int) (x : Nat) : Keeps a0 (tmuTake s c edge t x) := by
  unfold tmuTake
  (try dsimp only)
  repeat' first
    | with_reducible assumption
    | with_reducible apply Keeps.ite
    | with_reducible apply keeps_tmuCollect
    | with_reducible apply keeps_tmuCounted
    | with_reducible apply keeps_tmuInterval
    | with_reducible apply keeps_tmuPrescaled
    | with_reducible apply keeps_tmuWidth

theorem keeps_tmuCatchUp {a0 : State} {s : State} (h : Keeps a0 s) (c : Nat) (t : Int) : Keeps a0 (tmuCatchUp s c t) := by
  unfold tmuCatchUp
  (try dsimp only)
  repeat' first
    | with_reducible assumption
    | with_reducible apply Keeps.ite
    | with_reducible apply keeps_tmuEnter
    | with_reducible apply keeps_tmuExpire
    | split

theorem keeps_tmuCapture {a0 : State} {s : State} (h : Keeps a0 s) (edge : Nat) (t : Int) (c : Nat) : Keeps a0 (tmuCapture edge t s c) := by
  unfold tmuCapture
  (try dsimp only)
  repeat' first
    | with_reducible assumption
    | with_reducible apply Keeps.ite
    | with_reducible apply keeps_tmuCatchUp
    | with_reducible apply keeps_tmuTake

theorem keeps_tmuCaptureAll {a0 : State} {s : State} (h : Keeps a0 s) (edge : Nat) (t : Int) (l : List Nat) : Keeps a0 (tmuCaptureAll edge t l s) := by
  unfold tmuCaptureAll
  repeat' first
    | with_reducible assumption
    | with_reducible apply keeps_tmuCapture
    | with_reducible apply Keeps.foldl
    | with_reducible apply Keeps.foldl_fst
    | with_reducible apply Keeps.foldl_snd
    | intro _ _ _

theorem keeps_laneMoves {a0 : State} {s : State} (h : Keeps a0 s) (c : Nat) (v : Pad) (t : Int) : Keeps a0 (laneMoves s c v t) := by
  unfold laneMoves
  (try dsimp only)
  repeat' first
    | with_reducible assumption
    | with_reducible apply Keeps.ite
    | with_reducible apply keeps_senseEdge
    | with_reducible apply keeps_tmuCaptureAll
    | with_reducible apply Keeps.foldl
    | with_reducible apply Keeps.foldl_fst
    | with_reducible apply Keeps.foldl_snd
    | intro _ _ _

theorem keeps_setUreg {a0 : State} {s : State} (h : Keeps a0 s) (j : Nat) (v : Nat) : Keeps a0 (setUreg s j v) := by
  unfold setUreg
  (try dsimp only)
  repeat' first
    | with_reducible assumption
    | with_reducible apply keeps_setUc

theorem keeps_aluStep {a0 : State} {s : State} (h : Keeps a0 s) (w : Nat) : Keeps a0 (aluStep s w) := by
  unfold aluStep
  (try dsimp only)
  repeat' first
    | with_reducible assumption
    | with_reducible apply Keeps.ite
    | with_reducible apply keeps_fresh
    | with_reducible apply keeps_setUc
    | with_reducible apply keeps_setUreg
    | split

theorem keeps_microConsume {a0 : State} {s : State} (h : Keeps a0 s) (w : Nat) (trap : Bool) : Keeps a0 (microConsume s w trap) := by
  unfold microConsume
  repeat' first
    | with_reducible assumption
    | with_reducible apply Keeps.ite
    | with_reducible apply keeps_consume

theorem keeps_linkStep {a0 : State} {s : State} (h : Keeps a0 s) (pc : Nat) (w : Nat) : Keeps a0 (linkStep s pc w) := by
  unfold linkStep
  repeat' first
    | with_reducible assumption
    | with_reducible apply Keeps.ite
    | with_reducible apply keeps_setUreg

theorem keeps_snapNow {a0 : State} {s : State} (h : Keeps a0 s)  : Keeps a0 (snapNow s) := by
  unfold snapNow
  repeat' first
    | with_reducible assumption
    | with_reducible apply keeps_setBlob

theorem keeps_timeSnap {a0 : State} {s : State} (h : Keeps a0 s)  : Keeps a0 (timeSnap s) := by
  unfold timeSnap
  repeat' first
    | with_reducible assumption
    | with_reducible apply keeps_setBlob

theorem keeps_recordPosition {a0 : State} {s : State} (h : Keeps a0 s)  : Keeps a0 (recordPosition s) := by
  unfold recordPosition
  repeat' first
    | with_reducible assumption
    | with_reducible apply keeps_setNums

theorem keeps_cqPut {a0 : State} {s : State} (h : Keeps a0 s) (it : CqItem) : Keeps a0 (cqPut s it).2 := by
  unfold cqPut
  (try dsimp only)
  repeat' first
    | with_reducible assumption
    | with_reducible apply Keeps.ite
    | with_reducible apply keeps_setCis
    | with_reducible apply keeps_setNum
    | with_reducible apply keeps_add
    | with_reducible apply keeps_setFlag
    | split

theorem keeps_pointEnter {a0 : State} {s : State} (h : Keeps a0 s) (i : Nat) (m : Nat) : Keeps a0 (pointEnter s i m) := by
  unfold pointEnter
  (try dsimp only)
  repeat' first
    | with_reducible assumption
    | with_reducible apply Keeps.ite
    | with_reducible apply keeps_setCis
    | with_reducible apply keeps_setNums

theorem keeps_pointWrite {a0 : State} {s : State} (h : Keeps a0 s) (p : EyePoint) : Keeps a0 (pointWrite s p) := by
  unfold pointWrite
  (try dsimp only)
  repeat' first
    | with_reducible assumption
    | with_reducible apply Keeps.ite
    | with_reducible apply keeps_add
    | with_reducible apply keeps_setFlag
    | with_reducible apply keeps_cqPut

theorem keeps_pointClose {a0 : State} {s : State} (h : Keeps a0 s) (m : Nat) : Keeps a0 (pointClose s m) := by
  unfold pointClose
  (try dsimp only)
  repeat' first
    | with_reducible assumption
    | with_reducible apply keeps_setCis

theorem keeps_pointsWrite {a0 : State} {s : State} (h : Keeps a0 s) (w : Nat) : Keeps a0 (pointsWrite s w) := by
  unfold pointsWrite
  (try dsimp only)
  repeat' first
    | with_reducible assumption
    | with_reducible apply keeps_setCis
    | with_reducible apply keeps_pointWrite
    | with_reducible apply Keeps.foldl
    | with_reducible apply Keeps.foldl_fst
    | with_reducible apply Keeps.foldl_snd
    | intro _ _ _

theorem keeps_eyeFlush {a0 : State} {s : State} (h : Keeps a0 s)  : Keeps a0 (eyeFlush s) := by
  unfold eyeFlush
  repeat' first
    | with_reducible assumption
    | with_reducible apply Keeps.ite
    | with_reducible apply keeps_pointsWrite

theorem keeps_eyeAction {a0 : State} {s : State} (h : Keeps a0 s) (act : Nat) (m : Nat) : Keeps a0 (eyeAction s act m) := by
  unfold eyeAction
  (try dsimp only)
  repeat' first
    | with_reducible assumption
    | with_reducible apply Keeps.ite
    | with_reducible apply keeps_setNum
    | with_reducible apply keeps_inc
    | with_reducible apply keeps_pointClose
    | with_reducible apply keeps_pointEnter

theorem keeps_tsetAction {a0 : State} {s : State} (h : Keeps a0 s) (set : Nat) (tiles : Nat) : Keeps a0 (tsetAction s set tiles) := by
  unfold tsetAction
  (try dsimp only)
  repeat' first
    | with_reducible assumption
    | with_reducible apply Keeps.ite
    | with_reducible apply keeps_setChan
    | with_reducible apply keeps_tset
    | with_reducible apply Keeps.foldl
    | with_reducible apply Keeps.foldl_fst
    | with_reducible apply Keeps.foldl_snd
    | intro _ _ _

theorem keeps_markAction {a0 : State} {s : State} (h : Keeps a0 s) (number : Nat) (tick : Nat) (tiles : Nat) : Keeps a0 (markAction s number tick tiles) := by
  unfold markAction
  (try dsimp only)
  repeat' first
    | with_reducible assumption
    | with_reducible apply keeps_emit
    | with_reducible apply keeps_tmuCaptureAll

theorem keeps_cycleBegin {a0 : State} {s : State} (h : Keeps a0 s)  : Keeps a0 (cycleBegin s).1 := by
  unfold cycleBegin
  repeat' first
    | with_reducible assumption
    | with_reducible apply keeps_linesCycle

theorem keeps_capOpen {a0 : State} {s : State} (h : Keeps a0 s) (g : Granule) (cyc : Nat) : Keeps a0 (capOpen s g cyc) := by
  unfold capOpen
  (try dsimp only)
  repeat' first
    | with_reducible assumption
    | with_reducible apply Keeps.ite
    | with_reducible apply keeps_setCis

theorem keeps_cyclePlay {a0 : State} {s : State} (h : Keeps a0 s) (up : List Nat) (g : Granule) (io : List (Nat × List (List Pad))) : Keeps a0 (cyclePlay s up g io) := by
  unfold cyclePlay
  (try dsimp only)
  repeat' first
    | with_reducible assumption
    | with_reducible apply Keeps.ite
    | with_reducible apply keeps_setCis
    | with_reducible apply keeps_add
    | with_reducible apply keeps_setSeq
    | with_reducible apply keeps_capOpen
    | with_reducible apply keeps_capPrune
    | with_reducible apply keeps_countersCycle
    | with_reducible apply keeps_eyeFlush
    | with_reducible apply keeps_playAll

theorem keeps_popGranule {a0 : State} {s : State} (h : Keeps a0 s)  : Keeps a0 (popGranule s) := by
  unfold popGranule
  (try dsimp only)
  repeat' first
    | with_reducible assumption
    | with_reducible apply keeps_setSeq
    | with_reducible apply keeps_whReport
    | split

theorem keeps_landJump {a0 : State} {s : State} (h : Keeps a0 s)  : Keeps a0 (landJump s) := by
  unfold landJump
  (try dsimp only)
  repeat' first
    | with_reducible assumption
    | with_reducible apply Keeps.ite
    | with_reducible apply keeps_inc
    | with_reducible apply keeps_setSeq
    | with_reducible apply keeps_releaseBodies
    | with_reducible apply keeps_restart
    | split

theorem keeps_endTo {a0 : State} {s : State} (h : Keeps a0 s) (t : Option Nat) (back : Bool) : Keeps a0 (endTo s t back) := by
  unfold endTo
  (try dsimp only)
  repeat' first
    | with_reducible assumption
    | with_reducible apply Keeps.ite
    | with_reducible apply keeps_setSeq
    | with_reducible apply keeps_enterSegment
    | with_reducible apply keeps_fallOff
    | with_reducible apply keeps_landJump
    | with_reducible apply keeps_popGranule
    | split

theorem keeps_endBranch {a0 : State} {s : State} (h : Keeps a0 s) (t : Nat) : Keeps a0 (endBranch s t) := by
  unfold endBranch
  (try dsimp only)
  repeat' first
    | with_reducible assumption
    | with_reducible apply Keeps.ite
    | with_reducible apply keeps_landJump
    | with_reducible apply keeps_restart
    | split

theorem keeps_goNext {a0 : State} {s : State} (h : Keeps a0 s)  : Keeps a0 (goNext s) := by
  unfold goNext
  (try dsimp only)
  repeat' first
    | with_reducible assumption
    | with_reducible apply Keeps.ite
    | with_reducible apply keeps_setSeq
    | with_reducible apply keeps_endTo
    | with_reducible apply keeps_popGranule

theorem keeps_discardJump {a0 : State} {s : State} (h : Keeps a0 s)  : Keeps a0 (discardJump s) := by
  unfold discardJump
  (try dsimp only)
  repeat' first
    | with_reducible assumption
    | with_reducible apply Keeps.ite
    | with_reducible apply keeps_inc
    | with_reducible apply keeps_setFlag
    | with_reducible apply keeps_setSeq

theorem keeps_burstTail {a0 : State} {s : State} (h : Keeps a0 s)  : Keeps a0 (burstTail s) := by
  unfold burstTail
  (try dsimp only)
  repeat' first
    | with_reducible assumption
    | with_reducible apply Keeps.ite
    | with_reducible apply keeps_setFlt
    | with_reducible apply keeps_setNum
    | with_reducible apply keeps_setNums
    | with_reducible apply keeps_setSeq
    | with_reducible apply keeps_setUc
    | with_reducible apply keeps_discardJump
    | with_reducible apply keeps_fenceWaited
    | with_reducible apply keeps_pointClose
    | with_reducible apply keeps_pointsWrite
    | with_reducible apply keeps_recordPosition
    | with_reducible apply keeps_settleLater
    | with_reducible apply keeps_snapNow
    | with_reducible apply keeps_timeSnap
    | with_reducible apply Keeps.foldl
    | with_reducible apply Keeps.foldl_fst
    | with_reducible apply Keeps.foldl_snd
    | intro _ _ _

theorem keeps_vectorsEnd {a0 : State} {s : State} (h : Keeps a0 s)  : Keeps a0 (vectorsEnd s) := by
  unfold vectorsEnd
  (try dsimp only)
  repeat' first
    | with_reducible assumption
    | with_reducible apply Keeps.ite
    | with_reducible apply keeps_setChan
    | with_reducible apply keeps_vec
    | with_reducible apply Keeps.foldl
    | with_reducible apply Keeps.foldl_fst
    | with_reducible apply Keeps.foldl_snd
    | intro _ _ _

theorem keeps_endNoted {a0 : State} {s : State} (h : Keeps a0 s)  : Keeps a0 (endNoted s) := by
  unfold endNoted
  (try dsimp only)
  repeat' first
    | with_reducible assumption
    | with_reducible apply keeps_setCis

theorem keeps_burstOver {a0 : State} {s : State} (h : Keeps a0 s)  : Keeps a0 (burstOver s) := by
  unfold burstOver
  repeat' first
    | with_reducible assumption
    | with_reducible apply keeps_burstTail
    | with_reducible apply keeps_capPrune
    | with_reducible apply keeps_endNoted
    | with_reducible apply keeps_parkAll
    | with_reducible apply keeps_vectorsEnd

theorem keeps_endBurst {a0 : State} {s : State} (h : Keeps a0 s) (cause : Nat) : Keeps a0 (endBurst s cause) := by
  unfold endBurst
  repeat' first
    | with_reducible assumption
    | with_reducible apply keeps_setNums
    | with_reducible apply keeps_burstOver

theorem keeps_errAt {a0 : State} {s : State} (h : Keeps a0 s) (seg : Nat) (off : Nat) : Keeps a0 (errAt s seg off) := by
  unfold errAt
  repeat' first
    | with_reducible assumption
    | with_reducible apply keeps_setNums

theorem keeps_programError {a0 : State} {s : State} (h : Keeps a0 s) (cause : Nat) : Keeps a0 (programError s cause) := by
  unfold programError
  repeat' first
    | with_reducible assumption
    | with_reducible apply keeps_raise
    | with_reducible apply keeps_endBurst
    | with_reducible apply keeps_errAt

theorem keeps_dryWell {a0 : State} {s : State} (h : Keeps a0 s) (code : Nat) : Keeps a0 (dryWell s code) := by
  unfold dryWell
  (try dsimp only)
  repeat' first
    | with_reducible assumption
    | with_reducible apply Keeps.ite
    | with_reducible apply keeps_setNum
    | with_reducible apply keeps_setBlob
    | with_reducible apply keeps_raise
    | with_reducible apply keeps_endBurst
    | with_reducible apply keeps_errAt

theorem keeps_fallOffEnd {a0 : State} {s : State} (h : Keeps a0 s)  : Keeps a0 (fallOffEnd s) := by
  unfold fallOffEnd
  (try dsimp only)
  repeat' first
    | with_reducible assumption
    | with_reducible apply keeps_raise
    | with_reducible apply keeps_endBurst
    | with_reducible apply keeps_errAt
    | split

theorem keeps_haltLatch {a0 : State} {s : State} (h : Keeps a0 s) (cause : Nat) : Keeps a0 (haltLatch s cause) := by
  unfold haltLatch
  (try dsimp only)
  repeat' first
    | with_reducible assumption
    | with_reducible apply Keeps.ite
    | with_reducible apply keeps_setNum
    | with_reducible apply keeps_setNums
    | with_reducible apply keeps_evBurst
    | with_reducible apply keeps_setUc
    | with_reducible apply keeps_endBurst
    | with_reducible apply keeps_fallOff
    | with_reducible apply keeps_fallOffEnd

theorem keeps_judgeDue {a0 s : State} (h : Keeps a0 s) : KeepsOpt a0 (judgeDue s) := by
  unfold judgeDue
  repeat' first
    | with_reducible apply KeepsOpt.none
    | with_reducible apply KeepsOpt.some
    | with_reducible apply keeps_programError
    | with_reducible assumption
    | split

theorem keeps_summaryStore {a0 : State} {s : State} (h : Keeps a0 s)  : Keeps a0 (summaryStore s) := by
  unfold summaryStore
  (try dsimp only)
  repeat' first
    | with_reducible assumption
    | with_reducible apply Keeps.ite
    | with_reducible apply keeps_setNum
    | with_reducible apply keeps_memStore

theorem keeps_captureDone {a0 : State} {s : State} (h : Keeps a0 s)  : Keeps a0 (captureDone s) := by
  unfold captureDone
  (try dsimp only)
  repeat' first
    | with_reducible assumption
    | with_reducible apply keeps_setCis
    | with_reducible apply keeps_setFlag

theorem keeps_ucRead {a0 : State} {s : State} (h : Keeps a0 s) (n : Nat) : Keeps a0 (ucRead s n) := by
  unfold ucRead
  repeat' first
    | with_reducible assumption
    | with_reducible apply Keeps.ite
    | with_reducible apply keeps_inc

theorem keeps_ucBad {a0 : State} {s : State} (h : Keeps a0 s) (a : Nat) : Keeps a0 (ucBad s a) := by
  unfold ucBad
  repeat' first
    | with_reducible assumption
    | with_reducible apply keeps_setNum
    | with_reducible apply keeps_inc
    | with_reducible apply keeps_raise

theorem keeps_ucDeath {a0 : State} {s : State} (h : Keeps a0 s) (g : Granule) (io : Io) (a : Nat) : Keeps a0 (ucDeath s g io a) := by
  unfold ucDeath
  (try dsimp only)
  repeat' first
    | with_reducible assumption
    | with_reducible apply keeps_cycleBegin
    | with_reducible apply keeps_cyclePlay
    | with_reducible apply keeps_endBurst
    | with_reducible apply keeps_ucBad

theorem keeps_playOne {a0 : State} {s : State} (h : Keeps a0 s) (io : Io) (g : Granule) : Keeps a0 (playOne s io g) := by
  unfold playOne
  (try dsimp only)
  repeat' first
    | with_reducible assumption
    | with_reducible apply keeps_cycleBegin
    | with_reducible apply keeps_cyclePlay

theorem keeps_goAgain {a0 : State} {s : State} (h : Keeps a0 s)  : Keeps a0 (goAgain s) := by
  unfold goAgain
  (try dsimp only)
  repeat' first
    | with_reducible assumption
    | with_reducible apply keeps_setSeq

theorem keeps_tileCmdStep {a0 : State} {s : State} (h : Keeps a0 s) (w : Nat) : Keeps a0 (tileCmdStep s w) := by
  unfold tileCmdStep
  (try dsimp only)
  repeat' first
    | with_reducible assumption
    | with_reducible apply Keeps.ite
    | with_reducible apply keeps_eyeAction
    | with_reducible apply keeps_markAction
    | with_reducible apply keeps_tsetAction

theorem keeps_ringOpStep {a0 : State} {s : State} (h : Keeps a0 s) (w : Nat) : Keeps a0 (ringOpStep s w) := by
  unfold ringOpStep
  repeat' first
    | with_reducible assumption
    | with_reducible apply Keeps.ite
    | with_reducible apply keeps_ringMark

theorem keeps_flagOpStep {a0 : State} {s : State} (h : Keeps a0 s) (w : Nat) : Keeps a0 (flagOpStep s w) := by
  unfold flagOpStep
  (try dsimp only)
  repeat' first
    | with_reducible assumption
    | with_reducible apply Keeps.ite
    | with_reducible apply keeps_setFlag

theorem keeps_microError {a0 : State} {s : State} (h : Keeps a0 s) (cause : Nat) : Keeps a0 (microError s cause) := by
  unfold microError
  (try dsimp only)
  repeat' first
    | with_reducible assumption
    | with_reducible apply Keeps.ite
    | with_reducible apply keeps_raise
    | with_reducible apply keeps_endBurst
    | with_reducible apply keeps_errAt
    | split

theorem keeps_streamNext {a0 : State} {s : State} (h : Keeps a0 s) (w : Nat) (target : Nat) (cond : Bool) : Keeps a0 (streamNext s w target cond) := by
  unfold streamNext
  (try dsimp only)
  repeat' first
    | with_reducible assumption
    | with_reducible apply Keeps.ite
    | with_reducible apply keeps_endBranch
    | with_reducible apply keeps_goAgain
    | with_reducible apply keeps_goNext

theorem keeps_streamWord {a0 : State} {s : State} (h : Keeps a0 s) (io : Io) (g : Granule) (pc : Nat) : Keeps a0 (streamWord s io g pc) := by
  unfold streamWord
  (try dsimp only)
  repeat' first
    | with_reducible assumption
    | with_reducible apply Keeps.ite
    | with_reducible apply keeps_setNum
    | with_reducible apply keeps_setSeq
    | with_reducible apply keeps_setUc
    | with_reducible apply keeps_aluStep
    | with_reducible apply keeps_cycleBegin
    | with_reducible apply keeps_cyclePlay
    | with_reducible apply keeps_endBurst
    | with_reducible apply keeps_flagOpStep
    | with_reducible apply keeps_linkStep
    | with_reducible apply keeps_microConsume
    | with_reducible apply keeps_microError
    | with_reducible apply keeps_programError
    | with_reducible apply keeps_ringOpStep
    | with_reducible apply keeps_streamNext
    | with_reducible apply keeps_tileCmdStep
    | split

theorem keeps_issueRow {a0 s : State} (h : Keeps a0 s) (io : Io) (cls : Nat → Bool)
    (body : State → Nat → Granule → State) (hb : ∀ s w g, Keeps a0 s → Keeps a0 (body s w g)) :
    Keeps a0 (issueRow s io cls body) := by
  unfold issueRow
  repeat' first
    | with_reducible assumption
    | with_reducible apply Keeps.ite
    | with_reducible apply hb
    | with_reducible apply keeps_programError
    | with_reducible apply keeps_ucDeath
    | with_reducible apply keeps_streamWord
    | with_reducible apply keeps_setUc
    | with_reducible apply keeps_ucRead
    | split

theorem keeps_vec {a0 : State} {s : State} (h : Keeps a0 s) (io : Io) : Keeps a0 (vec s io) := by
  unfold vec
  repeat' first
    | with_reducible assumption
    | with_reducible apply keeps_goNext
    | with_reducible apply keeps_issueRow
    | with_reducible apply keeps_playOne
    | (intro _ _ _ _; try dsimp only)

theorem keeps_rpt {a0 : State} {s : State} (h : Keeps a0 s) (io : Io) : Keeps a0 (rpt s io) := by
  unfold rpt
  (try dsimp only)
  repeat' first
    | with_reducible assumption
    | with_reducible apply Keeps.ite
    | with_reducible apply keeps_setSeq
    | with_reducible apply keeps_goAgain
    | with_reducible apply keeps_issueRow
    | with_reducible apply keeps_playOne
    | (intro _ _ _ _; try dsimp only)

theorem keeps_rptCountEnd {a0 : State} {s : State} (h : Keeps a0 s)  : Keeps a0 (rptCountEnd s) := by
  unfold rptCountEnd
  (try dsimp only)
  repeat' first
    | with_reducible assumption
    | with_reducible apply Keeps.ite
    | with_reducible apply keeps_setSeq
    | with_reducible apply keeps_goNext

theorem keeps_loop {a0 : State} {s : State} (h : Keeps a0 s) (io : Io) : Keeps a0 (loop s io) := by
  unfold loop
  (try dsimp only)
  repeat' first
    | with_reducible assumption
    | with_reducible apply Keeps.ite
    | with_reducible apply keeps_setSeq
    | with_reducible apply keeps_goNext
    | with_reducible apply keeps_issueRow
    | with_reducible apply keeps_openBody
    | with_reducible apply keeps_playOne
    | (intro _ _ _ _; try dsimp only)

theorem keeps_endl {a0 : State} {s : State} (h : Keeps a0 s) (io : Io) : Keeps a0 (endl s io) := by
  unfold endl
  (try dsimp only)
  repeat' first
    | with_reducible assumption
    | with_reducible apply Keeps.ite
    | with_reducible apply keeps_setSeq
    | with_reducible apply keeps_endTo
    | with_reducible apply keeps_issueRow
    | with_reducible apply keeps_playOne
    | with_reducible apply keeps_releaseBodies
    | (intro _ _ _ _; try dsimp only)
    | split

theorem keeps_call {a0 : State} {s : State} (h : Keeps a0 s) (io : Io) : Keeps a0 (call s io) := by
  unfold call
  (try dsimp only)
  repeat' first
    | with_reducible assumption
    | with_reducible apply keeps_setSeq
    | with_reducible apply keeps_endTo
    | with_reducible apply keeps_issueRow
    | with_reducible apply keeps_playOne
    | (intro _ _ _ _; try dsimp only)

theorem keeps_ret {a0 : State} {s : State} (h : Keeps a0 s) (io : Io) : Keeps a0 (ret s io) := by
  unfold ret
  (try dsimp only)
  repeat' first
    | with_reducible assumption
    | with_reducible apply keeps_setSeq
    | with_reducible apply keeps_endTo
    | with_reducible apply keeps_issueRow
    | with_reducible apply keeps_playOne
    | (intro _ _ _ _; try dsimp only)
    | split

theorem keeps_jmp {a0 : State} {s : State} (h : Keeps a0 s) (io : Io) : Keeps a0 (jmp s io) := by
  unfold jmp
  repeat' first
    | with_reducible assumption
    | with_reducible apply keeps_endTo
    | with_reducible apply keeps_issueRow
    | with_reducible apply keeps_playOne
    | (intro _ _ _ _; try dsimp only)

theorem keeps_sampleAndPlay {a0 : State} {s : State} (h : Keeps a0 s) (io : Io) (w : Nat) (g : Granule) : Keeps a0 (sampleAndPlay s io w g).2 := by
  unfold sampleAndPlay
  (try dsimp only)
  repeat' first
    | with_reducible assumption
    | with_reducible apply keeps_consume
    | with_reducible apply keeps_cycleBegin
    | with_reducible apply keeps_cyclePlay

theorem keeps_jif {a0 : State} {s : State} (h : Keeps a0 s) (io : Io) : Keeps a0 (jif s io) := by
  unfold jif
  (try dsimp only)
  repeat' first
    | with_reducible assumption
    | with_reducible apply Keeps.ite
    | with_reducible apply keeps_endBranch
    | with_reducible apply keeps_goNext
    | with_reducible apply keeps_issueRow
    | with_reducible apply keeps_sampleAndPlay
    | (intro _ _ _ _; try dsimp only)

theorem keeps_waitOn {a0 : State} {s : State} (h : Keeps a0 s) (w : Nat) (test : Bool) : Keeps a0 (waitOn s w test) := by
  unfold waitOn
  (try dsimp only)
  repeat' first
    | with_reducible assumption
    | with_reducible apply Keeps.ite
    | with_reducible apply keeps_setSeq
    | with_reducible apply keeps_goAgain
    | with_reducible apply keeps_goNext

theorem keeps_matchIssue {a0 : State} {s : State} (h : Keeps a0 s) (io : Io) : Keeps a0 (matchIssue s io) := by
  unfold matchIssue
  (try dsimp only)
  repeat' first
    | with_reducible assumption
    | with_reducible apply keeps_issueRow
    | with_reducible apply keeps_sampleAndPlay
    | with_reducible apply keeps_waitOn
    | (intro _ _ _ _; try dsimp only)

theorem keeps_timeoutTo {a0 : State} {s : State} (h : Keeps a0 s) (k : Nat) (flag : Nat) : Keeps a0 (timeoutTo s k flag) := by
  unfold timeoutTo
  (try dsimp only)
  repeat' first
    | with_reducible assumption
    | with_reducible apply keeps_setFlag
    | with_reducible apply keeps_setSeq
    | with_reducible apply keeps_endBranch
    | split

theorem keeps_matchTimeout {a0 : State} {s : State} (h : Keeps a0 s)  : Keeps a0 (matchTimeout s) := by
  unfold matchTimeout
  repeat' first
    | with_reducible assumption
    | with_reducible apply keeps_timeoutTo

theorem keeps_syncw {a0 : State} {s : State} (h : Keeps a0 s) (io : Io) : Keeps a0 (syncw s io) := by
  unfold syncw
  (try dsimp only)
  repeat' first
    | with_reducible assumption
    | with_reducible apply Keeps.ite
    | with_reducible apply keeps_setSeq
    | with_reducible apply keeps_issueRow
    | with_reducible apply keeps_playOne
    | with_reducible apply keeps_waitOn
    | (intro _ _ _ _; try dsimp only)

theorem keeps_syncwTimeout {a0 : State} {s : State} (h : Keeps a0 s)  : Keeps a0 (syncwTimeout s) := by
  unfold syncwTimeout
  repeat' first
    | with_reducible assumption
    | with_reducible apply keeps_timeoutTo

theorem keeps_syncs {a0 : State} {s : State} (h : Keeps a0 s) (io : Io) : Keeps a0 (syncs s io) := by
  unfold syncs
  repeat' first
    | with_reducible assumption
    | with_reducible apply keeps_goNext
    | with_reducible apply keeps_issueRow
    | with_reducible apply keeps_playOne
    | with_reducible apply keeps_ringMark
    | (intro _ _ _ _; try dsimp only)

theorem keeps_hold {a0 : State} {s : State} (h : Keeps a0 s) (io : Io) : Keeps a0 (hold s io) := by
  unfold hold
  repeat' first
    | with_reducible assumption
    | with_reducible apply keeps_goAgain
    | with_reducible apply keeps_issueRow
    | with_reducible apply keeps_playOne
    | (intro _ _ _ _; try dsimp only)

theorem keeps_holdEnd {a0 : State} {s : State} (h : Keeps a0 s)  : Keeps a0 (holdEnd s) := by
  unfold holdEnd
  repeat' first
    | with_reducible assumption
    | with_reducible apply Keeps.ite
    | with_reducible apply keeps_goNext
    | split

theorem keeps_tset {a0 : State} {s : State} (h : Keeps a0 s) (io : Io) : Keeps a0 (tset s io) := by
  unfold tset
  repeat' first
    | with_reducible assumption
    | with_reducible apply keeps_goNext
    | with_reducible apply keeps_issueRow
    | with_reducible apply keeps_playOne
    | with_reducible apply keeps_tsetAction
    | (intro _ _ _ _; try dsimp only)

theorem keeps_mark {a0 : State} {s : State} (h : Keeps a0 s) (io : Io) : Keeps a0 (mark s io) := by
  unfold mark
  repeat' first
    | with_reducible assumption
    | with_reducible apply keeps_goNext
    | with_reducible apply keeps_issueRow
    | with_reducible apply keeps_markAction
    | with_reducible apply keeps_playOne
    | (intro _ _ _ _; try dsimp only)

theorem keeps_eye {a0 : State} {s : State} (h : Keeps a0 s) (act : Nat) (io : Io) : Keeps a0 (eye act s io) := by
  unfold eye
  repeat' first
    | with_reducible assumption
    | with_reducible apply keeps_eyeAction
    | with_reducible apply keeps_goNext
    | with_reducible apply keeps_issueRow
    | with_reducible apply keeps_playOne
    | (intro _ _ _ _; try dsimp only)

theorem keeps_halt {a0 : State} {s : State} (h : Keeps a0 s) (io : Io) : Keeps a0 (halt s io) := by
  unfold halt
  repeat' first
    | with_reducible assumption
    | with_reducible apply keeps_setNum
    | with_reducible apply keeps_endBurst
    | with_reducible apply keeps_issueRow
    | with_reducible apply keeps_playOne
    | (intro _ _ _ _; try dsimp only)

theorem keeps_fallOff {a0 : State} {s : State} (h : Keeps a0 s)  : Keeps a0 (fallOff s) := by
  unfold fallOff
  repeat' first
    | with_reducible assumption
    | with_reducible apply Keeps.ite
    | with_reducible apply keeps_fallOffEnd

theorem keeps_userOpcode {a0 : State} {s : State} (h : Keeps a0 s) (io : Io) : Keeps a0 (userOpcode s io) := by
  unfold userOpcode
  (try dsimp only)
  repeat' first
    | with_reducible assumption
    | with_reducible apply keeps_setUc
    | with_reducible apply keeps_issueRow
    | with_reducible apply keeps_streamWord
    | (intro _ _ _ _; try dsimp only)

theorem keeps_shadowGranule {a0 : State} {s : State} (h : Keeps a0 s) (io : Io) : Keeps a0 (shadowGranule s io) := by
  unfold shadowGranule
  (try dsimp only)
  repeat' first
    | with_reducible assumption
    | with_reducible apply Keeps.ite
    | with_reducible apply keeps_inc
    | with_reducible apply keeps_setUc
    | with_reducible apply keeps_streamWord
    | with_reducible apply keeps_ucDeath
    | with_reducible apply keeps_ucRead
    | split

theorem keeps_granuleFetch {a0 : State} {s : State} (h : Keeps a0 s) (n : Nat) (late : List Nat) (ups : List Upset) : Keeps a0 (granuleFetch s n late ups) := by
  unfold granuleFetch
  (try dsimp only)
  repeat' first
    | with_reducible assumption
    | with_reducible apply Keeps.ite
    | with_reducible apply keeps_applyUpset
    | with_reducible apply keeps_arrive
    | with_reducible apply keeps_fetchMany
    | with_reducible apply Keeps.foldl
    | with_reducible apply Keeps.foldl_fst
    | with_reducible apply Keeps.foldl_snd
    | intro _ _ _

theorem keeps_primingStart {a0 : State} {s : State} (h : Keeps a0 s)  : Keeps a0 (primingStart s) := by
  unfold primingStart
  repeat' first
    | with_reducible assumption
    | with_reducible apply Keeps.ite
    | with_reducible apply keeps_primeStart

theorem keeps_primingComplete {a0 : State} {s : State} (h : Keeps a0 s) (entry : Nat) (k : Nat) (ups : List Upset) : Keeps a0 (primingComplete s entry k ups) := by
  unfold primingComplete
  repeat' first
    | with_reducible assumption
    | with_reducible apply Keeps.ite
    | with_reducible apply keeps_applyUpset
    | with_reducible apply keeps_primeComplete
    | with_reducible apply Keeps.foldl
    | with_reducible apply Keeps.foldl_fst
    | with_reducible apply Keeps.foldl_snd
    | intro _ _ _

theorem keeps_jumpReserveFilled {a0 : State} {s : State} (h : Keeps a0 s) (ups : List Upset) : Keeps a0 (jumpReserveFilled s ups) := by
  unfold jumpReserveFilled
  repeat' first
    | with_reducible assumption
    | with_reducible apply Keeps.ite
    | with_reducible apply keeps_applyUpset
    | with_reducible apply keeps_reserveFill
    | with_reducible apply Keeps.foldl
    | with_reducible apply Keeps.foldl_fst
    | with_reducible apply Keeps.foldl_snd
    | intro _ _ _

theorem keeps_headReload {a0 : State} {s : State} (h : Keeps a0 s)  : Keeps a0 (headReload s) := by
  unfold headReload
  repeat' first
    | with_reducible assumption
    | with_reducible apply Keeps.ite
    | with_reducible apply keeps_reloadHeads

theorem keeps_dryWellRow {a0 s : State} (h : Keeps a0 s) : Keeps a0 (dryWellRow s) := by
  unfold dryWellRow
  split
  · exact h
  · split
    · exact h
    · split
      · rename_i e
        split at e
        · cases e
        · exact keeps_judgeDue h _ e
      · exact keeps_dryWell h ..

theorem keeps_trapTake {a0 : State} {s : State} (h : Keeps a0 s)  : Keeps a0 (trapTake s) := by
  unfold trapTake
  (try dsimp only)
  repeat' first
    | with_reducible assumption
    | with_reducible apply Keeps.ite
    | with_reducible apply keeps_setFlt
    | with_reducible apply keeps_setNum
    | with_reducible apply keeps_inc
    | with_reducible apply keeps_setBlob
    | with_reducible apply keeps_setSeq
    | with_reducible apply keeps_setUc

theorem keeps_setTrap {a0 : State} {s : State} (h : Keeps a0 s) (t : Trap) : Keeps a0 (setTrap s t) := by
  unfold setTrap
  (try dsimp only)
  repeat' first
    | with_reducible assumption
    | with_reducible apply keeps_setUc

theorem keeps_handlerDone {a0 : State} {s : State} (h : Keeps a0 s) (t : Trap) : Keeps a0 (handlerDone s t) := by
  unfold handlerDone
  repeat' first
    | with_reducible assumption
    | with_reducible apply keeps_setTrap

theorem keeps_vendorEffect {a0 : State} {s : State} (h : Keeps a0 s) (cause : Nat) : Keeps a0 (vendorEffect s cause) := by
  unfold vendorEffect
  repeat' first
    | with_reducible assumption
    | with_reducible apply Keeps.ite
    | with_reducible apply keeps_setFlag
    | with_reducible apply keeps_setBlob
    | with_reducible apply keeps_recordPosition
    | with_reducible apply keeps_timeSnap

theorem keeps_trapRead {a0 s : State} (h : Keeps a0 s) (uc a : Nat) (f : State → State)
    (hf : ∀ s, Keeps a0 s → Keeps a0 (f s)) : Keeps a0 (trapRead s uc a f) := by
  unfold trapRead
  exact (keeps_endBurst (keeps_ucBad h ..) ..).ite (hf _ (keeps_ucRead h ..))

theorem keeps_vendorWord {a0 : State} {s : State} (h : Keeps a0 s) (t : Trap) (cause : Nat) : Keeps a0 (vendorWord s t cause) := by
  unfold vendorWord
  repeat' first
    | with_reducible assumption
    | with_reducible apply Keeps.ite
    | with_reducible apply keeps_handlerDone
    | with_reducible apply keeps_setTrap
    | with_reducible apply keeps_vendorEffect

theorem keeps_userWord {a0 : State} {s : State} (h : Keeps a0 s) (t : Trap) : Keeps a0 (userWord s t) := by
  unfold userWord
  (try dsimp only)
  repeat' first
    | with_reducible assumption
    | with_reducible apply Keeps.ite
    | with_reducible apply keeps_setNum
    | with_reducible apply keeps_inc
    | with_reducible apply keeps_setFlag
    | with_reducible apply keeps_aluStep
    | with_reducible apply keeps_handlerDone
    | with_reducible apply keeps_linkStep
    | with_reducible apply keeps_programError
    | with_reducible apply keeps_ringOpStep
    | with_reducible apply keeps_setTrap

theorem keeps_trapStep {a0 s : State} (h : Keeps a0 s) (uc : Nat) (t : Trap) : Keeps a0 (trapStep s uc t) := by
  unfold trapStep
  repeat' first
    | with_reducible assumption
    | with_reducible apply Keeps.ite
    | with_reducible apply keeps_setTrap
    | with_reducible apply keeps_fenceWaited
    | with_reducible apply keeps_setFlt
    | with_reducible apply keeps_setUc
    | exact keeps_trapRead h _ _ _ (fun _ g => keeps_userWord g _)
    | exact keeps_trapRead h _ _ _ (fun _ g => keeps_vendorWord g _ _)
    | split

theorem keeps_trapHalt {a0 : State} {s : State} (h : Keeps a0 s)  : Keeps a0 (trapHalt s) := by
  unfold trapHalt
  repeat' first
    | with_reducible assumption
    | with_reducible apply Keeps.ite
    | with_reducible apply keeps_endBurst
    | split

theorem keeps_trapCycle {a0 : State} {s : State} (h : Keeps a0 s) (io : Io) (g : Granule) (t : Trap) : Keeps a0 (trapCycle s io g t) := by
  unfold trapCycle
  (try dsimp only)
  repeat' first
    | with_reducible assumption
    | with_reducible apply keeps_add
    | with_reducible apply keeps_setSeq
    | with_reducible apply keeps_capOpen
    | with_reducible apply keeps_capPrune
    | with_reducible apply keeps_countersCycle
    | with_reducible apply keeps_cycleBegin
    | with_reducible apply keeps_playAll
    | with_reducible apply keeps_trapHalt
    | with_reducible apply keeps_trapStep

theorem keeps_trapRun {a0 s : State} (h : Keeps a0 s) (n : Nat) (ios : List Io) : Keeps a0 (trapRun n ios s) := by
  induction n generalizing ios s with
  | zero => exact h
  | succ n ih =>
    simp only [trapRun]
    split
    · split
      · exact h
      · exact ih (keeps_trapCycle h ..) _
    · exact h

theorem keeps_trapResume {a0 : State} {s : State} (h : Keeps a0 s) (ios : List Io) : Keeps a0 (trapResume s ios) := by
  unfold trapResume
  repeat' first
    | with_reducible assumption
    | with_reducible apply keeps_trapRun

theorem keeps_trapOverrun {a0 : State} {s : State} (h : Keeps a0 s)  : Keeps a0 (trapOverrun s) := by
  unfold trapOverrun
  repeat' first
    | with_reducible assumption
    | with_reducible apply Keeps.ite
    | with_reducible apply keeps_inc
    | with_reducible apply keeps_setFlag
    | with_reducible apply keeps_handlerDone
    | with_reducible apply keeps_trapHalt
    | split

theorem keeps_trapTaken {a0 : State} {s : State} (h : Keeps a0 s) (ios : List Io) : Keeps a0 (trapTaken s ios) := by
  unfold trapTaken
  repeat' first
    | with_reducible assumption
    | with_reducible apply Keeps.ite
    | with_reducible apply keeps_trapRun
    | with_reducible apply keeps_trapTake

theorem keeps_deferOverrun {a0 : State} {s : State} (h : Keeps a0 s) (ios : List Io) : Keeps a0 (deferOverrun s ios) := by
  unfold deferOverrun
  (try dsimp only)
  repeat' first
    | with_reducible assumption
    | with_reducible apply Keeps.ite
    | with_reducible apply keeps_inc
    | with_reducible apply keeps_setUc
    | with_reducible apply keeps_trapTaken

theorem keeps_snapCmd {a0 : State} {s : State} (h : Keeps a0 s)  : Keeps a0 (snapCmd s) := by
  unfold snapCmd
  repeat' first
    | with_reducible assumption
    | with_reducible apply Keeps.ite
    | with_reducible apply keeps_setFlag
    | with_reducible apply keeps_snapNow

theorem keeps_userCmd {a0 : State} {s : State} (h : Keeps a0 s)  : Keeps a0 (userCmd s) := by
  unfold userCmd
  (try dsimp only)
  repeat' first
    | with_reducible assumption
    | with_reducible apply Keeps.ite
    | with_reducible apply keeps_setFlag
    | with_reducible apply keeps_setUc

theorem keeps_scrubRead {a0 : State} {s : State} (h : Keeps a0 s) (outcome : Nat) : Keeps a0 (scrubRead s outcome) := by
  unfold scrubRead
  (try dsimp only)
  repeat' first
    | with_reducible assumption
    | with_reducible apply Keeps.ite
    | with_reducible apply keeps_inc
    | with_reducible apply keeps_setUc
    | with_reducible apply keeps_clearReady
    | with_reducible apply keeps_ucBad

theorem keeps_ucRewritten {a0 : State} {s : State} (h : Keeps a0 s) (p : Nat → Bool) : Keeps a0 (ucRewritten s p) := by
  unfold ucRewritten
  (try dsimp only)
  repeat' first
    | with_reducible assumption
    | with_reducible apply Keeps.ite
    | with_reducible apply keeps_setUc
    | with_reducible apply keeps_setReady

theorem keeps_custClear {a0 : State} {s : State} (h : Keeps a0 s)  : Keeps a0 (custClear s) := by
  unfold custClear
  (try dsimp only)
  repeat' first
    | with_reducible assumption
    | with_reducible apply keeps_setNum
    | with_reducible apply keeps_setUc
    | with_reducible apply keeps_ucRewritten

theorem keeps_custLoad {a0 : State} {s : State} (h : Keeps a0 s)  : Keeps a0 (custLoad s).2 := by
  unfold custLoad
  (try dsimp only)
  repeat' first
    | with_reducible assumption
    | with_reducible apply Keeps.ite
    | with_reducible apply keeps_setNum
    | with_reducible apply keeps_setUc
    | with_reducible apply keeps_custClear
    | split

theorem keeps_patchApply {a0 : State} {s : State} (h : Keeps a0 s) (d : Bytes) (r : Assoc Nat × Assoc Nat) : Keeps a0 (patchApply s d r) := by
  unfold patchApply
  (try dsimp only)
  repeat' first
    | with_reducible assumption
    | with_reducible apply keeps_setNums
    | with_reducible apply keeps_setUc

theorem keeps_patchFailed {a0 : State} {s : State} (h : Keeps a0 s) (c : Nat) : Keeps a0 (patchFailed s c) := by
  unfold patchFailed
  repeat' first
    | with_reducible assumption
    | with_reducible apply Keeps.ite
    | with_reducible apply keeps_setNum
    | with_reducible apply keeps_raise

theorem keeps_patchLoad {a0 : State} {s : State} (h : Keeps a0 s) (bad : Nat) : Keeps a0 (patchLoad s bad) := by
  unfold patchLoad
  (try dsimp only)
  repeat' first
    | with_reducible assumption
    | with_reducible apply Keeps.ite
    | with_reducible apply keeps_setNum
    | with_reducible apply keeps_setUc
    | with_reducible apply keeps_patchApply
    | with_reducible apply keeps_patchFailed
    | split

theorem keeps_patchInstall {a0 : State} {s : State} (h : Keeps a0 s)  : Keeps a0 (patchInstall s) := by
  unfold patchInstall
  (try dsimp only)
  repeat' first
    | with_reducible assumption
    | with_reducible apply keeps_setFlag
    | with_reducible apply keeps_setTrust

theorem keeps_patchInstallDone {a0 : State} {s : State} (h : Keeps a0 s) (bad : Nat) : Keeps a0 (patchInstallDone s bad) := by
  unfold patchInstallDone
  (try dsimp only)
  repeat' first
    | with_reducible assumption
    | with_reducible apply Keeps.ite
    | with_reducible apply keeps_setNum
    | with_reducible apply keeps_setFlag
    | with_reducible apply keeps_setTrust
    | split

theorem keeps_runRequest {a0 : State} {s : State} (h : Keeps a0 s)  : Keeps a0 (runRequest s).2 := by
  unfold runRequest
  (try dsimp only)
  repeat' first
    | with_reducible assumption
    | with_reducible apply Keeps.ite
    | with_reducible apply keeps_setNum
    | with_reducible apply keeps_inc
    | with_reducible apply keeps_setSeq
    | with_reducible apply keeps_enablePowered
    | with_reducible apply Keeps.foldl
    | with_reducible apply Keeps.foldl_fst
    | with_reducible apply Keeps.foldl_snd
    | intro _ _ _
    | split

theorem keeps_hostHalt {a0 : State} {s : State} (h : Keeps a0 s)  : Keeps a0 (hostHalt s) := by
  unfold hostHalt
  repeat' first
    | with_reducible assumption
    | with_reducible apply keeps_haltLatch

theorem keeps_jumpRequest {a0 : State} {s : State} (h : Keeps a0 s) (entry : Nat) (ring : Bool) : Keeps a0 (jumpRequest s entry ring).2 := by
  unfold jumpRequest
  (try dsimp only)
  repeat' first
    | with_reducible assumption
    | with_reducible apply Keeps.ite
    | with_reducible apply keeps_inc
    | with_reducible apply keeps_setSeq
    | with_reducible apply keeps_reserveStart
    | split

theorem keeps_refuseRun {a0 : State} {s : State} (h : Keeps a0 s) (cause : Nat) : Keeps a0 (refuseRun s cause) := by
  unfold refuseRun
  repeat' first
    | with_reducible assumption
    | with_reducible apply keeps_setNums
    | with_reducible apply keeps_evBurst

theorem keeps_checkCistern {a0 : State} {s : State} (h : Keeps a0 s)  : Keeps a0 (checkCistern s) := by
  unfold checkCistern
  (try dsimp only)
  repeat' first
    | with_reducible assumption
    | with_reducible apply Keeps.ite
    | with_reducible apply keeps_setCis
    | with_reducible apply keeps_setFlag

theorem keeps_loadingHeads {a0 : State} {s : State} (h : Keeps a0 s)  : Keeps a0 (loadingHeads s) := by
  unfold loadingHeads
  (try dsimp only)
  repeat' first
    | with_reducible assumption
    | with_reducible apply keeps_setSeq
    | with_reducible apply keeps_loadHead
    | with_reducible apply keeps_reportHeads
    | with_reducible apply Keeps.foldl
    | with_reducible apply Keeps.foldl_fst
    | with_reducible apply Keeps.foldl_snd
    | intro _ _ _

theorem keeps_loadingFill {a0 : State} {s : State} (h : Keeps a0 s) (u : Option (Nat × Nat × Nat)) : Keeps a0 (loadingFill s u) := by
  unfold loadingFill
  (try dsimp only)
  repeat' first
    | with_reducible assumption
    | with_reducible apply keeps_setSeq
    | with_reducible apply keeps_fetchMany
    | with_reducible apply keeps_primeComplete
    | with_reducible apply keeps_primeStart
    | with_reducible apply Keeps.foldl
    | with_reducible apply Keeps.foldl_fst
    | with_reducible apply Keeps.foldl_snd
    | intro _ _ _

theorem keeps_loadingBegin {a0 : State} {s : State} (h : Keeps a0 s) (ups : List Upset) : Keeps a0 (loadingBegin s ups) := by
  unfold loadingBegin
  (try dsimp only)
  repeat' first
    | with_reducible assumption
    | with_reducible apply Keeps.ite
    | with_reducible apply keeps_setNum
    | with_reducible apply keeps_setNums
    | with_reducible apply keeps_setSeq
    | with_reducible apply keeps_applyUpset
    | with_reducible apply keeps_checkCistern
    | with_reducible apply keeps_loadingFill
    | with_reducible apply keeps_loadingHeads
    | with_reducible apply keeps_memUE
    | with_reducible apply keeps_refuseRun
    | with_reducible apply Keeps.foldl
    | with_reducible apply Keeps.foldl_fst
    | with_reducible apply Keeps.foldl_snd
    | intro _ _ _
    | split

theorem keeps_countersFirst {a0 : State} {s : State} (h : Keeps a0 s) (c : Nat) : Keeps a0 (countersFirst s c) := by
  unfold countersFirst
  (try dsimp only)
  repeat' first
    | with_reducible assumption
    | with_reducible apply Keeps.ite
    | with_reducible apply keeps_setNums

theorem keeps_captureFirst {a0 : State} {s : State} (h : Keeps a0 s)  : Keeps a0 (captureFirst s) := by
  unfold captureFirst
  (try dsimp only)
  repeat' first
    | with_reducible assumption
    | with_reducible apply Keeps.ite
    | with_reducible apply keeps_setCis
    | with_reducible apply keeps_setNums

theorem keeps_firstIssue {a0 : State} {s : State} (h : Keeps a0 s) (at_ : Int) : Keeps a0 (firstIssue s at_) := by
  unfold firstIssue
  (try dsimp only)
  repeat' first
    | with_reducible assumption
    | with_reducible apply keeps_setTb
    | with_reducible apply keeps_setNums
    | with_reducible apply keeps_evBurst
    | with_reducible apply keeps_setSeq
    | with_reducible apply keeps_setUc
    | with_reducible apply keeps_setChan
    | with_reducible apply keeps_captureFirst
    | with_reducible apply keeps_countersFirst
    | with_reducible apply keeps_whReport
    | with_reducible apply Keeps.foldl
    | with_reducible apply Keeps.foldl_fst
    | with_reducible apply Keeps.foldl_snd
    | intro _ _ _

theorem keeps_loadingComplete {a0 : State} {s : State} (h : Keeps a0 s)  : Keeps a0 (loadingComplete s) := by
  unfold loadingComplete
  repeat' first
    | with_reducible assumption
    | with_reducible apply Keeps.ite
    | with_reducible apply keeps_setNum
    | with_reducible apply keeps_evBurst
    | with_reducible apply keeps_firstIssue

theorem keeps_drainingEnd {a0 : State} {s : State} (h : Keeps a0 s)  : Keeps a0 (drainingEnd s) := by
  unfold drainingEnd
  repeat' first
    | with_reducible assumption
    | with_reducible apply Keeps.ite
    | with_reducible apply keeps_setNum
    | with_reducible apply keeps_evBurst

theorem keeps_captureLost {a0 : State} {s : State} (h : Keeps a0 s) (path : Bool) : Keeps a0 (captureLost s path) := by
  unfold captureLost
  (try dsimp only)
  repeat' first
    | with_reducible assumption
    | with_reducible apply Keeps.ite
    | with_reducible apply keeps_setCis
    | with_reducible apply keeps_setNum
    | with_reducible apply keeps_captureDone
    | with_reducible apply keeps_summaryStore

theorem keeps_domainLoss {a0 : State} {s : State} (h : Keeps a0 s)  : Keeps a0 (domainLoss s) := by
  unfold domainLoss
  (try dsimp only)
  repeat' first
    | with_reducible assumption
    | with_reducible apply Keeps.ite
    | with_reducible apply keeps_setNum
    | with_reducible apply keeps_evBurst
    | with_reducible apply keeps_burstOver
    | with_reducible apply keeps_captureLost

theorem keeps_domOff {a0 : State} {s : State} (h : Keeps a0 s) (d : Nat) : Keeps a0 (domOff s d) := by
  unfold domOff
  (try dsimp only)
  repeat' first
    | with_reducible assumption
    | with_reducible apply Keeps.ite
    | with_reducible apply keeps_domDown
    | with_reducible apply keeps_domainLoss

theorem keeps_domainLossRow {a0 : State} {s : State} (h : Keeps a0 s) (d : Nat) : Keeps a0 (domainLossRow s d) := by
  unfold domainLossRow
  (try dsimp only)
  repeat' first
    | with_reducible assumption
    | with_reducible apply Keeps.ite
    | with_reducible apply keeps_setNum
    | with_reducible apply keeps_clearReady
    | with_reducible apply keeps_domOff
    | with_reducible apply keeps_domainLoss

end Sys2Proof.Machine
end

