-- ==== Sys2Proof/Laws/KeepsUnits.lean ====
section
/-! SUPPORT. What the operations keep (see Keeps): the units: pins, time, calibration, the ring, the pump, memory, power, faults and trust. One lemma for each. -/

namespace Sys2Proof.Machine

theorem keeps_checkerLock {a0 : State} {s : State} (h : Keeps a0 s) (c : Nat) : Keeps a0 (checkerLock s c) := by
  unfold checkerLock
  (try dsimp only)
  repeat' first
    | with_reducible assumption
    | with_reducible apply Keeps.ite
    | with_reducible apply keeps_setChan

theorem keeps_checkerRelock {a0 : State} {s : State} (h : Keeps a0 s) (c : Nat) : Keeps a0 (checkerRelock s c) := by
  unfold checkerRelock
  (try dsimp only)
  repeat' first
    | with_reducible assumption
    | with_reducible apply Keeps.ite
    | with_reducible apply keeps_inc
    | with_reducible apply keeps_setChan

theorem keeps_listenStart {a0 : State} {s : State} (h : Keeps a0 s) (t : Nat) : Keeps a0 (listenStart s t) := by
  unfold listenStart
  repeat' first
    | with_reducible assumption
    | with_reducible apply keeps_setFlag

theorem keeps_chanListen {a0 : State} {s : State} (h : Keeps a0 s) (c : Nat) : Keeps a0 (chanListen s c) := by
  unfold chanListen
  (try dsimp only)
  repeat' first
    | with_reducible assumption
    | with_reducible apply Keeps.ite
    | with_reducible apply keeps_setSlow
    | with_reducible apply keeps_setChan
    | with_reducible apply keeps_tmuIdle

theorem keeps_listenEntered {a0 : State} {s : State} (h : Keeps a0 s) (t : Nat) : Keeps a0 (listenEntered s t) := by
  unfold listenEntered
  (try dsimp only)
  repeat' first
    | with_reducible assumption
    | with_reducible apply Keeps.ite
    | with_reducible apply keeps_setSlow
    | with_reducible apply keeps_setNums
    | with_reducible apply keeps_setFlag
    | with_reducible apply keeps_chanListen
    | with_reducible apply keeps_clearReady
    | with_reducible apply keeps_setDom
    | with_reducible apply Keeps.foldl
    | with_reducible apply Keeps.foldl_fst
    | with_reducible apply Keeps.foldl_snd
    | intro _ _ _

theorem keeps_wakeTile {a0 : State} {s : State} (h : Keeps a0 s) (t : Nat) (lanes : List Nat) : Keeps a0 (wakeTile s t lanes) := by
  unfold wakeTile
  (try dsimp only)
  repeat' first
    | with_reducible assumption
    | with_reducible apply keeps_setNums
    | with_reducible apply keeps_inc
    | with_reducible apply keeps_setFlag
    | with_reducible apply keeps_raise
    | with_reducible apply keeps_setDom
    | with_reducible apply Keeps.foldl
    | with_reducible apply Keeps.foldl_fst
    | with_reducible apply Keeps.foldl_snd
    | intro _ _ _

theorem keeps_padSet {a0 : State} {s : State} (h : Keeps a0 s) (c : Nat) (v : Pad) : Keeps a0 (padSet s c v) := by
  unfold padSet
  (try dsimp only)
  repeat' first
    | with_reducible assumption
    | with_reducible apply Keeps.ite
    | with_reducible apply keeps_setChan
    | with_reducible apply keeps_senseVs

theorem keeps_wakeEvent {a0 : State} {s : State} (h : Keeps a0 s) (t : Nat) (inputs : List (Nat × Pad)) : Keeps a0 (wakeEvent s t inputs) := by
  unfold wakeEvent
  (try dsimp only)
  repeat' first
    | with_reducible assumption
    | with_reducible apply Keeps.ite
    | with_reducible apply keeps_padSet
    | with_reducible apply keeps_wakeTile
    | with_reducible apply Keeps.foldl
    | with_reducible apply Keeps.foldl_fst
    | with_reducible apply Keeps.foldl_snd
    | intro _ _ _

theorem keeps_padMoves {a0 : State} {s : State} (h : Keeps a0 s) (c : Nat) (v : Pad) (t : Int) : Keeps a0 (padMoves s c v t) := by
  unfold padMoves
  repeat' first
    | with_reducible assumption
    | with_reducible apply Keeps.ite
    | with_reducible apply keeps_laneMoves
    | with_reducible apply keeps_padSet
    | with_reducible apply keeps_wakeEvent

theorem keeps_comparatorValid {a0 : State} {s : State} (h : Keeps a0 s) (c : Nat) (v : Pad) : Keeps a0 (comparatorValid s c v) := by
  unfold comparatorValid
  repeat' first
    | with_reducible assumption
    | with_reducible apply keeps_padMoves

theorem keeps_attentionEvent {a0 : State} {s : State} (h : Keeps a0 s) (c : Nat) (v : Pad) : Keeps a0 (attentionEvent s c v) := by
  unfold attentionEvent
  repeat' first
    | with_reducible assumption
    | with_reducible apply keeps_padMoves

theorem keeps_tmuEdge {a0 : State} {s : State} (h : Keeps a0 s) (c : Nat) (edge : Nat) (dt : Nat) (v : Pad) : Keeps a0 (tmuEdge s c edge dt v) := by
  unfold tmuEdge
  repeat' first
    | with_reducible assumption
    | with_reducible apply Keeps.ite
    | with_reducible apply keeps_padMoves

theorem keeps_wakeCmd {a0 : State} {s : State} (h : Keeps a0 s) (t : Nat) : Keeps a0 (wakeCmd s t) := by
  unfold wakeCmd
  repeat' first
    | with_reducible assumption
    | with_reducible apply Keeps.ite
    | with_reducible apply keeps_setFlag
    | with_reducible apply keeps_wakeTile

theorem keeps_chanReady {a0 : State} {s : State} (h : Keeps a0 s) (c : Nat) : Keeps a0 (chanReady s c) := by
  unfold chanReady
  (try dsimp only)
  repeat' first
    | with_reducible assumption
    | with_reducible apply Keeps.ite
    | with_reducible apply keeps_setChan
    | with_reducible apply keeps_enableCmp

theorem keeps_tileUp {a0 : State} {s : State} (h : Keeps a0 s) (t : Nat) : Keeps a0 (tileUp s t) := by
  unfold tileUp
  (try dsimp only)
  repeat' first
    | with_reducible assumption
    | with_reducible apply keeps_setSlow
    | with_reducible apply keeps_setNum
    | with_reducible apply keeps_chanReady
    | with_reducible apply keeps_setDom
    | with_reducible apply keeps_setReady
    | with_reducible apply Keeps.foldl
    | with_reducible apply Keeps.foldl_fst
    | with_reducible apply Keeps.foldl_snd
    | intro _ _ _

theorem keeps_tileAwake {a0 : State} {s : State} (h : Keeps a0 s) (t : Nat) : Keeps a0 (tileAwake s t) := by
  unfold tileAwake
  repeat' first
    | with_reducible assumption
    | with_reducible apply Keeps.ite
    | with_reducible apply keeps_setFlag
    | with_reducible apply keeps_tileUp

theorem keeps_selfCheckStart {a0 : State} {s : State} (h : Keeps a0 s) (c : Nat) : Keeps a0 (selfCheckStart s c) := by
  unfold selfCheckStart
  (try dsimp only)
  repeat' first
    | with_reducible assumption
    | with_reducible apply keeps_setSlow
    | with_reducible apply keeps_setNums
    | with_reducible apply keeps_setChan

theorem keeps_selfCheckDone {a0 : State} {s : State} (h : Keeps a0 s) (c : Nat) (m : SelfTest) : Keeps a0 (selfCheckDone s c m) := by
  unfold selfCheckDone
  (try dsimp only)
  repeat' first
    | with_reducible assumption
    | with_reducible apply Keeps.ite
    | with_reducible apply keeps_setSlow
    | with_reducible apply keeps_setNums
    | with_reducible apply keeps_setChan
    | with_reducible apply keeps_enableCmp

theorem keeps_convStart {a0 : State} {s : State} (h : Keeps a0 s) (t : Nat) : Keeps a0 (convStart s t) := by
  unfold convStart
  (try dsimp only)
  repeat' first
    | with_reducible assumption
    | with_reducible apply keeps_setSlow
    | with_reducible apply keeps_setNum
    | with_reducible apply keeps_setFlag

theorem keeps_convDone {a0 : State} {s : State} (h : Keeps a0 s) (t : Nat) (vs : List Int) : Keeps a0 (convDone s t vs) := by
  unfold convDone
  (try dsimp only)
  repeat' first
    | with_reducible assumption
    | with_reducible apply keeps_setSlow
    | with_reducible apply keeps_setNums
    | with_reducible apply keeps_setFlag
    | split

theorem keeps_tileFailure {a0 : State} {s : State} (h : Keeps a0 s) (t : Nat) (link : Bool) : Keeps a0 (tileFailure s t link) := by
  unfold tileFailure
  (try dsimp only)
  repeat' first
    | with_reducible assumption
    | with_reducible apply Keeps.ite
    | with_reducible apply keeps_setNum
    | with_reducible apply keeps_setFlag
    | with_reducible apply keeps_raise
    | with_reducible apply keeps_clearReady
    | with_reducible apply keeps_parkPin
    | with_reducible apply keeps_setDom
    | with_reducible apply Keeps.foldl
    | with_reducible apply Keeps.foldl_fst
    | with_reducible apply Keeps.foldl_snd
    | intro _ _ _

theorem keeps_currentLimit {a0 : State} {s : State} (h : Keeps a0 s) (c : Nat) : Keeps a0 (currentLimit s c) := by
  unfold currentLimit
  repeat' first
    | with_reducible assumption
    | with_reducible apply Keeps.ite
    | with_reducible apply keeps_raise

theorem keeps_tickLocked {a0 : State} {s : State} (h : Keeps a0 s)  : Keeps a0 (tickLocked s) := by
  unfold tickLocked
  (try dsimp only)
  repeat' first
    | with_reducible assumption
    | with_reducible apply Keeps.ite
    | with_reducible apply keeps_setSlow
    | with_reducible apply keeps_setTb
    | with_reducible apply keeps_setNum
    | with_reducible apply keeps_deskewAll
    | with_reducible apply keeps_setDom
    | with_reducible apply keeps_setReady

theorem keeps_tickTry {a0 : State} {s : State} (h : Keeps a0 s)  : Keeps a0 (tickTry s) := by
  unfold tickTry
  repeat' first
    | with_reducible assumption
    | with_reducible apply Keeps.ite
    | with_reducible apply keeps_tickLocked

theorem keeps_tickWrite {a0 : State} {s : State} (h : Keeps a0 s) (m : Nat) : Keeps a0 (tickWrite s m) := by
  unfold tickWrite
  (try dsimp only)
  repeat' first
    | with_reducible assumption
    | with_reducible apply Keeps.ite
    | with_reducible apply keeps_setTb
    | with_reducible apply keeps_setNum
    | with_reducible apply keeps_setNums
    | with_reducible apply keeps_inc
    | with_reducible apply keeps_clearReady

theorem keeps_synthLock {a0 : State} {s : State} (h : Keeps a0 s)  : Keeps a0 (synthLock s) := by
  unfold synthLock
  (try dsimp only)
  repeat' first
    | with_reducible assumption
    | with_reducible apply Keeps.ite
    | with_reducible apply keeps_setTb
    | with_reducible apply keeps_setNum
    | with_reducible apply keeps_tickTry

theorem keeps_pllLock {a0 : State} {s : State} (h : Keeps a0 s) (t : Nat) : Keeps a0 (pllLock s t) := by
  unfold pllLock
  (try dsimp only)
  repeat' first
    | with_reducible assumption
    | with_reducible apply Keeps.ite
    | with_reducible apply keeps_setTb
    | with_reducible apply keeps_tickTry

theorem keeps_tickHoldover {a0 : State} {s : State} (h : Keeps a0 s)  : Keeps a0 (tickHoldover s) := by
  unfold tickHoldover
  repeat' first
    | with_reducible assumption
    | with_reducible apply Keeps.ite
    | with_reducible apply keeps_setNum
    | with_reducible apply keeps_inc
    | with_reducible apply keeps_raise
    | with_reducible apply keeps_clearReady

theorem keeps_holdoverRelock {a0 : State} {s : State} (h : Keeps a0 s)  : Keeps a0 (holdoverRelock s) := by
  unfold holdoverRelock
  repeat' first
    | with_reducible assumption
    | with_reducible apply Keeps.ite
    | with_reducible apply keeps_tickLocked

theorem keeps_setPending {a0 : State} {s : State} (h : Keeps a0 s) (c : Nat) (x : Trims) : Keeps a0 (setPending s c x) := by
  unfold setPending
  (try dsimp only)
  repeat' first
    | with_reducible assumption
    | with_reducible apply Keeps.ite
    | with_reducible apply keeps_setNum
    | with_reducible apply keeps_setCal

theorem keeps_applyTrims {a0 : State} {s : State} (h : Keeps a0 s) (p : Nat × Trims) : Keeps a0 (applyTrims s p) := by
  unfold applyTrims
  (try dsimp only)
  repeat' first
    | with_reducible assumption
    | with_reducible apply keeps_setNums
    | with_reducible apply keeps_setBlob

theorem keeps_trimApply {a0 : State} {s : State} (h : Keeps a0 s)  : Keeps a0 (trimApply s) := by
  unfold trimApply
  (try dsimp only)
  repeat' first
    | with_reducible assumption
    | with_reducible apply Keeps.ite
    | with_reducible apply keeps_setBlob
    | with_reducible apply keeps_setCal
    | with_reducible apply keeps_applyTrims
    | with_reducible apply Keeps.foldl
    | with_reducible apply Keeps.foldl_fst
    | with_reducible apply Keeps.foldl_snd
    | intro _ _ _

theorem keeps_noteUnsaved {a0 : State} {s : State} (h : Keeps a0 s)  : Keeps a0 (noteUnsaved s) := by
  unfold noteUnsaved
  repeat' first
    | with_reducible assumption
    | with_reducible apply keeps_setFlag

theorem keeps_loadBases {a0 : State} {s : State} (h : Keeps a0 s) (d : Bytes) : Keeps a0 (loadBases s d) := by
  unfold loadBases
  (try dsimp only)
  repeat' first
    | with_reducible assumption
    | with_reducible apply keeps_setNum
    | with_reducible apply keeps_setNums
    | with_reducible apply keeps_setCal
    | with_reducible apply keeps_setPending
    | with_reducible apply Keeps.foldl
    | with_reducible apply Keeps.foldl_fst
    | with_reducible apply Keeps.foldl_snd
    | intro _ _ _

theorem keeps_loadInitial {a0 : State} {s : State} (h : Keeps a0 s) (fac : Bytes) : Keeps a0 (loadInitial s fac) := by
  unfold loadInitial
  (try dsimp only)
  repeat' first
    | with_reducible assumption
    | with_reducible apply keeps_setCal
    | with_reducible apply keeps_setPending
    | with_reducible apply Keeps.foldl
    | with_reducible apply Keeps.foldl_fst
    | with_reducible apply Keeps.foldl_snd
    | intro _ _ _

theorem keeps_loadRecord {a0 : State} {s : State} (h : Keeps a0 s) (d : Bytes) (bank : Nat) : Keeps a0 (loadRecord s d bank) := by
  unfold loadRecord
  (try dsimp only)
  repeat' first
    | with_reducible assumption
    | with_reducible apply keeps_setNums
    | with_reducible apply keeps_setCal
    | with_reducible apply keeps_loadBases
    | with_reducible apply keeps_loadInitial
    | with_reducible apply keeps_noteUnsaved

theorem keeps_banksClassify {a0 : State} {s : State} (h : Keeps a0 s)  : Keeps a0 (banksClassify s) := by
  unfold banksClassify
  (try dsimp only)
  repeat' first
    | with_reducible assumption
    | with_reducible apply Keeps.ite
    | with_reducible apply keeps_setNum
    | with_reducible apply keeps_setNums
    | with_reducible apply keeps_setFlag
    | with_reducible apply keeps_evCal
    | with_reducible apply keeps_raise
    | with_reducible apply keeps_setCal
    | with_reducible apply keeps_loadRecord

theorem keeps_calSelf {a0 : State} {s : State} (h : Keeps a0 s)  : Keeps a0 (calSelf s) := by
  unfold calSelf
  (try dsimp only)
  repeat' first
    | with_reducible assumption
    | with_reducible apply Keeps.ite
    | with_reducible apply keeps_setNum
    | with_reducible apply keeps_setNums
    | with_reducible apply keeps_setCal
    | with_reducible apply keeps_calFinish
    | with_reducible apply keeps_calNext
    | with_reducible apply Keeps.foldl
    | with_reducible apply Keeps.foldl_fst
    | with_reducible apply Keeps.foldl_snd
    | intro _ _ _

theorem keeps_calTile {a0 : State} {s : State} (h : Keeps a0 s) (t : Nat) : Keeps a0 (calTile s t) := by
  unfold calTile
  (try dsimp only)
  repeat' first
    | with_reducible assumption
    | with_reducible apply keeps_setCal
    | with_reducible apply keeps_calNext

theorem keeps_calAbort {a0 : State} {s : State} (h : Keeps a0 s)  : Keeps a0 (calAbort s) := by
  unfold calAbort
  (try dsimp only)
  repeat' first
    | with_reducible assumption
    | with_reducible apply Keeps.ite
    | with_reducible apply keeps_setNums
    | with_reducible apply keeps_setCal
    | with_reducible apply keeps_calEnd
    | with_reducible apply Keeps.foldl
    | with_reducible apply Keeps.foldl_fst
    | with_reducible apply Keeps.foldl_snd
    | intro _ _ _

theorem keeps_piResult {a0 : State} {s : State} (h : Keeps a0 s) (t : Nat) (d : Bytes) : Keeps a0 (piResult s t d) := by
  unfold piResult
  (try dsimp only)
  repeat' first
    | with_reducible assumption
    | with_reducible apply Keeps.ite
    | with_reducible apply keeps_setFlag
    | with_reducible apply keeps_evCal
    | with_reducible apply keeps_raise
    | with_reducible apply keeps_setCal

theorem keeps_channelCal {a0 : State} {s : State} (h : Keeps a0 s) (c : Nat) (r : CalResult) : Keeps a0 (channelCal s c r) := by
  unfold channelCal
  (try dsimp only)
  repeat' first
    | with_reducible assumption
    | with_reducible apply Keeps.ite
    | with_reducible apply keeps_setNum
    | with_reducible apply keeps_setFlag
    | with_reducible apply keeps_evCal
    | with_reducible apply keeps_raise
    | with_reducible apply keeps_setCal
    | with_reducible apply keeps_calEnd
    | with_reducible apply keeps_piResult
    | with_reducible apply keeps_setPending
    | split

theorem keeps_calBusyAbort {a0 : State} {s : State} (h : Keeps a0 s) (c : Nat) : Keeps a0 (calBusyAbort s c) := by
  unfold calBusyAbort
  repeat' first
    | with_reducible assumption
    | with_reducible apply Keeps.ite
    | with_reducible apply keeps_inc
    | with_reducible apply keeps_setFlag
    | with_reducible apply keeps_evCal
    | with_reducible apply keeps_calEnd

theorem keeps_baseWrite {a0 : State} {s : State} (h : Keeps a0 s) (c : Nat) (which : Nat) (v : Int) : Keeps a0 (baseWrite s c which v) := by
  unfold baseWrite
  (try dsimp only)
  repeat' first
    | with_reducible assumption
    | with_reducible apply Keeps.ite
    | with_reducible apply keeps_setNum
    | with_reducible apply keeps_setCal
    | with_reducible apply keeps_noteUnsaved
    | with_reducible apply keeps_setPending

theorem keeps_vrefWrite {a0 : State} {s : State} (h : Keeps a0 s) (t : Nat) (v : Nat) : Keeps a0 (vrefWrite s t v) := by
  unfold vrefWrite
  repeat' first
    | with_reducible assumption
    | with_reducible apply keeps_setNum
    | with_reducible apply keeps_noteUnsaved

theorem keeps_calReload {a0 : State} {s : State} (h : Keeps a0 s)  : Keeps a0 (calReload s) := by
  unfold calReload
  (try dsimp only)
  repeat' first
    | with_reducible assumption
    | with_reducible apply keeps_setNums
    | with_reducible apply keeps_loadBases
    | with_reducible apply keeps_noteUnsaved

theorem keeps_storeStart {a0 : State} {s : State} (h : Keeps a0 s) (kind : Nat) : Keeps a0 (storeStart s kind) := by
  unfold storeStart
  (try dsimp only)
  repeat' first
    | with_reducible assumption
    | with_reducible apply Keeps.ite
    | with_reducible apply keeps_setNums
    | with_reducible apply keeps_setCal

theorem keeps_setBank {a0 : State} {s : State} (h : Keeps a0 s) (b : Nat) (d : Bytes) : Keeps a0 (setBank s b d) := by
  unfold setBank
  (try dsimp only)
  repeat' first
    | with_reducible assumption
    | with_reducible apply Keeps.ite
    | with_reducible apply keeps_setCal

theorem keeps_coreStops {a0 : State} {s : State} (h : Keeps a0 s)  : Keeps a0 (coreStops s) := by
  unfold coreStops
  (try dsimp only)
  repeat' first
    | with_reducible assumption
    | with_reducible apply keeps_setFlt
    | with_reducible apply keeps_setPwr

theorem keeps_storeComplete {a0 : State} {s : State} (h : Keeps a0 s) (ok : Bool) : Keeps a0 (storeComplete s ok) := by
  unfold storeComplete
  (try dsimp only)
  repeat' first
    | with_reducible assumption
    | with_reducible apply Keeps.ite
    | with_reducible apply keeps_setNums
    | with_reducible apply keeps_inc
    | with_reducible apply keeps_evCal
    | with_reducible apply keeps_raise
    | with_reducible apply keeps_setCal
    | with_reducible apply keeps_coreStops
    | with_reducible apply keeps_noteUnsaved
    | with_reducible apply keeps_setBank
    | split

theorem keeps_vholdMin {a0 : State} {s : State} (h : Keeps a0 s)  : Keeps a0 (vholdMin s) := by
  unfold vholdMin
  (try dsimp only)
  repeat' first
    | with_reducible assumption
    | with_reducible apply Keeps.ite
    | with_reducible apply keeps_setCal
    | with_reducible apply keeps_coreStops
    | with_reducible apply keeps_setBank

theorem keeps_holdRefresh {a0 : State} {s : State} (h : Keeps a0 s) (mv : Nat) : Keeps a0 (holdRefresh s mv) := by
  unfold holdRefresh
  (try dsimp only)
  repeat' first
    | with_reducible assumption
    | with_reducible apply keeps_setNum
    | with_reducible apply keeps_setFlag

theorem keeps_holdTest {a0 : State} {s : State} (h : Keeps a0 s) (fall : Nat) : Keeps a0 (holdTest s fall) := by
  unfold holdTest
  (try dsimp only)
  repeat' first
    | with_reducible assumption
    | with_reducible apply Keeps.ite
    | with_reducible apply keeps_setNum
    | with_reducible apply keeps_setFlag
    | with_reducible apply keeps_fresh
    | with_reducible apply keeps_setReady
    | split

theorem keeps_recordLost {a0 : State} {s : State} (h : Keeps a0 s)  : Keeps a0 (recordLost s) := by
  unfold recordLost
  repeat' first
    | with_reducible assumption
    | with_reducible apply keeps_add
    | with_reducible apply keeps_setFlag

theorem keeps_stepDown {a0 : State} {s : State} (h : Keeps a0 s) (issue : Nat) : Keeps a0 (stepDown s issue) := by
  unfold stepDown
  (try dsimp only)
  repeat' first
    | with_reducible assumption
    | with_reducible apply Keeps.ite
    | with_reducible apply keeps_setNums
    | with_reducible apply keeps_setFlag

theorem keeps_recordQueue {a0 : State} {s : State} (h : Keeps a0 s) (x : IssueCap) : Keeps a0 (recordQueue s x) := by
  unfold recordQueue
  (try dsimp only)
  repeat' first
    | with_reducible assumption
    | with_reducible apply Keeps.ite
    | with_reducible apply keeps_setCis
    | with_reducible apply keeps_add
    | with_reducible apply keeps_setFlag
    | with_reducible apply keeps_cqPut
    | with_reducible apply keeps_recordLost
    | with_reducible apply keeps_stepDown
    | split

theorem keeps_failRecord {a0 : State} {s : State} (h : Keeps a0 s)  : Keeps a0 (failRecord s) := by
  unfold failRecord
  (try dsimp only)
  repeat' first
    | with_reducible assumption
    | with_reducible apply Keeps.ite
    | with_reducible apply keeps_setCis
    | with_reducible apply keeps_recordQueue
    | split

theorem keeps_cisWrite {a0 : State} {acc : Bool × State} (h : Keeps a0 acc.2) (w : Nat × Bytes) :
    Keeps a0 (cisWrite acc w).2 := by
  unfold cisWrite
  split
  · exact keeps_memStore h ..
  · exact h

theorem keeps_recordInMemory {a0 : State} {s : State} (h : Keeps a0 s)  : Keeps a0 (recordInMemory s) := by
  unfold recordInMemory
  (try dsimp only)
  repeat' first
    | with_reducible assumption
    | with_reducible apply Keeps.ite
    | with_reducible apply keeps_setCis
    | with_reducible apply keeps_setNum
    | with_reducible apply keeps_inc
    | with_reducible apply keeps_add
    | with_reducible apply keeps_cisWrite
    | with_reducible apply keeps_recordLost
    | with_reducible apply Keeps.foldl
    | with_reducible apply Keeps.foldl_fst
    | with_reducible apply Keeps.foldl_snd
    | intro _ _ _
    | split

theorem keeps_burstSummary {a0 : State} {s : State} (h : Keeps a0 s)  : Keeps a0 (burstSummary s) := by
  unfold burstSummary
  repeat' first
    | with_reducible assumption
    | with_reducible apply Keeps.ite
    | with_reducible apply keeps_captureDone
    | with_reducible apply keeps_summaryStore

theorem keeps_msix {a0 : State} {s : State} (h : Keeps a0 s) (pf : Nat) (v : Nat) : Keeps a0 (State.msix s pf v) := by
  unfold State.msix
  (try dsimp only)
  repeat' first
    | with_reducible assumption
    | with_reducible apply Keeps.ite
    | with_reducible apply keeps_emit
    | with_reducible apply keeps_setPf

theorem keeps_attnSeen {a0 s : State} (h : Keeps a0 s) (b : Bool) : Keeps a0 (attnSeen s b) := h.trans (keeps_mk ..)

theorem keeps_attnNote {a0 : State} {s : State} (h : Keeps a0 s)  : Keeps a0 (attnNote s) := by
  unfold attnNote
  repeat' first
    | with_reducible assumption
    | with_reducible apply Keeps.ite
    | with_reducible apply keeps_msix
    | with_reducible apply keeps_attnSeen

theorem keeps_refUpdate {a0 : State} {s : State} (h : Keeps a0 s)  : Keeps a0 (refUpdate s) := by
  unfold refUpdate
  (try dsimp only)
  repeat' first
    | with_reducible assumption
    | with_reducible apply Keeps.ite
    | with_reducible apply keeps_setNum
    | with_reducible apply keeps_inc
    | with_reducible apply keeps_setFlag
    | with_reducible apply keeps_tmuNote

theorem keeps_refinQualified {a0 : State} {s : State} (h : Keeps a0 s) (ppb : Int) : Keeps a0 (refinQualified s ppb) := by
  unfold refinQualified
  (try dsimp only)
  repeat' first
    | with_reducible assumption
    | with_reducible apply Keeps.ite
    | with_reducible apply keeps_setNum
    | with_reducible apply keeps_setFlag
    | with_reducible apply keeps_refUpdate

theorem keeps_refinLoss {a0 : State} {s : State} (h : Keeps a0 s) (present : Bool) (ppb : Int) : Keeps a0 (refinLoss s present ppb) := by
  unfold refinLoss
  (try dsimp only)
  repeat' first
    | with_reducible assumption
    | with_reducible apply Keeps.ite
    | with_reducible apply keeps_setNum
    | with_reducible apply keeps_inc
    | with_reducible apply keeps_setFlag
    | with_reducible apply keeps_raise
    | with_reducible apply keeps_refUpdate

theorem keeps_slewEnd {a0 : State} {s : State} (h : Keeps a0 s)  : Keeps a0 (slewEnd s) := by
  unfold slewEnd
  repeat' first
    | with_reducible assumption
    | with_reducible apply keeps_setFlag

theorem keeps_refHoldover {a0 : State} {s : State} (h : Keeps a0 s)  : Keeps a0 (refHoldover s) := by
  unfold refHoldover
  repeat' first
    | with_reducible assumption
    | with_reducible apply Keeps.ite
    | with_reducible apply keeps_setFlag
    | with_reducible apply keeps_raise
    | with_reducible apply keeps_tmuNote

theorem keeps_refLock {a0 : State} {s : State} (h : Keeps a0 s)  : Keeps a0 (refLock s) := by
  unfold refLock
  (try dsimp only)
  repeat' first
    | with_reducible assumption
    | with_reducible apply Keeps.ite
    | with_reducible apply keeps_setTb
    | with_reducible apply keeps_setFlag
    | with_reducible apply keeps_tbStep
    | with_reducible apply keeps_tmuNote

theorem keeps_warmSecond {a0 : State} {s : State} (h : Keeps a0 s)  : Keeps a0 (warmSecond s) := by
  unfold warmSecond
  (try dsimp only)
  repeat' first
    | with_reducible assumption
    | with_reducible apply Keeps.ite
    | with_reducible apply keeps_setTb
    | with_reducible apply keeps_inc
    | with_reducible apply keeps_setFlag
    | with_reducible apply keeps_setReady

theorem keeps_ovenLeaves {a0 : State} {s : State} (h : Keeps a0 s) (temp : Int) : Keeps a0 (ovenLeaves s temp) := by
  unfold ovenLeaves
  (try dsimp only)
  repeat' first
    | with_reducible assumption
    | with_reducible apply Keeps.ite
    | with_reducible apply keeps_setNum
    | with_reducible apply keeps_setFlag
    | with_reducible apply keeps_raise
    | with_reducible apply keeps_clearReady
    | with_reducible apply keeps_tmuNote

theorem keeps_ovenTimeout {a0 : State} {s : State} (h : Keeps a0 s)  : Keeps a0 (ovenTimeout s) := by
  unfold ovenTimeout
  repeat' first
    | with_reducible assumption
    | with_reducible apply Keeps.ite
    | with_reducible apply keeps_raise

theorem keeps_heaterFault {a0 : State} {s : State} (h : Keeps a0 s)  : Keeps a0 (heaterFault s) := by
  unfold heaterFault
  repeat' first
    | with_reducible assumption
    | with_reducible apply keeps_raise

theorem keeps_ringIn {a0 s : State} (h : Keeps a0 s) (ty : Nat) (m : Bytes) (act : State → State)
    (ha : ∀ s, Keeps a0 s → Keeps a0 (act s)) : Keeps a0 (ringIn s ty m act) := by
  unfold ringIn
  repeat' first
    | with_reducible assumption
    | with_reducible apply Keeps.ite
    | with_reducible apply ha
    | with_reducible apply keeps_ringCause
    | with_reducible apply keeps_inc
    | with_reducible apply keeps_emit

theorem keeps_ringRestart {a0 : State} {s : State} (h : Keeps a0 s)  : Keeps a0 (ringRestart s) := by
  unfold ringRestart
  (try dsimp only)
  repeat' first
    | with_reducible assumption
    | with_reducible apply Keeps.ite
    | with_reducible apply keeps_clearReady
    | with_reducible apply keeps_portRest

theorem keeps_ringRoleWrite {a0 : State} {s : State} (h : Keeps a0 s) (v : Nat) : Keeps a0 (ringRoleWrite s v) := by
  unfold ringRoleWrite
  repeat' first
    | with_reducible assumption
    | with_reducible apply Keeps.ite
    | with_reducible apply keeps_setNum
    | with_reducible apply keeps_ringRestart

theorem keeps_ringLock {a0 : State} {s : State} (h : Keeps a0 s)  : Keeps a0 (ringLock s) := by
  unfold ringLock
  repeat' first
    | with_reducible assumption
    | with_reducible apply Keeps.ite
    | with_reducible apply keeps_setNums
    | with_reducible apply keeps_setReady

theorem keeps_lockLoss {a0 : State} {s : State} (h : Keeps a0 s)  : Keeps a0 (lockLoss s) := by
  unfold lockLoss
  repeat' first
    | with_reducible assumption
    | with_reducible apply Keeps.ite
    | with_reducible apply keeps_setNums
    | with_reducible apply keeps_clearReady
    | with_reducible apply keeps_ringCause

theorem keeps_ringCalStart {a0 : State} {s : State} (h : Keeps a0 s)  : Keeps a0 (ringCalStart s) := by
  unfold ringCalStart
  (try dsimp only)
  repeat' first
    | with_reducible assumption
    | with_reducible apply keeps_emit
    | with_reducible apply keeps_setRing

theorem keeps_calibrationBlock {a0 : State} {s : State} (h : Keeps a0 s)  : Keeps a0 (calibrationBlock s) := by
  unfold calibrationBlock
  repeat' first
    | with_reducible assumption
    | with_reducible apply Keeps.ite
    | with_reducible apply keeps_ringCalStart

theorem keeps_delayCalibrationEnd {a0 : State} {s : State} (h : Keeps a0 s) (linkPs : Nat) : Keeps a0 (delayCalibrationEnd s linkPs) := by
  unfold delayCalibrationEnd
  (try dsimp only)
  repeat' first
    | with_reducible assumption
    | with_reducible apply Keeps.ite
    | with_reducible apply keeps_setNum
    | with_reducible apply keeps_setRing
    | with_reducible apply keeps_ringCalStop

theorem keeps_timeEventAdd {a0 : State} {s : State} (h : Keeps a0 s) (now : Int) (t : Nat) : Keeps a0 (timeEventAdd s now t) := by
  unfold timeEventAdd
  (try dsimp only)
  repeat' first
    | with_reducible assumption
    | with_reducible apply Keeps.ite
    | with_reducible apply keeps_setRing
    | with_reducible apply keeps_ringCause

theorem keeps_timeEmit {a0 : State} {s : State} (h : Keeps a0 s)  : Keeps a0 (timeEmit s) := by
  unfold timeEmit
  (try dsimp only)
  repeat' first
    | with_reducible assumption
    | with_reducible apply Keeps.ite
    | with_reducible apply keeps_ringQueue
    | with_reducible apply keeps_timeEventAdd

theorem keeps_epochStep {a0 : State} {s : State} (h : Keeps a0 s)  : Keeps a0 (epochStep s) := by
  unfold epochStep
  (try dsimp only)
  repeat' first
    | with_reducible assumption
    | with_reducible apply keeps_setNum
    | with_reducible apply keeps_setRing
    | with_reducible apply keeps_tbStep

theorem keeps_epochCheck {a0 : State} {s : State} (h : Keeps a0 s)  : Keeps a0 (epochCheck s) := by
  unfold epochCheck
  (try dsimp only)
  repeat' first
    | with_reducible assumption
    | with_reducible apply Keeps.ite
    | with_reducible apply keeps_epochStep
    | with_reducible apply keeps_ringCause

theorem keeps_followerTime {a0 : State} {s : State} (h : Keeps a0 s) (m : Bytes) : Keeps a0 (followerTime s m) := by
  unfold followerTime
  (try dsimp only)
  repeat' first
    | with_reducible assumption
    | with_reducible apply Keeps.ite
    | with_reducible apply keeps_setNum
    | with_reducible apply keeps_setNums
    | with_reducible apply keeps_ringCause

theorem keeps_timeAct {a0 : State} {s : State} (h : Keeps a0 s) (m : Bytes) (ta : Nat) : Keeps a0 (timeAct s m ta) := by
  unfold timeAct
  (try dsimp only)
  repeat' first
    | with_reducible assumption
    | with_reducible apply keeps_setNum
    | with_reducible apply keeps_epochCheck
    | with_reducible apply keeps_followerTime
    | with_reducible apply keeps_timeEventAdd

theorem keeps_masterTime {a0 : State} {s : State} (h : Keeps a0 s) (m : Bytes) (ta : Nat) : Keeps a0 (masterTime s m ta) := by
  unfold masterTime
  (try dsimp only)
  repeat' first
    | with_reducible assumption
    | with_reducible apply Keeps.ite
    | with_reducible apply keeps_setNum
    | with_reducible apply keeps_setNums
    | with_reducible apply keeps_setRing
    | with_reducible apply keeps_ringCalStart
    | with_reducible apply keeps_ringCause

theorem keeps_timeIn {a0 : State} {s : State} (h : Keeps a0 s) (m : Bytes) (ta : Nat) : Keeps a0 (timeIn s m ta) := by
  unfold timeIn
  repeat' first
    | with_reducible assumption
    | with_reducible apply Keeps.ite
    | with_reducible apply keeps_masterTime
    | with_reducible apply keeps_ringIn
    | with_reducible apply keeps_timeAct
    | (intro _ _; try dsimp only)

theorem keeps_timeEvent {a0 : State} {s : State} (h : Keeps a0 s)  : Keeps a0 (timeEvent s) := by
  unfold timeEvent
  (try dsimp only)
  repeat' first
    | with_reducible assumption
    | with_reducible apply Keeps.ite
    | with_reducible apply keeps_setFlag
    | with_reducible apply keeps_setSeq
    | with_reducible apply keeps_setUc
    | with_reducible apply keeps_setRing
    | with_reducible apply keeps_tmuCaptureAll
    | split

theorem keeps_startAct {a0 : State} {s : State} (h : Keeps a0 s) (t : Nat) : Keeps a0 (startAct s t) := by
  unfold startAct
  (try dsimp only)
  repeat' first
    | with_reducible assumption
    | with_reducible apply Keeps.ite
    | with_reducible apply keeps_setNum
    | with_reducible apply keeps_inc
    | with_reducible apply keeps_setRing

theorem keeps_scheduledStart {a0 : State} {s : State} (h : Keeps a0 s)  : Keeps a0 (scheduledStart s) := by
  unfold scheduledStart
  (try dsimp only)
  repeat' first
    | with_reducible assumption
    | with_reducible apply Keeps.ite
    | with_reducible apply keeps_setNum
    | with_reducible apply keeps_inc
    | with_reducible apply keeps_firstIssue
    | with_reducible apply keeps_ringCause

theorem keeps_jumpAct {a0 : State} {s : State} (h : Keeps a0 s) (e : Nat) (t : Nat) : Keeps a0 (jumpAct s e t) := by
  unfold jumpAct
  (try dsimp only)
  repeat' first
    | with_reducible assumption
    | with_reducible apply Keeps.ite
    | with_reducible apply keeps_inc
    | with_reducible apply keeps_setRing
    | with_reducible apply keeps_jumpRequest
    | with_reducible apply keeps_ringCause

theorem keeps_scheduledJump {a0 : State} {s : State} (h : Keeps a0 s)  : Keeps a0 (scheduledJump s) := by
  unfold scheduledJump
  (try dsimp only)
  repeat' first
    | with_reducible assumption
    | with_reducible apply keeps_setRing
    | with_reducible apply keeps_jumpRequest
    | split

theorem keeps_markAct {a0 : State} {s : State} (h : Keeps a0 s) (id : Nat) : Keeps a0 (markAct s id) := by
  unfold markAct
  (try dsimp only)
  repeat' first
    | with_reducible assumption
    | with_reducible apply Keeps.ite
    | with_reducible apply keeps_setSeq

theorem keeps_ringStart {a0 : State} {s : State} (h : Keeps a0 s) (m : Bytes) : Keeps a0 (ringStart s m) := by
  unfold ringStart
  repeat' first
    | with_reducible assumption
    | with_reducible apply keeps_ringIn
    | with_reducible apply keeps_startAct
    | (intro _ _; try dsimp only)

theorem keeps_ringHalt {a0 : State} {s : State} (h : Keeps a0 s) (m : Bytes) : Keeps a0 (ringHalt s m) := by
  unfold ringHalt
  repeat' first
    | with_reducible assumption
    | with_reducible apply keeps_haltLatch
    | with_reducible apply keeps_ringIn
    | (intro _ _; try dsimp only)

theorem keeps_ringJump {a0 : State} {s : State} (h : Keeps a0 s) (m : Bytes) : Keeps a0 (ringJump s m) := by
  unfold ringJump
  repeat' first
    | with_reducible assumption
    | with_reducible apply keeps_jumpAct
    | with_reducible apply keeps_ringIn
    | (intro _ _; try dsimp only)

theorem keeps_ringMarkIn {a0 : State} {s : State} (h : Keeps a0 s) (m : Bytes) : Keeps a0 (ringMarkIn s m) := by
  unfold ringMarkIn
  repeat' first
    | with_reducible assumption
    | with_reducible apply keeps_markAct
    | with_reducible apply keeps_ringIn
    | (intro _ _; try dsimp only)

theorem keeps_ringCmd {a0 : State} {s : State} (h : Keeps a0 s) (v : Nat) : Keeps a0 (ringCmd s v) := by
  unfold ringCmd
  (try dsimp only)
  repeat' first
    | with_reducible assumption
    | with_reducible apply Keeps.ite
    | with_reducible apply keeps_setFlag
    | with_reducible apply keeps_haltLatch
    | with_reducible apply keeps_jumpAct
    | with_reducible apply keeps_ringCalStart
    | with_reducible apply keeps_ringQueue
    | with_reducible apply keeps_startAct

theorem keeps_ringQueueSend {a0 : State} {s : State} (h : Keeps a0 s)  : Keeps a0 (ringQueueSend s) := by
  unfold ringQueueSend
  (try dsimp only)
  repeat' first
    | with_reducible assumption
    | with_reducible apply Keeps.ite
    | with_reducible apply keeps_emit
    | with_reducible apply keeps_setRing
    | split

theorem keeps_sigSend {a0 : State} {s : State} (h : Keeps a0 s)  : Keeps a0 (sigSend s) := by
  unfold sigSend
  (try dsimp only)
  repeat' first
    | with_reducible assumption
    | with_reducible apply Keeps.ite
    | with_reducible apply keeps_ringQueue

theorem keeps_noteStale {a0 : State} {s : State} (h : Keeps a0 s)  : Keeps a0 (noteStale s) := by
  unfold noteStale
  repeat' first
    | with_reducible assumption
    | with_reducible apply keeps_setNum

theorem keeps_sigAct {a0 : State} {s : State} (h : Keeps a0 s) (m : Bytes) : Keeps a0 (sigAct s m) := by
  unfold sigAct
  (try dsimp only)
  repeat' first
    | with_reducible assumption
    | with_reducible apply Keeps.ite
    | with_reducible apply keeps_inc
    | with_reducible apply keeps_raise
    | with_reducible apply keeps_setRing
    | with_reducible apply keeps_noteStale

theorem keeps_sigIn {a0 : State} {s : State} (h : Keeps a0 s) (m : Bytes) : Keeps a0 (sigIn s m) := by
  unfold sigIn
  repeat' first
    | with_reducible assumption
    | with_reducible apply keeps_ringIn
    | with_reducible apply keeps_sigAct
    | (intro _ _; try dsimp only)

theorem keeps_peerStale {a0 : State} {s : State} (h : Keeps a0 s) (p : Nat) : Keeps a0 (peerStale s p) := by
  unfold peerStale
  (try dsimp only)
  repeat' first
    | with_reducible assumption
    | with_reducible apply Keeps.ite
    | with_reducible apply keeps_setRing
    | with_reducible apply keeps_noteStale
    | split

theorem keeps_sigGroupWrite {a0 : State} {s : State} (h : Keeps a0 s) (v : Nat) : Keeps a0 (sigGroupWrite s v) := by
  unfold sigGroupWrite
  (try dsimp only)
  repeat' first
    | with_reducible assumption
    | with_reducible apply keeps_setNums
    | with_reducible apply keeps_setRing

theorem keeps_noteFloors {a0 : State} {s : State} (h : Keeps a0 s)  : Keeps a0 (noteFloors s) := by
  unfold noteFloors
  repeat' first
    | with_reducible assumption
    | with_reducible apply keeps_setNums

theorem keeps_bootChain {a0 : State} {s : State} (h : Keeps a0 s)  : Keeps a0 (bootChain s) := by
  unfold bootChain
  (try dsimp only)
  repeat' first
    | with_reducible assumption
    | with_reducible apply Keeps.ite
    | with_reducible apply keeps_setNum
    | with_reducible apply keeps_setNums
    | with_reducible apply keeps_setBlob
    | with_reducible apply keeps_setPwr
    | with_reducible apply keeps_noteFloors

theorem keeps_raiseSlot {a0 : State} {s : State} (h : Keeps a0 s) (st : Nat) : Keeps a0 (raiseSlot s st) := by
  unfold raiseSlot
  repeat' first
    | with_reducible assumption
    | with_reducible apply Keeps.ite
    | with_reducible apply keeps_raise

theorem keeps_loadKeys {a0 : State} {s : State} (h : Keeps a0 s)  : Keeps a0 (loadKeys s) := by
  unfold loadKeys
  (try dsimp only)
  repeat' first
    | with_reducible assumption
    | with_reducible apply Keeps.ite
    | with_reducible apply keeps_setNum
    | with_reducible apply keeps_setBlob
    | with_reducible apply Keeps.foldl
    | with_reducible apply Keeps.foldl_fst
    | with_reducible apply Keeps.foldl_snd
    | intro _ _ _

theorem keeps_firmwareUp {a0 : State} {s : State} (h : Keeps a0 s)  : Keeps a0 (firmwareUp s) := by
  unfold firmwareUp
  (try dsimp only)
  repeat' first
    | with_reducible assumption
    | with_reducible apply Keeps.ite
    | with_reducible apply keeps_setNum
    | with_reducible apply keeps_raise
    | with_reducible apply keeps_loadKeys
    | with_reducible apply keeps_raiseSlot

theorem keeps_fwInstall {a0 : State} {s : State} (h : Keeps a0 s)  : Keeps a0 (fwInstall s) := by
  unfold fwInstall
  (try dsimp only)
  repeat' first
    | with_reducible assumption
    | with_reducible apply keeps_setNum
    | with_reducible apply keeps_setTrust

theorem keeps_setIdleSlot {a0 : State} {s : State} (h : Keeps a0 s) (d : Bytes) : Keeps a0 (setIdleSlot s d) := by
  unfold setIdleSlot
  (try dsimp only)
  repeat' first
    | with_reducible assumption
    | with_reducible apply Keeps.ite
    | with_reducible apply keeps_setTrust

theorem keeps_fwCut {a0 : State} {s : State} (h : Keeps a0 s)  : Keeps a0 (fwCut s) := by
  unfold fwCut
  repeat' first
    | with_reducible assumption
    | with_reducible apply Keeps.ite
    | with_reducible apply keeps_setIdleSlot
    | split

theorem keeps_fwInstallDone {a0 : State} {s : State} (h : Keeps a0 s) (ok : Bool) : Keeps a0 (fwInstallDone s ok) := by
  unfold fwInstallDone
  (try dsimp only)
  repeat' first
    | with_reducible assumption
    | with_reducible apply Keeps.ite
    | with_reducible apply keeps_setNum
    | with_reducible apply keeps_setTrust
    | with_reducible apply keeps_setIdleSlot
    | split

theorem keeps_advStart {a0 : State} {s : State} (h : Keeps a0 s) (patch : Bool) : Keeps a0 (advStart s patch) := by
  unfold advStart
  (try dsimp only)
  repeat' first
    | with_reducible assumption
    | with_reducible apply Keeps.ite
    | with_reducible apply keeps_setNum
    | with_reducible apply keeps_setTrust

theorem keeps_fuseEnd {a0 : State} {s : State} (h : Keeps a0 s) (ok : Bool) : Keeps a0 (fuseEnd s ok) := by
  unfold fuseEnd
  (try dsimp only)
  repeat' first
    | with_reducible assumption
    | with_reducible apply Keeps.ite
    | with_reducible apply keeps_setNum
    | with_reducible apply keeps_setTrust
    | with_reducible apply keeps_noteFloors
    | split

theorem keeps_keyWrite {a0 : State} {s : State} (h : Keeps a0 s) (k : Nat) (d : Bytes) : Keeps a0 (keyWrite s k d) := by
  unfold keyWrite
  repeat' first
    | with_reducible assumption
    | with_reducible apply keeps_setNum
    | with_reducible apply keeps_setFlag
    | with_reducible apply keeps_setBlob

theorem keeps_keysSave {a0 : State} {s : State} (h : Keeps a0 s)  : Keeps a0 (keysSave s) := by
  unfold keysSave
  (try dsimp only)
  repeat' first
    | with_reducible assumption
    | with_reducible apply Keeps.ite
    | with_reducible apply keeps_setNum
    | with_reducible apply keeps_setTrust

theorem keeps_signStart {a0 : State} {s : State} (h : Keeps a0 s)  : Keeps a0 (signStart s) := by
  unfold signStart
  (try dsimp only)
  repeat' first
    | with_reducible assumption
    | with_reducible apply Keeps.ite
    | with_reducible apply keeps_setNum
    | with_reducible apply keeps_setNums
    | with_reducible apply keeps_inc
    | with_reducible apply keeps_setTrust

theorem keeps_signDone {a0 : State} {s : State} (h : Keeps a0 s)  : Keeps a0 (signDone s) := by
  unfold signDone
  (try dsimp only)
  repeat' first
    | with_reducible assumption
    | with_reducible apply keeps_setNums
    | with_reducible apply keeps_setBlob
    | with_reducible apply keeps_setTrust
    | split

theorem keeps_sigTouched {a0 : State} {s : State} (h : Keeps a0 s)  : Keeps a0 (sigTouched s) := by
  unfold sigTouched
  (try dsimp only)
  repeat' first
    | with_reducible assumption
    | with_reducible apply keeps_setMgmt
    | with_reducible apply keeps_setNum

theorem keeps_sigScanStart {a0 : State} {s : State} (h : Keeps a0 s)  : Keeps a0 (sigScanStart s) := by
  unfold sigScanStart
  (try dsimp only)
  repeat' first
    | with_reducible assumption
    | with_reducible apply Keeps.ite
    | with_reducible apply keeps_setMgmt

theorem keeps_sigCompare {a0 : State} {s : State} (h : Keeps a0 s)  : Keeps a0 (sigCompare s) := by
  unfold sigCompare
  (try dsimp only)
  repeat' first
    | with_reducible assumption
    | with_reducible apply Keeps.ite
    | with_reducible apply keeps_setMgmt
    | with_reducible apply keeps_inc
    | with_reducible apply keeps_raise

theorem keeps_pumpStopAsk {a0 : State} {s : State} (h : Keeps a0 s) (p : Nat) : Keeps a0 (pumpStopAsk s p) := by
  unfold pumpStopAsk
  (try dsimp only)
  repeat' first
    | with_reducible assumption
    | with_reducible apply keeps_setPch

theorem keeps_pumpStopAll {a0 : State} {s : State} (h : Keeps a0 s)  : Keeps a0 (pumpStopAll s) := by
  unfold pumpStopAll
  repeat' first
    | with_reducible assumption
    | with_reducible apply Keeps.ite
    | with_reducible apply keeps_pumpStopAsk
    | with_reducible apply Keeps.foldl
    | with_reducible apply Keeps.foldl_fst
    | with_reducible apply Keeps.foldl_snd
    | intro _ _ _

theorem keeps_domUp {a0 : State} {s : State} (h : Keeps a0 s) (d : Nat) : Keeps a0 (domUp s d) := by
  unfold domUp
  (try dsimp only)
  repeat' first
    | with_reducible assumption
    | with_reducible apply Keeps.ite
    | with_reducible apply keeps_setTb
    | with_reducible apply keeps_setNum
    | with_reducible apply keeps_inc
    | with_reducible apply keeps_calTile
    | with_reducible apply keeps_setDom

theorem keeps_domAdvance {a0 : State} {s : State} (h : Keeps a0 s)  : Keeps a0 (domAdvance s) := by
  unfold domAdvance
  repeat' first
    | with_reducible assumption
    | with_reducible apply Keeps.ite
    | with_reducible apply keeps_domUp
    | with_reducible apply keeps_tickTry
    | with_reducible apply Keeps.foldl
    | with_reducible apply Keeps.foldl_fst
    | with_reducible apply Keeps.foldl_snd
    | intro _ _ _

theorem keeps_relockFollows {a0 : State} {s : State} (h : Keeps a0 s)  : Keeps a0 (relockFollows s) := by
  unfold relockFollows
  repeat' first
    | with_reducible assumption
    | with_reducible apply Keeps.ite
    | with_reducible apply keeps_domAdvance

theorem keeps_safeEnter {a0 : State} {s : State} (h : Keeps a0 s)  : Keeps a0 (safeEnter s) := by
  unfold safeEnter
  (try dsimp only)
  repeat' first
    | with_reducible assumption
    | with_reducible apply Keeps.ite
    | with_reducible apply keeps_setFlt
    | with_reducible apply keeps_setNum
    | with_reducible apply keeps_inc
    | with_reducible apply keeps_domOff
    | with_reducible apply keeps_haltLatch
    | with_reducible apply keeps_pinTo
    | with_reducible apply keeps_pumpStopAll
    | with_reducible apply Keeps.foldl
    | with_reducible apply Keeps.foldl_fst
    | with_reducible apply Keeps.foldl_snd
    | intro _ _ _

theorem keeps_setSrc {a0 : State} {s : State} (h : Keeps a0 s) (lo : Nat) (n : Nat) (b : Bool) : Keeps a0 (setSrc s lo n b) := by
  unfold setSrc
  repeat' first
    | with_reducible assumption
    | with_reducible apply keeps_setFlag

theorem keeps_setSev {a0 : State} {s : State} (h : Keeps a0 s) (n : Nat) (v : Nat) : Keeps a0 (setSev s n v) := by
  unfold setSev
  repeat' first
    | with_reducible assumption
    | with_reducible apply keeps_setBlob

theorem keeps_noteSev {a0 : State} {s : State} (h : Keeps a0 s)  : Keeps a0 (noteSev s) := by
  unfold noteSev
  (try dsimp only)
  repeat' first
    | with_reducible assumption
    | with_reducible apply Keeps.ite
    | with_reducible apply keeps_setNum

theorem keeps_occur {a0 : State} {s : State} (h : Keeps a0 s) (o : Nat × Bool × Bool) : Keeps a0 (occur s o) := by
  unfold occur
  (try dsimp only)
  repeat' first
    | with_reducible assumption
    | with_reducible apply Keeps.ite
    | with_reducible apply keeps_inc
    | with_reducible apply keeps_setSev
    | with_reducible apply keeps_setSrc

theorem keeps_throttle {a0 : State} {s : State} (h : Keeps a0 s)  : Keeps a0 (throttle s) := by
  unfold throttle
  repeat' first
    | with_reducible assumption
    | with_reducible apply Keeps.ite
    | with_reducible apply keeps_setNum
    | with_reducible apply keeps_inc

theorem keeps_faultTrap {a0 : State} {s : State} (h : Keeps a0 s) (units : List Nat) : Keeps a0 (faultTrap s units) := by
  unfold faultTrap
  (try dsimp only)
  repeat' first
    | with_reducible assumption
    | with_reducible apply keeps_setFlt
    | with_reducible apply keeps_setFlag

theorem keeps_react {a0 : State} {s : State} (h : Keeps a0 s) (l : List (Nat × Nat)) : Keeps a0 (react s l) := by
  unfold react
  (try dsimp only)
  repeat' first
    | with_reducible assumption
    | with_reducible apply Keeps.ite
    | with_reducible apply keeps_setFlt
    | with_reducible apply keeps_faultTrap
    | with_reducible apply keeps_fenceUnits
    | with_reducible apply keeps_fenceWaited
    | with_reducible apply keeps_haltLatch
    | with_reducible apply keeps_recordPosition
    | with_reducible apply keeps_ringFaultHalt
    | with_reducible apply keeps_safeEnter
    | with_reducible apply keeps_throttle

theorem keeps_faultCollect {a0 : State} {s : State} (h : Keeps a0 s)  : Keeps a0 (faultCollect s) := by
  unfold faultCollect
  (try dsimp only)
  repeat' first
    | with_reducible assumption
    | with_reducible apply Keeps.ite
    | with_reducible apply keeps_setFlt
    | with_reducible apply keeps_setNums
    | with_reducible apply keeps_noteSev
    | with_reducible apply keeps_occur
    | with_reducible apply keeps_react
    | with_reducible apply keeps_relockFollows
    | with_reducible apply Keeps.foldl
    | with_reducible apply Keeps.foldl_fst
    | with_reducible apply Keeps.foldl_snd
    | intro _ _ _

theorem keeps_stickyClear {a0 : State} {s : State} (h : Keeps a0 s) (hi : Bool) (v : Nat) : Keeps a0 (stickyClear s hi v) := by
  unfold stickyClear
  (try dsimp only)
  repeat' first
    | with_reducible assumption
    | with_reducible apply Keeps.ite
    | with_reducible apply keeps_setNums
    | with_reducible apply keeps_noteSev
    | with_reducible apply keeps_setSev
    | with_reducible apply keeps_setSrc
    | with_reducible apply Keeps.foldl
    | with_reducible apply Keeps.foldl_fst
    | with_reducible apply Keeps.foldl_snd
    | intro _ _ _

theorem keeps_fireCmd {a0 : State} {s : State} (h : Keeps a0 s)  : Keeps a0 (fireCmd s) := by
  unfold fireCmd
  (try dsimp only)
  repeat' first
    | with_reducible assumption
    | with_reducible apply keeps_setFlt
    | with_reducible apply keeps_inc

theorem keeps_fenceSet {a0 : State} {s : State} (h : Keeps a0 s)  : Keeps a0 (fenceSet s) := by
  unfold fenceSet
  (try dsimp only)
  repeat' first
    | with_reducible assumption
    | with_reducible apply Keeps.ite
    | with_reducible apply keeps_setFlag
    | with_reducible apply keeps_faultTrap
    | with_reducible apply keeps_fenceUnit
    | with_reducible apply keeps_relockFollows

theorem keeps_liftChannel {a0 : State} {s : State} (h : Keeps a0 s) (c : Nat) : Keeps a0 (liftChannel s c) := by
  unfold liftChannel
  (try dsimp only)
  repeat' first
    | with_reducible assumption
    | with_reducible apply Keeps.ite
    | with_reducible apply keeps_setChan
    | with_reducible apply keeps_enablePowered
    | with_reducible apply keeps_setChFence

theorem keeps_fenceLift {a0 : State} {s : State} (h : Keeps a0 s) (u : Nat) : Keeps a0 (fenceLift s u) := by
  unfold fenceLift
  (try dsimp only)
  repeat' first
    | with_reducible assumption
    | with_reducible apply Keeps.ite
    | with_reducible apply keeps_setNum
    | with_reducible apply keeps_setFlag
    | with_reducible apply keeps_domAdvance
    | with_reducible apply keeps_liftChannel
    | with_reducible apply keeps_setChFence
    | with_reducible apply Keeps.foldl
    | with_reducible apply Keeps.foldl_fst
    | with_reducible apply Keeps.foldl_snd
    | intro _ _ _

theorem keeps_watchdogExpiry {a0 : State} {s : State} (h : Keeps a0 s)  : Keeps a0 (watchdogExpiry s) := by
  unfold watchdogExpiry
  (try dsimp only)
  repeat' first
    | with_reducible assumption
    | with_reducible apply Keeps.ite
    | with_reducible apply keeps_setPwr
    | with_reducible apply keeps_clearReady
    | with_reducible apply keeps_safeEnter

theorem keeps_setAlive {a0 : State} {s : State} (h : Keeps a0 s) (v : Nat) : Keeps a0 (setAlive s v) := by
  unfold setAlive
  repeat' first
    | with_reducible assumption
    | with_reducible apply Keeps.ite
    | with_reducible apply keeps_setNum
    | with_reducible apply keeps_inc

theorem keeps_watchdogRefresh {a0 : State} {s : State} (h : Keeps a0 s)  : Keeps a0 (watchdogRefresh s) := by
  unfold watchdogRefresh
  (try dsimp only)
  repeat' first
    | with_reducible assumption
    | with_reducible apply Keeps.ite
    | with_reducible apply keeps_setFlt
    | with_reducible apply keeps_setAlive

theorem keeps_aliveToggle {a0 : State} {s : State} (h : Keeps a0 s)  : Keeps a0 (aliveToggle s) := by
  unfold aliveToggle
  (try dsimp only)
  repeat' first
    | with_reducible assumption
    | with_reducible apply Keeps.ite
    | with_reducible apply keeps_setFlt
    | with_reducible apply keeps_setAlive

theorem keeps_mapNote {a0 : State} {s : State} (h : Keeps a0 s)  : Keeps a0 (mapNote s) := by
  unfold mapNote
  repeat' first
    | with_reducible assumption
    | with_reducible apply Keeps.ite
    | with_reducible apply keeps_setNum

theorem keeps_mapSizes {a0 : State} {s : State} (h : Keeps a0 s)  : Keeps a0 (mapSizes s) := by
  unfold mapSizes
  repeat' first
    | with_reducible assumption
    | with_reducible apply keeps_setNums

theorem canon_foldl_memLose (l : List Nat) (lo hi : Nat → Nat) {m : Mem} (h : m.Canon) :
    (l.foldl (fun m r => memLose m (lo r) (hi r)) m).Canon := by
  induction l generalizing m with
  | nil => exact h
  | cons x r ih => exact ih (h.memLose ..)

theorem keeps_mapSet {a0 s : State} (h : Keeps a0 s) (v : MapVals) : Keeps a0 (mapSet s v) := by
  unfold mapSet
  extract_lets old changed p m m2 t
  have hm : s.mem.Canon → m2.Canon := fun hc => (canon_foldl_memLose changed _ _ hc).congr rfl rfl
  have ht : Keeps a0 t := keeps_mapSizes (keeps_setMem h _ hm)
  clear_value t
  exact Keeps.ite ht (keeps_inc ht _)

theorem keeps_mapApply {a0 : State} {s : State} (h : Keeps a0 s)  : Keeps a0 (mapApply s).2 := by
  unfold mapApply
  repeat' first
    | with_reducible assumption
    | with_reducible apply Keeps.ite
    | with_reducible apply keeps_setNum
    | with_reducible apply keeps_mapSet
    | split

theorem keeps_mapAuto {a0 : State} {s : State} (h : Keeps a0 s)  : Keeps a0 (mapAuto s) := by
  unfold mapAuto
  (try dsimp only)
  repeat' first
    | with_reducible assumption
    | with_reducible apply Keeps.ite
    | with_reducible apply keeps_setNum
    | with_reducible apply keeps_setPwr
    | with_reducible apply keeps_mapSet
    | with_reducible apply keeps_mapSizes
    | with_reducible apply keeps_setMem
    | exact fun hc => hc.congr rfl rfl

theorem keeps_stackTrainingLoss {a0 : State} {s : State} (h : Keeps a0 s) (k : Nat) : Keeps a0 (stackTrainingLoss s k) := by
  unfold stackTrainingLoss
  (try dsimp only)
  repeat' first
    | with_reducible assumption
    | with_reducible apply Keeps.ite
    | with_reducible apply keeps_setFlag
    | with_reducible apply keeps_raise
    | with_reducible apply keeps_clearReady
    | with_reducible apply keeps_setDom

theorem keeps_domEnWrite {a0 : State} {s : State} (h : Keeps a0 s) (v : Nat) : Keeps a0 (domEnWrite s v) := by
  unfold domEnWrite
  (try dsimp only)
  repeat' first
    | with_reducible assumption
    | with_reducible apply keeps_setNum
    | with_reducible apply keeps_domAdvance
    | with_reducible apply keeps_domOff
    | with_reducible apply Keeps.foldl
    | with_reducible apply Keeps.foldl_fst
    | with_reducible apply Keeps.foldl_snd
    | intro _ _ _

theorem keeps_readyOn {a0 : State} {s : State} (h : Keeps a0 s) (b : Nat) (d : Nat) : Keeps a0 (readyOn s b d) := by
  unfold readyOn
  repeat' first
    | with_reducible assumption
    | with_reducible apply Keeps.ite
    | with_reducible apply keeps_setDom
    | with_reducible apply keeps_setReady

theorem keeps_calReady {a0 : State} {s : State} (h : Keeps a0 s)  : Keeps a0 (calReady s) := by
  unfold calReady
  repeat' first
    | with_reducible assumption
    | with_reducible apply Keeps.ite
    | with_reducible apply keeps_banksClassify
    | with_reducible apply keeps_loadInitial

theorem keeps_seqIdle {a0 : State} {s : State} (h : Keeps a0 s)  : Keeps a0 (seqIdle s) := by
  unfold seqIdle
  repeat' first
    | with_reducible assumption
    | with_reducible apply Keeps.ite
    | with_reducible apply keeps_setNum
    | with_reducible apply keeps_evBurst

theorem keeps_functionBit {a0 : State} {s : State} (h : Keeps a0 s) (b : Nat) (bad : Nat) : Keeps a0 (functionBit s b bad) := by
  unfold functionBit
  (try dsimp only)
  repeat' first
    | with_reducible assumption
    | with_reducible apply Keeps.ite
    | with_reducible apply keeps_setFlag
    | with_reducible apply keeps_setPwr
    | with_reducible apply keeps_calReady
    | with_reducible apply keeps_firmwareUp
    | with_reducible apply keeps_patchLoad
    | with_reducible apply keeps_readyOn
    | with_reducible apply keeps_seqIdle
    | with_reducible apply keeps_setReady
    | with_reducible apply keeps_tileUp

theorem keeps_functionReady {a0 : State} {s : State} (h : Keeps a0 s) (b : Nat) (bad : Nat) : Keeps a0 (functionReady s b bad) := by
  unfold functionReady
  repeat' first
    | with_reducible assumption
    | with_reducible apply keeps_domAdvance
    | with_reducible apply keeps_functionBit

theorem keeps_noteStart {a0 : State} {s : State} (h : Keeps a0 s)  : Keeps a0 (noteStart s) := by
  unfold noteStart
  (try dsimp only)
  repeat' first
    | with_reducible assumption
    | with_reducible apply Keeps.ite
    | with_reducible apply keeps_setPwr

theorem keeps_supplyValid {a0 : State} {s : State} (h : Keeps a0 s) (b : Nat) : Keeps a0 (supplyValid s b) := by
  unfold supplyValid
  repeat' first
    | with_reducible assumption
    | with_reducible apply Keeps.ite
    | with_reducible apply keeps_setFlag
    | with_reducible apply keeps_domAdvance
    | with_reducible apply keeps_noteStart

theorem keeps_supplyFault {a0 : State} {s : State} (h : Keeps a0 s) (b : Nat) : Keeps a0 (supplyFault s b) := by
  unfold supplyFault
  (try dsimp only)
  repeat' first
    | with_reducible assumption
    | with_reducible apply Keeps.ite
    | with_reducible apply keeps_inc
    | with_reducible apply keeps_setFlag
    | with_reducible apply keeps_raise
    | with_reducible apply keeps_setPwr
    | with_reducible apply keeps_domOff
    | with_reducible apply keeps_relockFollows
    | with_reducible apply Keeps.foldl
    | with_reducible apply Keeps.foldl_fst
    | with_reducible apply Keeps.foldl_snd
    | intro _ _ _

theorem keeps_vauxFailure {a0 : State} {s : State} (h : Keeps a0 s)  : Keeps a0 (vauxFailure s) := by
  unfold vauxFailure
  (try dsimp only)
  repeat' first
    | with_reducible assumption
    | with_reducible apply Keeps.ite
    | with_reducible apply keeps_setFlag
    | with_reducible apply keeps_setPwr
    | with_reducible apply keeps_clearReady
    | with_reducible apply keeps_coreStops
    | with_reducible apply keeps_domOff
    | with_reducible apply Keeps.foldl
    | with_reducible apply Keeps.foldl_fst
    | with_reducible apply Keeps.foldl_snd
    | intro _ _ _

theorem keeps_cutTrust {a0 : State} {s : State} (h : Keeps a0 s)  : Keeps a0 (cutTrust s) := by
  unfold cutTrust
  (try dsimp only)
  repeat' first
    | with_reducible assumption
    | with_reducible apply keeps_setTrust
    | with_reducible apply keeps_fuseEnd
    | with_reducible apply keeps_fwCut

theorem keeps_cutStore {a0 : State} {s : State} (h : Keeps a0 s)  : Keeps a0 (cutStore s) := by
  unfold cutStore
  (try dsimp only)
  repeat' first
    | with_reducible assumption
    | with_reducible apply Keeps.ite
    | with_reducible apply keeps_setCal
    | with_reducible apply keeps_setBank

theorem keeps_resetTo {a0 s : State} (h : Keeps a0 s) (kind : Nat) (keep : Nat → Bool) (ready doms : List Nat) :
    Keeps a0 (resetTo s kind keep ready doms) := by
  unfold resetTo
  extract_lets s1 _ _ _ _ _ s2 s3 s4 s5
  have h1 : Keeps a0 s1 := keeps_cutStore (keeps_cutTrust h)
  have h2 : Keeps a0 s2 := h1.trans ⟨rfl, List.prefix_rfl, Nat.le_refl _, fun _ => Mem.init_canon,
    fun _ => ⟨rising_nil, fun c hc => nomatch hc⟩, fun g => g.filter _, fun g => g.filter _⟩
  have h3 : Keeps a0 s3 := keeps_setNum h2 ..
  have h4 : Keeps a0 s4 := Keeps.foldl h3 (fun _ _ g => keeps_setFlag g ..) _
  have h5 : Keeps a0 s5 := Keeps.foldl (keeps_setNum h4 ..) (fun _ _ g => keeps_setDom g ..) _
  exact keeps_noteStart (keeps_setFlag h5 ..)

/-- Memory may be put in place of another of canonical form. -/

theorem Keeps.putMem {a x : State} (h : Keeps a x) {m : Mem} (hm : a.mem.Canon → m.Canon) : Keeps a (x.setMem m) :=
  ⟨h.queue, h.sent, h.drawn, hm, h.pump, h.objs, h.blobs⟩

theorem keeps_setBadSlots {a0 : State} {s : State} (h : Keeps a0 s) (a : Bool) (b : Bool) : Keeps a0 (setBadSlots s a b) := by
  unfold setBadSlots
  (try dsimp only)
  repeat' first
    | with_reducible assumption
    | with_reducible apply keeps_setTrust

theorem keeps_powerOnReset {a0 s : State} (h : Keeps a0 s) (badA badB : Bool) : Keeps a0 (powerOnReset s badA badB) := by
  unfold powerOnReset
  apply keeps_bootChain
  apply keeps_setBadSlots
  apply keeps_setNums
  exact Keeps.putMem (keeps_resetTo h ..) (fun hc => (h.mem hc).memReset)

theorem keeps_resetN {a0 s : State} (h : Keeps a0 s) (badA badB : Bool) : Keeps a0 (resetN s badA badB) := by
  unfold resetN
  split
  · exact h
  · apply keeps_bootChain
    apply keeps_setBadSlots
    exact Keeps.putMem (keeps_resetTo h ..) (fun hc => (h.mem hc).memReset)

theorem keeps_softReset {a0 s : State} (h : Keeps a0 s) : Keeps a0 (softReset s) := by
  unfold softReset
  extract_lets s1 doms s2 _ _ _ _ _ s3 s4 s5
  have h1 : Keeps a0 s1 := h.foldl (fun _ _ g => keeps_applyTrims g _) _
  have g : Keeps a0 s2 := keeps_resetTo h1 2 _ _ _
  clear_value s2
  have h3 : Keeps a0 s3 := ⟨g.queue, g.sent, g.drawn, h1.mem, fun hc => (h1.pump hc).congr rfl rfl, g.objs, g.blobs⟩
  clear_value s3
  exact keeps_bootChain (keeps_setNums (keeps_noteStart (keeps_setNum h3 ..)) _)

theorem keeps_perstReset {a0 s : State} (h : Keeps a0 s) : Keeps a0 (perstReset s) := h.trans (keeps_mk ..)

theorem keeps_perst {a0 : State} {s : State} (h : Keeps a0 s)  : Keeps a0 (perst s) := by
  unfold perst
  (try dsimp only)
  repeat' first
    | with_reducible assumption
    | with_reducible apply Keeps.ite
    | with_reducible apply keeps_raise
    | with_reducible apply keeps_setPwr
    | with_reducible apply keeps_clearReady
    | with_reducible apply keeps_perstReset

theorem keeps_perstOff {a0 : State} {s : State} (h : Keeps a0 s)  : Keeps a0 (perstOff s) := by
  unfold perstOff
  (try dsimp only)
  repeat' first
    | with_reducible assumption
    | with_reducible apply keeps_setPwr

theorem keeps_aerError {a0 : State} {s : State} (h : Keeps a0 s)  : Keeps a0 (aerError s) := by
  unfold aerError
  repeat' first
    | with_reducible assumption
    | with_reducible apply Keeps.ite
    | with_reducible apply keeps_raise

theorem keeps_portDown {a0 : State} {s : State} (h : Keeps a0 s) (p : Nat) : Keeps a0 (portDown s p) := by
  unfold portDown
  repeat' first
    | with_reducible assumption
    | with_reducible apply Keeps.ite
    | with_reducible apply keeps_raise
    | with_reducible apply keeps_clearReady

theorem keeps_peak {a0 : State} {s : State} (h : Keeps a0 s) (k : Nat) (v : Int) : Keeps a0 (peak s k v) := by
  unfold peak
  repeat' first
    | with_reducible assumption
    | with_reducible apply Keeps.ite
    | with_reducible apply keeps_setNum

theorem keeps_storeReading {a0 : State} {s : State} (h : Keeps a0 s) (p : Nat × Int) : Keeps a0 (storeReading s p) := by
  unfold storeReading
  (try dsimp only)
  repeat' first
    | with_reducible assumption
    | with_reducible apply Keeps.ite
    | with_reducible apply keeps_setNum
    | with_reducible apply keeps_peak

theorem keeps_warnSensor {a0 : State} {s : State} (h : Keeps a0 s) (p : Nat × Int) : Keeps a0 (warnSensor s p) := by
  unfold warnSensor
  (try dsimp only)
  repeat' first
    | with_reducible assumption
    | with_reducible apply Keeps.ite
    | with_reducible apply keeps_raise
    | with_reducible apply keeps_setPwr

theorem keeps_limitSensor {a0 : State} {s : State} (h : Keeps a0 s) (p : Nat × Int) : Keeps a0 (limitSensor s p) := by
  unfold limitSensor
  (try dsimp only)
  repeat' first
    | with_reducible assumption
    | with_reducible apply Keeps.ite
    | with_reducible apply keeps_setFlag
    | with_reducible apply keeps_raise
    | with_reducible apply keeps_setPwr

theorem keeps_temperatureSample {a0 : State} {s : State} (h : Keeps a0 s) (x : Sensors) : Keeps a0 (temperatureSample s x) := by
  unfold temperatureSample
  (try dsimp only)
  repeat' first
    | with_reducible assumption
    | with_reducible apply Keeps.ite
    | with_reducible apply keeps_setNum
    | with_reducible apply keeps_raise
    | with_reducible apply keeps_setPwr
    | with_reducible apply keeps_limitSensor
    | with_reducible apply keeps_safeEnter
    | with_reducible apply keeps_storeReading
    | with_reducible apply keeps_warnSensor
    | with_reducible apply Keeps.foldl
    | with_reducible apply Keeps.foldl_fst
    | with_reducible apply Keeps.foldl_snd
    | intro _ _ _

theorem keeps_pumpLeave {a0 : State} {s : State} (h : Keeps a0 s) (p : Nat) (st : Nat) : Keeps a0 (pumpLeave s p st) := by
  unfold pumpLeave
  (try dsimp only)
  repeat' first
    | with_reducible assumption
    | with_reducible apply keeps_setNums
    | with_reducible apply keeps_setPch

theorem keeps_pumpPos {a0 : State} {s : State} (h : Keeps a0 s) (p : Nat) (i : Nat × Nat × Nat) : Keeps a0 (pumpPos s p i) := by
  unfold pumpPos
  repeat' first
    | with_reducible assumption
    | with_reducible apply keeps_setNums

theorem keeps_pumpGoto {a0 : State} {s : State} (h : Keeps a0 s) (p : Nat) (addr : Nat) : Keeps a0 (pumpGoto s p addr) := by
  unfold pumpGoto
  (try dsimp only)
  repeat' first
    | with_reducible assumption
    | with_reducible apply keeps_setNum
    | with_reducible apply keeps_setPch
    | with_reducible apply keeps_pumpPos

theorem keeps_pumpError {a0 : State} {s : State} (h : Keeps a0 s) (p : Nat) (code : Nat) (addr : Nat) (ep : Nat) : Keeps a0 (pumpError s p code addr ep) := by
  unfold pumpError
  repeat' first
    | with_reducible assumption
    | with_reducible apply keeps_setNums
    | with_reducible apply keeps_evPump
    | with_reducible apply keeps_pumpLeave

theorem keeps_pumpBusError {a0 : State} {s : State} (h : Keeps a0 s) (addr : Nat) (ep : Nat) : Keeps a0 (pumpBusError s addr ep) := by
  unfold pumpBusError
  (try dsimp only)
  repeat' first
    | with_reducible assumption
    | with_reducible apply Keeps.ite
    | with_reducible apply keeps_raise
    | with_reducible apply keeps_pumpError
    | with_reducible apply Keeps.foldl
    | with_reducible apply Keeps.foldl_fst
    | with_reducible apply Keeps.foldl_snd
    | intro _ _ _

theorem keeps_epRead {a0 : State} {s : State} (h : Keeps a0 s) (ep : Nat) (a : Nat) (n : Nat) (data : Bytes) : Keeps a0 (epRead s ep a n data).2 := by
  unfold epRead
  (try dsimp only)
  repeat' first
    | with_reducible assumption
    | with_reducible apply Keeps.ite
    | with_reducible apply keeps_memUE
    | split

theorem keeps_epWrite {a0 s : State} (h : Keeps a0 s) (p ep a : Nat) (d : Bytes) : Keeps a0 (epWrite s p ep a d).2 := by
  unfold epWrite
  split
  · split
    · exact keeps_emit h _
    · exact h
  · split
    · exact keeps_setPump h _ (fun hc => hc.sramWrite ..)
    · exact keeps_memStore h ..

theorem keeps_stackUpset {a0 s : State} (h : Keeps a0 s) (u : Upset) : Keeps a0 (stackUpset s u) := by
  unfold stackUpset
  split
  · exact keeps_applyUpset h _
  · exact keeps_applyUpset h _
  · exact h
  · exact h

theorem keeps_pumpBusRow {a0 s : State} (h : Keeps a0 s) (addr ep : Nat) : Keeps a0 (pumpBusRow s addr ep) :=
  keeps_pumpBusError (Keeps.ite (keeps_memUE h _) h) ..

theorem keeps_pumpStart {a0 : State} {s : State} (h : Keeps a0 s) (p : Nat) (cls : Nat) : Keeps a0 (pumpStart s p cls) := by
  unfold pumpStart
  (try dsimp only)
  repeat' first
    | with_reducible assumption
    | with_reducible apply keeps_setNum
    | with_reducible apply keeps_setNums
    | with_reducible apply keeps_setPch
    | with_reducible apply keeps_pumpGoto

theorem keeps_pumpDoorbell {a0 : State} {s : State} (h : Keeps a0 s) (p : Nat) : Keeps a0 (pumpDoorbell s p) := by
  unfold pumpDoorbell
  (try dsimp only)
  repeat' first
    | with_reducible assumption
    | with_reducible apply Keeps.ite
    | with_reducible apply keeps_setNum
    | with_reducible apply keeps_inc
    | with_reducible apply keeps_setPch

theorem keeps_pumpStopCmd {a0 : State} {s : State} (h : Keeps a0 s) (p : Nat) : Keeps a0 (pumpStopCmd s p) := by
  unfold pumpStopCmd
  (try dsimp only)
  repeat' first
    | with_reducible assumption
    | with_reducible apply Keeps.ite
    | with_reducible apply keeps_setNum
    | with_reducible apply keeps_setPch
    | with_reducible apply keeps_pumpStopAsk

theorem keeps_pumpResume {a0 : State} {s : State} (h : Keeps a0 s) (p : Nat) (cls : Nat) : Keeps a0 (pumpResume s p cls) := by
  unfold pumpResume
  (try dsimp only)
  repeat' first
    | with_reducible assumption
    | with_reducible apply Keeps.ite
    | with_reducible apply keeps_setNums
    | with_reducible apply keeps_setPch

theorem keeps_pumpCmd {a0 : State} {s : State} (h : Keeps a0 s) (p : Nat) (cmd : Nat) (cls : Nat) : Keeps a0 (pumpCmd s p cmd cls) := by
  unfold pumpCmd
  repeat' first
    | with_reducible assumption
    | with_reducible apply Keeps.ite
    | with_reducible apply keeps_pumpDoorbell
    | with_reducible apply keeps_pumpResume
    | with_reducible apply keeps_pumpStart
    | with_reducible apply keeps_pumpStopCmd

theorem keeps_chCmdWrite {a0 : State} {s : State} (h : Keeps a0 s) (p : Nat) (v : Nat) (cls : Nat) : Keeps a0 (chCmdWrite s p v cls) := by
  unfold chCmdWrite
  repeat' first
    | with_reducible assumption
    | with_reducible apply keeps_pumpCmd
    | split

theorem keeps_pumpDbWrite {a0 : State} {s : State} (h : Keeps a0 s) (p : Nat) (v : Nat) (cls : Nat) : Keeps a0 (pumpDbWrite s p v cls) := by
  unfold pumpDbWrite
  (try dsimp only)
  repeat' first
    | with_reducible assumption
    | with_reducible apply Keeps.ite
    | with_reducible apply keeps_inc
    | with_reducible apply keeps_pumpCmd
    | split

theorem keeps_curDescWrite {a0 : State} {s : State} (h : Keeps a0 s) (p : Nat) (addr : Nat) : Keeps a0 (curDescWrite s p addr) := by
  unfold curDescWrite
  repeat' first
    | with_reducible assumption
    | with_reducible apply keeps_pumpGoto

theorem keeps_descriptorFetch {a0 : State} {s : State} (h : Keeps a0 s) (p : Nat) (data : Bytes) : Keeps a0 (descriptorFetch s p data) := by
  unfold descriptorFetch
  (try dsimp only)
  repeat' first
    | with_reducible assumption
    | with_reducible apply Keeps.ite
    | with_reducible apply keeps_setNum
    | with_reducible apply keeps_raise
    | with_reducible apply keeps_setPch
    | with_reducible apply keeps_pumpBusError
    | with_reducible apply keeps_pumpError
    | split

theorem keeps_elementDone {a0 : State} {s : State} (h : Keeps a0 s) (p : Nat) (d : Bytes) (n : Nat) (w : Bytes) : Keeps a0 (elementDone s p d n w) := by
  unfold elementDone
  (try dsimp only)
  repeat' first
    | with_reducible assumption
    | with_reducible apply keeps_add
    | with_reducible apply keeps_setPch
    | with_reducible apply keeps_pumpPos

theorem keeps_elementMove {a0 : State} {s : State} (h : Keeps a0 s) (p : Nat) (io : ElementIo) : Keeps a0 (elementMove s p io) := by
  unfold elementMove
  (try dsimp only)
  repeat' first
    | with_reducible assumption
    | with_reducible apply Keeps.ite
    | with_reducible apply keeps_add
    | with_reducible apply keeps_pumpLeave
    | with_reducible apply keeps_stackUpset
    | with_reducible apply keeps_elementDone
    | with_reducible apply keeps_epRead
    | with_reducible apply keeps_epWrite
    | with_reducible apply keeps_pumpBusError
    | with_reducible apply keeps_pumpError
    | with_reducible apply Keeps.foldl
    | intro _ _ _
    | split

theorem keeps_stopTakesEffect {a0 : State} {s : State} (h : Keeps a0 s) (p : Nat) : Keeps a0 (stopTakesEffect s p) := by
  unfold stopTakesEffect
  (try dsimp only)
  repeat' first
    | with_reducible assumption
    | with_reducible apply Keeps.ite
    | with_reducible apply keeps_pumpLeave

theorem keeps_descriptorComplete {a0 : State} {s : State} (h : Keeps a0 s) (p : Nat) : Keeps a0 (descriptorComplete s p) := by
  unfold descriptorComplete
  (try dsimp only)
  repeat' first
    | with_reducible assumption
    | with_reducible apply Keeps.ite
    | with_reducible apply keeps_setNum
    | with_reducible apply keeps_setNums
    | with_reducible apply keeps_inc
    | with_reducible apply keeps_evPump
    | with_reducible apply keeps_setPch
    | with_reducible apply keeps_msix
    | with_reducible apply keeps_pumpError
    | with_reducible apply keeps_pumpGoto
    | with_reducible apply keeps_pumpLeave
    | split

theorem keeps_refetchDone {a0 : State} {s : State} (h : Keeps a0 s) (p : Nat) (data : Bytes) : Keeps a0 (refetchDone s p data) := by
  unfold refetchDone
  (try dsimp only)
  repeat' first
    | with_reducible assumption
    | with_reducible apply Keeps.ite
    | with_reducible apply keeps_setNum
    | with_reducible apply keeps_inc
    | with_reducible apply keeps_setPch
    | with_reducible apply keeps_pumpBusError
    | with_reducible apply keeps_pumpError
    | with_reducible apply keeps_pumpGoto
    | with_reducible apply keeps_pumpLeave
    | split

end Sys2Proof.Machine
end

