-- ==== Sys2Proof/Laws/KeepsPorts.lean ====
section
/-! SUPPORT. What the operations keep (see Keeps): the checks and commits of writes, the management core and the ports. One lemma for each. -/

namespace Sys2Proof.Machine

theorem keeps_seqCmd {a0 : State} {s : State} (h : Keeps a0 s) (v : Nat) : Keeps a0 (seqCmd s v) := by
  unfold seqCmd
  (try dsimp only)
  repeat' first
    | with_reducible assumption
    | with_reducible apply Keeps.ite
    | with_reducible apply keeps_inc
    | with_reducible apply keeps_hostHalt
    | with_reducible apply keeps_runRequest

theorem keeps_ucCmd {a0 : State} {s : State} (h : Keeps a0 s) (v : Nat) : Keeps a0 (ucCmd s v) := by
  unfold ucCmd
  (try dsimp only)
  repeat' first
    | with_reducible assumption
    | with_reducible apply Keeps.ite
    | with_reducible apply keeps_custClear
    | with_reducible apply keeps_custLoad
    | with_reducible apply keeps_patchInstall

theorem keeps_trapCmd {a0 : State} {s : State} (h : Keeps a0 s) (v : Nat) : Keeps a0 (trapCmd s v) := by
  unfold trapCmd
  (try dsimp only)
  repeat' first
    | with_reducible assumption
    | with_reducible apply Keeps.ite
    | with_reducible apply keeps_snapCmd
    | with_reducible apply keeps_userCmd

theorem keeps_calCmd {a0 : State} {s : State} (h : Keeps a0 s) (v : Nat) : Keeps a0 (calCmd s v) := by
  unfold calCmd
  repeat' first
    | with_reducible assumption
    | with_reducible apply Keeps.ite
    | with_reducible apply keeps_calAbort
    | with_reducible apply keeps_calSelf

theorem keeps_storeCmd {a0 : State} {s : State} (h : Keeps a0 s) (v : Nat) : Keeps a0 (storeCmd s v) := by
  unfold storeCmd
  repeat' first
    | with_reducible assumption
    | with_reducible apply Keeps.ite
    | with_reducible apply keeps_calReload
    | with_reducible apply keeps_storeStart

theorem keeps_tileCmd {a0 : State} {s : State} (h : Keeps a0 s) (t : Nat) (v : Nat) : Keeps a0 (tileCmd s t v) := by
  unfold tileCmd
  (try dsimp only)
  repeat' first
    | with_reducible assumption
    | with_reducible apply Keeps.ite
    | with_reducible apply keeps_listenStart
    | with_reducible apply keeps_wakeCmd

theorem keeps_tmuCmd {a0 : State} {s : State} (h : Keeps a0 s) (c : Nat) (v : Nat) : Keeps a0 (tmuCmd s c v) := by
  unfold tmuCmd
  (try dsimp only)
  repeat' first
    | with_reducible assumption
    | with_reducible apply Keeps.ite
    | with_reducible apply keeps_tmuArm
    | with_reducible apply keeps_tmuClear
    | with_reducible apply keeps_tmuDisarm

theorem keeps_rollbackCmd {a0 : State} {s : State} (h : Keeps a0 s) (v : Nat) : Keeps a0 (rollbackCmd s v) := by
  unfold rollbackCmd
  repeat' first
    | with_reducible assumption
    | with_reducible apply Keeps.ite
    | with_reducible apply keeps_advStart

theorem keeps_fenceCmd {a0 : State} {s : State} (h : Keeps a0 s) (v : Nat) : Keeps a0 (fenceCmd s v) := by
  unfold fenceCmd
  repeat' first
    | with_reducible assumption
    | with_reducible apply Keeps.ite
    | with_reducible apply keeps_fenceLift
    | with_reducible apply keeps_fenceSet

theorem keeps_softAsk {a0 : State} {s : State} (h : Keeps a0 s)  : Keeps a0 (softAsk s) := by
  unfold softAsk
  (try dsimp only)
  repeat' first
    | with_reducible assumption
    | with_reducible apply keeps_setPwr

theorem keeps_sigCommitStart {a0 : State} {s : State} (h : Keeps a0 s)  : Keeps a0 (sigCommitStart s) := by
  unfold sigCommitStart
  repeat' first
    | with_reducible assumption
    | with_reducible apply keeps_setNum

theorem keeps_parkFollow {a0 : State} {s : State} (h : Keeps a0 s) (c : Nat) : Keeps a0 (parkFollow s c) := by
  unfold parkFollow
  (try dsimp only)
  repeat' first
    | with_reducible assumption
    | with_reducible apply Keeps.ite
    | with_reducible apply keeps_setChan

theorem keeps_authSet {a0 : State} {s : State} (h : Keeps a0 s) (k : Nat) (v : Nat) : Keeps a0 (authSet s k v) := by
  unfold authSet
  (try dsimp only)
  repeat' first
    | with_reducible assumption
    | with_reducible apply Keeps.ite
    | with_reducible apply keeps_setNum
    | with_reducible apply keeps_setPf

theorem keeps_portMode {a0 : State} {s : State} (h : Keeps a0 s) (p : Nat) (v : Nat) : Keeps a0 (portMode s p v) := by
  unfold portMode
  (try dsimp only)
  repeat' first
    | with_reducible assumption
    | with_reducible apply Keeps.ite
    | with_reducible apply keeps_setNum
    | with_reducible apply keeps_portDown

theorem keeps_tmuMode {a0 : State} {s : State} (h : Keeps a0 s) (c : Nat) (v : Nat) : Keeps a0 (tmuMode s c v) := by
  unfold tmuMode
  (try dsimp only)
  repeat' first
    | with_reducible assumption
    | with_reducible apply Keeps.ite
    | with_reducible apply keeps_setNum
    | with_reducible apply keeps_tmuIdle

theorem keeps_resense {a0 : State} {s : State} (h : Keeps a0 s) (c : Nat) : Keeps a0 (resense s c) := by
  unfold resense
  repeat' first
    | with_reducible assumption
    | with_reducible apply Keeps.ite
    | with_reducible apply keeps_senseVs

theorem keeps_scMode {a0 : State} {s : State} (h : Keeps a0 s) (c : Nat) (v : Nat) : Keeps a0 (scMode s c v) := by
  unfold scMode
  (try dsimp only)
  repeat' first
    | with_reducible assumption
    | with_reducible apply Keeps.ite
    | with_reducible apply keeps_setNum
    | with_reducible apply keeps_enablePowered
    | with_reducible apply keeps_resense

theorem keeps_invCountWrite {a0 : State} {s : State} (h : Keeps a0 s) (c : Nat) (v : Nat) : Keeps a0 (invCountWrite s c v) := by
  unfold invCountWrite
  repeat' first
    | with_reducible assumption
    | with_reducible apply keeps_setNum
    | with_reducible apply keeps_invSeen

theorem keeps_lineCfgWrite {a0 : State} {s : State} (h : Keeps a0 s) (t : Nat) (i : Nat) (v : Nat) : Keeps a0 (lineCfgWrite s t i v) := by
  unfold lineCfgWrite
  (try dsimp only)
  repeat' first
    | with_reducible assumption
    | with_reducible apply Keeps.ite
    | with_reducible apply keeps_setNum
    | with_reducible apply keeps_setFlag

theorem keeps_whMinWrite {a0 : State} {s : State} (h : Keeps a0 s) (t : Nat) (v : Nat) : Keeps a0 (whMinWrite s t v) := by
  unfold whMinWrite
  repeat' first
    | with_reducible assumption
    | with_reducible apply keeps_setNum
    | with_reducible apply keeps_whReport

theorem keeps_cqMaxWrite {a0 : State} {s : State} (h : Keeps a0 s) (v : Nat) : Keeps a0 (cqMaxWrite s v) := by
  unfold cqMaxWrite
  repeat' first
    | with_reducible assumption
    | with_reducible apply keeps_setNum

theorem keeps_ucEnforce {a0 : State} {s : State} (h : Keeps a0 s) (v : Nat) : Keeps a0 (ucEnforce s v) := by
  unfold ucEnforce
  (try dsimp only)
  repeat' first
    | with_reducible assumption
    | with_reducible apply Keeps.ite
    | with_reducible apply keeps_setNum
    | with_reducible apply keeps_custClear

theorem keeps_sigRefWrite {a0 : State} {s : State} (h : Keeps a0 s) (v : Nat) : Keeps a0 (sigRefWrite s v) := by
  unfold sigRefWrite
  repeat' first
    | with_reducible assumption
    | with_reducible apply keeps_setNums

theorem keeps_commitUnit {a0 s : State} (h : Keeps a0 s) (q : Asker) (k : Nat) (b : Nat) (u : Nat) (v : Nat) : KeepsOpt a0 (commitUnit s q k b u v) := by
  unfold commitUnit
  repeat' first
    | with_reducible apply KeepsOpt.ite
    | with_reducible apply KeepsOpt.none
    | with_reducible apply KeepsOpt.some
    | with_reducible assumption
    | with_reducible apply Keeps.ite
    | with_reducible apply keeps_setNum
    | with_reducible apply keeps_baseWrite
    | with_reducible apply keeps_chCmdWrite
    | with_reducible apply keeps_convStart
    | with_reducible apply keeps_curDescWrite
    | with_reducible apply keeps_deskewApply
    | with_reducible apply keeps_enablePowered
    | with_reducible apply keeps_invCountWrite
    | with_reducible apply keeps_lineCfgWrite
    | with_reducible apply keeps_parkFollow
    | with_reducible apply keeps_resense
    | with_reducible apply keeps_scMode
    | with_reducible apply keeps_selfCheckStart
    | with_reducible apply keeps_tileCmd
    | with_reducible apply keeps_tmuCmd
    | with_reducible apply keeps_tmuMode
    | with_reducible apply keeps_whMinWrite

theorem keeps_commitModule {a0 s : State} (h : Keeps a0 s) (q : Asker) (k : Nat) (v : Nat) : KeepsOpt a0 (commitModule s q k v) := by
  unfold commitModule
  repeat' first
    | with_reducible apply KeepsOpt.ite
    | with_reducible apply KeepsOpt.none
    | with_reducible apply KeepsOpt.some
    | with_reducible assumption
    | with_reducible apply Keeps.ite
    | with_reducible apply keeps_setNum
    | with_reducible apply keeps_inc
    | with_reducible apply keeps_authSet
    | with_reducible apply keeps_calCmd
    | with_reducible apply keeps_cqMaxWrite
    | with_reducible apply keeps_domEnWrite
    | with_reducible apply keeps_fenceCmd
    | with_reducible apply keeps_fireCmd
    | with_reducible apply keeps_fwInstall
    | with_reducible apply keeps_jumpRequest
    | with_reducible apply keeps_mapApply
    | with_reducible apply keeps_mapNote
    | with_reducible apply keeps_portMode
    | with_reducible apply keeps_refUpdate
    | with_reducible apply keeps_ringCmd
    | with_reducible apply keeps_ringRoleWrite
    | with_reducible apply keeps_rollbackCmd
    | with_reducible apply keeps_seqCmd
    | with_reducible apply keeps_sigCommitStart
    | with_reducible apply keeps_sigGroupWrite
    | with_reducible apply keeps_sigRefWrite
    | with_reducible apply keeps_signStart
    | with_reducible apply keeps_softAsk
    | with_reducible apply keeps_stickyClear
    | with_reducible apply keeps_storeCmd
    | with_reducible apply keeps_tickWrite
    | with_reducible apply keeps_trapCmd
    | with_reducible apply keeps_ucCmd
    | with_reducible apply keeps_ucEnforce
    | with_reducible apply keeps_vrefWrite

theorem keeps_commit {a0 s : State} (h : Keeps a0 s) (q : Asker) (frame : Bool) (i sub off : Nat) (d : Bytes) :
    Keeps a0 (commit s q frame i sub off d) := by
  unfold commit
  extract_lets r k w v
  repeat' first
    | with_reducible assumption
    | with_reducible apply Keeps.ite
    | with_reducible apply keeps_keyWrite
    | with_reducible apply keeps_inc
    | with_reducible apply keeps_setBlob
    | with_reducible apply keeps_setNum
  split
  · rename_i e; exact keeps_commitUnit h _ _ _ _ _ _ e
  · split
    · rename_i e; exact keeps_commitModule h _ _ _ _ e
    · exact keeps_setNum h ..

theorem keeps_refusedEffect {a0 : State} {s : State} (h : Keeps a0 s) (i : Nat) (sub : Nat) (d : Bytes) (code : Nat) : Keeps a0 (refusedEffect s i sub d code) := by
  unfold refusedEffect
  (try dsimp only)
  repeat' first
    | with_reducible assumption
    | with_reducible apply Keeps.ite
    | with_reducible apply keeps_inc
    | with_reducible apply keeps_setFlag
    | with_reducible apply keeps_evCal
    | with_reducible apply keeps_raise
    | with_reducible apply keeps_custLoad
    | with_reducible apply keeps_hostHalt
    | with_reducible apply keeps_jumpRequest
    | with_reducible apply keeps_signStart

theorem keeps_writeObj {a0 : State} {s : State} (h : Keeps a0 s) (q : Asker) (frame : Bool) (v1 : Bool) (i : Nat) (sub : Nat) (off : Nat) (d : Bytes) : Keeps a0 (writeObj s q frame v1 i sub off d).2.1 := by
  unfold writeObj
  (try dsimp only)
  repeat' first
    | with_reducible assumption
    | with_reducible apply Keeps.ite
    | with_reducible apply keeps_setNum
    | with_reducible apply keeps_commit
    | with_reducible apply keeps_refusedEffect
    | with_reducible apply keeps_sigTouched
    | split

theorem keeps_sendReply {a0 : State} {s : State} (h : Keeps a0 s) (a : Arrival) (f : Bytes) : Keeps a0 (sendReply s a f) := by
  unfold sendReply
  (try dsimp only)
  repeat' first
    | with_reducible assumption
    | with_reducible apply Keeps.ite
    | with_reducible apply keeps_emit
    | with_reducible apply keeps_setJtag
    | with_reducible apply keeps_setPf
    | split

theorem keeps_serveRead {a0 : State} {s : State} (h : Keeps a0 s) (a : Arrival) (i : Nat) (sub : Nat) (off : Nat) (len : Nat) : Keeps a0 (serveRead s a i sub off len) := by
  unfold serveRead
  (try dsimp only)
  repeat' first
    | with_reducible assumption
    | with_reducible apply Keeps.ite
    | with_reducible apply keeps_sendReply

theorem keeps_writeReply {a0 : State} {s : State} (h : Keeps a0 s) (a : Arrival) (cls : Nat) (i : Nat) (sub : Nat) (c : Nat) : Keeps a0 (writeReply s a cls i sub c) := by
  unfold writeReply
  repeat' first
    | with_reducible assumption
    | with_reducible apply Keeps.ite
    | with_reducible apply keeps_sendReply

theorem keeps_serveWrite {a0 : State} {s : State} (h : Keeps a0 s) (a : Arrival) (i : Nat) (sub : Nat) (off : Nat) (d : Bytes) : Keeps a0 (serveWrite s a i sub off d).1 := by
  unfold serveWrite
  (try dsimp only)
  repeat' first
    | with_reducible assumption
    | with_reducible apply Keeps.ite
    | with_reducible apply keeps_writeObj
    | with_reducible apply keeps_writeReply
    | split

theorem keeps_runItems {a0 s : State} (h : Keeps a0 s) (a : Arrival) (stop : Bool) (done : Nat) (items : Bytes)
    (code : Nat) (l : List BatchItem) : Keeps a0 (runItems s a stop done items code l).st := by
  induction l generalizing s done items code with
  | nil => exact h
  | cons it rest ih =>
    simp only [runItems]
    repeat' first
      | with_reducible assumption
      | with_reducible apply ih
      | with_reducible apply keeps_attnNote
      | with_reducible apply keeps_writeObj
      | split

theorem keeps_batchEnd {a0 : State} {r : BatchRun} (h : Keeps a0 r.st) (a : Arrival) (cls : Nat) (all : List BatchItem) :
    Keeps a0 (batchEnd a cls all r).1 := by
  unfold batchEnd
  split
  · exact h
  · split
    · exact keeps_sendReply h ..
    · exact h

theorem keeps_hold_ {a0 : State} {s : State} (hk : Keeps a0 s) (h : Held) : Keeps a0 (hold_ s h) := by
  unfold hold_
  (try dsimp only)
  repeat' first
    | with_reducible assumption
    | with_reducible apply keeps_setMgmt

theorem keeps_serveItems {a0 s : State} (h : Keeps a0 s) (a : Arrival) (stop : Bool) (all : List BatchItem) (x : Held) :
    Keeps a0 (serveItems s a stop all x).1 := by
  unfold serveItems
  extract_lets cls r e
  have he : Keeps a0 e.1 := keeps_batchEnd (keeps_runItems h ..) ..
  clear_value e
  split
  · exact keeps_hold_ he _
  · exact he

theorem keeps_serveBatch {a0 : State} {s : State} (h : Keeps a0 s) (a : Arrival) (b : Ask) (stop : Bool) (all : List BatchItem) : Keeps a0 (serveBatch s a b stop all).1 := by
  unfold serveBatch
  repeat' first
    | with_reducible assumption
    | with_reducible apply Keeps.ite
    | with_reducible apply keeps_sendReply
    | with_reducible apply keeps_serveItems
    | split

theorem keeps_serveFrame {a0 : State} {s : State} (h : Keeps a0 s) (a : Arrival) (b : Ask) : Keeps a0 (serveFrame s a b).1 := by
  unfold serveFrame
  (try dsimp only)
  repeat' first
    | with_reducible assumption
    | with_reducible apply Keeps.ite
    | with_reducible apply keeps_hold_
    | with_reducible apply keeps_sendReply
    | with_reducible apply keeps_serveBatch
    | with_reducible apply keeps_serveRead
    | with_reducible apply keeps_serveWrite
    | split

theorem keeps_barReject {a0 : State} {s : State} (h : Keeps a0 s) (ctr : Nat) (i : Nat) (sub : Nat) (code : Nat) : Keeps a0 (barReject s ctr i sub code) := by
  unfold barReject
  repeat' first
    | with_reducible assumption
    | with_reducible apply keeps_setNums
    | with_reducible apply keeps_inc

theorem keeps_serveBar2Read {a0 : State} {s : State} (h : Keeps a0 s) (pf : Nat) (off : Nat) (len : Nat) : Keeps a0 (serveBar2Read s pf off len) := by
  unfold serveBar2Read
  (try dsimp only)
  repeat' first
    | with_reducible assumption
    | with_reducible apply Keeps.ite
    | with_reducible apply keeps_emit
    | with_reducible apply keeps_barReject

theorem keeps_barCommit {a0 : State} {s : State} (h : Keeps a0 s) (pf : Nat) (i : Nat) (sub : Nat) (d : Bytes) : Keeps a0 (barCommit s pf i sub d).1 := by
  unfold barCommit
  (try dsimp only)
  repeat' first
    | with_reducible assumption
    | with_reducible apply Keeps.ite
    | with_reducible apply keeps_barReject
    | with_reducible apply keeps_writeObj
    | split

theorem keeps_lowHalf {a0 : State} {s : State} (h : Keeps a0 s) (pf : Nat) (off : Nat) (d : Bytes) : Keeps a0 (lowHalf s pf off d) := by
  unfold lowHalf
  (try dsimp only)
  repeat' first
    | with_reducible assumption
    | with_reducible apply Keeps.ite
    | with_reducible apply keeps_setPf
    | with_reducible apply keeps_barReject

theorem keeps_barWidth {a0 : State} {s : State} (h : Keeps a0 s) (pf : Nat) (i : Nat) (sub : Nat) : Keeps a0 (barWidth s pf i sub) := by
  unfold barWidth
  (try dsimp only)
  repeat' first
    | with_reducible assumption
    | with_reducible apply Keeps.ite
    | with_reducible apply keeps_setNum
    | with_reducible apply keeps_barReject

theorem keeps_highHalf {a0 : State} {s : State} (h : Keeps a0 s) (pf : Nat) (off : Nat) (d : Bytes) : Keeps a0 (highHalf s pf off d).1 := by
  unfold highHalf
  (try dsimp only)
  repeat' first
    | with_reducible assumption
    | with_reducible apply Keeps.ite
    | with_reducible apply keeps_setPf
    | with_reducible apply keeps_barCommit
    | with_reducible apply keeps_barWidth
    | split

theorem keeps_serveBar2Write {a0 : State} {s : State} (h : Keeps a0 s) (pf : Nat) (off : Nat) (d : Bytes) : Keeps a0 (serveBar2Write s pf off d).1 := by
  unfold serveBar2Write
  (try dsimp only)
  repeat' first
    | with_reducible assumption
    | with_reducible apply Keeps.ite
    | with_reducible apply keeps_inc
    | with_reducible apply keeps_barCommit
    | with_reducible apply keeps_barWidth
    | with_reducible apply keeps_highHalf
    | with_reducible apply keeps_lowHalf
    | split

theorem keeps_dictError {a0 : State} {s : State} (h : Keeps a0 s) (p : Nat) (code : Nat) (addr : Nat) : Keeps a0 (dictError s p code addr) := by
  unfold dictError
  repeat' first
    | with_reducible assumption
    | with_reducible apply keeps_setNum
    | with_reducible apply keeps_pumpError

theorem keeps_dictSource {a0 : State} {s : State} (h : Keeps a0 s) (p : Nat) (d : Bytes) (a : Nat) (data : Bytes) : Keeps a0 (dictSource s p d a data).2 := by
  unfold dictSource
  (try dsimp only)
  repeat' first
    | with_reducible assumption
    | with_reducible apply Keeps.ite
    | with_reducible apply keeps_dictError
    | with_reducible apply keeps_epRead
    | with_reducible apply keeps_pumpBusError
    | split

theorem keeps_dictTarget {a0 : State} {s : State} (h : Keeps a0 s) (p : Nat) (d : Bytes) (n : Nat) (a : Nat) (w : Bytes) : Keeps a0 (dictTarget s p d n a w).1 := by
  unfold dictTarget
  (try dsimp only)
  repeat' first
    | with_reducible assumption
    | with_reducible apply Keeps.ite
    | with_reducible apply keeps_dictError
    | with_reducible apply keeps_elementDone
    | with_reducible apply keeps_epWrite
    | with_reducible apply keeps_pumpBusError
    | with_reducible apply keeps_writeObj
    | split

theorem keeps_serveDict {a0 : State} {s : State} (h : Keeps a0 s) (p : Nat) (data : Bytes) : Keeps a0 (serveDict s p data).1 := by
  unfold serveDict
  (try dsimp only)
  repeat' first
    | with_reducible assumption
    | with_reducible apply Keeps.ite
    | with_reducible apply keeps_dictSource
    | with_reducible apply keeps_dictTarget
    | with_reducible apply keeps_pumpError
    | split

theorem keeps_serve1 {a0 : State} {s : State} (h : Keeps a0 s) (r : Req) : Keeps a0 (serve1 s r).1 := by
  unfold serve1
  (try dsimp only)
  repeat' first
    | with_reducible assumption
    | with_reducible apply Keeps.ite
    | with_reducible apply keeps_bar2Read
    | with_reducible apply keeps_bar2Write
    | with_reducible apply keeps_hold_
    | with_reducible apply keeps_serveBar2Read
    | with_reducible apply keeps_serveBar2Write
    | with_reducible apply keeps_serveDict
    | with_reducible apply keeps_serveFrame
    | split

theorem keeps_afterReply {a0 : State} {s : State} (h : Keeps a0 s)  : Keeps a0 (afterReply s) := by
  unfold afterReply
  repeat' first
    | with_reducible assumption
    | with_reducible apply Keeps.ite
    | with_reducible apply keeps_softReset

theorem keeps_unmute {a0 : State} {s : State} (h : Keeps a0 s) (r : Req) : Keeps a0 (unmute s r) := by
  unfold unmute
  (try dsimp only)
  repeat' first
    | with_reducible assumption
    | with_reducible apply Keeps.ite
    | with_reducible apply keeps_setMgmt

theorem keeps_served {a0 : State} {x : Served} (h : Keeps a0 x.1) (r : Req) : Keeps a0 (served x r) := by
  unfold served
  apply keeps_setMgmt
  split
  · exact h
  · exact keeps_unmute h _

theorem keeps_serve {a0 : State} {s : State} (h : Keeps a0 s) (r : Req) : Keeps a0 (serve s r) := by
  unfold serve
  (try dsimp only)
  repeat' first
    | with_reducible assumption
    | with_reducible apply Keeps.ite
    | with_reducible apply keeps_afterReply
    | with_reducible apply keeps_attnNote
    | with_reducible apply keeps_serve1
    | with_reducible apply keeps_served

theorem keeps_drain {a0 s : State} (h : Keeps a0 s) (n : Nat) : Keeps a0 (drain n s) := by
  induction n generalizing s with
  | zero => exact h
  | succ n ih =>
    simp only [drain]
    split
    · exact h
    · split
      · exact h
      · exact ih (keeps_serve (keeps_setMgmt h _) _)

theorem keeps_submit {a0 : State} {s : State} (h : Keeps a0 s) (r : Req) : Keeps a0 (submit s r) := by
  unfold submit
  (try dsimp only)
  repeat' first
    | with_reducible assumption
    | with_reducible apply Keeps.ite
    | with_reducible apply keeps_setMgmt
    | with_reducible apply keeps_serve

theorem keeps_frameIn {a0 : State} {s : State} (h : Keeps a0 s) (a : Arrival) (b : Ask) : Keeps a0 (frameIn s a b) := by
  unfold frameIn
  repeat' first
    | with_reducible assumption
    | with_reducible apply Keeps.ite
    | with_reducible apply keeps_submit

theorem keeps_writeVia {a0 : State} {s : State} (h : Keeps a0 s) (v : Via) (i : Nat) (sub : Nat) (d : Bytes) : Keeps a0 (writeVia s v i sub d) := by
  unfold writeVia
  repeat' first
    | with_reducible assumption
    | with_reducible apply Keeps.ite
    | with_reducible apply keeps_bar2Write
    | with_reducible apply keeps_frameIn
    | with_reducible apply keeps_submit
    | split

theorem keeps_writeKey {a0 : State} {s : State} (h : Keeps a0 s) (v : Via) (k : Nat) (n : Nat) : Keeps a0 (writeKey s v k n) := by
  unfold writeKey
  repeat' first
    | with_reducible assumption
    | with_reducible apply keeps_writeVia

theorem keeps_finishHeld {a0 : State} {s : State} (hk : Keeps a0 s) (h : Held) : Keeps a0 (finishHeld s h) := by
  unfold finishHeld
  (try dsimp only)
  repeat' first
    | with_reducible assumption
    | with_reducible apply Keeps.ite
    | with_reducible apply keeps_setMgmt
    | with_reducible apply keeps_afterReply
    | with_reducible apply keeps_attnNote
    | with_reducible apply keeps_serveItems
    | with_reducible apply keeps_unmute
    | with_reducible apply keeps_writeReply
    | split

theorem keeps_sigScanComplete {a0 : State} {s : State} (h : Keeps a0 s)  : Keeps a0 (sigScanComplete s) := by
  unfold sigScanComplete
  (try dsimp only)
  repeat' first
    | with_reducible assumption
    | with_reducible apply Keeps.ite
    | with_reducible apply keeps_setMgmt
    | with_reducible apply keeps_setNums
    | with_reducible apply keeps_drain
    | with_reducible apply keeps_finishHeld
    | with_reducible apply keeps_sigCompare
    | split

theorem keeps_fetchLoop {a0 s : State} (h : Keeps a0 s) (pf n : Nat) (d : Bytes) : Keeps a0 (fetchLoop pf n s d) := by
  induction n generalizing s d with
  | zero => exact h
  | succ n ih =>
    simp only [fetchLoop]
    repeat' first
      | with_reducible assumption
      | with_reducible apply Keeps.ite
      | with_reducible apply ih
      | with_reducible apply keeps_frameIn
      | with_reducible apply keeps_setPf

theorem keeps_commandFetch {a0 : State} {s : State} (h : Keeps a0 s) (pf : Nat) (d : Bytes) : Keeps a0 (commandFetch s pf d) := by
  unfold commandFetch
  repeat' first
    | with_reducible assumption
    | with_reducible apply Keeps.ite
    | with_reducible apply keeps_fetchLoop

theorem keeps_commandFetchError {a0 : State} {s : State} (h : Keeps a0 s) (pf : Nat) : Keeps a0 (commandFetchError s pf) := by
  unfold commandFetchError
  (try dsimp only)
  repeat' first
    | with_reducible assumption
    | with_reducible apply Keeps.ite
    | with_reducible apply keeps_raise
    | with_reducible apply keeps_setPf

theorem keeps_replyWrite {a0 : State} {s : State} (h : Keeps a0 s) (pf : Nat) : Keeps a0 (replyWrite s pf) := by
  unfold replyWrite
  (try dsimp only)
  repeat' first
    | with_reducible assumption
    | with_reducible apply Keeps.ite
    | with_reducible apply keeps_emit
    | with_reducible apply keeps_setPf
    | with_reducible apply keeps_msix
    | split

theorem keeps_muteRing {a0 : State} {s : State} (h : Keeps a0 s) (pf : Nat) : Keeps a0 (muteRing s pf) := by
  unfold muteRing
  (try dsimp only)
  repeat' first
    | with_reducible assumption
    | with_reducible apply Keeps.ite
    | with_reducible apply keeps_setMgmt
    | with_reducible apply keeps_setPf

theorem keeps_functionReset {a0 : State} {s : State} (h : Keeps a0 s) (pf : Nat) : Keeps a0 (functionReset s pf) := by
  unfold functionReset
  (try dsimp only)
  repeat' first
    | with_reducible assumption
    | with_reducible apply Keeps.ite
    | with_reducible apply keeps_setPf
    | with_reducible apply keeps_muteRing

theorem keeps_bar0Read {a0 : State} {s : State} (h : Keeps a0 s) (pf : Nat) (off : Nat) (len : Nat) : Keeps a0 (bar0Read s pf off len) := by
  unfold bar0Read
  (try dsimp only)
  repeat' first
    | with_reducible assumption
    | with_reducible apply Keeps.ite
    | with_reducible apply keeps_emit

theorem keeps_ringCtrlSet {a0 : State} {s : State} (h : Keeps a0 s) (pf : Nat) (v : Nat) : Keeps a0 (ringCtrlSet s pf v) := by
  unfold ringCtrlSet
  (try dsimp only)
  repeat' first
    | with_reducible assumption
    | with_reducible apply Keeps.ite
    | with_reducible apply keeps_setPf
    | with_reducible apply keeps_muteRing

theorem keeps_msixWrite {a0 : State} {s : State} (h : Keeps a0 s) (pf : Nat) (j : Nat) (v : Nat) : Keeps a0 (msixWrite s pf j v) := by
  unfold msixWrite
  (try dsimp only)
  repeat' first
    | with_reducible assumption
    | with_reducible apply Keeps.ite
    | with_reducible apply keeps_setPf
    | with_reducible apply keeps_msix

theorem keeps_bar0Action {a0 s : State} (h : Keeps a0 s) (pf : Nat) (off : Nat) (v : Nat) : KeepsOpt a0 (bar0Action s pf off v) := by
  unfold bar0Action
  repeat' first
    | with_reducible apply KeepsOpt.ite
    | with_reducible apply KeepsOpt.none
    | with_reducible apply KeepsOpt.some
    | with_reducible assumption
    | with_reducible apply Keeps.ite
    | with_reducible apply keeps_setNum
    | with_reducible apply keeps_hostHalt
    | with_reducible apply keeps_jumpRequest
    | with_reducible apply keeps_pumpDbWrite
    | with_reducible apply keeps_runRequest

theorem keeps_bar0Reg {a0 : State} {s : State} (h : Keeps a0 s) (pf : Nat) (off : Nat) (v : Nat) : Keeps a0 (bar0Reg s pf off v).2 := by
  unfold bar0Reg
  (try dsimp only)
  repeat' first
    | with_reducible assumption
    | with_reducible apply Keeps.ite
    | with_reducible apply keeps_setPf
    | with_reducible apply keeps_msixWrite
    | with_reducible apply keeps_ringCtrlSet
    | split

theorem keeps_bar0Put {a0 s : State} (h : Keeps a0 s) (pf off v : Nat) : Keeps a0 (bar0Put s pf off v).2 := by
  unfold bar0Put
  split
  · rename_i e
    split
    · exact keeps_bar0Action h _ _ _ _ e
    · exact h
  · exact keeps_bar0Reg h ..

theorem keeps_bar0Write {a0 : State} {s : State} (h : Keeps a0 s) (pf : Nat) (off : Nat) (d : Bytes) : Keeps a0 (bar0Write s pf off d) := by
  unfold bar0Write
  (try dsimp only)
  repeat' first
    | with_reducible assumption
    | with_reducible apply Keeps.ite
    | with_reducible apply keeps_inc
    | with_reducible apply keeps_bar0Put
    | with_reducible apply keeps_hostHalt
    | split

theorem keeps_bar2Read {a0 : State} {s : State} (h : Keeps a0 s) (pf : Nat) (off : Nat) (len : Nat) : Keeps a0 (bar2Read s pf off len) := by
  unfold bar2Read
  repeat' first
    | with_reducible assumption
    | with_reducible apply Keeps.ite
    | with_reducible apply keeps_emit
    | with_reducible apply keeps_submit

theorem keeps_bar2Write {a0 : State} {s : State} (h : Keeps a0 s) (pf : Nat) (off : Nat) (d : Bytes) : Keeps a0 (bar2Write s pf off d) := by
  unfold bar2Write
  repeat' first
    | with_reducible assumption
    | with_reducible apply Keeps.ite
    | with_reducible apply keeps_submit

theorem keeps_onpelFrame {a0 : State} {s : State} (h : Keeps a0 s) (p : Nat) (f : EthFrame) : Keeps a0 (onpelFrame s p f) := by
  unfold onpelFrame
  (try dsimp only)
  repeat' first
    | with_reducible assumption
    | with_reducible apply Keeps.ite
    | with_reducible apply keeps_inc
    | with_reducible apply keeps_frameIn

theorem keeps_dictFrameUpdate {a0 : State} {s : State} (h : Keeps a0 s) (word : Nat) : Keeps a0 (dictFrameUpdate s word) := by
  unfold dictFrameUpdate
  (try dsimp only)
  repeat' first
    | with_reducible assumption
    | with_reducible apply Keeps.ite
    | with_reducible apply keeps_setJtag
    | with_reducible apply keeps_frameIn

theorem keeps_dictFrameCapture {a0 : State} {s : State} (h : Keeps a0 s)  : Keeps a0 (dictFrameCapture s) := by
  unfold dictFrameCapture
  (try dsimp only)
  repeat' first
    | with_reducible assumption
    | with_reducible apply Keeps.ite
    | with_reducible apply keeps_emit
    | with_reducible apply keeps_setJtag
    | split

theorem keeps_testLogicReset {a0 : State} {s : State} (h : Keeps a0 s)  : Keeps a0 (testLogicReset s) := by
  unfold testLogicReset
  (try dsimp only)
  repeat' first
    | with_reducible assumption
    | with_reducible apply keeps_setJtag

theorem keeps_jtagInstruction {a0 : State} {s : State} (h : Keeps a0 s) (code : Nat) : Keeps a0 (jtagInstruction s code) := by
  unfold jtagInstruction
  (try dsimp only)
  repeat' first
    | with_reducible assumption
    | with_reducible apply keeps_setJtag

theorem keeps_scanCapture {a0 : State} {s : State} (h : Keeps a0 s)  : Keeps a0 (scanCapture s) := by
  unfold scanCapture
  (try dsimp only)
  repeat' first
    | with_reducible assumption
    | with_reducible apply Keeps.ite
    | with_reducible apply keeps_emit

theorem keeps_scanUpdate {a0 : State} {s : State} (h : Keeps a0 s) (cells : Nat) : Keeps a0 (scanUpdate s cells) := by
  unfold scanUpdate
  (try dsimp only)
  repeat' first
    | with_reducible assumption
    | with_reducible apply Keeps.ite
    | with_reducible apply keeps_setJtag

theorem keeps_recoveryCapture {a0 : State} {s : State} (h : Keeps a0 s)  : Keeps a0 (recoveryCapture s) := by
  unfold recoveryCapture
  repeat' first
    | with_reducible assumption
    | with_reducible apply Keeps.ite
    | with_reducible apply keeps_emit

theorem keeps_recoveryWord {a0 : State} {s : State} (h : Keeps a0 s) (word : Nat) : Keeps a0 (recoveryWord s word) := by
  unfold recoveryWord
  (try dsimp only)
  repeat' first
    | with_reducible assumption
    | with_reducible apply Keeps.ite
    | with_reducible apply keeps_setTrust
    | with_reducible apply keeps_setJtag
    | with_reducible apply keeps_powerOnReset

theorem keeps_onCh {a0 s : State} (h : Keeps a0 s) (c : Nat) (f : State → State) (hf : Keeps a0 s → Keeps a0 (f s)) :
    Keeps a0 (onCh s c f) := Keeps.ite (hf h) h

theorem keeps_onTile {a0 s : State} (h : Keeps a0 s) (c : Nat) (f : State → State) (hf : Keeps a0 s → Keeps a0 (f s)) :
    Keeps a0 (onTile s c f) := Keeps.ite (hf h) h

theorem keeps_onPump {a0 s : State} (h : Keeps a0 s) (c : Nat) (f : State → State) (hf : Keeps a0 s → Keeps a0 (f s)) :
    Keeps a0 (onPump s c f) := Keeps.ite (hf h) h

theorem keeps_registerAccess {a0 : State} {s : State} (h : Keeps a0 s) (r : RegAccess) : Keeps a0 (registerAccess s r) := by
  unfold registerAccess
  repeat' first
    | with_reducible assumption
    | with_reducible apply keeps_bar0Read
    | with_reducible apply keeps_bar0Write
    | with_reducible apply keeps_jtagInstruction
    | with_reducible apply keeps_recoveryCapture
    | with_reducible apply keeps_scanCapture
    | with_reducible apply keeps_scanUpdate
    | with_reducible apply keeps_writeVia
    | split

theorem keeps_pumpVia {a0 : State} {s : State} (h : Keeps a0 s) (v : PumpVia) (p : Nat) (value : Nat) : Keeps a0 (pumpVia s v p value) := by
  unfold pumpVia
  repeat' first
    | with_reducible assumption
    | with_reducible apply keeps_bar0Write
    | with_reducible apply keeps_writeKey
    | split

theorem keeps_tbAdvance {a0 : State} {s : State} (h : Keeps a0 s)  : Keeps a0 (tbAdvance s) := by
  unfold tbAdvance
  repeat' first
    | with_reducible assumption
    | with_reducible apply Keeps.ite
    | with_reducible apply keeps_add

theorem keeps_idleCycle {a0 : State} {s : State} (h : Keeps a0 s)  : Keeps a0 (idleCycle s) := by
  unfold idleCycle
  (try dsimp only)
  repeat' first
    | with_reducible assumption
    | with_reducible apply Keeps.ite
    | with_reducible apply keeps_setPwr
    | with_reducible apply keeps_tbAdvance

end Sys2Proof.Machine
end

