-- ==== Sys2Proof/Laws/PerInstr.lean ====
section
/-! SUPPORT. A family of statements made per command: a well-formed command's write arrives in a well-formed way. -/

namespace Sys2Proof

/-- How the write of a command arrives, where the command is a write of one object. -/
def Instr.via : Instr → Option Via
  | .registerWrite (.object v _ _ _) => some v
  | .keyUnlock v _ => some v
  | .lockSet v _ => some v
  | .authWrite v _ _ => some v
  | .verEnable v _ => some v
  | .sigCommit v => some v
  | .sigRef v _ => some v
  | .run v => some v
  | .haltRequest v => some v
  | .jumpReq v _ => some v
  | .snap v => some v
  | .user v => some v
  | .custLoad v => some v
  | .custClear v => some v
  | .patchInstall v => some v
  | .ucEnforce v _ => some v
  | .tickMult v _ => some v
  | .deskewWrite v _ _ _ => some v
  | .listen v _ => some v
  | .wake v _ => some v
  | .selfCheckRun v _ => some v
  | .convStart v _ => some v
  | .arm v _ => some v
  | .disarm v _ => some v
  | .clear v _ => some v
  | .apply v => some v
  | .start (.chCmd v) _ => some v
  | .doorbell (.chCmd v) _ => some v
  | .stop (.chCmd v) _ => some v
  | .resume (.chCmd v) _ => some v
  | .curDesc v _ _ => some v
  | .self v => some v
  | .abort v => some v
  | .baseWrite v _ _ _ => some v
  | .vrefWrite v _ _ => some v
  | .store v => some v
  | .revert v => some v
  | .reload v => some v
  | .stickyClear v _ _ => some v
  | .reactWrite v _ _ => some v
  | .fire v => some v
  | .set v => some v
  | .lift v => some v
  | .ringCmdStart v => some v
  | .ringCmdHalt v => some v
  | .ringCmdJump v => some v
  | .cal v => some v
  | .sigGroup v _ => some v
  | .ringRole v _ => some v
  | .domEn v _ => some v
  | .soft v => some v
  | .install v => some v
  | .advFw v => some v
  | .advPatch v => some v
  | .custKey v _ _ => some v
  | .sign v => some v
  | _ => none

namespace Laws.Arrives

/-- The statement of the family: the way a well-formed write takes is well formed. -/
def Statement (i : Instr) : Prop := i.wf = true → ∀ v, i.via = some v → v.wf = true

theorem right_of_and (a b : Bool) (h : (a && b) = true) : b = true := by
  cases a with
  | true => exact h
  | false => exact absurd h (by simp)

theorem left_of_and (a b : Bool) (h : (a && b) = true) : a = true := by
  cases a with
  | true => rfl
  | false => exact absurd h (by simp)

theorem read (a : Arrival) (index sub off len : Nat) : Statement (.read a index sub off len) := by
  intro _ _ h; cases h

theorem write (a : Arrival) (index sub off : Nat) (data : Bytes) : Statement (.write a index sub off data) := by
  intro _ _ h; cases h

theorem batch (a : Arrival) (stop : Bool) (items : List BatchItem) : Statement (.batch a stop items) := by
  intro _ _ h; cases h

theorem cmdTail (pf value : Nat) : Statement (.cmdTail pf value) := by
  intro _ _ h; cases h

theorem commandFetch (pf : Nat) (slots : Bytes) : Statement (.commandFetch pf slots) := by
  intro _ _ h; cases h

theorem commandFetchError (pf : Nat) : Statement (.commandFetchError pf) := by
  intro _ _ h; cases h

theorem replyWrite (pf : Nat) : Statement (.replyWrite pf) := by
  intro _ _ h; cases h

theorem rplTail (pf value : Nat) : Statement (.rplTail pf value) := by
  intro _ _ h; cases h

theorem ringCtrl (pf value : Nat) : Statement (.ringCtrl pf value) := by
  intro _ _ h; cases h

theorem registerWrite (r : RegAccess) : Statement (.registerWrite r) := by
  intro h w hw; cases r <;> cases hw; exact left_of_and _ _ (left_of_and _ _ h)

theorem bar2Read (pf off len : Nat) : Statement (.bar2Read pf off len) := by
  intro _ _ h; cases h

theorem bar2Write (pf off : Nat) (data : Bytes) : Statement (.bar2Write pf off data) := by
  intro _ _ h; cases h

theorem bar2LowHalfWrite (pf slot value : Nat) : Statement (.bar2LowHalfWrite pf slot value) := by
  intro _ _ h; cases h

theorem bar2HighHalfWrite (pf slot value : Nat) : Statement (.bar2HighHalfWrite pf slot value) := by
  intro _ _ h; cases h

theorem functionLevelReset (pf : Nat) : Statement (.functionLevelReset pf) := by
  intro _ _ h; cases h

theorem onpelFrame (port : Nat) (f : EthFrame) : Statement (.onpelFrame port f) := by
  intro _ _ h; cases h

theorem dictFrameUpdate (word : Nat) : Statement (.dictFrameUpdate word) := by
  intro _ _ h; cases h

theorem dictFrameCapture : Statement .dictFrameCapture := by
  intro _ _ h; cases h

theorem testLogicReset : Statement .testLogicReset := by
  intro _ _ h; cases h

theorem recoveryWord (word : Nat) : Statement (.recoveryWord word) := by
  intro _ _ h; cases h

theorem keyUnlock (v : Via) (value : Nat) : Statement (.keyUnlock v value) := by
  intro h w hw; cases hw; exact left_of_and _ _ h

theorem unlockLapse : Statement .unlockLapse := by
  intro _ _ h; cases h

theorem lockSet (v : Via) (value : Nat) : Statement (.lockSet v value) := by
  intro h w hw; cases hw; exact left_of_and _ _ h

theorem authWrite (v : Via) (port cls : Nat) : Statement (.authWrite v port cls) := by
  intro h w hw; cases hw; exact left_of_and _ _ (left_of_and _ _ (left_of_and _ _ h))

theorem verEnable (v : Via) (value : Nat) : Statement (.verEnable v value) := by
  intro h w hw; cases hw; exact left_of_and _ _ h

theorem sigScanStart : Statement .sigScanStart := by
  intro _ _ h; cases h

theorem sigScanComplete : Statement .sigScanComplete := by
  intro _ _ h; cases h

theorem sigCommit (v : Via) : Statement (.sigCommit v) := by
  intro h w hw; cases hw; exact h

theorem sigRef (v : Via) (value : Nat) : Statement (.sigRef v value) := by
  intro h w hw; cases hw; exact left_of_and _ _ h

theorem run (v : Via) : Statement (.run v) := by
  intro h w hw; cases hw; exact h

theorem seqRun (pf value : Nat) : Statement (.seqRun pf value) := by
  intro _ _ h; cases h

theorem haltRequest (v : Via) : Statement (.haltRequest v) := by
  intro h w hw; cases hw; exact h

theorem seqHalt (pf value : Nat) : Statement (.seqHalt pf value) := by
  intro _ _ h; cases h

theorem loadingBegin (ups : List Upset) : Statement (.loadingBegin ups) := by
  intro _ _ h; cases h

theorem loadingComplete : Statement .loadingComplete := by
  intro _ _ h; cases h

theorem drainingEnd : Statement .drainingEnd := by
  intro _ _ h; cases h

theorem domainLossDuringBurst (d : Nat) : Statement (.domainLossDuringBurst d) := by
  intro _ _ h; cases h

theorem vec (io : Io) : Statement (.vec io) := by
  intro _ _ h; cases h

theorem rpt (io : Io) : Statement (.rpt io) := by
  intro _ _ h; cases h

theorem rptCountEnd : Statement .rptCountEnd := by
  intro _ _ h; cases h

theorem loop (io : Io) : Statement (.loop io) := by
  intro _ _ h; cases h

theorem endl (io : Io) : Statement (.endl io) := by
  intro _ _ h; cases h

theorem call (io : Io) : Statement (.call io) := by
  intro _ _ h; cases h

theorem ret (io : Io) : Statement (.ret io) := by
  intro _ _ h; cases h

theorem jmp (io : Io) : Statement (.jmp io) := by
  intro _ _ h; cases h

theorem jif (io : Io) : Statement (.jif io) := by
  intro _ _ h; cases h

theorem matchOp (io : Io) : Statement (.matchOp io) := by
  intro _ _ h; cases h

theorem matchTimeout : Statement .matchTimeout := by
  intro _ _ h; cases h

theorem syncw (io : Io) : Statement (.syncw io) := by
  intro _ _ h; cases h

theorem syncwTimeout : Statement .syncwTimeout := by
  intro _ _ h; cases h

theorem syncs (io : Io) : Statement (.syncs io) := by
  intro _ _ h; cases h

theorem hold (io : Io) : Statement (.hold io) := by
  intro _ _ h; cases h

theorem holdEnd : Statement .holdEnd := by
  intro _ _ h; cases h

theorem tset (io : Io) : Statement (.tset io) := by
  intro _ _ h; cases h

theorem mark (io : Io) : Statement (.mark io) := by
  intro _ _ h; cases h

theorem eyeStart (io : Io) : Statement (.eyeStart io) := by
  intro _ _ h; cases h

theorem eyeAdvance (io : Io) : Statement (.eyeAdvance io) := by
  intro _ _ h; cases h

theorem eyeStop (io : Io) : Statement (.eyeStop io) := by
  intro _ _ h; cases h

theorem halt (io : Io) : Statement (.halt io) := by
  intro _ _ h; cases h

theorem userOpcode (io : Io) : Statement (.userOpcode io) := by
  intro _ _ h; cases h

theorem shadowGranule (io : Io) : Statement (.shadowGranule io) := by
  intro _ _ h; cases h

theorem fallOff : Statement .fallOff := by
  intro _ _ h; cases h

theorem jumpReq (v : Via) (value : Nat) : Statement (.jumpReq v value) := by
  intro h w hw; cases hw; exact left_of_and _ _ h

theorem seqJump (pf value : Nat) : Statement (.seqJump pf value) := by
  intro _ _ h; cases h

theorem jumpReserveFilled (ups : List Upset) : Statement (.jumpReserveFilled ups) := by
  intro _ _ h; cases h

theorem granuleFetch (n : Nat) (io : FetchIo) : Statement (.granuleFetch n io) := by
  intro _ _ h; cases h

theorem primingStart : Statement .primingStart := by
  intro _ _ h; cases h

theorem primingComplete (entry k : Nat) (ups : List Upset) : Statement (.primingComplete entry k ups) := by
  intro _ _ h; cases h

theorem headReload : Statement .headReload := by
  intro _ _ h; cases h

theorem drywell : Statement .drywell := by
  intro _ _ h; cases h

theorem trapTaken (ios : List Io) : Statement (.trapTaken ios) := by
  intro _ _ h; cases h

theorem trapResume (ios : List Io) : Statement (.trapResume ios) := by
  intro _ _ h; cases h

theorem snap (v : Via) : Statement (.snap v) := by
  intro h w hw; cases hw; exact h

theorem user (v : Via) : Statement (.user v) := by
  intro h w hw; cases hw; exact h

theorem trapOverrun : Statement .trapOverrun := by
  intro _ _ h; cases h

theorem deferOverrun (ios : List Io) : Statement (.deferOverrun ios) := by
  intro _ _ h; cases h

theorem scrubRead (outcome : Nat) : Statement (.scrubRead outcome) := by
  intro _ _ h; cases h

theorem custLoad (v : Via) : Statement (.custLoad v) := by
  intro h w hw; cases hw; exact h

theorem custClear (v : Via) : Statement (.custClear v) := by
  intro h w hw; cases hw; exact h

theorem patchInstall (v : Via) : Statement (.patchInstall v) := by
  intro h w hw; cases hw; exact h

theorem patchInstallDone (bad : Nat) : Statement (.patchInstallDone bad) := by
  intro _ _ h; cases h

theorem ucEnforce (v : Via) (value : Nat) : Statement (.ucEnforce v value) := by
  intro h w hw; cases hw; exact left_of_and _ _ h

theorem tickMult (v : Via) (value : Nat) : Statement (.tickMult v value) := by
  intro h w hw; cases hw; exact left_of_and _ _ h

theorem synthesiserLock : Statement .synthesiserLock := by
  intro _ _ h; cases h

theorem tilePllLock (t : Nat) : Statement (.tilePllLock t) := by
  intro _ _ h; cases h

theorem holdover : Statement .holdover := by
  intro _ _ h; cases h

theorem holdoverRelock : Statement .holdoverRelock := by
  intro _ _ h; cases h

theorem deskewWrite (v : Via) (c which : Nat) (value : Int) : Statement (.deskewWrite v c which value) := by
  intro h w hw; cases hw; exact left_of_and _ _ (left_of_and _ _ h)

theorem checkerLock (c : Nat) : Statement (.checkerLock c) := by
  intro _ _ h; cases h

theorem checkerRelock (c : Nat) : Statement (.checkerRelock c) := by
  intro _ _ h; cases h

theorem comparatorValid (c : Nat) (v : Pad) : Statement (.comparatorValid c v) := by
  intro _ _ h; cases h

theorem attentionEvent (c : Nat) (v : Pad) : Statement (.attentionEvent c v) := by
  intro _ _ h; cases h

theorem listen (v : Via) (t : Nat) : Statement (.listen v t) := by
  intro h w hw; cases hw; exact left_of_and _ _ h

theorem listenEntered (t : Nat) : Statement (.listenEntered t) := by
  intro _ _ h; cases h

theorem wakeEvent (t : Nat) (inputs : List (Nat × Pad)) : Statement (.wakeEvent t inputs) := by
  intro _ _ h; cases h

theorem wake (v : Via) (t : Nat) : Statement (.wake v t) := by
  intro h w hw; cases hw; exact left_of_and _ _ h

theorem tileReadyAfterWake (t : Nat) : Statement (.tileReadyAfterWake t) := by
  intro _ _ h; cases h

theorem selfCheckRun (v : Via) (c : Nat) : Statement (.selfCheckRun v c) := by
  intro h w hw; cases hw; exact left_of_and _ _ h

theorem selfCheckDone (c : Nat) (m : SelfTest) : Statement (.selfCheckDone c m) := by
  intro _ _ h; cases h

theorem convStart (v : Via) (t : Nat) : Statement (.convStart v t) := by
  intro h w hw; cases hw; exact left_of_and _ _ h

theorem convDone (t : Nat) (vs : List Int) : Statement (.convDone t vs) := by
  intro _ _ h; cases h

theorem failRecord : Statement .failRecord := by
  intro _ _ h; cases h

theorem burstSummary : Statement .burstSummary := by
  intro _ _ h; cases h

theorem arm (v : Via) (c : Nat) : Statement (.arm v c) := by
  intro h w hw; cases hw; exact left_of_and _ _ h

theorem disarm (v : Via) (c : Nat) : Statement (.disarm v c) := by
  intro h w hw; cases hw; exact left_of_and _ _ h

theorem clear (v : Via) (c : Nat) : Statement (.clear v c) := by
  intro h w hw; cases hw; exact left_of_and _ _ h

theorem tmuEdge (c edge dt : Nat) (v : Pad) : Statement (.tmuEdge c edge dt v) := by
  intro _ _ h; cases h

theorem tmuTimeout (c : Nat) : Statement (.tmuTimeout c) := by
  intro _ _ h; cases h

theorem tmuRearm (c : Nat) : Statement (.tmuRearm c) := by
  intro _ _ h; cases h

theorem refinQualified (ppb : Int) : Statement (.refinQualified ppb) := by
  intro _ _ h; cases h

theorem refinLoss (present : Bool) (ppb : Int) : Statement (.refinLoss present ppb) := by
  intro _ _ h; cases h

theorem slewEnd : Statement .slewEnd := by
  intro _ _ h; cases h

theorem referenceHoldover : Statement .referenceHoldover := by
  intro _ _ h; cases h

theorem warmSecond : Statement .warmSecond := by
  intro _ _ h; cases h

theorem ovenOutOfRange (temp : Int) : Statement (.ovenOutOfRange temp) := by
  intro _ _ h; cases h

theorem ovenWarmTimeout : Statement .ovenWarmTimeout := by
  intro _ _ h; cases h

theorem apply (v : Via) : Statement (.apply v) := by
  intro h w hw; cases hw; exact h

theorem mapAutoApply : Statement .mapAutoApply := by
  intro _ _ h; cases h

theorem start (v : PumpVia) (p : Nat) : Statement (.start v p) := by
  intro h w hw; cases v <;> cases hw
  have h : (decide (p < 16) && Via.wf _) = true := h
  exact right_of_and _ _ h

theorem doorbell (v : PumpVia) (p : Nat) : Statement (.doorbell v p) := by
  intro h w hw; cases v <;> cases hw
  have h : (decide (p < 16) && Via.wf _) = true := h
  exact right_of_and _ _ h

theorem stop (v : PumpVia) (p : Nat) : Statement (.stop v p) := by
  intro h w hw; cases v <;> cases hw
  have h : (decide (p < 16) && Via.wf _) = true := h
  exact right_of_and _ _ h

theorem resume (v : PumpVia) (p : Nat) : Statement (.resume v p) := by
  intro h w hw; cases v <;> cases hw
  have h : (decide (p < 16) && Via.wf _) = true := h
  exact right_of_and _ _ h

theorem stopTakesEffect (p : Nat) : Statement (.stopTakesEffect p) := by
  intro _ _ h; cases h

theorem descriptorFetch (p : Nat) (data : Bytes) : Statement (.descriptorFetch p data) := by
  intro _ _ h; cases h

theorem elementMove (p : Nat) (io : ElementIo) : Statement (.elementMove p io) := by
  intro _ _ h; cases h

theorem dictElement (p : Nat) (data : Bytes) : Statement (.dictElement p data) := by
  intro _ _ h; cases h

theorem descriptorComplete (p : Nat) : Statement (.descriptorComplete p) := by
  intro _ _ h; cases h

theorem refetch (p : Nat) (data : Bytes) : Statement (.refetch p data) := by
  intro _ _ h; cases h

theorem busError (addr ep : Nat) : Statement (.busError addr ep) := by
  intro _ _ h; cases h

theorem curDesc (v : Via) (p value : Nat) : Statement (.curDesc v p value) := by
  intro h w hw; cases hw; exact left_of_and _ _ (left_of_and _ _ h)

theorem self (v : Via) : Statement (.self v) := by
  intro h w hw; cases hw; exact h

theorem abort (v : Via) : Statement (.abort v) := by
  intro h w hw; cases hw; exact h

theorem channelCalComplete (c : Nat) (r : CalResult) : Statement (.channelCalComplete c r) := by
  intro _ _ h; cases h

theorem calInputBusy (c : Nat) : Statement (.calInputBusy c) := by
  intro _ _ h; cases h

theorem trimApply : Statement .trimApply := by
  intro _ _ h; cases h

theorem baseWrite (v : Via) (c which : Nat) (value : Int) : Statement (.baseWrite v c which value) := by
  intro h w hw; cases hw; exact left_of_and _ _ (left_of_and _ _ h)

theorem vrefWrite (v : Via) (t : Nat) (value : Int) : Statement (.vrefWrite v t value) := by
  intro h w hw; cases hw; exact left_of_and _ _ h

theorem store (v : Via) : Statement (.store v) := by
  intro h w hw; cases hw; exact h

theorem revert (v : Via) : Statement (.revert v) := by
  intro h w hw; cases hw; exact h

theorem reload (v : Via) : Statement (.reload v) := by
  intro h w hw; cases hw; exact h

theorem storeComplete (ok : Bool) : Statement (.storeComplete ok) := by
  intro _ _ h; cases h

theorem holdupTest (fall : Nat) : Statement (.holdupTest fall) := by
  intro _ _ h; cases h

theorem holdVRefresh (mv : Nat) : Statement (.holdVRefresh mv) := by
  intro _ _ h; cases h

theorem faultCollect : Statement .faultCollect := by
  intro _ _ h; cases h

theorem stickyClear (v : Via) (hi : Bool) (value : Nat) : Statement (.stickyClear v hi value) := by
  intro h w hw; cases hw; exact left_of_and _ _ h

theorem reactWrite (v : Via) (src value : Nat) : Statement (.reactWrite v src value) := by
  intro h w hw; cases hw; exact left_of_and _ _ (left_of_and _ _ h)

theorem fire (v : Via) : Statement (.fire v) := by
  intro h w hw; cases hw; exact h

theorem set (v : Via) : Statement (.set v) := by
  intro h w hw; cases hw; exact h

theorem lift (v : Via) : Statement (.lift v) := by
  intro h w hw; cases hw; exact h

theorem tileFailure (t : Nat) (link : Bool) : Statement (.tileFailure t link) := by
  intro _ _ h; cases h

theorem watchdogExpiry : Statement .watchdogExpiry := by
  intro _ _ h; cases h

theorem watchdogRefresh : Statement .watchdogRefresh := by
  intro _ _ h; cases h

theorem aliveToggle : Statement .aliveToggle := by
  intro _ _ h; cases h

theorem ringStart (msg : Bytes) : Statement (.ringStart msg) := by
  intro _ _ h; cases h

theorem scheduledStart : Statement .scheduledStart := by
  intro _ _ h; cases h

theorem ringHalt (msg : Bytes) : Statement (.ringHalt msg) := by
  intro _ _ h; cases h

theorem ringJump (msg : Bytes) : Statement (.ringJump msg) := by
  intro _ _ h; cases h

theorem scheduledJump : Statement .scheduledJump := by
  intro _ _ h; cases h

theorem ringMark (msg : Bytes) : Statement (.ringMark msg) := by
  intro _ _ h; cases h

theorem time (msg : Bytes) (arrival : Nat) : Statement (.time msg arrival) := by
  intro _ _ h; cases h

theorem timeEvent : Statement .timeEvent := by
  intro _ _ h; cases h

theorem sig (msg : Bytes) : Statement (.sig msg) := by
  intro _ _ h; cases h

theorem timeEmit : Statement .timeEmit := by
  intro _ _ h; cases h

theorem sigSend : Statement .sigSend := by
  intro _ _ h; cases h

theorem ringQueueSend : Statement .ringQueueSend := by
  intro _ _ h; cases h

theorem peerStale (p : Nat) : Statement (.peerStale p) := by
  intro _ _ h; cases h

theorem calibrationBlock : Statement .calibrationBlock := by
  intro _ _ h; cases h

theorem ringLock : Statement .ringLock := by
  intro _ _ h; cases h

theorem lockLoss : Statement .lockLoss := by
  intro _ _ h; cases h

theorem ringCmdStart (v : Via) : Statement (.ringCmdStart v) := by
  intro h w hw; cases hw; exact h

theorem ringCmdHalt (v : Via) : Statement (.ringCmdHalt v) := by
  intro h w hw; cases hw; exact h

theorem ringCmdJump (v : Via) : Statement (.ringCmdJump v) := by
  intro h w hw; cases hw; exact h

theorem cal (v : Via) : Statement (.cal v) := by
  intro h w hw; cases hw; exact h

theorem sigGroup (v : Via) (value : Nat) : Statement (.sigGroup v value) := by
  intro h w hw; cases hw; exact left_of_and _ _ h

theorem ringRole (v : Via) (value : Nat) : Statement (.ringRole v value) := by
  intro h w hw; cases hw; exact left_of_and _ _ h

theorem domEn (v : Via) (value : Nat) : Statement (.domEn v value) := by
  intro h w hw; cases hw; exact left_of_and _ _ h

theorem functionReady (b bad : Nat) : Statement (.functionReady b bad) := by
  intro _ _ h; cases h

theorem supplyValid (b : Nat) : Statement (.supplyValid b) := by
  intro _ _ h; cases h

theorem supplyFault (b : Nat) : Statement (.supplyFault b) := by
  intro _ _ h; cases h

theorem vauxFailure : Statement .vauxFailure := by
  intro _ _ h; cases h

theorem powerOnReset (badA badB : Bool) : Statement (.powerOnReset badA badB) := by
  intro _ _ h; cases h

theorem resetN (badA badB : Bool) : Statement (.resetN badA badB) := by
  intro _ _ h; cases h

theorem soft (v : Via) : Statement (.soft v) := by
  intro h w hw; cases hw; exact h

theorem perst : Statement .perst := by
  intro _ _ h; cases h

theorem temperatureSample (x : Sensors) : Statement (.temperatureSample x) := by
  intro _ _ h; cases h

theorem install (v : Via) : Statement (.install v) := by
  intro h w hw; cases hw; exact h

theorem firmwareInstallDone (ok : Bool) : Statement (.firmwareInstallDone ok) := by
  intro _ _ h; cases h

theorem advFw (v : Via) : Statement (.advFw v) := by
  intro h w hw; cases hw; exact h

theorem advPatch (v : Via) : Statement (.advPatch v) := by
  intro h w hw; cases hw; exact h

theorem fuseProgrammingDone (ok : Bool) : Statement (.fuseProgrammingDone ok) := by
  intro _ _ h; cases h

theorem custKey (v : Via) (k : Nat) (data : Bytes) : Statement (.custKey v k data) := by
  intro h w hw; cases hw; exact left_of_and _ _ (left_of_and _ _ h)

theorem keysSaved : Statement .keysSaved := by
  intro _ _ h; cases h

theorem sign (v : Via) : Statement (.sign v) := by
  intro h w hw; cases hw; exact h

theorem attestationSigned : Statement .attestationSigned := by
  intro _ _ h; cases h

theorem onpelLinkPortDown (port : Nat) : Statement (.onpelLinkPortDown port) := by
  intro _ _ h; cases h

theorem stackLinkTrainingLoss (m : Nat) : Statement (.stackLinkTrainingLoss m) := by
  intro _ _ h; cases h

theorem aerUncorrectableError : Statement .aerUncorrectableError := by
  intro _ _ h; cases h

theorem driverCurrentLimit (c : Nat) : Statement (.driverCurrentLimit c) := by
  intro _ _ h; cases h

theorem ovenHeaterFault : Statement .ovenHeaterFault := by
  intro _ _ h; cases h

theorem vholdAtVMin : Statement .vholdAtVMin := by
  intro _ _ h; cases h

theorem referenceStageLock : Statement .referenceStageLock := by
  intro _ _ h; cases h

theorem recordInMemory : Statement .recordInMemory := by
  intro _ _ h; cases h

theorem perstDeassertion : Statement .perstDeassertion := by
  intro _ _ h; cases h

theorem delayCalibrationEnd (linkPs : Nat) : Statement (.delayCalibrationEnd linkPs) := by
  intro _ _ h; cases h

end Laws.Arrives

end Sys2Proof
end

