-- ==== Sys2Proof/Laws/Plays.lean ====
section
/-! SUPPORT. What playing a granule at the pins can change: the channels' electronics, tile and channel objects, fail
capture, the counters and ring flags of the sequencer, arriving faults and outputs. Everything else stands. One lemma for
each operation of Judge and Play. -/

namespace Sys2Proof.Machine

theorem played_atCh {k c : Nat} (hk : 0x400000 ≤ k ∧ k < 0x440000) (hc : c < 96) : Played (atCh k c) := by
  unfold Played atCh; omega

theorem played_atTile {k t : Nat} (hk : 0x300000 ≤ k ∧ k < 0x4F0000) (ht : t < 12) : Played (atTile k t) := by
  unfold Played atTile; omega

/-- The sequencer with the counters and ring flags of another. -/
def Seq.withPins (q r : Seq) : Seq := { q with cnt := r.cnt, ringMark := r.ringMark, ringTime := r.ringTime }

/-- The sequencer as an issue of a granule leaves it, but for what the pins change. -/
def Seq.played (q : Seq) (g : Granule) : Seq :=
  { q with cycle := q.cycle + 1, last := some g, replays := 0, jump := q.jump.map (fun j => { j with d := j.d + 1 }) }

/-- From `s` to `t` only pins have played. -/
structure Plays (s t : State) : Prop where
  pending : t.pending = s.pending
  blobs : t.blobs = s.blobs
  pf0 : t.pf0 = s.pf0
  pf1 : t.pf1 = s.pf1
  seq : t.seq.withPins s.seq = s.seq
  uc : t.uc = s.uc
  mem : t.mem = s.mem
  flt : t.flt.withArrived s.flt = s.flt
  pwr : t.pwr = s.pwr
  slow : t.slow = s.slow
  tb : t.tb = s.tb
  pump : t.pump = s.pump
  cal : t.cal = s.cal
  ring : t.ring = s.ring
  trust : t.trust = s.trust
  mgmt : t.mgmt = s.mgmt
  jtag : t.jtag = s.jtag
  freeCtr : t.freeCtr = s.freeCtr
  num : ∀ k, ¬Played k → t.num k = s.num k

theorem Plays.refl (s : State) : Plays s s :=
  ⟨rfl, rfl, rfl, rfl, rfl, rfl, rfl, rfl, rfl, rfl, rfl, rfl, rfl, rfl, rfl, rfl, rfl, rfl, fun _ _ => rfl⟩

theorem Plays.trans {a b c : State} (h : Plays a b) (g : Plays b c) : Plays a c where
  pending := g.pending.trans h.pending
  blobs := g.blobs.trans h.blobs
  pf0 := g.pf0.trans h.pf0
  pf1 := g.pf1.trans h.pf1
  seq := (congrArg (Seq.withPins · a.seq) g.seq).trans h.seq
  uc := g.uc.trans h.uc
  mem := g.mem.trans h.mem
  flt := (congrArg (Faults.withArrived · a.flt) g.flt).trans h.flt
  pwr := g.pwr.trans h.pwr
  slow := g.slow.trans h.slow
  tb := g.tb.trans h.tb
  pump := g.pump.trans h.pump
  cal := g.cal.trans h.cal
  ring := g.ring.trans h.ring
  trust := g.trust.trans h.trust
  mgmt := g.mgmt.trans h.mgmt
  jtag := g.jtag.trans h.jtag
  freeCtr := g.freeCtr.trans h.freeCtr
  num := fun k hk => (g.num k hk).trans (h.num k hk)

variable {a s : State} (h : Plays a s)
include h

theorem Plays.foldl {α : Type} {f : State → α → State} (l : List α) (hf : ∀ s x, x ∈ l → Plays a s → Plays a (f s x)) :
    Plays a (l.foldl f s) := by
  induction l generalizing s with
  | nil => exact h
  | cons x r ih =>
    exact ih (hf s x List.mem_cons_self h) (fun s y hy g => hf s y (List.mem_cons_of_mem _ hy) g)

theorem Plays.foldl_range {n : Nat} {f : State → Nat → State} (hf : ∀ s c, c < n → Plays a s → Plays a (f s c)) :
    Plays a ((List.range n).foldl f s) := h.foldl _ (fun s c hc g => hf s c (List.mem_range.1 hc) g)

omit h in
theorem Plays.foldl_fst {α β : Type} {f : State × β → α → State × β} {p : State × β} (h : Plays a p.1) (l : List α)
    (hf : ∀ p x, x ∈ l → Plays a p.1 → Plays a (f p x).1) : Plays a (l.foldl f p).1 := by
  induction l generalizing p with
  | nil => exact h
  | cons x r ih =>
    exact ih (hf p x List.mem_cons_self h) (fun p y hy g => hf p y (List.mem_cons_of_mem _ hy) g)

theorem Plays.ite {c : Prop} [Decidable c] {t : State} (g : Plays a t) : Plays a (if c then s else t) := by
  split <;> assumption

theorem plays_setNum {k : Nat} (hk : Played k) (v : Nat) : Plays a (s.setNum k v) :=
  h.trans ⟨rfl, rfl, rfl, rfl, rfl, rfl, rfl, rfl, rfl, rfl, rfl, rfl, rfl, rfl, rfl, rfl, rfl, rfl, fun j hj => by
    have hne : j ≠ k := fun e => hj (e ▸ hk)
    rw [num_setNum, if_neg hne]⟩
theorem plays_inc {k : Nat} (hk : Played k) : Plays a (s.inc k) := plays_setNum h hk _
theorem plays_add {k : Nat} (n : Nat) (hk : Played k) (d : Nat) : Plays a (s.add n k d) := plays_setNum h hk _
theorem plays_setFlag {k : Nat} (hk : Played k) (i : Nat) (b : Bool) : Plays a (s.setFlag k i b) := plays_setNum h hk _
theorem plays_setChan (c : Nat) (x : Chan) : Plays a (s.setChan c x) :=
  h.trans ⟨rfl, rfl, rfl, rfl, rfl, rfl, rfl, rfl, rfl, rfl, rfl, rfl, rfl, rfl, rfl, rfl, rfl, rfl, fun _ _ => rfl⟩
theorem plays_setCis (x : Cistern) : Plays a (s.setCis x) :=
  h.trans ⟨rfl, rfl, rfl, rfl, rfl, rfl, rfl, rfl, rfl, rfl, rfl, rfl, rfl, rfl, rfl, rfl, rfl, rfl, fun _ _ => rfl⟩
theorem plays_emit (o : Out) : Plays a (s.emit o) :=
  h.trans ⟨rfl, rfl, rfl, rfl, rfl, rfl, rfl, rfl, rfl, rfl, rfl, rfl, rfl, rfl, rfl, rfl, rfl, rfl, fun _ _ => rfl⟩
theorem plays_raise (n : Nat) : Plays a (s.raise n) :=
  h.trans ⟨rfl, rfl, rfl, rfl, rfl, rfl, rfl, rfl, rfl, rfl, rfl, rfl, rfl, rfl, rfl, rfl, rfl, rfl, fun _ _ => rfl⟩
theorem plays_counters (cnt : List Nat) (m t : Bool) :
    Plays a (s.setSeq { s.seq with cnt := cnt, ringMark := m, ringTime := t }) :=
  h.trans ⟨rfl, rfl, rfl, rfl, rfl, rfl, rfl, rfl, rfl, rfl, rfl, rfl, rfl, rfl, rfl, rfl, rfl, rfl, fun _ _ => rfl⟩

omit h

/-! ### The operations of Judge and Play -/

theorem plays_senseVs {a0 : State} {s : State} (h : Plays a0 s) (c : Nat) (v : Pad)  (hc : c < 96) : Plays a0 (senseVs s c v) := by
  unfold senseVs
  (try dsimp only)
  repeat' first
    | with_reducible assumption
    | with_reducible apply Plays.ite
    | with_reducible apply plays_setChan

theorem plays_attnRecord {a0 : State} {s : State} (h : Plays a0 s) (c : Nat) (e : Nat)  (hc : c < 96) : Plays a0 (attnRecord c s e) := by
  unfold attnRecord
  (try dsimp only)
  repeat' first
    | with_reducible assumption
    | with_reducible apply Plays.ite
    | with_reducible apply plays_inc
    | with_reducible apply plays_setFlag
    | with_reducible apply plays_raise
    | exact played_atCh (by decide) (by assumption)

theorem plays_senseEdge {a0 : State} {s : State} (h : Plays a0 s) (c : Nat) (v : Pad)  (hc : c < 96) : Plays a0 (senseEdge s c v) := by
  unfold senseEdge
  (try dsimp only)
  repeat' first
    | with_reducible assumption
    | with_reducible apply Plays.ite
    | with_reducible apply plays_senseVs
    | with_reducible apply plays_attnRecord
    | with_reducible apply Plays.foldl_range
    | with_reducible apply Plays.foldl_fst
    | with_reducible apply Plays.foldl
    | (intro _ _ _ _; try dsimp only)

theorem plays_satCount {a0 : State} {s : State} (h : Plays a0 s) (k : Nat) (flags : Nat) (i : Nat) (hk : Played k) (hf : Played flags) : Plays a0 (satCount s k flags i) := by
  unfold satCount
  (try dsimp only)
  repeat' first
    | with_reducible assumption
    | with_reducible apply Plays.ite
    | with_reducible apply plays_setNum
    | with_reducible apply plays_setFlag

theorem plays_capMap {a0 : State} {s : State} (h : Plays a0 s) (issue : Nat) (cyc : Nat) (f : IssueCap → IssueCap)  : Plays a0 (capMap s issue cyc f) := by
  unfold capMap
  (try dsimp only)
  repeat' first
    | with_reducible assumption
    | with_reducible apply Plays.ite
    | with_reducible apply plays_setCis

theorem plays_capFail {a0 : State} {s : State} (h : Plays a0 s) (c : Nat) (j : Judgement)  (hc : c < 96) : Plays a0 (capFail s c j) := by
  unfold capFail
  (try dsimp only)
  repeat' first
    | with_reducible assumption
    | with_reducible apply Plays.ite
    | with_reducible apply plays_capMap

theorem plays_wordMark {a0 : State} {s : State} (h : Plays a0 s) (c : Nat) (w : Nat) (bits : Nat)  (hc : c < 96) : Plays a0 (wordMark s c w bits) := by
  unfold wordMark
  (try dsimp only)
  repeat' first
    | with_reducible assumption
    | with_reducible apply plays_setChan

theorem plays_firstFail {a0 s : State} (h : Plays a0 s) (c : Nat) (j : Judgement) (hc : c < 96) :
    Plays a0 (firstFail s c j) := by
  unfold firstFail
  dsimp only
  split
  · simp only [setNums_cons, setNums_nil]
    exact plays_setNum (plays_setNum (plays_setNum (plays_setNum h (played_atCh (by decide) hc) _)
      (played_atCh (by decide) hc) _) (played_atCh (by decide) hc) _) (played_atCh (by decide) hc) _
  · exact h

theorem plays_invSeen {a0 : State} {s : State} (h : Plays a0 s) (c : Nat)  (hc : c < 96) : Plays a0 (invSeen s c) := by
  unfold invSeen
  repeat' first
    | with_reducible assumption
    | with_reducible apply plays_setFlag
    | exact played_atCh (by decide) (by assumption)

theorem plays_countJudgement {a0 : State} {s : State} (h : Plays a0 s) (c : Nat) (j : Judgement)  (hc : c < 96) : Plays a0 (countJudgement s c j) := by
  unfold countJudgement
  (try dsimp only)
  repeat' first
    | with_reducible assumption
    | with_reducible apply Plays.ite
    | with_reducible apply plays_inc
    | with_reducible apply plays_satCount
    | with_reducible apply plays_firstFail
    | with_reducible apply plays_invSeen
    | exact played_atCh (by decide) (by assumption)

theorem plays_binMap {a0 : State} {s : State} (h : Plays a0 s) (c : Nat) (w : Nat) (f : Nat → Nat)  (hc : c < 96) : Plays a0 (binMap s c w f) := by
  unfold binMap
  (try dsimp only)
  repeat' first
    | with_reducible assumption
    | with_reducible apply Plays.ite
    | with_reducible apply plays_setCis

theorem plays_binJudgement {a0 : State} {s : State} (h : Plays a0 s) (c : Nat) (j : Judgement)  (hc : c < 96) : Plays a0 (binJudgement s c j) := by
  unfold binJudgement
  (try dsimp only)
  repeat' first
    | with_reducible assumption
    | with_reducible apply Plays.ite
    | with_reducible apply plays_binMap

theorem plays_suspectMark {a0 : State} {s : State} (h : Plays a0 s) (c : Nat) (w : Nat)  (hc : c < 96) : Plays a0 (suspectMark s c w) := by
  unfold suspectMark
  repeat' first
    | with_reducible assumption
    | with_reducible apply Plays.ite
    | with_reducible apply plays_binMap

theorem plays_blockJudgement {a0 : State} {s : State} (h : Plays a0 s) (c : Nat) (fail : Bool)  (hc : c < 96) : Plays a0 (blockJudgement s c fail) := by
  unfold blockJudgement
  (try dsimp only)
  repeat' first
    | with_reducible assumption
    | with_reducible apply Plays.ite
    | with_reducible apply plays_inc
    | with_reducible apply plays_setChan
    | exact played_atCh (by decide) (by assumption)

theorem plays_settleOne {a0 : State} {s : State} (h : Plays a0 s) (c : Nat) (j : Judgement)  (hc : c < 96) : Plays a0 (settleOne s c j) := by
  unfold settleOne
  (try dsimp only)
  repeat' first
    | with_reducible assumption
    | with_reducible apply Plays.ite
    | with_reducible apply plays_capFail
    | with_reducible apply plays_wordMark
    | with_reducible apply plays_countJudgement
    | with_reducible apply plays_binJudgement
    | with_reducible apply plays_blockJudgement

theorem plays_judge {a0 : State} {s : State} (h : Plays a0 s) (c : Nat) (m : Nat) (j : Judgement)  (hc : c < 96) : Plays a0 (judge s c m j) := by
  unfold judge
  (try dsimp only)
  repeat' first
    | with_reducible assumption
    | with_reducible apply Plays.ite
    | with_reducible apply plays_setChan
    | with_reducible apply plays_settleOne

theorem plays_settleLater {a0 : State} {s : State} (h : Plays a0 s) (m : Nat) (c : Nat)  (hc : c < 96) : Plays a0 (settleLater s m c) := by
  unfold settleLater
  (try dsimp only)
  repeat' first
    | with_reducible assumption
    | with_reducible apply Plays.ite
    | with_reducible apply plays_setChan
    | with_reducible apply plays_settleOne
    | with_reducible apply Plays.foldl_range
    | with_reducible apply Plays.foldl_fst
    | with_reducible apply Plays.foldl
    | (intro _ _ _ _; try dsimp only)

theorem plays_capPrune {a0 : State} {s : State} (h : Plays a0 s)   : Plays a0 (capPrune s) := by
  unfold capPrune
  (try dsimp only)
  repeat' first
    | with_reducible assumption
    | with_reducible apply Plays.ite
    | with_reducible apply plays_setCis

theorem plays_dropWords {a0 : State} {s : State} (h : Plays a0 s) (t : Nat) (w : Nat)  : Plays a0 (dropWords s t w) := by
  unfold dropWords
  (try dsimp only)
  repeat' first
    | with_reducible assumption
    | with_reducible apply Plays.ite
    | with_reducible apply plays_setChan
    | with_reducible apply Plays.foldl_range
    | with_reducible apply Plays.foldl_fst
    | with_reducible apply Plays.foldl
    | (intro _ _ _ _; try dsimp only)

theorem plays_tileWord {a0 : State} {acc : State × List Nat} (h : Plays a0 acc.1) (t : Nat) (w : Nat)  (ht : t < 12) : Plays a0 (tileWord t w acc).1 := by
  unfold tileWord
  (try dsimp only)
  repeat' first
    | with_reducible assumption
    | with_reducible apply plays_setNum
    | exact played_atTile (by decide) (by assumption)

theorem plays_tileCycle {a0 : State} {acc : State × List Nat} (h : Plays a0 acc.1) (m : Nat) (t : Nat)  (ht : t < 12) : Plays a0 (tileCycle m acc t).1 := by
  unfold tileCycle
  (try dsimp only)
  repeat' first
    | with_reducible assumption
    | with_reducible apply Plays.ite
    | with_reducible apply plays_dropWords
    | with_reducible apply plays_tileWord
    | split

theorem plays_linesCycle {a0 s : State} (h : Plays a0 s) (m : Nat) : Plays a0 (linesCycle s m).1 :=
  Plays.foldl_fst (p := (s, [])) h _ (fun _ _ ht g => plays_tileCycle g m _ (List.mem_range.1 ht))

theorem plays_consume {a0 s : State} (h : Plays a0 s) (k : Nat) : Plays a0 (consume s k) := plays_counters h ..

theorem plays_countersCycle {a0 s : State} (h : Plays a0 s) (issue : Bool) (up : List Nat) :
    Plays a0 (countersCycle s issue up) := plays_counters h ..

theorem plays_streamOut {a0 : State} {s : State} (h : Plays a0 s) (c : Nat) (m : Nat) (levels : List Drive)  (hc : c < 96) : Plays a0 (streamOut s c m levels) := by
  unfold streamOut
  (try dsimp only)
  repeat' first
    | with_reducible assumption
    | with_reducible apply plays_setChan
    | with_reducible apply plays_emit

theorem plays_genPlay {a0 : State} {s : State} (h : Plays a0 s) (c : Nat) (m : Nat)  (hc : c < 96) : Plays a0 (genPlay s c m) := by
  unfold genPlay
  (try dsimp only)
  repeat' first
    | with_reducible assumption
    | with_reducible apply Plays.ite
    | with_reducible apply plays_setChan
    | with_reducible apply plays_streamOut

theorem plays_capData {a0 : State} {s : State} (h : Plays a0 s) (c : Nat) (x : PlayCtx) (data : Nat)  (hc : c < 96) : Plays a0 (capData s c x data) := by
  unfold capData
  (try dsimp only)
  repeat' first
    | with_reducible assumption
    | with_reducible apply plays_capMap

theorem plays_wordStart {a0 : State} {s : State} (h : Plays a0 s) (c : Nat) (w : Nat)  (hc : c < 96) : Plays a0 (wordStart s c w) := by
  unfold wordStart
  repeat' first
    | with_reducible assumption
    | with_reducible apply Plays.ite
    | with_reducible apply plays_wordMark
    | with_reducible apply plays_suspectMark

theorem plays_slotStart {a0 : State} {s : State} (h : Plays a0 s) (c : Nat) (m : Nat) (n : Nat) (u : Nat)  (hc : c < 96) : Plays a0 (slotStart s c m n u) := by
  unfold slotStart
  repeat' first
    | with_reducible assumption
    | with_reducible apply Plays.ite
    | with_reducible apply plays_suspectMark
    | with_reducible apply plays_wordStart

theorem plays_streamJudge {a0 : State} {s : State} (h : Plays a0 s) (c : Nat) (x : PlayCtx) (chk : Bool) (u : Nat) (slot : Nat) (ok : Bool)  (hc : c < 96) : Plays a0 (streamJudge c x chk s u slot ok) := by
  unfold streamJudge
  (try dsimp only)
  repeat' first
    | with_reducible assumption
    | with_reducible apply plays_judge

theorem plays_comparePlay {a0 : State} {s : State} (h : Plays a0 s) (c : Nat) (x : PlayCtx) (io : List (List Pad))  (hc : c < 96) : Plays a0 (comparePlay s c x io) := by
  unfold comparePlay
  (try dsimp only)
  repeat' first
    | with_reducible assumption
    | with_reducible apply Plays.ite
    | with_reducible apply plays_senseEdge
    | with_reducible apply plays_capData
    | with_reducible apply plays_slotStart
    | with_reducible apply plays_streamJudge
    | with_reducible apply Plays.foldl_range
    | with_reducible apply Plays.foldl_fst
    | with_reducible apply Plays.foldl
    | (intro _ _ _ _; try dsimp only)

theorem plays_checkBit {a0 : State} {s : State} (h : Plays a0 s) (c : Nat) (x : PlayCtx) (u : Nat) (slot : Nat) (received : Bool)  (hc : c < 96) : Plays a0 (checkBit c x s u slot received) := by
  unfold checkBit
  (try dsimp only)
  repeat' first
    | with_reducible assumption
    | with_reducible apply Plays.ite
    | with_reducible apply plays_setChan
    | with_reducible apply plays_streamJudge

theorem plays_checkPlay {a0 : State} {s : State} (h : Plays a0 s) (c : Nat) (x : PlayCtx) (io : List (List Pad))  (hc : c < 96) : Plays a0 (checkPlay s c x io) := by
  unfold checkPlay
  (try dsimp only)
  repeat' first
    | with_reducible assumption
    | with_reducible apply Plays.ite
    | with_reducible apply plays_senseEdge
    | with_reducible apply plays_capData
    | with_reducible apply plays_slotStart
    | with_reducible apply plays_checkBit
    | with_reducible apply Plays.foldl_range
    | with_reducible apply Plays.foldl_fst
    | with_reducible apply Plays.foldl
    | (intro _ _ _ _; try dsimp only)
    | split

theorem plays_edgeChange {a0 : State} {s : State} (h : Plays a0 s) (c : Nat) (t : Int) (new : Drive)  (hc : c < 96) : Plays a0 (edgeChange s c t new) := by
  unfold edgeChange
  (try dsimp only)
  repeat' first
    | with_reducible assumption
    | with_reducible apply Plays.ite
    | with_reducible apply plays_inc
    | with_reducible apply plays_setChan
    | with_reducible apply plays_emit
    | exact played_atCh (by decide) (by assumption)
    | split

theorem plays_edgeFlush {a0 : State} {s : State} (h : Plays a0 s) (c : Nat) (m : Nat)  (hc : c < 96) : Plays a0 (edgeFlush s c m) := by
  unfold edgeFlush
  (try dsimp only)
  repeat' first
    | with_reducible assumption
    | with_reducible apply Plays.ite
    | with_reducible apply plays_setChan
    | with_reducible apply plays_emit
    | split

theorem plays_setAwait {a0 : State} {s : State} (h : Plays a0 s) (c : Nat) (b : Bool)  (hc : c < 96) : Plays a0 (setAwait s c b) := by
  unfold setAwait
  (try dsimp only)
  repeat' first
    | with_reducible assumption
    | with_reducible apply plays_setChan

theorem plays_edgeApply {a0 : State} {s : State} (h : Plays a0 s) (c : Nat) (tset : Nat) (t : Int) (e : EdgeEvent)  (hc : c < 96) : Plays a0 (edgeApply c tset t e s) := by
  unfold edgeApply
  (try dsimp only)
  repeat' first
    | with_reducible assumption
    | with_reducible apply Plays.ite
    | with_reducible apply plays_edgeChange
    | with_reducible apply plays_setAwait
    | split

theorem plays_vectorStart {a0 : State} {s : State} (h : Plays a0 s) (c : Nat) (x : PlayCtx) (t : Int) (field_ : Nat) (tset : Nat) (slot : Nat) (len : Nat)  (hc : c < 96) : Plays a0 (vectorStart s c x t field_ tset slot len) := by
  unfold vectorStart
  (try dsimp only)
  repeat' first
    | with_reducible assumption
    | with_reducible apply Plays.ite
    | with_reducible apply plays_add
    | with_reducible apply plays_setChan
    | with_reducible apply plays_raise
    | with_reducible apply plays_edgeChange
    | exact played_atCh (by decide) (by assumption)

theorem plays_vectorJudge {a0 : State} {s : State} (h : Plays a0 s) (c : Nat) (x : PlayCtx) (v : Vector) (t : Int) (pass : Bool)  (hc : c < 96) : Plays a0 (vectorJudge s c x v t pass) := by
  unfold vectorJudge
  (try dsimp only)
  repeat' first
    | with_reducible assumption
    | with_reducible apply plays_capMap
    | with_reducible apply plays_judge

theorem plays_windowSense {a0 : State} {s : State} (hk : Plays a0 s) (c : Nat) (h : Bool) (l : Bool) (vs : List Pad)  (hc : c < 96) : Plays a0 (windowSense s c h l vs).1 := by
  unfold windowSense
  (try dsimp only)
  repeat' first
    | with_reducible assumption
    | with_reducible apply plays_senseEdge
    | with_reducible apply Plays.foldl_range
    | with_reducible apply Plays.foldl_fst
    | with_reducible apply Plays.foldl
    | (intro _ _ _ _; try dsimp only)

theorem plays_senseAll {a0 : State} {s : State} (h : Plays a0 s) (c : Nat) (vs : List Pad)  (hc : c < 96) : Plays a0 (senseAll s c vs) := by
  unfold senseAll
  repeat' first
    | with_reducible assumption
    | with_reducible apply plays_senseEdge
    | with_reducible apply Plays.foldl_range
    | with_reducible apply Plays.foldl_fst
    | with_reducible apply Plays.foldl
    | (intro _ _ _ _; try dsimp only)

theorem plays_vectorCompare {a0 : State} {s : State} (h : Plays a0 s) (c : Nat) (x : PlayCtx) (t : Int) (n : Nat) (ls : List (List Pad))  (hc : c < 96) : Plays a0 (vectorCompare s c x t n ls).1 := by
  unfold vectorCompare
  (try dsimp only)
  repeat' first
    | with_reducible assumption
    | with_reducible apply Plays.ite
    | with_reducible apply plays_setChan
    | with_reducible apply plays_vectorJudge
    | with_reducible apply plays_windowSense
    | with_reducible apply plays_senseAll
    | split

theorem plays_vectorDrive {a0 : State} {s : State} (h : Plays a0 s) (c : Nat) (t : Int) (n : Nat)  (hc : c < 96) : Plays a0 (vectorDrive s c t n) := by
  unfold vectorDrive
  (try dsimp only)
  repeat' first
    | with_reducible assumption
    | with_reducible apply Plays.ite
    | with_reducible apply plays_edgeApply
    | with_reducible apply Plays.foldl_range
    | with_reducible apply Plays.foldl_fst
    | with_reducible apply Plays.foldl
    | (intro _ _ _ _; try dsimp only)
    | split

theorem plays_vectorAge {a0 : State} {s : State} (h : Plays a0 s) (c : Nat) (n : Nat)  (hc : c < 96) : Plays a0 (vectorAge s c n) := by
  unfold vectorAge
  (try dsimp only)
  repeat' first
    | with_reducible assumption
    | with_reducible apply Plays.ite
    | with_reducible apply plays_setChan
    | split

theorem plays_vectorPlay {a0 : State} {acc : State × List (List Pad)} (h : Plays a0 acc.1) (x : PlayCtx) (c : Nat) (t : Int) (n : Nat)  (hc : c < 96) : Plays a0 (vectorPlay x c t n acc).1 := by
  unfold vectorPlay
  (try dsimp only)
  repeat' first
    | with_reducible assumption
    | with_reducible apply Plays.ite
    | with_reducible apply plays_vectorCompare
    | with_reducible apply plays_vectorDrive
    | with_reducible apply plays_vectorAge

theorem plays_edgePlay {a0 : State} {s : State} (h : Plays a0 s) (c : Nat) (x : PlayCtx) (io : List (List Pad))  (hc : c < 96) : Plays a0 (edgePlay s c x io) := by
  unfold edgePlay
  (try dsimp only)
  repeat' first
    | with_reducible assumption
    | with_reducible apply Plays.ite
    | with_reducible apply plays_wordStart
    | with_reducible apply plays_edgeFlush
    | with_reducible apply plays_vectorStart
    | with_reducible apply plays_vectorPlay
    | with_reducible apply Plays.foldl_range
    | with_reducible apply Plays.foldl_fst
    | with_reducible apply Plays.foldl
    | (intro _ _ _ _; try dsimp only)

theorem plays_edgeFed {a0 : State} {s : State} (h : Plays a0 s) (c : Nat) (x : PlayCtx) (d : Granule)  (hc : c < 96) : Plays a0 (edgeFed s c x d) := by
  unfold edgeFed
  (try dsimp only)
  repeat' first
    | with_reducible assumption
    | with_reducible apply plays_setChan
    | with_reducible apply plays_edgePlay

theorem plays_neutralPlay {a0 : State} {s : State} (h : Plays a0 s) (c : Nat) (m : Nat)  (hc : c < 96) : Plays a0 (neutralPlay s c m) := by
  unfold neutralPlay
  (try dsimp only)
  repeat' first
    | with_reducible assumption
    | with_reducible apply plays_wordMark

theorem plays_fedPass {a0 : State} {s : State} (h : Plays a0 s) (c : Nat)  (hc : c < 96) : Plays a0 (fedPass s c) := by
  unfold fedPass
  (try dsimp only)
  repeat' first
    | with_reducible assumption
    | with_reducible apply plays_setChan

theorem plays_pinPlay {a0 : State} {s : State} (h : Plays a0 s) (x : PlayCtx) (io : List (Nat × List (List Pad))) (c : Nat)  (hc : c < 96) : Plays a0 (pinPlay x io s c) := by
  unfold pinPlay
  (try dsimp only)
  repeat' first
    | with_reducible assumption
    | with_reducible apply Plays.ite
    | with_reducible apply plays_streamOut
    | with_reducible apply plays_genPlay
    | with_reducible apply plays_comparePlay
    | with_reducible apply plays_checkPlay
    | with_reducible apply plays_edgePlay
    | with_reducible apply plays_edgeFed
    | with_reducible apply plays_neutralPlay
    | with_reducible apply plays_fedPass
    | split

theorem plays_playAll {a0 : State} {s : State} (h : Plays a0 s) (x : PlayCtx) (io : List (Nat × List (List Pad)))  : Plays a0 (playAll s x io) := by
  unfold playAll
  (try dsimp only)
  repeat' first
    | with_reducible assumption
    | with_reducible apply plays_settleLater
    | with_reducible apply plays_pinPlay
    | with_reducible apply Plays.foldl_range
    | with_reducible apply Plays.foldl_fst
    | with_reducible apply Plays.foldl
    | (intro _ _ _ _; try dsimp only)

theorem plays_earlyFeed {a0 : State} {s : State} (h : Plays a0 s) (discarded : List Granule)  : Plays a0 (earlyFeed s discarded) := by
  unfold earlyFeed
  (try dsimp only)
  repeat' first
    | with_reducible assumption
    | with_reducible apply Plays.ite
    | with_reducible apply plays_setChan
    | with_reducible apply Plays.foldl_range
    | with_reducible apply Plays.foldl_fst
    | with_reducible apply Plays.foldl
    | (intro _ _ _ _; try dsimp only)

theorem plays_pinTo {a0 : State} {s : State} (h : Plays a0 s) (c : Nat) (new : Drive)  (hc : c < 96) : Plays a0 (pinTo s c new) := by
  unfold pinTo
  (try dsimp only)
  repeat' first
    | with_reducible assumption
    | with_reducible apply Plays.ite
    | with_reducible apply plays_setChan
    | with_reducible apply plays_emit
    | with_reducible apply plays_edgeChange
    | split

theorem plays_parkPin {a0 : State} {s : State} (h : Plays a0 s) (c : Nat)  (hc : c < 96) : Plays a0 (parkPin s c) := by
  unfold parkPin
  repeat' first
    | with_reducible assumption
    | with_reducible apply plays_pinTo

theorem plays_parkAll {a0 : State} {s : State} (h : Plays a0 s)   : Plays a0 (parkAll s) := by
  unfold parkAll
  repeat' first
    | with_reducible assumption
    | with_reducible apply Plays.ite
    | with_reducible apply plays_emit
    | with_reducible apply plays_parkPin
    | with_reducible apply Plays.foldl_range
    | with_reducible apply Plays.foldl_fst
    | with_reducible apply Plays.foldl
    | (intro _ _ _ _; try dsimp only)

theorem plays_whReport {a0 : State} {s : State} (h : Plays a0 s)   : Plays a0 (whReport s) := by
  unfold whReport
  (try dsimp only)
  repeat' first
    | with_reducible assumption
    | with_reducible apply Plays.ite
    | with_reducible apply plays_setNum
    | with_reducible apply Plays.foldl_range
    | with_reducible apply Plays.foldl_fst
    | with_reducible apply Plays.foldl
    | (intro _ _ _ _; try dsimp only)
    | exact played_atTile (by decide) (by assumption)

theorem plays_cycleBegin {a0 : State} {s : State} (h : Plays a0 s)   : Plays a0 (cycleBegin s).1 := by
  unfold cycleBegin
  repeat' first
    | with_reducible assumption
    | with_reducible apply plays_linesCycle

theorem plays_capOpen {a0 : State} {s : State} (h : Plays a0 s) (g : Granule) (cyc : Nat)  : Plays a0 (capOpen s g cyc) := by
  unfold capOpen
  (try dsimp only)
  repeat' first
    | with_reducible assumption
    | with_reducible apply Plays.ite
    | with_reducible apply plays_setCis

/-- An issue plays: beside what the pins change, ISSUES and the cycle advance, the granule becomes the last one, a pending
jump's distance grows, and raster points that no judgement can reach any more are written (R145, R173, R179, R411). -/
theorem plays_cyclePlay (s : State) (up : List Nat) (g : Granule) (io : List (Nat × List (List Pad))) :
    ∃ u, Plays ((s.add 64 K.ISSUES 1).setSeq (s.seq.played g)) u ∧ cyclePlay s up g io = eyeFlush u := by
  unfold cyclePlay
  have h1 := plays_capOpen (.refl s) g 0
  have h2 := plays_playAll h1 ⟨(capOpen s g 0).seq.cycle, (capOpen s g 0).num K.ISSUES, 0, g, true, true⟩ io
  extract_lets s1 s2 _ s3 s4 s5 q s6
  change Plays s s2 at h2
  have h3 : Plays s s3 := Plays.ite (plays_setCis h2 _) h2
  have h4 : Plays s s4 := plays_countersCycle h3 ..
  clear_value s4
  refine ⟨_, plays_capPrune ?_, rfl⟩
  have hq := h4.seq
  have hn := h4.num
  exact {
    pending := h4.pending, blobs := h4.blobs, pf0 := h4.pf0, pf1 := h4.pf1, uc := h4.uc, mem := h4.mem, flt := h4.flt,
    pwr := h4.pwr, slow := h4.slow, tb := h4.tb, pump := h4.pump, cal := h4.cal, ring := h4.ring, trust := h4.trust,
    mgmt := h4.mgmt, jtag := h4.jtag, freeCtr := h4.freeCtr,
    seq := congrArg (Seq.played · g) hq
    num := fun k hk => by
      simp only [s6, num_setSeq, s5, num_add, hn k hk]
      rw [hn K.ISSUES (by simp [Played, K.ISSUES])] }

/-- What enters the cistern queue, or is lost, changes its objects and the cistern alone (R412, R413). -/
theorem frame_cqPut {ks : List Nat} {ps : List Part} {a s : State} (h : Frame ks ps a s) (x : CqItem)
    (hk : ∀ k ∈ [K.CQ_LEVEL, K.CQ_MAX, K.LOST_RECORDS, K.CAP_FLAGS], k ∈ ks) (hp : Part.cis ∈ ps) :
    Frame ks ps a (cqPut s x).2 := by
  unfold cqPut
  dsimp only
  split
  · exact frame_setNum (frame_setNum (frame_setCis h _ hp) _ (.inl (hk _ (by simp)))) _ (.inl (hk _ (by simp)))
  · exact frame_setFlag (frame_add h _ _ (.inl (hk _ (by simp)))) _ _ (.inl (hk _ (by simp)))

theorem frame_pointWrite {ks : List Nat} {ps : List Part} {a s : State} (h : Frame ks ps a s) (p : EyePoint)
    (hk : ∀ k ∈ [K.CQ_LEVEL, K.CQ_MAX, K.LOST_RECORDS, K.CAP_FLAGS], k ∈ ks) (hp : Part.cis ∈ ps) :
    Frame ks ps a (pointWrite s p) := by
  unfold pointWrite
  split
  exact (frame_cqPut h _ hk hp).ite (frame_setFlag (frame_add h _ _ (.inl (hk _ (by simp)))) _ _ (.inl (hk _ (by simp))))

/-- Writing raster points changes the queue's objects and the cistern alone (R411). -/
theorem frame_eyeFlush {ks : List Nat} {ps : List Part} {a s : State} (h : Frame ks ps a s)
    (hk : ∀ k ∈ [K.CQ_LEVEL, K.CQ_MAX, K.LOST_RECORDS, K.CAP_FLAGS], k ∈ ks) (hp : Part.cis ∈ ps) :
    Frame ks ps a (eyeFlush s) := by
  unfold eyeFlush pointsWrite
  exact h.ite ((frame_setCis h _ hp).foldl _ (fun _ _ _ g => frame_pointWrite g _ hk hp))

end Sys2Proof.Machine
end

