-- ==== Sys2Proof/Laws/Writes.lean ====
section
/-! SUPPORT. A write that is accepted: whatever the way it came by, the module is left as its commit leaves it, but for the
reply, the management core's notes and a change of ATTN. -/

namespace Sys2Proof.Machine

theorem leBytes_length (n x : Nat) : (leBytes n x).length = n := by
  induction n generalizing x with
  | zero => rfl
  | succ n ih => simp [leBytes, ih]

theorem leNat_leBytes (n x : Nat) : leNat (leBytes n x) = x % 256 ^ n := by
  induction n generalizing x with
  | zero => simp [leBytes, leNat, Nat.mod_one]
  | succ n ih =>
    rw [leBytes, leNat, ih, BitVec.toNat_ofNat, show (2 : Nat) ^ 8 = 256 from rfl,
      show 256 ^ (n + 1) = 256 * 256 ^ n from Nat.pow_add_one', Nat.mod_mul (a := 256)]

section
variable {ks : List Nat} {ps : List Part} {a s : State} (h : Frame ks ps a s) (hp : ∀ p ∈ answered, p ∈ ps)
include h hp

theorem frame_sendReply (x : Arrival) (f : Bytes) : Frame ks ps a (sendReply s x f) := by
  have hr : ps.contains .replies = true := by simpa using hp .replies (by simp [answered])
  unfold sendReply
  split
  · refine Frame.ite (frame_setPf h _ _ (.inr ?_)) h
    rw [hr]; rfl
  · refine Frame.ite (frame_setPf h _ _ (.inr ?_)) h
    rw [hr]; rfl
  · exact frame_emit h _ (hp _ (by simp [answered]))
  · exact frame_emit h _ (hp _ (by simp [answered]))
  · exact frame_setJtag h _ (hp _ (by simp [answered]))

theorem frame_writeReply (x : Arrival) (cls i sub c : Nat) : Frame ks ps a (writeReply s x cls i sub c) := by
  unfold writeReply
  exact Frame.ite h (frame_sendReply h hp _ _)

theorem frame_unmute (r : Req) : Frame ks ps a (unmute s r) := frame_setMgmt h _ (hp _ (by simp [answered]))

theorem frame_served (b : Bool) (r : Req) : Frame ks ps a (served (s, b) r) := by
  have hm : Part.mgmt ∈ ps := hp _ (by simp [answered])
  exact frame_setMgmt (Frame.ite h (frame_unmute h hp r)) _ hm

end

/-- What a write that passes its checks leaves. -/
theorem writeObj_accepted {s : State} {q : Asker} {frame v1 : Bool} {i sub off : Nat} {d : Bytes}
    (hg : gateCode s q v1 i sub = 0) (hl : lateCode (keySpent s i sub) frame i sub off d = 0) :
    writeObj s q frame v1 i sub off d =
      (0, sigTouched (commit (keySpent s i sub) q frame i sub off d),
        objKey i sub == K.SIG_COMMIT && bit (leNat d) 0) := by
  unfold writeObj
  simp only [hg, ne_eq, not_true_eq_false, if_false]
  unfold keySpent at hl ⊢
  simp only [hl, not_true_eq_false, if_false]

theorem softReset_frame {ks : List Nat} {ps : List Part} {a s : State} (h : Frame ks ps a s) (hp : Part.pwr ∉ ps)
    (ha : a.pwr.softReset = false) : afterReply s = s := by
  unfold afterReply
  rw [h.pwr hp, ha]; rfl

section
variable {s : State} {v : Via} {i sub : Nat} {d : Bytes}

/-- The state an accepted write leaves when its reply has been formed. -/
def written (s : State) (v : Via) (i sub : Nat) (d : Bytes) : State :=
  sigTouched (commit (keySpent s i sub) (askerVia s v) (viaFrame v) i sub 0 d)

/-- The request a write makes. -/
def reqOf (v : Via) (i sub : Nat) (d : Bytes) : Req :=
  match v with
  | .frame a => .frame a (.write i sub 0 d)
  | .bar2 pf => .bar2Write pf (i * 4096 + sub * 16) d

theorem writeVia_serve (h : Reaches s v i sub d) : writeVia s v i sub d = serve s (reqOf v i sub d) := by
  obtain ⟨hst, hs, hh, hr, hi, hsub, hv⟩ := h
  cases v with
  | frame a =>
    simp only [viaOpen, Bool.and_eq_true] at hv
    obtain ⟨⟨⟨hu, hn⟩, -⟩, -⟩ := hv
    simp only [writeVia, frameIn, hu, hn, Bool.and_self, if_true, submit, hs, Bool.not_true, Bool.false_eq_true, if_false,
      hh, Option.isSome_none, reqOf]
  | bar2 pf =>
    simp only [viaOpen, Bool.and_eq_true] at hv
    obtain ⟨⟨⟨-, ho⟩, -⟩, -⟩ := hv
    simp only [writeVia, ho, if_true, submit, hs, Bool.not_true, Bool.false_eq_true, if_false, hh, Option.isSome_none, reqOf]

theorem batchOk_write {off : Nat} (hd : d.length ≤ 1024) : batchOk [⟨true, sub, i, off, d.length, d⟩] = true := by
  have hu : up4 d.length ≤ 1024 := by unfold up4; omega
  have hb : batchBytes [⟨true, sub, i, off, d.length, d⟩] ≤ 1500 := by
    simp only [batchBytes, List.map_cons, List.map_nil, List.sum_cons, List.sum_nil, if_true]; omega
  simp [batchOk, hb, hd]

theorem slotOf_addr (hi : i < 65536) (hs : sub < 256) : slotOf (i * 4096 + sub * 16) = (i, sub, 0) := by
  unfold slotOf
  refine Prod.ext ?_ (Prod.ext ?_ ?_) <;> simp only <;> omega

theorem serve1_accepted (h : Accepted s v i sub d) (hc : ¬(objKey i sub = K.SIG_COMMIT ∧ bit (leNat d) 0 = true)) :
    Frame [] answered (written s v i sub d) (serve1 s (reqOf v i sub d)).1 ∧ (serve1 s (reqOf v i sub d)).2 = false := by
  obtain ⟨⟨hst, hs, hh, hr, hi, hsub, hv⟩, hg, hl⟩ := h
  have hb : (objKey i sub == K.SIG_COMMIT && bit (leNat d) 0) = false := by
    rw [Bool.and_eq_false_iff, beq_eq_false_iff_ne]
    by_cases e : objKey i sub = K.SIG_COMMIT
    · exact .inr (by simpa using fun g => hc ⟨e, g⟩)
    · exact .inl e
  have hp : ∀ p ∈ answered, p ∈ answered := fun _ h => h
  cases v with
  | bar2 pf =>
    simp only [viaOpen, Bool.and_eq_true, beq_iff_eq] at hv
    obtain ⟨⟨-, ha⟩, hsz⟩ := hv
    have hal : barAligned (i * 4096 + sub * 16) d.length = true := by
      unfold barAligned at ha ⊢
      simp only [Nat.zero_mod, beq_self_eq_true, Bool.and_true, Bool.or_eq_true, beq_iff_eq] at ha
      rw [Bool.and_eq_true]
      refine ⟨by simpa only [Bool.or_eq_true, beq_iff_eq] using ha, beq_iff_eq.2 ?_⟩
      rcases ha with ((ha | ha) | ha) | ha <;> rw [ha] <;> omega
    have hw : serveBar2Write s pf (i * 4096 + sub * 16) d = barCommit s pf i sub d := by
      unfold serveBar2Write
      rw [slotOf_addr hi hsub]
      have hx : ¬(d.length = 4 ∧ halfable i sub = true) := by
        rintro ⟨e, hf⟩
        unfold halfable at hf
        unfold rowOf at hsz
        split at hf <;> simp_all
      simp only [hal, Bool.not_true, Bool.false_eq_true, if_false, hsz, ne_eq, not_true_eq_false, or_self]
      rw [if_neg (fun e => hx ⟨e.1, e.2.2⟩), if_neg (fun e => absurd e.2.1 (by decide))]
    have hcm : barCommit s pf i sub d = (written s (.bar2 pf) i sub d, false) := by
      have e := writeObj_accepted (q := askerPf s pf) (v1 := false) hg hl
      unfold barCommit written
      rw [hb] at e
      simp only [viaFrame, askerVia] at e ⊢
      rw [e]; rfl
    simp only [reqOf, serve1, hw, hcm, Bool.false_eq_true, if_false]
    exact ⟨.refl _ _ _, trivial⟩
  | frame a =>
    simp only [viaOpen, Bool.and_eq_true] at hv
    obtain ⟨⟨-, hok⟩, hlen⟩ := hv
    simp only [viaFrame, askerVia, viaV1] at hg hl
    by_cases h3 : a.ver = 3
    · have h13 : (a.ver == 1) = false := by rw [h3]; rfl
      rw [h13] at hg
      have e := writeObj_accepted (q := askerOf s a.port) (v1 := false) hg hl
      rw [hb] at e
      have hf : itemFits [] 0 = true := by decide
      have hd : d.length ≤ 1024 := by simpa only [writeLenOk, h3, Nat.reduceEqDiff, if_false, decide_eq_true_eq] using hlen
      have hbo : batchOk [⟨true, sub, i, 0, d.length, d⟩] = true := batchOk_write hd
      rw [h3] at hok
      simp only [reqOf, serve1, serveFrame, frameVer, hok, Bool.not_true, Bool.false_eq_true, if_false, h3, if_true,
        serveBatch, hbo, serveItems, runItems, hf, e, Bool.false_and, batchEnd]
      unfold written
      simp only [viaFrame, askerVia]
      have hn := frame_attnNote (Frame.refl [] answered (sigTouched (commit (keySpent s i sub) (askerOf s a.port) true i sub 0 d)))
      split
      · exact ⟨frame_sendReply hn hp _ _, rfl⟩
      · exact ⟨hn, rfl⟩
    · have e := writeObj_accepted (q := askerOf s a.port) (v1 := a.ver == 1) hg hl
      rw [hb] at e
      have ho : (if a.ver = 1 then 0 else 0) = 0 := by split <;> rfl
      simp only [reqOf, serve1, serveFrame, frameVer, hok, Bool.not_true, Bool.false_eq_true, if_false, if_neg h3,
        serveWrite, hlen, ho, e]
      unfold written
      simp only [viaFrame, askerVia]
      exact ⟨frame_writeReply (.refl _ _ _) hp .., trivial⟩

/-- An accepted write leaves the module as its commit does, but for the reply and the management core's notes. -/
theorem writeVia_accepted (h : Accepted s v i sub d) (hc : ¬(objKey i sub = K.SIG_COMMIT ∧ bit (leNat d) 0 = true))
    (hr : (commit (keySpent s i sub) (askerVia s v) (viaFrame v) i sub 0 d).pwr.softReset = false) :
    Frame [] answered (written s v i sub d) (writeVia s v i sub d) := by
  obtain ⟨hf, hh⟩ := serve1_accepted h hc
  rw [writeVia_serve h.1]
  unfold serve
  dsimp only
  have hg := frame_attnNote (frame_served hf (fun _ h => h) (serve1 s (reqOf v i sub d)).2 (reqOf v i sub d))
  exact hg.ite ((softReset_frame hg (by decide) hr).symm ▸ hg)

/-- The same for a write of a value by its key, as a command makes it. -/
theorem took_writeKey {k n : Nat} (h : AcceptedKey s v k n) (hc : ¬(k = K.SIG_COMMIT ∧ bit n 0 = true))
    (hr : (commit (keySpent s (k / 256) (k % 256)) (askerVia s v) (viaFrame v) (k / 256) (k % 256) 0 (bytesOf k n)).pwr.softReset
      = false) :
    ∃ t, took s (fun s => writeKey s v k n) = .next t ∧ Frame [] answered (written s v (k / 256) (k % 256) (bytesOf k n)) t := by
  have hk : objKey (k / 256) (k % 256) = k := by unfold objKey; omega
  obtain ⟨t, e, ht⟩ := took_next (s := s) (fun s => writeKey s v k n) h.1.1
  refine ⟨t, e, ?_⟩
  have := writeVia_accepted h (fun g => ?_) hr
  · exact Frame.trans this (ht _ _)
  · rw [hk] at g
    refine hc ⟨g.1, ?_⟩
    have e2 : bytesOf k n = leBytes 1 n := by rw [g.1]; rfl
    have := g.2
    rw [e2, leNat_leBytes] at this
    unfold bit at this ⊢
    rw [Nat.testBit_zero] at this ⊢
    simp only [Nat.pow_one] at this
    rw [Nat.mod_mod_of_dvd _ (by decide)] at this
    exact this

end

/-! ### The keys of units -/

theorem atCh_mod (k c : Nat) : atCh k c % 256 = k % 256 := by unfold atCh; omega
theorem atTile_mod (k t : Nat) : atTile k t % 256 = k % 256 := by unfold atTile; omega
theorem atPump_mod (k p : Nat) : atPump k p % 256 = k % 256 := by unfold atPump; omega

theorem atCh_index {k c : Nat} (hk : 0x400000 ≤ k ∧ k < 0x402000) (hc : c < 96) :
    baseIndex (atCh k c / 256) = k / 256 ∧ unitOf (atCh k c / 256) = c := by
  unfold atCh baseIndex unitOf
  constructor
  · rw [if_neg (by omega), if_neg (by omega), if_pos (by omega)]; omega
  · rw [if_neg (by omega), if_neg (by omega), if_pos (by omega)]; omega

theorem atTile_index {k t : Nat} (hk : 0x300000 ≤ k ∧ k < 0x301000) (ht : t < 12) :
    baseIndex (atTile k t / 256) = k / 256 ∧ unitOf (atTile k t / 256) = t := by
  unfold atTile baseIndex unitOf
  constructor
  · rw [if_neg (by omega), if_pos (by omega)]; omega
  · rw [if_neg (by omega), if_pos (by omega)]; omega

theorem atPump_index {k p : Nat} (hk : 0x240000 ≤ k ∧ k < 0x241000) (hp : p < 16) :
    baseIndex (atPump k p / 256) = k / 256 ∧ unitOf (atPump k p / 256) = p := by
  unfold atPump baseIndex unitOf
  constructor
  · rw [if_pos (by omega)]; omega
  · rw [if_pos (by omega)]; omega

/-- The row of a unit's object is the row at unit 0. -/
theorem rowOf_base {i j sub : Nat} (h : baseIndex i = j) (hj : baseIndex j = j) : rowOf i sub = rowOf j sub := by
  unfold rowOf objRow rowsOf
  rw [h, hj]

end Sys2Proof.Machine
end

