-- ==== Sys2Proof/Tests/Slice0.lean ====
section
/-! SUPPORT. Tests: ill-formed commands are refused, small facts of single commands, and for every statement a state and
operands that meet its hypotheses. -/

namespace Sys2Proof.Tests

open Sys2Proof.Machine

set_option Elab.async false

/-! ### States -/

/-- Every domain is on, every function ready and the module idle; PF0 has its rings enabled. -/
def live : State :=
  let s := State.reset.setNums ((List.range 12).map (fun t => (atTile K.TILE_STATE t, 2)))
  let s := s.setNums [(K.READY, 2 ^ 30 - 1), (K.DOM_STATE, 0xAAAAAAAAAAAA), (K.SUPPLY_OK, 0xFF), (K.SEQ_STATE, 1),
    (K.TICK_STATE, 2), (K.STACK_STATE, 15), (K.RING_ROLE, 2), (K.RING_STATE, 2), (K.TB_FLAGS, 0xB)]
  { s with pwr := { s.pwr with seqOnce := true }, pf0 := { s.pf0 with ringCtrl := 1 } }

/-- `live` with other values of some objects. -/
def liveWith (l : List (Nat × Nat)) : State := live.setNums l

/-- A version 2 frame on PF0. -/
def fr : Arrival := ⟨.pf0, 2, 7, 0, 0, false, 0, none⟩

/-- The way of a write in that frame. -/
def v : Via := .frame fr

/-- The segment of the test bursts: 32 granules, segment 1 its primed target. -/
def seg : Seg := ⟨0, 32, [1], true, false⟩

/-- The granule of the test bursts. -/
def gran (w off : Nat) : Granule := ⟨0, off, 0, w, [], 0x80, [], false⟩

/-- A burst in which the instruction `w` is due at an offset of segment 0. -/
def burst (w off : Nat) : State :=
  let s := live.setNum K.SEQ_STATE 4
  { s with seq := { Seq.init with segs := [seg, seg], off := off, stream := [gran w off], jtValid := 1, jumpTable := [1],
                                  front := { Front.init with stopped := false, off := off + 1 } } }

/-- A burst whose issue waits. -/
def waiting (w off : Nat) (x : Wait) : State :=
  let s := burst w off
  { s with seq := { s.seq with wait := x, last := some (gran w off) } }

/-- No input and a clean read of the control store. -/
def io : Io := ⟨[], 0⟩

/-- The instruction `w` is due and issued at an offset. -/
abbrev Due (w off : Nat) : Prop := IssueDue (burst w off) io w (gran w off)

 /-! ### Ill-formed commands are refused, one for each check of WellFormed.lean -/

theorem test_wellformed : (Instr.read fr 0x1201 2 0 1).wf = true ∧ (Instr.vec io).wf = true := by decide +kernel

theorem test_illformed_arrival :
    ([{ fr with ver := 256 }, { fr with ver := 1, tag := 256 }, { fr with tag := 65536 }, { fr with src := 65536 },
      { fr with dst := 65536 }, { fr with mac := 2 ^ 48 }, { fr with vlan := some 65536 }] : List Arrival).all
      (fun a => !(Instr.read a 0 0 0 0).wf && !(Instr.keyUnlock (.frame a) 0).wf) = true := by decide +kernel

theorem test_illformed_address :
    (Instr.read fr 65536 0 0 1).wf = false ∧ (Instr.read fr 0 256 0 1).wf = false ∧ (Instr.read fr 0 0 65536 1).wf = false ∧
    (Instr.read fr 0 0 0 65536).wf = false ∧ (Instr.batch fr true [⟨false, 256, 0, 0, 1, []⟩]).wf = false ∧
    (Instr.batch fr true [⟨false, 0, 0, 0, 65536, []⟩]).wf = false := by decide +kernel

theorem test_illformed_lengths (b : Byte) :
    (Instr.write fr 0 0 0 (List.replicate 65536 b)).wf = false ∧
    (Instr.registerWrite (.object v 0 0 (List.replicate 1025 b))).wf = false ∧
    (Instr.custKey v 0 (List.replicate 1025 b)).wf = false := by
  simp only [Instr.wf, RegAccess.wf, List.length_replicate]
  decide

theorem test_illformed_count :
    (Instr.batch fr true (List.replicate 256 ⟨false, 2, 0x1201, 0, 1, []⟩)).wf = false := by decide +kernel

theorem test_illformed_function :
    (Instr.replyWrite 2).wf = false ∧ (Instr.commandFetch 0 [0]).wf = false ∧ (Instr.commandFetchError 2).wf = false ∧
    (Instr.cmdTail 2 0).wf = false ∧ (Instr.ringCtrl 0 (2 ^ 32)).wf = false ∧ (Instr.functionLevelReset 2).wf = false ∧
    (Instr.registerWrite (.bar0Read 0 0x1000000 4)).wf = false ∧ (Instr.registerWrite (.bar0Read 0 0 9)).wf = false ∧
    (Instr.registerWrite (.bar0Write 2 0 [0])).wf = false := by decide +kernel

theorem test_illformed_bar2 :
    (Instr.bar2Read 0 (2 ^ 28) 4).wf = false ∧ (Instr.bar2Read 0 0 17).wf = false ∧
    (Instr.bar2Write 0 0 (zeros 17)).wf = false ∧ (Instr.bar2LowHalfWrite 0 (2 ^ 24) 0).wf = false ∧
    (Instr.bar2HighHalfWrite 0 0 (2 ^ 32)).wf = false ∧ (Instr.keyUnlock (.bar2 2) 0).wf = false := by decide +kernel

theorem test_illformed_value :
    (Instr.keyUnlock v 65536).wf = false ∧ (Instr.authWrite v 0 1).wf = false ∧ (Instr.authWrite v 6 1).wf = false ∧
    (Instr.verEnable v 256).wf = false ∧ (Instr.lockSet v (2 ^ 32)).wf = false ∧ (Instr.tickMult v (2 ^ 64)).wf = false ∧
    (Instr.reactWrite v 128 0).wf = false ∧ (Instr.holdVRefresh (2 ^ 32)).wf = false := by decide +kernel

theorem test_illformed_ports :
    (Instr.onpelFrame 2 ⟨true, 0x88B5, [], 0, []⟩).wf = false ∧ (Instr.onpelFrame 0 ⟨true, 0x88B5, [], 2 ^ 48, []⟩).wf = false ∧
    (Instr.dictFrameUpdate (2 ^ 34)).wf = false ∧ (Instr.recoveryWord (2 ^ 34)).wf = false ∧
    (Instr.onpelLinkPortDown 2).wf = false ∧ (Instr.registerWrite (.jtagInstruction 256)).wf = false ∧
    (Instr.registerWrite (.scanUpdate 32)).wf = false := by decide +kernel

theorem test_illformed_unit :
    (Instr.comparatorValid 96 (0, 0)).wf = false ∧ (Instr.attentionEvent 96 (0, 0)).wf = false ∧ (Instr.tilePllLock 12).wf = false ∧
    (Instr.stackLinkTrainingLoss 4).wf = false ∧ (Instr.deskewWrite v 0 3 0).wf = false ∧ (Instr.wakeEvent 0 [(8, 0, 0)]).wf = false ∧
    (Instr.tmuEdge 0 256 0 (0, 0)).wf = false ∧ (Instr.domainLossDuringBurst 25).wf = false ∧
    (Instr.functionReady 30 0).wf = false ∧ (Instr.functionReady 0 4).wf = false ∧ (Instr.supplyFault 7).wf = false ∧ (Instr.custKey v 8 []).wf = false := by decide +kernel

theorem test_illformed_issue :
    (Instr.vec ⟨[(96, [])], 0⟩).wf = false ∧ (Instr.vec ⟨[], 3⟩).wf = false ∧ (Instr.trapResume [⟨[], 3⟩]).wf = false ∧
    (Instr.scrubRead 3).wf = false ∧ (Instr.primingComplete 0 3 []).wf = false ∧
    (Instr.patchInstallDone 4).wf = false ∧ (Instr.granuleFetch 0 ⟨[12], []⟩).wf = false ∧
    (Instr.loadingBegin [.cacheUncorrectable 0 0 0]).wf = false := by decide +kernel

theorem test_illformed_pump :
    (Instr.start (.pumpDb 0) 16).wf = false ∧ (Instr.start (.pumpDb 2) 0).wf = false ∧ (Instr.elementMove 16 ⟨[], [], 0⟩).wf = false ∧
    (Instr.busError (2 ^ 64) 1).wf = false ∧ (Instr.busError 0 0).wf = false ∧ (Instr.busError 0 6).wf = false ∧
    (Instr.curDesc v 16 0).wf = false := by decide +kernel

theorem test_illformed_message :
    (Instr.ringHalt (zeros 31)).wf = false ∧ (Instr.time (zeros 33) 0).wf = false ∧ (Instr.peerStale 1024).wf = false := by decide +kernel

theorem test_illformed_results :
    (Instr.channelCalComplete 0 ⟨zeros 47, zeros 10, 0, 0, none⟩).wf = false ∧
    (Instr.channelCalComplete 0 ⟨zeros 48, zeros 9, 0, 0, none⟩).wf = false ∧
    (Instr.channelCalComplete 0 ⟨zeros 48, zeros 10, 0, 0, some (zeros 63)⟩).wf = false ∧
    (Instr.selfCheckDone 0 ⟨(0, 0), false, [], [], [], []⟩).wf = false ∧
    (Instr.temperatureSample ⟨0, [], List.replicate 4 0, 0, List.replicate 12 0⟩).wf = false ∧
    (Instr.temperatureSample ⟨0, List.replicate 12 0, [], 0, List.replicate 12 0⟩).wf = false ∧
    (Instr.temperatureSample ⟨0, List.replicate 12 0, List.replicate 4 0, 0, []⟩).wf = false := by decide +kernel

 /-! ### Worked examples of the spec -/

/-- The table gives no row any bits, so no word spells a command. -/
theorem test_no_word_spells_a_command : decodeTableWord 0 0 = none := rfl

/-- R11's check value, over ASCII "123456789". -/
theorem test_crc32c : crc32c [0x31, 0x32, 0x33, 0x34, 0x35, 0x36, 0x37, 0x38, 0x39] = 0xE3069283 := by decide +kernel

/-- The scope file's worked example of channel 37: objects 0x44A3.02 and 0x6947, tile T4, source 0x64. -/
theorem test_channel_37 : atCh K.THR_LO 37 = 0x44A302 ∧ atSet K.TS_CTRL 37 7 / 256 = 0x6947 ∧ tileOf 37 = 4 := by decide +kernel

/-- The PRBS7 example of the timing chapter: bits 0 to 31 from seed 0x7F form 0x8A18_207F. -/
theorem test_prbs7_example :
    let s := liveWith [(atCh K.PRBS_POLY 37, 0), (atCh K.PRBS_SEED 37, 0x7F)]
    ((genBits s 37 32 (s.chan 37)).1.zipIdx.map (fun p => ofBool p.1 * 2 ^ p.2)).sum = 0x8A18207F := by decide +kernel

/-- The sampling example: symbol 5 of a PAM4 pin at divisor 1 with C0 of one tick is sampled at 11 ticks. -/
theorem test_sample_point_example :
    let s := liveWith [(atCh K.ROLE 50, 4), (atCh K.DIVISOR 50, 1), (atSet K.T_C0 50 0, 0x200)]
    samplePoint s 50 0 5 = 11 * 512 := by decide +kernel

/-- The frequency example of the time measurement chapter: 3,500 prescaled edges in 3,584,000 LSB. -/
theorem test_frequency_example : freqOf 3500 8 3584000 = 28000000000000 := by decide +kernel

/-- The module of the handover example: node 0x123, the oven warming up, a reference that matches. -/
def handover : State :=
  let s := liveWith [(K.NODE_ADDR, 0x123), (K.SIG_LIVE, 0x5C3A91E4), (K.SIG_REF, 0x5C3A91E4), (K.SIG_VALID, 1), (K.TB_FLAGS, 0)]
  s.setPf 0 { s.pf 0 with cmdTail := 1 }

/-- The reply of the handover example, byte for byte, and the class E0 has then. -/
theorem test_handover_example :
    (match exec (.commandFetch 0 ([0x02, 0x02, 0x41, 0x00, 0x00, 0x00, 0x00, 0x00, 0x00, 0x1F, 0x03, 0x00, 0x00, 0x00, 0x01,
        0x00, 0x01, 0x00, 0x00, 0x00] ++ zeros 44)) handover with
      | .next t => t.pf0.replies == [[0x02, 0x82, 0x41, 0x00, 0x00, 0x00, 0x23, 0x01, 0x00, 0x1F, 0x03, 0x03, 0x80, 0x80, 0x00,
          0x00, 0xE4, 0x91, 0x3A, 0x5C, 0x00, 0x00, 0x00, 0x00]] && t.num K.AUTH_E0 == 1 && t.mgmt.scanning
      | _ => false) = true := by decide +kernel

 /-! ### The hypotheses of every statement are met -/

/-! ### Witnesses of the statements' hypotheses -/

/-- A key's object and its byte string. -/
abbrev noEffect (s : State) (v : Via) (k n : Nat) : Prop :=
  (rowOf (k / 256) (k % 256)).ty.isBlob = false ∧
  commitUnit (keySpent s (k / 256) (k % 256)) (askerVia s v) (objKey (k / 256) (k % 256)) (objKey (baseIndex (k / 256)) (k % 256))
    (unitOf (k / 256)) (n &&& (rowOf (k / 256) (k % 256)).mask) = none ∧
  commitModule (keySpent s (k / 256) (k % 256)) (askerVia s v) (objKey (k / 256) (k % 256)) (n &&& (rowOf (k / 256) (k % 256)).mask)
    = none

/-- `live` with D00 stopped. -/
def dead : State := live.setPwr { live.pwr with stopped := true }

/-- Sixteen micro-registers of 0. -/
def zeros16 : List Nat := List.replicate 16 0

/-- A trap at its start with handlers to run. -/
def trapOf (todo : List Nat) : Trap := ⟨(todo.map (2 ^ ·)).sum, 2, todo, 0, 0, 0x1800, false, zeros16, false, false, false⟩

theorem witness_SoundStateIsKept : live.Sound ∧ ∃ t, step live = .next t := by
  refine ⟨⟨⟨?_, ?_⟩, ⟨?_, ?_⟩, ?_, ?_⟩, _, rfl⟩ <;> first | decide | (unfold Rising; decide)

theorem witness_StepRunsFrontCommand :
    ({ live with pending := [.perst, .slewEnd] } : State).pending = .perst :: [.slewEnd] := by decide +kernel

theorem witness_IdleStepIsOneManagementCycle :
    (live.pending = []) ∧
    (live.pwr.stopped = false) ∧
    (dead.pending = []) ∧
    (dead.pwr.stopped = true) ∧
    ((live.setTb { live.tb with epoch := true }).tb.epoch = true) ∧
    (domState live 2 ≠ 0) ∧
    (live.tb.epoch = false) ∧
    (domState (liveWith [(K.DOM_STATE, 2)]) 2 = 0) := by 
  refine ⟨?_, ?_, ?_, ?_, ?_, ?_, ?_, ?_⟩ <;> decide +kernel

theorem witness_NothingHappensWhileStopped :
    dead.pwr.stopped = true := by decide +kernel

theorem witness_ReadIsAnsweredAndChangesNothing :
    (FrameServed live fr ∧ addrWf 0x1201 2 0 = true ∧ broadcast fr = false ∧
     readCode live (askerOf live .pf0) false 0x1201 2 0 1 = 0) ∧
    (FrameServed live { fr with port := .e0, dst := 0xFFF } ∧ broadcast { fr with port := .e0, dst := 0xFFF } = true) ∧
    (FrameServed live { fr with ver := 1 } ∧ readCode live (askerOf live .pf0) true 0x1201 2 0 1 = 0) := by 
  refine ⟨?_, ?_, ?_⟩ <;> decide +kernel

theorem witness_DisabledVersionIsAnsweredWithCodeTen :
    (let s := liveWith [(K.VER_ENABLE, 2)]
     s.pwr.stopped = false ∧ serving s = true ∧ s.mgmt.held = none ∧ s.pwr.softReset = false ∧
     { fr with ver := 1 }.wf = true ∧ portUp s .pf0 = true ∧ nodeOk s fr = true ∧ verOk s 1 = false ∧ verOk s 3 = false) ∧
    (broadcast fr = false) ∧
    (broadcast { fr with port := .e0, dst := 0xFFF } = true ∧ verOk live 9 = false) := by 
  refine ⟨?_, ?_, ?_⟩ <;> decide +kernel

theorem witness_RefusedWriteHasNoEffect :
    (FrameServed live fr ∧ addrWf 0x7FFF 1 0 = true ∧ writeLenOk fr 1 = true ∧ rowsOf 0x7FFF = [] ∧
     gateCode live (askerOf live fr.port) false 0x7FFF 1 ≠ 0) ∧
    (let s := liveWith [(K.AUTH_PF0, 0)]
     findCode false 0x1201 1 = 0 ∧ mayWrite (classOf s (portNum fr.port)) 0x1201 = false ∧ FrameServed s fr) ∧
    (let s := liveWith [(K.LOCK_SET, 0xFF)]
     let i := K.NODE_ADDR / 256
     let u := K.NODE_ADDR % 256
     findCode false i u = 0 ∧ mayWrite (classOf s (portNum fr.port)) i = true ∧ (rowOf i u).acc.canWrite = true ∧
     FrameServed s fr ∧ (rowOf i u).acc.isLck = true ∧ locked s i = true) := by 
  refine ⟨?_, ?_, ?_⟩ <;> decide +kernel

/-- CAP_MODE has no effect of its own. -/
theorem witness_PlainWriteCommits :
    (AcceptedKey live v K.CAP_MODE 2 ∧ noEffect live v K.CAP_MODE 2) ∧
    (AcceptedKey live (.bar2 0) K.CAP_MODE 2 ∧ noEffect live (.bar2 0) K.CAP_MODE 2) ∧
    (AcceptedKey live (.frame { fr with ver := 3 }) K.CAP_MODE 2) := by 
  refine ⟨?_, ?_, ?_⟩ <;> decide +kernel

theorem witness_BatchRunsItsItems :
    (FrameServed live { fr with ver := 3 } ∧ broadcast { fr with ver := 3 } = false ∧
     batchOk [⟨false, 2, 0x1201, 0, 1, []⟩] = true ∧ batchOk [] = false) ∧
    (FrameServed live { fr with ver := 3, port := .e0, dst := 0xFFF } ∧
     broadcast { fr with ver := 3, port := .e0, dst := 0xFFF } = true) ∧
    ((∃ y ∈ [(⟨false, 2, 0x1201, 0, 2000, []⟩ : BatchItem)], y.write = false) ∧
     batchOk [⟨false, 2, 0x1201, 0, 2000, []⟩] = false) := by 
  refine ⟨?_, ?_, ?_⟩ <;> decide +kernel

theorem witness_RingRegisterWrites :
    (live.pwr.stopped = false ∧ barOpen live = true ∧ 63 < 2 ^ (live.pf 0).cmdSize ∧ 2 ^ (live.pf 0).cmdSize ≤ 64 ∧
     63 < 2 ^ (live.pf 0).rplSize ∧ 2 ^ (live.pf 1).rplSize ≤ 64) ∧
    (bit (live.pf 0).ringCtrl 0 = true ∧ bit 2 0 = false ∧ bit (live.pf 1).ringCtrl 0 = false) := by 
  refine ⟨?_, ?_⟩ <;> decide +kernel

theorem witness_CommandFetchTakesOneFrame :
    let s := live.setPf 0 { live.pf 0 with cmdTail := 1 }
    let d := [2#8, 1#8] ++ zeros 62
    let p := [2#8, 0#8] ++ zeros 62
    s.pwr.stopped = false ∧ s.flag K.READY 6 = true ∧ bit (s.pf 0).ringCtrl 0 = true ∧ (s.pf 0).stopped = false ∧
    (s.pf 0).cmdHead < 2 ^ (s.pf 0).cmdSize ∧ (s.pf 0).cmdTail = ((s.pf 0).cmdHead + 1) % 2 ^ (s.pf 0).cmdSize ∧
    (s.pf 0).cmdHead ≠ (s.pf 0).cmdTail ∧ d.length = 64 ∧ replyStuck (s.pf 0) = false ∧ byteAt d 0 = 2 ∧ byteAt d 1 = 1 ∧
    fieldAt d 14 2 ≤ 48 ∧ s.flag K.VER_ENABLE 1 = true ∧ serving s = true ∧ s.mgmt.held = none ∧ s.pwr.softReset = false ∧
    s.mgmt.mute0 = 0 ∧ p.length = 64 ∧ byteAt p 0 = 2 ∧ byteAt p 1 = 0 ∧ fieldAt p 14 2 ≤ 48 := by decide +kernel

theorem witness_ReplyWriteGoesToTheRing :
    (let s := live.setPf 0 { live.pf 0 with replies := [zeros 24] }
     s.flag K.READY 6 = true ∧ bit (s.pf 0).ringCtrl 0 = true ∧ (s.pf 0).replies = zeros 24 :: [] ∧
     replyRoom (s.pf 0) (zeros 24) = true ∧ (replyNeed (s.pf 0) (zeros 24)).1 = 0) ∧
    (let s := live.setPf 0 { live.pf 0 with replies := [zeros 24], rplTail := 1 }
     replyRoom (s.pf 0) (zeros 24) = false) := by 
  refine ⟨?_, ?_⟩ <;> decide +kernel

theorem witness_BarTwoAccesses :
    (serving live = true ∧ live.mgmt.held = none ∧ live.pwr.softReset = false ∧ barOpen live = true ∧ barAligned 8 4 = true ∧
     readCode live (askerPf live 0) false 0x1201 2 0 0 = 0 ∧ barAligned 3 2 = false) ∧
    (let k := K.IMAGE_ADDR
     halfable (k / 256) (k % 256) = true ∧ gateCode live (askerPf live 0) false (k / 256) (k % 256) = 0) ∧
    (let k := K.IMAGE_ADDR
     let s := live.setPf 0 { live.pf 0 with stage := some (k, 0x1000) }
     let s' := s.setPf 0 { s.pf 0 with stage := none }
     (s.pf 0).stage = some (k / 256 * 256 + k % 256, 0x1000) ∧
     Accepted s' (.bar2 0) (k / 256) (k % 256) (leBytes 4 0x1000 ++ leBytes 4 0) ∧ noEffect s' (.bar2 0) k 0x1000) := by 
  refine ⟨?_, ?_, ?_⟩ <;> decide +kernel

theorem witness_FunctionLevelResetClearsOneFunction :
    live.pwr.stopped = false ∧ domState live 5 ≠ 0 := by decide +kernel

theorem witness_EthernetFrames :
    (let f : EthFrame := ⟨true, 0x88B5, [], 1, [2#8, 1#8] ++ zeros 44⟩
     let g : EthFrame := ⟨true, 0x0800, [], 1, zeros 32⟩
     live.flag K.READY 7 = true ∧ live.flag K.READY 8 = true ∧ f.sound = true ∧ g.etherType ≠ 0x88B5 ∧ netLenOk f = true ∧
     16 ≤ f.payload.length ∧ byteAt f.payload 0 = 2 ∧ byteAt f.payload 1 = 1 ∧ fieldAt f.payload 14 2 ≤ 1024 ∧
     fieldAt f.payload 4 2 % 4096 = live.num K.NODE_ADDR ∧ live.num K.NODE_ADDR ≠ 0xFFF ∧ live.flag K.VER_ENABLE 1 = true) ∧
    (let f : EthFrame := ⟨true, 0x88B5, [], 1, [2#8, 1#8, 0#8, 0#8, 1#8] ++ zeros 30⟩
     headerLen 2 ≤ f.payload.length ∧ fieldAt f.payload 4 2 % 4096 ≠ live.num K.NODE_ADDR ∧
     fieldAt f.payload 4 2 % 4096 ≠ 0xFFF) ∧
    (let g : EthFrame := ⟨true, 0x88B5, [1, 2], 1, zeros 46⟩
     g.sound = true ∧ 1 < g.tags.length) ∧
    (let g : EthFrame := ⟨true, 0x88B5, [], 1, zeros 3⟩
     g.sound = true ∧ g.payload.length < headerLen (byteAt g.payload 0)) := by 
  refine ⟨?_, ?_, ?_, ?_⟩ <;> decide +kernel

theorem witness_JtagDictionaryPort :
    (jtagBusy live = false ∧ live.jtag.reply = [] ∧ bit 5 32 = false) ∧
    (let s := live.setJtag { live.jtag with reply := [7] }
     jtagBusy s = false ∧ s.jtag.reply = 7 :: []) ∧
    (let s := live.setPwr { live.pwr with recovery := true }
     s.pwr.recovery = true ∧ bit (2 ^ 32) 32 = true ∧ fwCheck s (s.jtag.image ++ leBytes 4 (2 ^ 32)) ≠ 0) ∧
    (let s := live.setJtag { live.jtag with req := [2#8, 1#8] ++ zeros 10 }
     let d := (if s.jtag.reply = [] then s.jtag.req else []) ++ leBytes 4 (2 ^ 32)
     bit (2 ^ 32) 32 = true ∧ serving s = true ∧ s.mgmt.held = none ∧ s.pwr.softReset = false ∧
     s.flag K.VER_ENABLE 1 = true ∧ d.length = 16 ∧ byteAt d 0 = 2 ∧ byteAt d 1 = 1 ∧ fieldAt d 14 2 ≤ 1024) ∧
    (let a : Arrival := { fr with port := .jtag }
     let s := live.setMgmt { live.mgmt with held := some ⟨.frame a (.read 0x1201 2 0 1), [], 0, [], 0⟩ }
     jtagBusy s = true) ∧
    (let s := live.setJtag { live.jtag with ir := 0x02 }
     s.jtag.ir = 0x02) ∧
    (live.jtag.ir = 0x01) ∧
    (let s := (live.setPwr { live.pwr with recovery := true }).setJtag { live.jtag with ir := 0x00, cells := 7 }
     jtagInstr s = 0x00 ∧ bit s.jtag.cells 2 = true ∧ s.pwr.recovery = true) ∧
    (let s := (live.setPwr { live.pwr with recovery := true }).setJtag { live.jtag with ir := 0x04, cells := 7 }
     jtagInstr s = 0x04) ∧
    (let s := live.setJtag { live.jtag with ir := 0x03 }
     s.flag K.READY 0 = true ∧ s.pwr.recovery = false ∧ s.num K.SAFE ≠ 1 ∧ s.jtag.ir = 0x03) := by 
  refine ⟨?_, ?_, ?_, ?_, ?_, ?_, ?_, ?_, ?_, ?_⟩ <;> decide +kernel

theorem witness_KeyAndLocks :
    (AcceptedKey live v K.KEY_UNLOCK 0x7A1C) ∧
    (AcceptedKey live v K.LOCK_SET 0x81) ∧
    (let s := liveWith [(K.UNLOCK_STATE, 1)]
     Accepted s v 0x1F00 1 (leBytes 1 3) ∧ AcceptedKey s v K.VER_ENABLE 6 ∧ Accepted s v 0x1F00 5 (leBytes 1 1)) ∧
    (AcceptedKey live v K.SIG_REF 7) := by 
  refine ⟨?_, ?_, ?_, ?_⟩ <;> decide +kernel

theorem witness_WrongKeyRaisesAFault :
    (Reaches live v 0x1201 1 (leBytes 2 0x7A1D) ∧ gateCode live (askerVia live v) (viaV1 v) 0x1201 1 = 0) ∧
    (Reaches live (.bar2 0) 0x1201 1 (leBytes 2 0) ∧ gateCode live (askerVia live (.bar2 0)) false 0x1201 1 = 0) ∧
    (fr.wf = true ∧ broadcast fr = false ∧ fr.noReply = false) := by 
  refine ⟨?_, ?_, ?_⟩ <;> decide +kernel

theorem witness_SignatureScans :
    (live.flag K.READY 0 = true) ∧
    (let s := (liveWith [(K.SIG_VALID, 1)]).setMgmt { live.mgmt with scanning := true }
     s.mgmt.scanning = true ∧ serving s = true ∧ s.mgmt.held = none ∧ s.num K.SIG_VALID ≠ 0 ∧ s.mgmt.mismatch = false) ∧
    (let s := (liveWith [(K.SIG_VALID, 1)]).setMgmt { live.mgmt with scanning := true, mismatch := true }
     s.mgmt.scanning = true ∧ serving s = true ∧ s.mgmt.held = none ∧ s.mgmt.mismatch = true) ∧
    (let s := liveWith [(K.UNLOCK_STATE, 1)]
     AcceptedKey s v K.SIG_COMMIT 1) ∧
    (let s := live.setMgmt { live.mgmt with scanning := true }
     s.mgmt.scanning = true ∧ s.num K.SIG_VALID = 0) := by 
  refine ⟨?_, ?_, ?_, ?_, ?_⟩ <;> decide +kernel

theorem witness_LinksAndAerErrors :
    live.flag K.READY 7 = true ∧ live.flag K.READY 8 = true ∧ domState live 5 ≠ 0 := by decide +kernel

theorem witness_VecTsetMarkIssue :
    (Due 0 3 ∧ vecClass 0 = true) ∧
    (Due 0x0A 31 ∧ 0x0A % 256 = 0x0A) ∧
    (Due 0x30D 3 ∧ 0x30D % 256 = 0x0D) ∧
    (let s := (burst 0xFFF00000A 3).setNum (atCh K.ROLE 0) 3
     bit (field 0xFFF00000A 27 16) (tileOf 0) = false ∧ roleOf s 0 = 3) ∧
    (let s := (burst 0x1010A 3).setNum (atCh K.ROLE 0) 3
     IssueDue s io 0x1010A (gran 0x1010A 3) ∧ bit (field 0x1010A 27 16) (tileOf 0) = true ∧ roleOf s 0 = 3) := by 
  refine ⟨?_, ?_, ?_, ?_, ?_⟩ <;> decide +kernel

theorem witness_EyeStepsTheRaster :
    (Due 0x0E 3 ∧ field 0x0E 9 8 = 0) ∧
    (let s := (burst 0x10E 3).setNums [(K.CAP_MODE, 3), (K.R_STATE, 1), (K.X_COUNT, 2), (K.Y_COUNT, 2)]
     IssueDue s io 0x10E (gran 0x10E 3) ∧ field 0x10E 9 8 = 1 ∧ s.num K.CAP_MODE = 3 ∧ s.num K.R_STATE = 1 ∧
     s.num K.R_POINT + 1 < s.num K.X_COUNT * s.num K.Y_COUNT) ∧
    (let s := (burst 0x10E 3).setNums [(K.CAP_MODE, 3), (K.R_STATE, 1), (K.R_POINT, 3), (K.X_COUNT, 2), (K.Y_COUNT, 2)]
     IssueDue s io 0x10E (gran 0x10E 3) ∧ s.num K.X_COUNT * s.num K.Y_COUNT ≤ s.num K.R_POINT + 1) ∧
    (Due 0x20E 3 ∧ field 0x20E 9 8 = 2 ∧ (burst 0x20E 3).num K.CAP_MODE ≠ 3) ∧
    (let s := (burst 0x20E 3).setNums [(K.CAP_MODE, 3), (K.R_STATE, 1)]
     IssueDue s io 0x20E (gran 0x20E 3) ∧ s.num K.R_STATE = 1) ∧
    (let s := (burst 0x0E 3).setNums [(K.CAP_MODE, 3)]
     IssueDue s io 0x0E (gran 0x0E 3) ∧ s.num K.CAP_MODE = 3) := by 
  refine ⟨?_, ?_, ?_, ?_, ?_, ?_⟩ <;> decide +kernel

theorem witness_RptAndHoldRepeat :
    (Due 0x100000001 3 ∧ (burst 0x100000001 3).seq.made ≠ field 0x100000001 63 32) ∧
    (Due 1 3 ∧ (burst 1 3).seq.made = field 1 63 32) ∧
    (Due 9 31 ∧ holdOver (burst 9 31) = false) ∧
    (running (waiting 1 3 .repeatDone) = true ∧ (waiting 1 3 .repeatDone).seq.wait = .repeatDone) ∧
    (let s := (burst 9 31).setSeq { (burst 9 31).seq with made := 9, jump := some ⟨0, false, 8⟩ }
     running s = true ∧ s.seq.wait = .none ∧ dueWord s = some 9 ∧ holdOver s = true ∧ landsAt s 8 = true) := by 
  refine ⟨?_, ?_, ?_, ?_, ?_⟩ <;> decide +kernel

theorem witness_LoopAndEndl :
    (Due 0x300000002 0) ∧
    (let s := (burst 3 31).setSeq { (burst 3 31).seq with loops := [⟨0, 0⟩] }
     IssueDue s io 3 (gran 3 31) ∧ s.seq.loops = [⟨0, 0⟩]) ∧
    (let s := (burst 3 31).setSeq { (burst 3 31).seq with loops := [⟨2, 0⟩] }
     IssueDue s io 3 (gran 3 31) ∧ s.seq.loops = [⟨2, 0⟩]) ∧
    (let s := (burst 2 0).setSeq { (burst 2 0).seq with back := true }
     IssueDue s io 2 (gran 2 0) ∧ s.seq.back = true) := by 
  refine ⟨?_, ?_, ?_, ?_⟩ <;> decide +kernel

theorem witness_CallRetJmp :
    (Due 0x10004 31) ∧
    (Due 0x10006 31) ∧
    (let s := (burst 5 31).setSeq { (burst 5 31).seq with calls := [some 1] }
     IssueDue s io 5 (gran 5 31) ∧ s.seq.calls = [some 1]) ∧
    (let s := (burst 0x10006 31).setSeq { (burst 0x10006 31).seq with jump := some ⟨0, false, 7⟩ }
     IssueDue s io 0x10006 (gran 0x10006 31) ∧ landsAt s 7 = true) := by 
  refine ⟨?_, ?_, ?_, ?_⟩ <;> decide +kernel

/-- A burst with every tile off, so that the condition lines stand. -/
def tileless (w : Nat) : State := (burst w 20).setNums ((List.range 12).map (fun t => (atTile K.TILE_STATE t, 0)))

theorem witness_JifAndMatch :
    (IssueDue (tileless 0x11107) io 0x11107 (gran 0x11107 20) ∧ testNow (tileless 0x11107) io 0x11107 = true) ∧
    (IssueDue (tileless 0x10107) io 0x10107 (gran 0x10107 20) ∧ testNow (tileless 0x10107) io 0x10107 = false) ∧
    (IssueDue (tileless 0x11108) io 0x11108 (gran 0x11108 20) ∧ testNow (tileless 0x11108) io 0x11108 = true) ∧
    (IssueDue (tileless 0x10108) io 0x10108 (gran 0x10108 20) ∧ testNow (tileless 0x10108) io 0x10108 = false ∧
     field 0x10108 63 32 = 0) ∧
    (IssueDue (tileless 0x500010108) io 0x500010108 (gran 0x500010108 20) ∧
     testNow (tileless 0x500010108) io 0x500010108 = false) ∧
    (let s := waiting 0x10108 20 .timedOut
     running s = true ∧ s.seq.wait = .timedOut ∧ dueWord s = some 0x10108) := by 
  refine ⟨?_, ?_, ?_, ?_, ?_, ?_⟩ <;> decide +kernel

theorem witness_SyncwAndSyncs :
    (Due 0x1000B 20 ∧ (burst 0x1000B 20).seq.markSeen = false ∧ (burst 0x1000B 20).seq.made = field 0x1000B 63 32) ∧
    (Due 0x50001000B 20) ∧
    (let s := (burst 0x1000B 20).setSeq { (burst 0x1000B 20).seq with markSeen := true }
     IssueDue s io 0x1000B (gran 0x1000B 20) ∧ s.seq.markSeen = true) ∧
    (Due 0x70C 3 ∧ (burst 0x70C 3).num K.RING_STATE ≠ 0 ∧ (burst 0x70C 3).ring.queue.length < 32) ∧
    (let s := waiting 0x1000B 20 .timedOut
     running s = true ∧ s.seq.wait = .timedOut ∧ dueWord s = some 0x1000B) ∧
    (Due 0x70C 3 ∧ (tileless 0x70C).ring.queue.length < 32) := by 
  refine ⟨?_, ?_, ?_, ?_, ?_, ?_⟩ <;> decide +kernel

theorem witness_BurstEnds :
    (Due 0x50F 3) ∧
    (running (waiting 0 31 .fallOff) = true ∧ (waiting 0 31 .fallOff).seq.last = some (gran 0 31)) ∧
    (let s := burst 0x20 3
     running s = true ∧ s.seq.wait = .none ∧ s.uc.routine = none ∧ deferDue s = false ∧ dueWord s = some 0x20 ∧
     vecClass 0x20 = true ∧ programCause s 0x20 = some 1) := by 
  refine ⟨?_, ?_, ?_⟩ <;> decide +kernel

theorem witness_UserOpcodesAndShadowGranules :
    (let u := (burst 0xE0 3).setNum K.UENTRY_MAP 1
     let s := u.setUc { u.uc with store := [(0x1800, 2 ^ 24)] }
     IssueDue s io 0xE0 (gran 0xE0 3) ∧ bit (microWord s 0x1800) 24 = true ∧ field (microWord s 0x1800) 111 108 ≠ 3 ∧
     field (microWord s 0x1800) 23 22 ≠ 2) ∧
    (let s := (burst 0xE0 3).setNum K.UENTRY_MAP 1
     IssueDue s io 0xE0 (gran 0xE0 3) ∧ bit (microWord s 0x1800) 24 = false ∧ field (microWord s 0x1800) 15 13 = 0) ∧
    (let s := (burst 0 31).setUc { (burst 0 31).uc with routine := some 0x1900 }
     running s = true ∧ s.seq.wait = .none ∧ deferDue s = false ∧ atLast s = true) ∧
    (let s := (burst 0 3).setUc { (burst 0 3).uc with routine := some 0x1900, store := [(0x1900, 2 ^ 24)] }
     atLast s = false ∧ dueGranule s = some (gran 0 3) ∧ field (microWord s 0x1900) 111 108 ≠ 3 ∧
     field (microWord s 0x1900) 23 22 ≠ 2 ∧ bit (microWord s 0x1900) 24 = true ∧ io.uc ≠ 2) ∧
    (let u := (burst 0xE0 3).setNum K.UENTRY_MAP 1
     let s := u.setUc { u.uc with store := [(0x1800, 2 ^ 24 + 2 ^ 22)] }
     IssueDue s io 0xE0 (gran 0xE0 3) ∧ microWord s 0x1800 = 2 ^ 24 + 2 ^ 22 ∧ field (2 ^ 24 + 2 ^ 22) 23 22 = 1 ∧
     field (2 ^ 24 + 2 ^ 22) 111 108 ≠ 3 ∧ bit (2 ^ 24 + 2 ^ 22) 24 = true) ∧
    (let u := burst 0 3
     let s := u.setUc { u.uc with dispatch := [(0, 0x1700)], store := [(0x1700, 2 ^ 24)] }
     GranuleIssues s io 0 (gran 0 3) ∧ (aFind s.uc.dispatch (0 % 256)).isSome = true ∧
     microWord s (dispatchEntry s (0 % 256)) = 2 ^ 24) ∧
    (let s := (burst 0 3).setUc { (burst 0 3).uc with routine := some 0x1900 }
     microWord s 0x1900 = 0 ∧ bit 0 24 = false ∧ field 0 15 13 = 0) := by 
  refine ⟨?_, ?_, ?_, ?_, ?_, ?_, ?_⟩ <;> decide +kernel

theorem witness_RunAndHaltRequests :
    (AcceptedKey live v K.SEQ_CMD 1) ∧
    (barOpen live = true ∧ barPermit live 0 = true ∧ bit 1 0 = true ∧ live.num K.SEQ_STATE = 1) ∧
    ((burst 0 3).num K.SEQ_STATE ≠ 1 ∧ (burst 0 3).num K.SEQ_STATE = 4 ∧ (burst 0 3).uc.trap = none ∧
     barPermit (burst 0 3) 0 = true) ∧
    (AcceptedKey (burst 0 3) v K.SEQ_CMD 2 ∧ barOpen (burst 0 3) = true) ∧
    (let s := liveWith [(K.SEQ_STATE, 3)]
     s.num K.SEQ_STATE = 3 ∧ barOpen s = true ∧ barPermit s 0 = true) ∧
    (let s := liveWith [(K.SEQ_STATE, 2)]
     AcceptedKey s v K.SEQ_CMD 2 ∧ s.num K.SEQ_STATE = 2) ∧
    (let s := (burst 0 3).setUc { live.uc with trap := some (trapOf [2]) }
     AcceptedKey s v K.SEQ_CMD 2 ∧ s.uc.trap.isSome = true) ∧
    (AcceptedKey live v K.SEQ_CMD 2 ∧ live.num K.SEQ_STATE < 2) ∧
    (let s := waiting 0 31 .fallOff
     AcceptedKey s v K.SEQ_CMD 2 ∧ s.num K.SEQ_STATE = 4 ∧ s.uc.trap = none ∧ s.seq.wait = .fallOff) := by 
  refine ⟨?_, ?_, ?_, ?_, ?_, ?_, ?_, ?_, ?_⟩ <;> decide +kernel

/-- A segment table of one segment of 32 granules. -/
def tableBytes : Bytes := leBytes 4 0 ++ leBytes 4 31 ++ leBytes 6 0 ++ leBytes 2 1

/-- The header of an image with one segment and 32 granules. -/
def headerBytes : Bytes :=
  let h := [0x59#8, 0x42#8, 0x50#8, 0x49#8] ++ leBytes 2 1 ++ leBytes 2 0 ++ leBytes 4 1 ++ leBytes 2 0 ++ leBytes 2 0 ++
    leBytes 4 32 ++ leBytes 4 0 ++ leBytes 8 0x1000 ++ leBytes 8 0x2000 ++ leBytes 8 0x3000 ++
    leBytes 8 0xF000 ++ leBytes 4 (crc32c tableBytes) ++ leBytes 4 0 ++ zeros 32 ++ zeros 156
  h ++ leBytes 4 (crc32c h)

/-- The sequencer is LOADING and the image stands in PATTERN. -/
def loading : State :=
  let s := liveWith [(K.SEQ_STATE, 2), (K.START_MODE, 0)]
  let cells (a : Nat) (d : Bytes) : List Host.Cell := (d.zipIdx.filter (fun p => p.1 != 0#8)).map (fun p => (a + p.2, p.1))
  let m := { s.mem with cells := cells 0 headerBytes ++ cells 0x1000 tableBytes, patMask := 1, patMib := 256 }
  s.setMem m

theorem witness_LoadingToRunning :
    (let s := liveWith [(K.SEQ_STATE, 2), (K.IMAGE_ADDR, 2048)]
     s.seq.loaded = false ∧ loadingHeld s = false ∧ s.num K.IMAGE_ADDR % 4096 ≠ 0) ∧
    (let s := loading
     let a := s.num K.IMAGE_ADDR
     let h := imageHeader s a
     let ta := a + fieldAt h 24 8
     let tn := fieldAt h 8 4 * 16
     s.num K.SEQ_STATE = 2 ∧ s.seq.loaded = false ∧ loadingHeld s = false ∧ a % 4096 = 0 ∧ inRegion s.mem 0 a 256 = true ∧
     runDomainsOk s = true ∧ badBlock s.mem a 256 = none ∧ headerOk h = true ∧ inRegion s.mem 0 a (fieldAt h 48 8) = true ∧
     tn ≠ 0 ∧ badBlock s.mem ta tn = none ∧ imageCheck s a h (memRead s.mem ta tn) = none) ∧
    (let s := (liveWith [(K.SEQ_STATE, 2), (K.START_MODE, 1)]).setSeq { live.seq with loaded := true }
     s.num K.SEQ_STATE = 2 ∧ s.seq.loaded = true ∧ s.num K.START_MODE = 1) ∧
    (let s := (liveWith [(K.SEQ_STATE, 2), (K.START_MODE, 0)]).setSeq { live.seq with loaded := true }
     s.num K.START_MODE ≠ 1 ∧ s.flag K.CAP_CTRL 1 = false) ∧
    (let s := (liveWith [(K.SEQ_STATE, 2), (K.START_MODE, 0), (K.CAP_CTRL, 2)]).setSeq { live.seq with loaded := true }
     s.num K.SEQ_STATE = 2 ∧ s.seq.loaded = true ∧ s.num K.START_MODE ≠ 1 ∧ s.flag K.CAP_CTRL 1 = true) ∧
    (let s := loading.setCis { loading.cis with summaryDue := true }
     s.num K.SEQ_STATE = 2 ∧ s.seq.loaded = false ∧ loadingHeld s = true) ∧
    (let s := loading.setNum K.IMAGE_ADDR 0x10000000
     s.num K.IMAGE_ADDR % 4096 = 0 ∧ inRegion s.mem 0 (s.num K.IMAGE_ADDR) 256 = false) ∧
    (let s := loading.setNum K.TICK_STATE 0
     loadingHeld s = false ∧ inRegion s.mem 0 (s.num K.IMAGE_ADDR) 256 = true ∧ runDomainsOk s = false) ∧
    (let s := loading.setNum K.IMAGE_ADDR 0x8000
     let h := imageHeader s 0x8000
     runDomainsOk s = true ∧ badBlock s.mem 0x8000 256 = none ∧ headerOk h = false) ∧
    (let s := loading.setMem { loading.mem with cells := loading.mem.cells.filter (fun c => c.1 != 0x1004) }
     let h := imageHeader s 0
     headerOk h = true ∧ inRegion s.mem 0 0 (fieldAt h 48 8) = true ∧
     badBlock s.mem (fieldAt h 24 8) (fieldAt h 8 4 * 16) = none ∧ fieldAt h 8 4 * 16 ≠ 0 ∧
     (imageCheck s 0 h (memRead s.mem (fieldAt h 24 8) (fieldAt h 8 4 * 16))).isSome = true) ∧
    (let s := loading.setMem { loading.mem with cisMib := 0, cisMask := 0 }
     cisShort s = true ∧ loadingHeld s = false) := by 
  refine ⟨?_, ?_, ?_, ?_, ?_, ?_, ?_, ?_, ?_, ?_, ?_⟩ <;> decide +kernel

theorem witness_DrainingAndDomainLoss :
    (let s := liveWith [(K.SEQ_STATE, 5)]
     s.num K.SEQ_STATE = 5 ∧ capsWaiting s = false) ∧
    ((burst 0 3).num K.SEQ_STATE = 4 ∧ domState (burst 0 3) 3 ≠ 0 ∧ (burst 0 3).flt.fenceNext = [] ∧
     (burst 0 3).flt.fenceWait = []) ∧
    ((liveWith [(K.SEQ_STATE, 3)]).num K.SEQ_STATE = 3 ∧ domState (liveWith [(K.SEQ_STATE, 3)]) 3 ≠ 0) ∧
    (let s := (liveWith [(K.SEQ_STATE, 5)]).setCis { live.cis with caps := [⟨5, 3, 0, 0, [(0, ⟨1, 2⟩)], 0, none⟩] }
     s.num K.SEQ_STATE = 5 ∧ capsWaiting s = true) ∧
    (loading.num K.SEQ_STATE ∈ [2, 3, 4] ∧ live.num K.SEQ_STATE ∉ [2, 3, 4]) := by 
  refine ⟨?_, ?_, ?_, ?_, ?_⟩ <;> decide +kernel

theorem witness_JumpRequests :
    (AcceptedKey (burst 0 3) v K.JUMP_REQ 0) ∧
    (barOpen (burst 0 3) = true ∧ barPermit (burst 0 3) 0 = true ∧ bit (2 ^ 31) 31 = true ∧
     bit (burst 0 3).seq.jtValid (2 ^ 31 % 16) = true) ∧
    (live.num K.SEQ_STATE ≠ 4 ∧ barPermit live 0 = true) ∧
    (let s := (burst 0 3).setSeq { (burst 0 3).seq with reserve := some ⟨1, false, []⟩ }
     fetching s = true ∧ s.seq.reserve = some ⟨1, false, []⟩) ∧
    (bit (burst 0 3).seq.jtValid ((2 ^ 31 + 5) % 16) = false ∧ bit (2 ^ 31 + 5) 31 = true) ∧
    (let s := (burst 0 3).setSeq { (burst 0 3).seq with jump := some ⟨0, true, 0⟩ }
     ringPrecedes s false = true ∧ AcceptedKey s v K.JUMP_REQ 0) ∧
    ((⟨1, false, []⟩ : Reserve).ready = false) := by 
  refine ⟨?_, ?_, ?_, ?_, ?_, ?_, ?_⟩ <;> decide +kernel

theorem witness_FetchingAndPriming :
    (fetching (burst 0 3) = true ∧ (burst 0 3).seq.front.stopped = false ∧ (burst 0 3).seq.stream.length < 2032) ∧
    (let s := (burst 0 3).setSeq { (burst 0 3).seq with primeQueue := [(0, 0)] }
     fetching s = true ∧ s.seq.primeQueue = (0, 0) :: [] ∧ s.seq.primed.length < 2) ∧
    (let p : PrimeSet := ⟨0, false, [⟨1, false, []⟩]⟩
     let s := (burst 0 3).setSeq { (burst 0 3).seq with primed := [p] }
     fetching s = true ∧ s.seq.primed.find? (fun p => p.owner == 0 && !p.supplying) = some p ∧
     p.targets[0]? = some ⟨1, false, []⟩) ∧
    (cachedAt (burst 0 3).seq = none ∧ (burst 0 3).seq.side.length + (burst 0 3).seq.stream.length < 2032) ∧
    (let s := (burst 0 3).setSeq { (burst 0 3).seq with heads := [⟨0, (List.range 32).map (gran 0)⟩], front := { (burst 0 3).seq.front with head := 28, headSeg := 0 } }
     fetching s = true ∧ cachedAt s.seq = some (gran 0 4, some 0)) ∧
    (let s := live.setSeq { live.seq with reload := true }
     s.seq.reload = true ∧ s.flag K.READY 4 = true ∧ s.num K.SEQ_STATE = 1) ∧
    (live.seq.reload = false) := by 
  refine ⟨?_, ?_, ?_, ?_, ?_, ?_, ?_⟩ <;> decide +kernel

theorem witness_DryWell :
    (let s := (burst 0 3).setSeq { (burst 0 3).seq with stream := [] }
     running s = true ∧ s.seq.wait = .none ∧ dryCode s = some 0x10 ∧ judgeDue s = none) ∧
    (let s := (burst 0 3).setSeq { (burst 0 3).seq with stream := [{ gran 0 3 with lost := 0x13 }] }
     running s = true ∧ dryCode s = some 0x13 ∧ judgeDue s = none) ∧
    (let s := (burst 0 31).setUc { (burst 0 31).uc with routine := some 0x1900 }
     s.uc.routine.isSome = true) := by 
  refine ⟨?_, ?_, ?_⟩ <;> decide +kernel

theorem witness_MicroTraps :
    (let s := ((burst 0 3).setNum K.TRAP_PENDING 4).setSeq { (burst 0 3).seq with last := some (gran 0 2) }
     trapReady s = true ∧ s.num K.TRAP_PENDING = 4 ∧ s.uc.haltAfter = none) ∧
    (let s := (burst 0 3).setUc { live.uc with trap := some (trapOf [2]) }
     let s := s.setSeq { s.seq with last := some (gran 0 2) }
     s.uc.trap = some (trapOf [2]) ∧ (trapOf [2]).gone = 2 ∧ (trapOf [2]).todo = [2] ∧ (trapOf [2]).ran = 0 ∧
     (trapOf [2]).restored = 0 ∧ (trapOf [2]).overran = false ∧ s.seq.last = some (gran 0 2) ∧ s.uc.haltAfter = none ∧
     s.flt.fenceNext = [] ∧ (∀ x ∈ [io, io], Io.uc x = 0)) ∧
    (let s := (burst 0 3).setUc { live.uc with trap := some (trapOf [2]), haltAfter := some 0x21 }
     s.uc.haltAfter = some 0x21) ∧
    (let x := { trapOf [3] with overran := true }
     let s := (burst 0 3).setUc { live.uc with trap := some x }
     s.uc.trap = some x ∧ x.overran = true ∧ s.uc.haltAfter = none) ∧
    (let s := (burst 0 3).setUc { live.uc with deferred := some 64 }
     running s = true ∧ deferDue s = true ∧ s.num K.TRAP_PENDING = 0) := by 
  refine ⟨?_, ?_, ?_, ?_, ?_⟩ <;> decide +kernel

theorem witness_TrapCommands :
    (AcceptedKey (burst 0 3) v K.TRAP_CMD 1 ∧ (burst 0 3).num K.SEQ_STATE = 4) ∧
    (AcceptedKey live v K.TRAP_CMD 1) ∧
    (let s := (burst 0 3).setNum K.UTRAP_VEC 0x1800
     AcceptedKey s v K.TRAP_CMD 2 ∧ s.flag K.TRAP_PENDING 3 = false) ∧
    (let s := (burst 0 3).setNums [(K.TRAP_PENDING, 8), (K.UTRAP_VEC, 0x1800)]
     AcceptedKey s v K.TRAP_CMD 2 ∧ s.flag K.TRAP_PENDING 3 = true) := by 
  refine ⟨?_, ?_, ?_, ?_⟩ <;> decide +kernel

/-- A customer image of one word of zeros at 0x1800. -/
def custImage : Bytes :=
  [0x55#8, 0x43#8, 0x49#8, 0x4D#8] ++ leBytes 2 1 ++ leBytes 2 1 ++ leBytes 2 0x1800 ++ leBytes 2 0 ++ leBytes 4 1 ++ leBytes 4 0 ++
    leBytes 4 (crc32c (zeros 32)) ++ zeros 232 ++ zeros 32

theorem witness_ControlStoreCommands :
    (domState live 3 ≠ 0 ∧ live.uc.bad = []) ∧
    (AcceptedKey live v K.UC_CMD 4) ∧
    (AcceptedKey live v K.UC_CMD 1) ∧
    (let s := (liveWith [(K.UC_ENFORCE, 0)]).setBlob K.CUST_IMAGE custImage
     s.uc.bad = [] ∧ AcceptedKey s v K.UC_CMD 2) ∧
    (let s := liveWith [(K.UNLOCK_STATE, 1), (K.UC_ENFORCE, 0)]
     AcceptedKey s v K.UC_ENFORCE 1 ∧ s.num K.UC_ENFORCE = 0 ∧ AcceptedKey s v K.UC_ENFORCE 0) ∧
    (let s := live.setTrust { live.trust with patchJob := some [] }
     s.trust.patchJob = some [] ∧ (patchCheck s []).1 ≠ 0) ∧
    (domState (liveWith [(K.DOM_STATE, 2)]) 3 = 0) := by 
  refine ⟨?_, ?_, ?_, ?_, ?_, ?_, ?_⟩ <;> decide +kernel

theorem witness_TickAndDeskew :
    (AcceptedKey live v K.TICK_MULT (live.num K.TICK_MULT)) ∧
    (AcceptedKey live v K.TICK_MULT (live.num K.TICK_MULT - 1)) ∧
    (let s := liveWith [(K.TICK_STATE, 1)]
     domState s 2 ≠ 0 ∧ s.num K.TICK_STATE < 2 ∧ s.tb.plls = []) ∧
    (let s := (liveWith [(K.TICK_STATE, 1)]).setTb { live.tb with plls := [3, 4] }
     s.num K.TICK_STATE < 2 ∧ s.tb.plls ≠ []) ∧
    (let s := (liveWith [(K.TICK_STATE, 1)]).setTb { live.tb with plls := [3], synth := true }
     domState s 2 ≠ 0 ∧ s.num K.TICK_STATE = 1 ∧ s.tb.synth = true ∧ 3 ∈ s.tb.plls) ∧
    (let s := (liveWith [(K.TICK_STATE, 1)]).setTb { live.tb with plls := [3, 11], synth := true }
     s.num K.TICK_STATE = 1 ∧ s.tb.synth = true ∧ 11 ∈ s.tb.plls) ∧
    (let s := liveWith [(K.TICK_STATE, 3)]
     s.num K.TICK_STATE = 3 ∧ seqQuiet s = true ∧ domState s 2 ≠ 0) ∧
    (live.num K.TICK_STATE = 2) ∧
    (AcceptedKey live v (atCh (K.DESKEW_DRV + 0) 0) (raw 32 (-1000)) ∧
     AcceptedKey live v (atCh (K.DESKEW_DRV + 2) 95) (raw 32 10)) ∧
    (let s := liveWith [(K.DOM_STATE, 2)]
     domState s 2 = 0 ∧ AcceptedKey s v K.TICK_MULT (s.num K.TICK_MULT - 1) ∧ s.num K.TICK_MULT ≠ s.num K.TICK_MULT - 1) ∧
    (let s := (liveWith [(K.TICK_STATE, 1)]).setTb { live.tb with plls := [3, 4], synth := true }
     (∃ w ∈ s.tb.plls, w ≠ 3 ∧ pllPowered s w = true) ∧ 3 ∈ s.tb.plls) ∧
    (let s := (liveWith [(K.TICK_STATE, 1)]).setTb { live.tb with plls := [3, 4] }
     (∃ w ∈ s.tb.plls, pllPowered s w = true)) := by 
  refine ⟨?_, ?_, ?_, ?_, ?_, ?_, ?_, ?_, ?_, ?_, ?_, ?_⟩ <;> decide +kernel

theorem witness_ComparatorBecomesValid :
    (let s := live.setChan 0 { chanInit with powered := true, validH := false }
     cmpPowered s 0 = true ∧ (s.chan 0).validH = false ∧ aboveBand s 0 K.THR_HI (3000000, 0) = true ∧
     belowBand s 0 K.THR_HI (-3000000, 0) = true ∧ aboveBand s 0 K.THR_LO (3000000, 0) = true ∧
     belowBand s 0 K.THR_LO (-3000000, 0) = true) ∧
    (let s := live.setChan 95 { chanInit with powered := true, validL := false }
     cmpPowered s 95 = true ∧ (s.chan 95).validL = false) ∧
    (let s := live.setNum (atTile K.TILE_STATE 11) 3
     cmpPowered s 95 = false) ∧
    (let s := (live.setNum (atCh K.HYST 0) 63).setChan 0 { chanInit with powered := true }
     let p : Pad := (codeVolt (s.num (atCh K.THR_HI 0)) / 16384, 0)
     aboveBand s 0 K.THR_HI p = false ∧ belowBand s 0 K.THR_HI p = false) := by 
  refine ⟨?_, ?_, ?_, ?_⟩ <;> decide +kernel

theorem witness_PinEvents :
    (let s := ((burst 0 3).setNum (atCh K.ROLE 0) 6).setChan 0 { chanInit with chk := 1, chkRun := 1000000 }
     s.num K.SEQ_STATE = 4 ∧ liveRole s 0 = 6 ∧ (s.chan 0).chk = 1 ∧ s.num (atCh K.LOCK_RUN 0) ≤ (s.chan 0).chkRun) ∧
    (let s := ((burst 0 3).setNum (atCh K.ROLE 0) 6).setChan 0 { chanInit with chk := 2, blkFails := 1000000 }
     liveRole s 0 = 6 ∧ (s.chan 0).chk = 2 ∧ s.num (atCh K.LOSS_ERRS 0) ≤ (s.chan 0).blkFails) ∧
    (let s := (liveWith [(atCh K.ATTN_EN 0, 3)]).setChan 0 { chanInit with powered := true, validH := true, validL := true }
     producesEdges s 0 = true ∧ s.flag (atCh K.ATTN_EN 0) 0 = true ∧ s.flag (atCh K.ATTN_EN 0) 3 = false) ∧
    (tileReady live (tileOf 95) = true ∧ tileReady live 11 = true) ∧
    (let s := (liveWith [(atCh K.ATTN_EN 0, 3), (atCh K.ATTN_SEEN 0, 1)]).setChan 0 { chanInit with powered := true, validH := true, validL := true }
     producesEdges s 0 = true ∧ outputEdges (s.chan 0) ((senseVs s 0 (3000000, 0)).chan 0) = [0, 2] ∧
     s.num (atCh K.ATTN_SEEN 0) ≠ 0) := by 
  refine ⟨?_, ?_, ?_, ?_, ?_⟩ <;> decide +kernel

theorem witness_ListenAndWake :
    (AcceptedKey live v (atTile K.TILE_CMD 0) 1 ∧ AcceptedKey live v (atTile K.TILE_CMD 11) 1) ∧
    (let s := liveWith [(atTile K.TILE_STATE 11, 3)]
     AcceptedKey s v (atTile K.TILE_CMD 11) 2 ∧ tileState s 11 = 3) ∧
    (AcceptedKey live v (atTile K.TILE_CMD 0) 2 ∧ tileState live 0 ≠ 3) ∧
    (let s := liveWith [(atTile K.TILE_CMD 0, 1), (atCh K.WAKE_EN 0, 1)]
     tileReady s 0 = true ∧ s.flag (atTile K.TILE_CMD 0) 0 = true) ∧
    (let s := (liveWith [(atTile K.TILE_STATE 11, 3)]).setSlow { live.slow with wake := [(88, 1, 0, 0)] }
     let s := s.setChan 88 { chanInit with powered := true, validH := true, validL := true }
     tileState s 11 = 3 ∧ wakes s (8 * 11 + 0) { s.chan 88 with cmpH := true } = true) ∧
    (let s := liveWith [(atTile K.TILE_STATE 11, 4)]
     tileState s 11 = 4) ∧
    (let s := (liveWith [(atTile K.TILE_STATE 11, 3)]).setSlow { live.slow with wake := [(88, 1, 0, 0)] }
     let s := s.setChan 88 { chanInit with powered := true, validH := true, validL := true }
     wakes s (8 * 11 + 0) ((padSet s (8 * 11 + 0) (3000000, 0)).chan (8 * 11 + 0)) = true ∧
     wakes s (8 * 11 + 0) ((padSet s (8 * 11 + 0) (-3000000, 0)).chan (8 * 11 + 0)) = false ∧
     (∀ p ∈ [((0 : Nat), ((3000000, 0) : Pad))], p.1 < 8) ∧ ([((0 : Nat), ((3000000, 0) : Pad))].map Prod.fst).Nodup) ∧
    (let s := liveWith [(atTile K.TILE_STATE 11, 4)]
     tickRuns s = true ∧ tickRuns (s.setNum K.TICK_STATE 1) = false ∧ (s.chan 88).powered = false) ∧
    (let s := (liveWith [(atTile K.TILE_STATE 11, 4)]).setChan 88 { chanInit with powered := true }
     (s.chan 88).powered = true) := by 
  refine ⟨?_, ?_, ?_, ?_, ?_, ?_, ?_, ?_, ?_⟩ <;> decide +kernel

theorem witness_SelfCheckAndConverter :
    (AcceptedKey live v (atCh K.SC_CMD 0) 1 ∧ AcceptedKey live v (atCh K.SC_CMD 95) 1) ∧
    (let s := (liveWith [(atCh K.SC_STATE 95, 1)]).setSlow { live.slow with saved := [(95, 2, 1)] }
     s.num (atCh K.SC_STATE 95) = 1 ∧ aFind s.slow.saved 95 = some (2, 1)) ∧
    (AcceptedKey live v (atTile K.CONV_CMD 11) 1) ∧
    (let s := live.setSlow { live.slow with conv := [(11, 3, 1)] }
     aFind s.slow.conv 11 = some (3, 1) ∧ [(5 : Int), 6].length = 2 ^ 1) ∧
    (let m : SelfTest := ⟨(20001, 0), false, List.replicate 12 0, List.replicate 5 true, List.replicate 5 false, List.replicate 5 (0, 0)⟩
     20000 < m.moved.1 ∧ m.above.length = 5 ∧ m.below.length = 5 ∧ m.trips.length = 5 ∧ m.dacs.length = 12) ∧
    (let m : SelfTest := ⟨(20000, 20000), false, List.replicate 12 0, List.replicate 5 true, List.replicate 5 false, List.replicate 5 (0, 0)⟩
     m.moved.1 ≤ 20000 ∧ m.moved.2 ≤ 20000 ∧ m.changed = false ∧ m.dacs.length = 12) := by 
  refine ⟨?_, ?_, ?_, ?_, ?_, ?_⟩ <;> decide +kernel

/-- An issue that failed on channel 0. -/
def cap : IssueCap := ⟨5, 3, 0, 0, [(0, ⟨1, 2⟩)], 0, some 2⟩

/-- `live` with 256 MiB of each region on stack 0. -/
def mapped : State :=
  let s := live.setMem { live.mem with patMask := 1, patMib := 256, cisMask := 1, cisMib := 256, scrMask := 1, scrMib := 256 }
  s.setCis { s.cis with next := 4096 }

theorem witness_RecordsAndSummary :
    (let s := (mapped.setNum K.CAP_LEVEL 2).setCis { mapped.cis with caps := [cap] }
     recordsFormed s = true ∧ s.cis.caps.find? (fun y => capFailed y && !capWaits s y) = some cap ∧ s.num K.CAP_LEVEL = 2 ∧
     recordPlace s (recordBytes cap 2 1).length = some (4096, []) ∧
     s.num K.CQ_LEVEL + (recordBytes cap 2 1).length ≤ 262144 ∧ s.num K.CAP_MODE = 1) ∧
    (let s := (mapped.setNum K.CAP_LEVEL 1).setCis { mapped.cis with caps := [cap], next := 0x10000000 }
     let s := s.setNum K.CAP_CTRL 1
     recordPlace s (recordBytes cap 1 1).length = some (4096, []) ∧ s.num K.CAP_LEVEL = 1) ∧
    (let it : CqItem := ⟨32, [(4096, zeros 31 ++ [1#8])], some (4096, 32)⟩
     let s := mapped.setCis { mapped.cis with queue := [it] }
     s.cis.queue = it :: [] ∧ s.mem.bad = [] ∧ cisMapped s 4096 32 = true) ∧
    (let s := (mapped.setNum K.CQ_LEVEL 262100).setCis { mapped.cis with caps := [cap] }
     recordsFormed s = true ∧ recordPlace s (recordBytes cap 2 1).length ≠ none ∧
     262144 < s.num K.CQ_LEVEL + (recordBytes cap 2 1).length) ∧
    (let s := mapped.setCis { mapped.cis with caps := [cap], next := 0x10000000 }
     recordPlace s (recordBytes cap 2 1).length = none ∧ recordsFormed s = true) ∧
    (recordsFormed (mapped.setNum K.CAP_MODE 0) = false) ∧
    (let s := (mapped.setNum K.SEQ_STATE 2).setCis { mapped.cis with summaryDue := true }
     s.num K.SEQ_STATE = 2 ∧ capsWaiting s = false) ∧
    (let s := mapped.setCis { mapped.cis with summaryDue := true }
     s.num K.SEQ_STATE = 1 ∧ s.cis.summaryDue = true ∧ s.cis.queue = [] ∧ capsWaiting s = false ∧
     stackMapped s (stackOf s.mem 1 0) = true ∧ 4096 ≤ regionSize s.mem 1) := by 
  refine ⟨?_, ?_, ?_, ?_, ?_, ?_, ?_, ?_⟩ <;> decide +kernel

theorem witness_TmuArmAndClear :
    (let s := liveWith [(atCh K.TMU_MODE 0, 1)]
     AcceptedKey s v (atCh K.TMU_CMD 0) 1) ∧
    (AcceptedKey live v (atCh K.TMU_CMD 95) 4) ∧
    (PassesGate live v (atCh K.TMU_CMD 0) 1 ∧ live.num (atCh K.TMU_MODE 0) = 0) ∧
    (let s := liveWith [(atCh K.TMU_MODE 0, 1), (atTile K.TILE_STATE 0, 3)]
     PassesGate s v (atCh K.TMU_CMD 0) 1 ∧ s.num (atCh K.TMU_MODE 0) ≠ 0 ∧ tileState s (tileOf 0) = 3) ∧
    (let s := liveWith [(atCh K.TMU_STATE 95, 3)]
     PassesGate s (.bar2 0) (atCh K.TMU_CMD 95) 4 ∧ tmuArmed s 95 = true) := by 
  refine ⟨?_, ?_, ?_, ?_, ?_⟩ <;> decide +kernel

/-- A measuring TMU of channel 0, whose comparators are valid, in a mode and with a start edge captured or not. -/
def measuring (mode : Nat) (start : Option Int) : State :=
  let s := liveWith [(atCh K.TMU_MODE 0, mode), (atCh K.TMU_STATE 0, if start.isSome then 3 else 2), (atCh K.TMU_COUNT 0, 2),
    (atCh K.TMU_TMO 0, 5), (atCh K.THR_LO 0, 0), (atCh K.START_SRC 0, 0), (atCh K.STOP_SRC 0, 0)]
  (s.setTmu 0 { tmuInit with start := start }).setChan 0
    { chanInit with powered := true, validH := true, validL := true, cmpL := true }

/-- Pads that take the differential voltage above the high threshold alone and below it. -/
def up : Pad := (3000000, 0)
def down : Pad := (0, 0)

theorem witness_TmuMeasures :
    (tmuJustDone (measuring 1 none) 0 = false ∧ AcceptedKey (measuring 1 none) v (atCh K.TMU_CMD 0) 2) ∧
    (let s := (measuring 1 none).setNum (atCh K.TMU_STATE 0) 4
     AcceptedKey s v (atCh K.TMU_CMD 0) 2 ∧ tmuJustDone s 0 = true) ∧
    (EdgeComes (measuring 1 none) 0 0 up ∧
     TmuSeesEdge (measuring 1 none) 0 (tmuStamp (measuring 1 none) 0 (now16 (measuring 1 none) + 0)) ∧
     srcMatch ((measuring 1 none).num (atCh K.START_SRC 0)) 0 = true ∧ ((measuring 1 none).tmu 0).start = none ∧
     (measuring 1 none).flag (atCh K.TMU_CTRL 0) 0 = false ∧ (measuring 1 none).num (atCh K.TMU_MODE 0) = 1) ∧
    (let s := (measuring 1 none).setNum (atCh K.START_SRC 0) 0x90
     EdgeComes s 0 0 up ∧ srcMatch (s.num (atCh K.START_SRC 0)) 0 = false ∧ srcMatch (s.num (atCh K.STOP_SRC 0)) 0 = true) ∧
    (let s := measuring 1 (some 100)
     EdgeComes s 0 0 up ∧ TmuSeesEdge s 0 100 ∧ (s.tmu 0).start = some 100 ∧ srcMatch (s.num (atCh K.STOP_SRC 0)) 0 = true ∧
     -16 < span 100 84 + 1 ∧ span 100 84 ≤ -16 ∧ (s.tmu 0).cond % 4 = 0) ∧
    (let s := (measuring 1 none).setNum (atCh K.TMU_CTRL 0) 1
     s.flag (atCh K.TMU_CTRL 0) 0 = true ∧ (s.tmu 0).stop = none) ∧
    (let s := (measuring 1 none).setTmu 0 { tmuInit with stop := some 5 }
     (s.tmu 0).stop = some 5 ∧ (s.tmu 0).start = none) ∧
    (let s := measuring 2 (some 100)
     TmuSeesEdge s 0 200 ∧ s.num (atCh K.TMU_MODE 0) = 2 ∧ ¬s.num (atCh K.TMU_COUNT 0) ≤ (s.tmu 0).count + 1) ∧
    (let s := (measuring 2 (some 100)).setTmu 0 { tmuInit with start := some 100, count := 1 }
     TmuSeesEdge s 0 200 ∧ s.num (atCh K.TMU_COUNT 0) ≤ (s.tmu 0).count + 1) ∧
    (let s := (measuring 3 (some 100)).setNum (atCh K.TMU_CTRL 0) 2
     TmuSeesEdge s 0 200 ∧ s.num (atCh K.TMU_MODE 0) = 3 ∧ s.flag (atCh K.TMU_CTRL 0) 1 = true ∧ (s.tmu 0).presc ≠ 7) ∧
    (let s := measuring 3 (some 100)
     s.flag (atCh K.TMU_CTRL 0) 1 = false ∧
     ((s.num (atCh K.GATE 0) * markerStep : Nat) : Int) ≤ span 100 (100 + (s.num (atCh K.GATE 0) * markerStep : Nat))) ∧
    (let s := measuring 4 (some 100)
     EdgeComes (s.setChan 0 { (s.chan 0) with cmpH := true }) 0 16 down ∧ 16 % 16 = s.num (atCh K.START_SRC 0) % 16 ∧
     16 / 16 ≠ s.num (atCh K.START_SRC 0) / 16) ∧
    (let s := measuring 5 none
     TmuSeesEdge s 0 100 ∧ s.num (atCh K.TMU_MODE 0) = 5 ∧ tmuAlive s 0 100 = true) ∧
    (let s := (measuring 5 none).setTmu 0 { tmuInit with deadTo := some 200 }
     TmuSeesEdge s 0 199 ∧ tmuAlive s 0 199 = false ∧ tmuAlive s 0 200 = true) ∧
    (let s := measuring 6 none
     TmuSeesEdge s 0 100 ∧ s.num (atCh K.TMU_MODE 0) = 6) ∧
    (tmuRuns ((measuring 1 none).setNum K.TICK_STATE 1) 0 = false ∧ tmuArmed live 0 = false ∧ tmuRearmAt live 0 = none ∧
     tmuRuns live 0 = true) ∧
    (let s := (measuring 1 none).setNum K.TB_NOW 0x40000
     tmuExpired s 0 = true ∧ s.num (atCh K.TMU_MODE 0) < 5) ∧
    (let s := (measuring 5 none).setNum K.TB_NOW 0x40000
     tmuExpired s 0 = true ∧ 5 ≤ s.num (atCh K.TMU_MODE 0) ∧ tmuExpired live 0 = false) ∧
    (let s := (liveWith [(atCh K.TMU_STATE 95, 4), (atCh K.TMU_CTRL 95, 4)]).setTmu 95 { tmuInit with rearm := some 7 }
     tmuRearmAt s 95 = some 7 ∧ tmuRuns s 95 = true) := by 
  refine ⟨?_, ?_, ?_, ?_, ?_, ?_, ?_, ?_, ?_, ?_, ?_, ?_, ?_, ?_, ?_, ?_, ?_, ?_, ?_⟩ <;> decide +kernel

theorem witness_TimeBaseEvents :
    (domState live 2 ≠ 0 ∧ live.num K.REF_SEL ≠ 1) ∧
    ((liveWith [(K.REF_SEL, 1)]).num K.REF_SEL = 1) ∧
    (live.flag K.TB_FLAGS 3 = true) ∧
    (tbHoldover live = false ∧ domState live 1 ≠ 0 ∧ live.tb.wasWarm = false) ∧
    (let s := liveWith [(K.WARM_SECONDS, 59)]
     inc32 (s.num K.WARM_SECONDS) = 60 ∧ domState s 1 ≠ 0) ∧
    (let s := liveWith [(K.TB_FLAGS, 3)]
     tbWarm s = true) ∧
    (domState (liveWith [(K.DOM_STATE, 2)]) 2 = 0 ∧ domState (liveWith [(K.DOM_STATE, 0)]) 1 = 0) ∧
    (live.flag K.TB_FLAGS 3 = true ∧ live.num K.REF_ACTIVE = 0) ∧
    ((liveWith [(K.REF_ACTIVE, 1)]).num K.REF_ACTIVE ≠ 0 ∧ (liveWith [(K.TB_FLAGS, 0)]).flag K.TB_FLAGS 3 = false) ∧
    (let s := liveWith [(K.TB_FLAGS, 0x10)]
     tbHoldover s = true ∧ s.num K.REFOUT_EN ≠ 0 ∧ domState s 2 ≠ 0) ∧
    ((liveWith [(K.REFOUT_EN, 0)]).num K.REFOUT_EN = 0 ∧ tbWarm (liveWith [(K.TB_FLAGS, 3)]) = true) ∧
    (live.tb.wasWarm = false ∧ (live.setTb { live.tb with wasWarm := true }).tb.wasWarm = true) := by 
  refine ⟨?_, ?_, ?_, ?_, ?_, ?_, ?_, ?_, ?_, ?_, ?_, ?_⟩ <;> decide +kernel

theorem witness_MemoryMapInForce :
    (let s := liveWith [(K.UNLOCK_STATE, 1)]
     AcceptedKey s v K.MAP_CMD 1) ∧
    (live.pwr.mapTried = false ∧ mapValuesOk live = true) ∧
    ((live.setPwr { live.pwr with mapTried := true }).pwr.mapTried = true) ∧
    (let s := liveWith [(K.STACK_STATE, 0)]
     s.pwr.mapTried = false ∧ mapValuesOk s = false) ∧
    (live.flag K.STACK_STATE 3 = true) ∧
    (let s := liveWith [(K.UNLOCK_STATE, 1), (K.SEQ_STATE, 2)]
     PassesGate s v K.MAP_CMD 1 ∧ mapIdle s = false) ∧
    (let s := liveWith [(K.UNLOCK_STATE, 1), (K.STACK_STATE, 0)]
     PassesGate s v K.MAP_CMD 1 ∧ mapIdle s = true ∧ mapValuesOk s = false) ∧
    ((liveWith [(K.STACK_STATE, 7)]).flag K.STACK_STATE 3 = false) := by 
  refine ⟨?_, ?_, ?_, ?_, ?_, ?_, ?_, ?_⟩ <;> decide +kernel

/-- Pump channel 0 in a state. -/
def pumping (st : Nat) : State := liveWith [(atPump K.CH_STATE 0, st)]

theorem witness_PumpCommandsTakeEffect_asked :
    PumpAsked (pumping 0) 0 1 3 (.chCmd v) ∧
    PumpAsked live 15 1 3 (.chCmd v) ∧
    PumpAsked (pumping 1) 0 0 3 (.pumpDb 0) ∧
    PumpAsked (pumping 2) 0 0 3 (.chCmd v) ∧
    PumpAsked (pumping 4) 0 0 3 (.chCmd v) ∧
    PumpAsked (pumping 1) 0 2 3 (.chCmd v) ∧
    PumpAsked (pumping 2) 0 2 3 (.pumpDb 0) ∧
    PumpAsked (pumping 3) 0 3 3 (.chCmd v) := by
  refine ⟨?_, ?_, ?_, ?_, ?_, ?_, ?_, ?_⟩ <;> (simp only [PumpAsked]; decide)

theorem witness_PumpCommandsTakeEffect :
    (let s := (pumping 1).setPch 0 { pumpInit with stopAsked := true }
     pumpState s 0 = 1 ∧ (s.pch 0).stopAsked = true ∧ (s.pch 0).desc = none) ∧
    (AcceptedKey live v (atPump K.CUR_DESC 15) 0x40) ∧
    (pumpState (pumping 1) 0 = 1 ∧ pumpState (pumping 1) 15 ≠ 1) ∧
    (∀ p < 16, pumpState live p ≠ 1) ∧
    (let s := (pumping 1).setMem { live.mem with patMask := 1, patMib := 256 }
     pumpState s 0 = 1 ∧ regionOf s.mem (pumpMemAddr 2 0x1020) = some (0, 0x1020) ∧
     regionOf s.mem (pumpMemAddr 1 (2 ^ 40)) = none) := by 
  refine ⟨?_, ?_, ?_, ?_, ?_⟩ <;> decide +kernel

/-- A descriptor between two endpoints: two elements of 16 bytes, packed, with flags. -/
def dsc (src dst flags crc : Nat) : Bytes :=
  leBytes 8 0 ++ leBytes 8 0x100 ++ leBytes 8 0x40 ++ leBytes 3 1 ++ leBytes 5 16 ++ leBytes 8 0 ++ leBytes 8 0 ++
    leBytes 4 16 ++ leBytes 1 src ++ leBytes 1 dst ++ leBytes 2 flags ++ leBytes 4 crc ++ leBytes 2 9 ++ leBytes 2 0

/-- Pump channel 0 executes a descriptor of which some elements have moved. -/
def executing (d : Bytes) (done : Nat) : State := (pumping 1).setPch 0 { pumpInit with desc := some d, done := done }

/-- A descriptor of one element of 8 KiB between two endpoints. -/
def bigDsc (src dst : Nat) : Bytes :=
  leBytes 8 0 ++ leBytes 8 0x10000 ++ leBytes 8 0 ++ zeros 24 ++ leBytes 4 8192 ++ leBytes 1 src ++ leBytes 1 dst ++ leBytes 2 1 ++
    zeros 8

/-- `executing` with a pattern region of 256 MiB in stack 0, in which a block may hold an error. -/
def withStack (d : Bytes) (bad : List Nat) : State :=
  let s := executing d 0
  s.setMem { s.mem with patMask := 1, patMib := 256, bad := bad }

theorem witness_PumpChainRuns :
    (hostUp (pumping 1) = true ∧ awaits (pumping 1) 0 false = true ∧ fetchCheck (pumping 1) 0 = none ∧
     fetchBytes (pumping 1) 0 (dsc 1 3 0 0) = dsc 1 3 0 0 ∧ dscOk (dsc 1 3 0 0) = true ∧ ((pumping 1).pch 0).resume = false ∧
     dscRing (dsc 1 3 0 0) = false ∧ (pumping 1).num (atPump K.HOPS 0) + 1 ≤ (pumping 1).num (atPump K.HOP_LIMIT 0) ∧
     dscOk (fetchBytes (pumping 1) 0 []) = false) ∧
    (let s := (pumping 1).setNums [(atPump K.HOPS 0, 0x10000000)]
     s.num (atPump K.HOP_LIMIT 0) < s.num (atPump K.HOPS 0) + 1 ∧ awaits s 0 false = true ∧ fetchCheck s 0 = none) ∧
    (let s := (pumping 1).setNum K.READY 0x3F
     awaits s 0 false = true ∧ fetchCheck s 0 = none ∧ (s.pch 0).ep = 1 ∧ hostUp s = false) ∧
    (let d := dsc 1 3 0 0
     let s := executing d 0
     nextElement s 0 = some (d, 0) ∧ hostUp s = true ∧ (s.pch 0).stopAsked = false ∧ dscSrcEp d = 1 ∧ dscDstEp d = 3 ∧
     elementCheck s d 0 0 0 = none) ∧
    (let d := dsc 3 1 0 0
     let s := executing d 1
     nextElement s 0 = some (d, 1) ∧ elementCheck s d 1 0 0 = none) ∧
    (let d := dsc 3 1 0 0
     let s := (executing d 1).setNum K.READY 0x3F
     nextElement s 0 = some (d, 1) ∧ elementCheck s d 1 0 0 = none ∧ hostUp s = false) ∧
    (let d := bigDsc 3 3
     let s := (executing d 0).setPch 0 { pumpInit with desc := some d, stopAsked := true }
     nextElement s 0 = some (d, 0) ∧ elementCheck s d 0 0 0 = none ∧ (s.pch 0).stopAsked = true ∧ 4096 * 1 < dscLen d) ∧
    (let d := dsc 2 3 0 0
     let s := withStack d []
     nextElement s 0 = some (d, 0) ∧ elementCheck s d 0 0 0 = none ∧ badBlock s.mem 0 (dscLen d) = none ∧
     badBlock (withStack d [0]).mem 0 (dscLen d) = some 0 ∧ elementCheck (withStack d [0]) d 0 0 0 = none) ∧
    (let d := dsc 3 2 0 0
     let s := withStack d []
     nextElement s 0 = some (d, 0) ∧ elementCheck s d 0 0 0 = none ∧ badBlock s.mem 0x100 (dscLen d) = none) ∧
    (let d := dsc 3 2 0 0
     let s := executing d 1
     nextElement s 0 = some (d, 1) ∧ (elementCheck s d 1 0 0).isSome = true) ∧
    (let d := leBytes 8 0x120102000000 ++ (dsc 5 3 0 0).drop 8
     let d := d.take 48 ++ leBytes 4 1 ++ d.drop 52
     let s := (executing d 0).setNum (atPump K.CH_CLASS 0) 3
     nextElement s 0 = some (d, 0) ∧ dscSrcEp d = 5 ∧ dscDstEp d = 3 ∧ serving s = true ∧
     elementCheck s d 0 (dictLimit (dscAddrs d 0).1) (dictLimit (dscAddrs d 0).2) = none ∧
     readCode s (askerCh s 0) false 0x1201 2 0 1 = 0 ∧ (dscAddrs d 0).1 / 2 ^ 32 % 65536 = 0x1201) ∧
    (let s := executing (dsc 1 3 0 0) 2
     (s.pch 0).desc = some (dsc 1 3 0 0) ∧ pumpState s 0 = 1 ∧ (s.pch 0).refetch = false ∧
     dscTotal (dsc 1 3 0 0) ≤ (s.pch 0).done ∧ dscEnd (dsc 1 3 0 0) = false ∧ dscEnd (dsc 1 3 1 0) = true ∧
     dscFlag (dsc 1 3 16 7) 4 = true ∧ (s.pch 0).crc ^^^ 0xFFFFFFFF ≠ dscCrc (dsc 1 3 16 7)) ∧
    (let s := (pumping 1).setPch 0 { pumpInit with desc := some (dsc 1 3 1 0), refetch := true }
     awaits s 0 true = true ∧ fetchCheck s 0 = none ∧ hostUp s = true ∧ hostUp (s.setNum K.READY 0x3F) = false ∧
     (s.pch 0).ep = 1 ∧ awaits (s.setNum K.READY 0x3F) 0 true = true ∧ fetchCheck (s.setNum K.READY 0x3F) 0 = none ∧
     dscEnd (fetchBytes s 0 []) = false ∧ dscEnd (fetchBytes s 0 (dsc 1 3 1 0)) = true) := by 
  refine ⟨?_, ?_, ?_, ?_, ?_, ?_, ?_, ?_, ?_, ?_, ?_, ?_, ?_⟩ <;> decide +kernel

theorem witness_SelfCalibration :
    (let s := liveWith [(K.CAL_MASK_LO, 1), (K.CAL_MASK_HI, 2 ^ 31)]
     AcceptedKey s v K.CAL_CMD 1 ∧ (List.range 96).filter (fun c => calSelected s c && calRuns s c) ≠ []) ∧
    (let s := liveWith [(K.CAL_MASK_LO, 0), (K.CAL_MASK_HI, 0)]
     AcceptedKey s v K.CAL_CMD 1 ∧ (List.range 96).filter (fun c => calSelected s c && calRuns s c) = []) ∧
    (AcceptedKey live v K.CAL_CMD 2 ∧ live.num K.CAL_STATE ≠ 1) ∧
    (let s := liveWith [(K.CAL_STATE, 1), (atCh K.CAL_STATUS 0, 1)]
     AcceptedKey s v K.CAL_CMD 2 ∧ s.num K.CAL_STATE = 1 ∧ calibrating s 0 = true ∧ tileReady s (tileOf 0) = true) ∧
    (let s := liveWith [(K.CAL_STATE, 1), (atCh K.CAL_STATUS 95, 1)]
     calibrating s 95 = true ∧ dacOk (zeros 48) = true ∧ within 15000 (i16s (zeros 10) 5) = true ∧
     within 25000 [(drifts s 95 7 8).1, (drifts s 95 7 8).2] = true) ∧
    (dacOk (List.replicate 48 0x7F#8) = false) ∧
    (let s := live.setCal { live.cal with pending := [(0, ⟨1, 2, 3, 4, 5, 6, zeros 48, zeros 10⟩)], pendPi := [(11, zeros 64)] }
     (s.cal.pending.map Prod.fst).Nodup ∧ (∀ p ∈ s.cal.pending, p.1 < 96) ∧ (∀ p ∈ s.cal.pendPi, p.1 < 12) ∧
     seqQuiet s = true) ∧
    (seqQuiet (liveWith [(K.SEQ_STATE, 2)]) = false ∧ (liveWith [(K.SEQ_STATE, 2)]).seq.loaded = false) ∧
    (seqQuiet (burst 0 3) = false ∧ (burst 0 3).num K.SEQ_STATE ≠ 2) ∧
    (let s := liveWith [(K.UNLOCK_STATE, 1), (atCh K.CAL_STATUS 0, 2)]
     AcceptedKey s v (atCh (K.DRV_BASE + 0) 0) (raw 32 (-5)) ∧ AcceptedKey s v (atCh (K.DRV_BASE + 2) 0) 5) ∧
    (AcceptedKey (liveWith [(K.UNLOCK_STATE, 1)]) v (K.VREF_T0 + 11) (raw 32 1200001)) ∧
    (calibrating live 0 = false) ∧
    (within 32 (i16s (List.replicate 64 0x7F#8) 32) = false ∧ within 32 (i16s (zeros 64) 32) = true) := by 
  refine ⟨?_, ?_, ?_, ?_, ?_, ?_, ?_, ?_, ?_, ?_, ?_, ?_, ?_⟩ <;> decide +kernel

/-- A record is active and the hold-up store is charged. -/
def storing : State :=
  let s := liveWith [(K.UNLOCK_STATE, 1), (K.HOLD_V, 12000), (K.HOLD_C, 1000000), (K.ACTIVE_BANK, 1)]
  s.setCal { s.cal with record := zeros 8 }

theorem witness_RecordsAndHoldup :
    (AcceptedKey storing v K.STORE_CMD 1) ∧
    (AcceptedKey storing v K.STORE_CMD 2) ∧
    (AcceptedKey storing v K.STORE_CMD 4) ∧
    (let s := (storing.setCal { storing.cal with job := some (zeros 16) }).setPwr { storing.pwr with holding := true }
     s.cal.job = some (zeros 16) ∧ s.pwr.holding = true) ∧
    (6000 < storing.num K.HOLD_V ∧ storing.flag K.CAL_FLAGS 6 = false) ∧
    (live.cal.job = none ∧ storing.pwr.holding = false) ∧
    (live.num K.HOLD_V ≤ 6000 ∨ live.flag K.CAL_FLAGS 6 = true) ∧
    ((liveWith [(K.HOLD_V, 6000)]).num K.HOLD_V ≤ 6000) ∧
    ((liveWith [(K.CAL_FLAGS, 64)]).flag K.CAL_FLAGS 6 = true) := by 
  refine ⟨?_, ?_, ?_, ?_, ?_, ?_, ?_, ?_, ?_⟩ <;> decide +kernel

/-- One source has arrived at the collector, injected or not, with a severity. -/
def arrives (s : State) (n sev : Nat) (inj : Bool) : State :=
  (s.setNum (K.REACT_s + n) sev).setFlt { s.flt with arrived := [(n, inj)] }

theorem witness_FaultsAndFences :
    (let s := arrives live 127 0 false
     s.flt.arrived = [(127, false)] ∧ (s.blob K.SEV_MAP).length = 128 ∧ reactOf s 127 = 0 ∧ s.ring.queue.length < 32) ∧
    (let s := arrives live 0 4 true
     s.flt.arrived = [(0, true)] ∧ reactOf s 0 = 4 ∧ s.num K.INJ_REACT ≠ 1) ∧
    (let s := arrives (burst 0 3) 0x78 1 false
     reactOf s 0x78 = 1 ∧ s.num K.SEQ_STATE = 4) ∧
    (let s := arrives (burst 0 3) 0x61 3 false
     reactOf s 0x61 = 3 ∧ s.num K.SEQ_STATE = 4) ∧
    (let s := arrives live 0x61 3 false
     reactOf s 0x61 = 3 ∧ s.num K.SEQ_STATE ≠ 4) ∧
    (let s := arrives (burst 0 3) 0x78 2 false
     reactOf s 0x78 = 2 ∧ s.num K.SEQ_STATE = 4 ∧ s.uc.trap = none) ∧
    (AcceptedKey live v K.STICKY_LO 3 ∧ AcceptedKey live v K.STICKY_HI (2 ^ 63)) ∧
    (AcceptedKey (liveWith [(K.UNLOCK_STATE, 1)]) v (K.REACT_s + 0) 3) ∧
    (let s := liveWith [(K.UNLOCK_STATE, 1), (K.INJ_SRC, 5)]
     AcceptedKey s v K.INJ_CMD 1) ∧
    (let s := liveWith [(K.UNLOCK_STATE, 1), (K.FENCE_UNIT, 5)]
     AcceptedKey s v K.FENCE_CMD 1 ∧ unitFenced s 5 = false ∧ AcceptedKey s v K.FENCE_CMD 2 ∧ s.num K.SEQ_STATE ≠ 4) ∧
    (let s := liveWith [(K.UNLOCK_STATE, 1), (K.FENCE_UNIT, 5), (K.FENCE_CH_LO, 32)]
     AcceptedKey s v K.FENCE_CMD 1 ∧ unitFenced s 5 = true ∧ AcceptedKey s v K.FENCE_CMD 2) ∧
    (let s := (burst 0 3).setNums [(K.UNLOCK_STATE, 1), (K.FENCE_UNIT, 0x6F)]
     AcceptedKey s v K.FENCE_CMD 1 ∧ unitFenced s 0x6F = false ∧ s.num K.SEQ_STATE = 4) ∧
    (live.pwr.locked = false ∧ live.flag K.READY 0 = true ∧ live.flt.refreshed = false ∧ live.num K.SAFE ≠ 1) ∧
    ((liveWith [(K.ALIVE_STATE, 1)]).num K.ALIVE_STATE ≠ 0) ∧
    (let s := arrives live 0x7C 1 false
     reactOf s 0x7C = 1 ∧ s.num K.SEQ_STATE ≠ 4) ∧
    (let s := arrives (burst 0 3) 0x7C 1 false
     s.num K.SEQ_STATE = 4 ∧ reactOf s 0x7C = 1) ∧
    (let s := arrives live 0x61 4 false
     reactOf s 0x61 = 4) ∧
    (anySticky live = false ∧ anySticky (liveWith [(K.STICKY_LO, 1)]) = true ∧
     (liveWith [(K.INJ_REACT, 1)]).num K.INJ_REACT = 1) ∧
    (live.flt.arrived = [] ∧ (live.setPwr { live.pwr with locked := true }).pwr.locked = true ∧ live.num K.ALIVE_STATE = 0) := by 
  refine ⟨?_, ?_, ?_, ?_, ?_, ?_, ?_, ?_, ?_, ?_, ?_, ?_, ?_, ?_, ?_, ?_, ?_, ?_, ?_⟩ <;> decide +kernel

/-- A sound message of a type from position 7, in group 0. -/
def msg (ty hops a16 a acc : Nat) : Bytes := ringMsg ty 0 7 hops a16 a 0 acc

theorem witness_RingMessages :
    (RingArrives live 1 (msg 1 3 0 100 0) ∧ inGroup live (msgGroup (msg 1 3 0 100 0)) = true ∧ live.num K.SEQ_STATE ≠ 3) ∧
    (inGroup (liveWith [(K.SIG_GROUP, 1)]) (msgGroup (msg 1 3 0 100 0)) = false ∧
     RingArrives (liveWith [(K.SIG_GROUP, 1)]) 1 (msg 1 3 0 100 0)) ∧
    (let s := liveWith [(K.SEQ_STATE, 3)]
     RingArrives s 1 (msg 1 3 0 100 0) ∧ s.num K.SEQ_STATE = 3) ∧
    (RingArrives (burst 0 3) 2 (msg 2 3 0 0 0) ∧ inGroup (burst 0 3) (msgGroup (msg 2 3 0 0 0)) = true ∧
     (burst 0 3).uc.trap = none) ∧
    (RingArrives live 3 (msg 3 3 0 100 0) ∧ fleetNow live ≤ msgA (msg 3 3 0 100 0)) ∧
    (let s := (burst 0 3).setNums [(K.TB_NOW, 200), (K.RING_JUMP_EN, 1)]
     RingArrives s 3 (msg 3 3 0 100 0) ∧ msgA (msg 3 3 0 100 0) < fleetNow s ∧
     bit s.seq.jtValid (msgArg16 (msg 3 3 0 100 0) % 16) = true) ∧
    (let s := burst 0x1000B 20
     RingArrives s 4 (msg 4 3 0 0 0) ∧ dueWord s = some 0x1000B ∧ s.num K.SEQ_STATE = 4 ∧
     field 0x1000B 15 8 = msgArg16 (msg 4 3 0 0 0) % 256 ∧ s.seq.wait = .none) ∧
    (let s := liveWith [(K.SIG_VALID, 1)]
     let m := msg 6 3 2 5 0
     RingArrives s 6 m ∧ msgA m % 2 ^ 32 ≠ s.num K.SIG_REF ∧ msgGroup m % 64 = s.num K.SIG_GROUP ∧ bit (msgArg16 m) 1 = true) ∧
    (RingArrives live 6 (msg 6 3 0 0 0)) ∧
    (ringLive live = true ∧ msgOk (zeros 32) = false) ∧
    (let s := liveWith [(K.SEQ_STATE, 3), (K.SCHED, 5)]
     s.num K.SEQ_STATE = 3 ∧ s.num K.SCHED ≠ 2 ^ 64 - 1 ∧ s.ring.startLate = false) ∧
    (let s := (liveWith [(K.SEQ_STATE, 3), (K.SCHED, 5)]).setRing { live.ring with startLate := true }
     s.ring.startLate = true ∧ s.num K.SEQ_STATE = 3 ∧ s.num K.SCHED ≠ 2 ^ 64 - 1) ∧
    (let s := ((burst 0 3).setNum K.RING_JUMP_EN 1).setRing { live.ring with jump := some (0, 9) }
     s.ring.jump = some (0, 9) ∧ bit s.seq.jtValid 0 = true ∧ s.num K.RING_JUMP_EN ≠ 0 ∧ s.num K.SEQ_STATE = 4) ∧
    (let s := live.setRing { live.ring with peers := [(1023, ⟨0, 0, 0, 0, 1, 0⟩)] }
     aFind s.ring.peers 1023 = some ⟨0, 0, 0, 0, 1, 0⟩) ∧
    (let s := liveWith [(K.SIG_GROUP, 1)]
     RingArrives s 2 (msg 2 3 0 0 0) ∧ RingArrives s 3 (msg 3 3 0 0 0) ∧ RingArrives s 4 (msg 4 3 0 0 0) ∧
     inGroup s (msgGroup (msg 2 3 0 0 0)) = false) ∧
    (let s := (burst 0 3).setNums [(K.TB_NOW, 200), (K.RING_JUMP_EN, 0)]
     msgA (msg 3 3 0 100 0) < fleetNow s ∧ RingArrives s 3 (msg 3 3 0 100 0) ∧ ¬JumpMayLatch s 0) ∧
    (JumpMayLatch ((burst 0 3).setNum K.RING_JUMP_EN 1) 0) ∧
    (let m := ringMsg 4 0 0 3 0 0 0 0
     msgOk m = true ∧ msgOwn (liveWith [(K.RING_POS, 0)]) m = true) ∧
    (let s := (burst 0x1000B 20).setSeq { (burst 0x1000B 20).seq with off := 20 }
     field 0x1000B 15 8 ≠ msgArg16 (msg 4 3 5 0 0) % 256 ∧ dueWord s = some 0x1000B) ∧
    (let s := liveWith [(K.SIG_VALID, 1), (K.SIG_REF, 5)]
     let m := msg 6 3 2 5 0
     RingArrives s 6 m ∧ msgA m % 2 ^ 32 = s.num K.SIG_REF ∧ bit (msgArg16 m) 1 = true) ∧
    (live.num K.SEQ_STATE ≠ 3 ∧ live.ring.jump = none ∧ aFind live.ring.peers 5 = none ∧
     ringLive (liveWith [(K.RING_STATE, 0)]) = false) := by 
  refine ⟨?_, ?_, ?_, ?_, ?_, ?_, ?_, ?_, ?_, ?_, ?_, ?_, ?_, ?_, ?_, ?_, ?_, ?_, ?_, ?_, ?_⟩ <;> decide +kernel

/-- The ring is calibrated. -/
def ringUp : State := liveWith [(K.RING_STATE, 4), (K.START_LEAD, 2000000)]

theorem witness_RingStatesAndFleetTime :
    ((liveWith [(K.RING_STATE, 1)]).num K.RING_STATE = 1) ∧
    (2 ≤ live.num K.RING_STATE ∧ live.ring.calBusy = false) ∧
    (let s := liveWith [(K.RING_ROLE, 1)]
     ringLive s = true ∧ ringMaster s = false) ∧
    ((live.setRing { live.ring with calBusy := true }).ring.calBusy = true) ∧
    (ringMaster live = true ∧ ringLive live = true ∧ live.ring.queue.length < 32) ∧
    (let s := ((burst 0 3).setNum K.RING_TRAP_EN 1).setRing { live.ring with events := [7] }
     earliest s.ring.events = some 7 ∧ s.num K.RING_TRAP_EN = 1 ∧ s.num K.SEQ_STATE = 4) ∧
    (let s := live.setRing { live.ring with events := [7] }
     earliest s.ring.events = some 7 ∧ s.num K.RING_TRAP_EN ≠ 1) ∧
    (3 ≤ ringUp.num K.RING_STATE ∧ ringUp.ring.calBusy = false) ∧
    (let s := live.setRing { live.ring with queue := [msg 4 0 0 0 0] }
     s.ring.queue = msg 4 0 0 0 0 :: [] ∧ ringSends s = true ∧ ringSends (s.setNum K.RING_STATE 1) = true ∧
     ringSends (s.setNums [(K.RING_STATE, 1), (K.RING_ROLE, 1)]) = false) ∧
    (let s := liveWith [(K.RING_ROLE, 1), (K.RING_POS, 0xFFFF)]
     let m := msg 5 3 9 0x40 0
     ringMaster s = false ∧ ringLive s = true ∧ msgOk m = true ∧ msgType m = 5 ∧ msgOwn s m = false ∧ msgHops m ≠ 1023 ∧
     s.flag K.RING_CTRL 2 = false ∧ s.num K.RING_STATE = 2) ∧
    (let m := msg 5 3 9 0x40 0
     msgOk m = true ∧ msgType m = 5 ∧ ringMaster live = true ∧ live.ring.check = false ∧ live.num K.RING_STATE = 2 ∧
     (liveWith [(K.RING_CTRL, 0)]).flag K.RING_CTRL 0 = false) ∧
    (let s := live.setRing { live.ring with check := true }
     let m := msg 5 3 9 0 1000
     s.ring.check = true ∧ s.num K.RING_STATE = 2 ∧ (s.setNum K.RING_STATE 3).num K.RING_STATE ≠ 2 ∧
     loopPs m 3584 ≤ msgAcc m + 10 + 3 * (msgHops m + 1) ∧ msgAcc m ≤ loopPs m 3584 + 10 + 3 * (msgHops m + 1) ∧
     msgAcc m + 10 + 3 * (msgHops m + 1) < loopPs m 35840) ∧
    (AcceptedKey ringUp v K.RING_CMD 1 ∧ inGroup ringUp (ringUp.num K.CMD_GROUP % 128) = true) ∧
    (AcceptedKey (ringUp.setNum K.SEQ_STATE 3) v K.RING_CMD 1) ∧
    (AcceptedKey (ringUp.setNum K.CMD_GROUP 1) v K.RING_CMD 1 ∧ inGroup (ringUp.setNum K.CMD_GROUP 1) 1 = false) ∧
    (AcceptedKey ringUp v K.RING_CMD 2) ∧
    (let s := (burst 0 3).setNum K.RING_STATE 4
     AcceptedKey s v K.RING_CMD 2 ∧ s.num K.SEQ_STATE = 4 ∧ s.uc.trap = none) ∧
    (AcceptedKey ringUp v K.RING_CMD 4 ∧ fleetNow ringUp ≤ schedTime ringUp) ∧
    (AcceptedKey ringUp v K.RING_CMD 8) ∧
    (AcceptedKey live v K.SIG_GROUP 5) ∧
    (AcceptedKey live v K.RING_ROLE 2 ∧ live.num K.RING_ROLE = 2) ∧
    (AcceptedKey live v K.RING_ROLE 0) ∧
    (live.num K.RING_STATE ≠ 1 ∧ (liveWith [(K.RING_STATE, 1)]).num K.RING_STATE < 2 ∧
     ringLive (liveWith [(K.RING_STATE, 1)]) = false ∧ live.ring.calBusy = false ∧
     ringMaster (liveWith [(K.RING_ROLE, 1)]) = false ∧ live.ring.events = [] ∧ live.ring.queue = []) ∧
    (let s := liveWith [(K.RING_ROLE, 1), (K.RING_STATE, 4), (K.RING_POS, 4), (K.RING_CTRL, 4)]
     let m := ringMsg 5 0x80 7 3 9 0x40 0x80 0
     ringMaster s = false ∧ msgOwn s m = false ∧ s.flag K.RING_CTRL 2 = true ∧ s.num K.RING_STATE = 4 ∧
     s.ring.stepped = false ∧ tmusQuiet s = true ∧ s.num K.RING_POS = msgHops m + 1) ∧
    (let s := liveWith [(K.RING_ROLE, 1), (K.RING_STATE, 3), (K.RING_POS, 9)]
     s.num K.RING_STATE ≠ 2 ∧ s.num K.RING_POS ≠ msgHops (msg 5 3 9 0x40 0) + 1) ∧
    (let m := msg 5 3 9 0 1000
     msgAcc m + 10 + 3 * (msgHops m + 1) < loopPs m 0x100000) ∧
    (live.flag K.RING_CTRL 0 = true ∧ (liveWith [(K.RING_STATE, 3)]).num K.RING_STATE ≠ 2) ∧
    (AcceptedKey (ringUp.setNum K.CMD_GROUP 1) v K.RING_CMD 2 ∧ AcceptedKey (ringUp.setNum K.CMD_GROUP 1) v K.RING_CMD 4) := by 
  refine ⟨?_, ?_, ?_, ?_, ?_, ?_, ?_, ?_, ?_, ?_, ?_, ?_, ?_, ?_, ?_, ?_, ?_, ?_, ?_, ?_, ?_, ?_, ?_, ?_, ?_, ?_, ?_, ?_⟩ <;> decide +kernel

theorem witness_PowerAndResets :
    (let s := liveWith [(K.DOM_EN, 0xFFFFFF)]
     AcceptedKey s v K.DOM_EN 0x7FFFFF ∧ s.flag K.DOM_EN 23 = true ∧ bit 0x7FFFFF 23 = false) ∧
    (let s := liveWith [(K.READY, 0)]
     s.pwr.recovery = false ∧ s.pwr.locked = false ∧ s.flag K.READY 0 = false) ∧
    (let s := liveWith [(K.READY, 1)]
     domState s 3 ≠ 0 ∧ s.flag K.READY 3 = false ∧ s.uc.bad = [] ∧ firstReady s 3 = true) ∧
    (let s := (liveWith [(K.READY, 1)]).setBlob K.READY_TIMES (zeros 120)
     s.flag K.READY 0 = true ∧ domState s 3 ≠ 0 ∧ s.flag K.READY 3 = false ∧ firstReady s 3 = false) ∧
    (let s := liveWith [(atTile K.TILE_STATE 11, 1)]
     s.flag K.READY 0 = true ∧ tileMayReady s 11 = true) ∧
    (live.flag K.SUPPLY_OK 1 = true ∧ live.flag K.SUPPLY_OK 6 = true ∧ live.pwr.holding = false) ∧
    (live.cal.job = none) ∧
    (let s := (liveWith [(K.HOLD_V, 5001)]).setCal { live.cal with job := some [] }
     s.cal.job.isSome = true ∧ 5000 < s.num K.HOLD_V ∧ s.pwr.holding = false) ∧
    (live.num K.SAFE = 0 ∧ live.int32 K.T_WARN ≤ 110000 ∧ 0 ∉ live.pwr.warned) ∧
    (AcceptedKey (liveWith [(K.UNLOCK_STATE, 1)]) v K.RESET_CMD 1) ∧
    (live.flag K.READY 0 = true ∧ live.pwr.perst = false ∧ live.flag K.READY 5 = true ∧ domState live 6 ≠ 0 ∧
     live.num K.E0_MODE ≠ 0 ∧ live.num K.E1_MODE ≠ 0 ∧ 2 ≤ live.num K.RING_STATE ∧ tbWarm live = true ∧
     live.num K.TICK_STATE = 2 ∧ domState live 11 ≠ 0 ∧ live.flag K.FENCE_STACK 3 = false) ∧
    ((liveWith [(K.CAL_FLAGS, 64)]).flag K.CAL_FLAGS 6 = true) ∧
    (let s := liveWith [(K.READY, 2 ^ 10 + 1)]
     s.flag K.READY 10 = true ∧ s.flag K.READY 11 = false) ∧
    (let x : Sensors := ⟨200000, List.replicate 12 0, List.replicate 4 0, 0, List.replicate 12 0⟩
     (sensorList live x).any (fun p => decide (shutdownAt p.1 ≤ p.2)) = true ∧ live.int32 K.T_WARN ≤ x.hub ∧
     live.pwr.thermal = false) ∧
    (let x : Sensors := ⟨0, List.replicate 12 0, List.replicate 4 0, 0, List.replicate 12 0⟩
     (sensorList live x).any (fun p => decide (shutdownAt p.1 ≤ p.2)) = false) ∧
    (live.cal.pending = [] ∧ live.pwr.stopped = false) := by 
  refine ⟨?_, ?_, ?_, ?_, ?_, ?_, ?_, ?_, ?_, ?_, ?_, ?_, ?_, ?_, ?_, ?_⟩ <;> decide +kernel

theorem witness_TrustCommands :
    (AcceptedKey (liveWith [(K.UNLOCK_STATE, 1)]) v K.FW_CMD 1) ∧
    (let s := liveWith [(K.UNLOCK_STATE, 1), (K.HOLD_V, 12000), (K.HOLD_C, 1000000), (K.FW_VERSION, 3)]
     AcceptedKey s v K.ROLLBACK_CMD 1 ∧ (advCheck s false).2 = true) ∧
    (let s := liveWith [(K.UNLOCK_STATE, 1)]
     AcceptedKey s v K.ROLLBACK_CMD 1 ∧ s.num K.FW_VERSION = s.num K.FW_FLOOR) ∧
    (let s := liveWith [(K.UNLOCK_STATE, 1), (K.HOLD_V, 12000), (K.HOLD_C, 1000000), (K.PATCH_LEVEL, 3), (K.PATCH_STATUS, 0)]
     AcceptedKey s v K.ROLLBACK_CMD 2 ∧ (advCheck s true).2 = true) ∧
    (let s := liveWith [(K.UNLOCK_STATE, 1), (K.PATCH_STATUS, 0)]
     AcceptedKey s v K.ROLLBACK_CMD 2 ∧ s.num K.PATCH_LEVEL = s.num K.PATCH_FLOOR) ∧
    (Accepted (liveWith [(K.UNLOCK_STATE, 1)]) v 0x2900 0x27 []) ∧
    (let s := (liveWith [(K.IDENT_STATUS, 0)]).setBlob K.ATT_NONCE (zeros 32)
     AcceptedKey s v K.ATT_CMD 1) ∧
    (let s := live.setTrust { live.trust with fwJob := some [] }
     s.trust.fwJob = some [] ∧ fwCheck s [] ≠ 0) ∧
    (let s := live.setTrust { live.trust with fuse := some (true, 4) }
     s.trust.fuse = some (true, 4)) ∧
    ((liveWith [(K.KEYS_SAVED, 0)]).num K.KEYS_SAVED ≠ 1) ∧
    ((live.setTrust { live.trust with report := some [1#8] }).trust.report = some [1#8]) ∧
    (let s := (liveWith [(K.IDENT_STATUS, 1)]).setBlob K.ATT_NONCE (zeros 32)
     PassesGate s v K.ATT_CMD 1 ∧ 32 ≤ (s.blob K.ATT_NONCE).length ∧ s.num K.IDENT_STATUS ≠ 0) ∧
    (live.trust.fwJob = none ∧ live.trust.fuse = none ∧ live.trust.report = none ∧
     (liveWith [(K.KEYS_SAVED, 1)]).num K.KEYS_SAVED = 1) := by 
  refine ⟨?_, ?_, ?_, ?_, ?_, ?_, ?_, ?_, ?_, ?_, ?_, ?_, ?_⟩ <;> decide +kernel

end Sys2Proof.Tests
end

/-! PROOFS. An accepted write of an object without an effect of its own (O11): whatever command carries it, the core serves
one request and answers it at once, and the commit sets the object. -/

namespace Sys2Proof.Machine

/-! ### Requests answered at once -/

theorem mgmt_sendReply (s : State) (a : Arrival) (f : Bytes) : (sendReply s a f).mgmt = s.mgmt := by
  unfold sendReply
  cases a.port with
  | pf0 => dsimp only; split <;> rfl
  | pf1 => dsimp only; split <;> rfl
  | e0 => rfl
  | e1 => rfl
  | jtag => rfl

theorem mgmt_writeReply (s : State) (a : Arrival) (cls i sub c : Nat) : (writeReply s a cls i sub c).mgmt = s.mgmt := by
  unfold writeReply
  split
  · rfl
  · exact mgmt_sendReply ..

theorem mgmt_attnNote (s : State) : (attnNote s).mgmt = s.mgmt :=
  (frame_attnNote (Frame.refl [] [] s)).mgmt (by simp)

theorem scanning_served (x : Served) (r : Req) : (served x r).mgmt.scanning = x.1.mgmt.scanning := by
  unfold served
  cases x.2 <;> rfl

/-- The core has answered a request at once, and left the module as `w` but for the reply (R95). -/
structure AnsweredAs (w : State) (x : Served) : Prop where
  held : x.2 = false
  frame : Frame [] answered w x.1
  mgmt : x.1.mgmt = w.mgmt

theorem answeredAs_writeReply (w : State) (a : Arrival) (cls i sub c : Nat) :
    AnsweredAs w (writeReply w a cls i sub c, false) :=
  ⟨rfl, frame_writeReply (.refl ..) (fun _ h => h) .., mgmt_writeReply ..⟩

theorem serve_answered {s w : State} {r : Req} (h : AnsweredAs w (serve1 s r)) (hw : w.pwr.softReset = false) :
    Frame [] answered w (serve s r) ∧ (serve s r).mgmt.scanning = w.mgmt.scanning := by
  have hf : Frame [] answered w (attnNote (served (serve1 s r) r)) :=
    frame_attnNote (frame_served h.frame (fun _ p => p) _ r)
  have hs : serve s r = attnNote (served (serve1 s r) r) := by
    simp only [serve, h.held, Bool.false_eq_true, if_false, softReset_frame hf (by decide) hw]
  rw [hs, mgmt_attnNote, scanning_served, h.mgmt]
  exact ⟨hf, rfl⟩

/-! ### The ways of an accepted write -/

section
variable {s : State} {i sub : Nat} {d : Bytes}

theorem viaOpen_frame {a : Arrival} : viaOpen s i sub d (.frame a) = true ↔
    portUp s a.port = true ∧ nodeOk s a = true ∧ verOk s a.ver = true ∧ writeLenOk a d.length = true := by
  simp [viaOpen, and_assoc]

theorem verOk_of_reaches {a : Arrival} (h : Reaches s (.frame a) i sub d) : verOk s a.ver = true := by
  obtain ⟨-, -, -, -, -, -, hv⟩ := h
  exact (viaOpen_frame.1 hv).2.2.1

theorem writeLenOk_of_reaches {a : Arrival} (h : Reaches s (.frame a) i sub d) : writeLenOk a d.length = true := by
  obtain ⟨-, -, -, -, -, -, hv⟩ := h
  exact (viaOpen_frame.1 hv).2.2.2

theorem softReset_of_reaches {v : Via} (h : Reaches s v i sub d) : s.pwr.softReset = false := by
  obtain ⟨-, -, -, hr, -⟩ := h
  exact hr

theorem frameIn_serve {a : Arrival} (h : Reaches s (.frame a) i sub d) (b : Ask) : frameIn s a b = serve s (.frame a b) := by
  obtain ⟨-, hs, hh, -, -, -, hv⟩ := h
  obtain ⟨hu, hn, -⟩ := viaOpen_frame.1 hv
  simp [frameIn, submit, hu, hn, hs, hh]

/-- A write that passes its checks and is no SIG_COMMIT is answered with code 0, and its reply is not held (R117). -/
theorem writeObj_written {v : Via} (h : Accepted s v i sub d) (hk : objKey i sub ≠ K.SIG_COMMIT) :
    writeObj s (askerVia s v) (viaFrame v) (viaV1 v) i sub 0 d = (0, written s v i sub d, false) := by
  obtain ⟨-, hg, hl⟩ := h
  rw [writeObj_accepted hg hl, beq_false_of_ne hk]
  rfl

theorem serveWrite_answered {a : Arrival} (h : Accepted s (.frame a) i sub d) (hk : objKey i sub ≠ K.SIG_COMMIT) :
    AnsweredAs (written s (.frame a) i sub d) (serveWrite s a i sub 0 d) := by
  have e := writeObj_written h hk
  simp only [askerVia, viaFrame, viaV1] at e
  simp only [serveWrite, writeLenOk_of_reaches h.1, ite_self, e, Bool.not_true, Bool.false_eq_true, if_false]
  exact answeredAs_writeReply ..

/-- The one WRITE item of a version 3 request, whatever the request's form and its STOP_ON_ERROR (R54, R57). -/
theorem serveBatch_answered {a : Arrival} (h : Accepted s (.frame a) i sub d) (hk : objKey i sub ≠ K.SIG_COMMIT)
    (h3 : a.ver = 3) (b : Ask) (stop : Bool) :
    AnsweredAs (written s (.frame a) i sub d) (serveBatch s a b stop [⟨true, sub, i, 0, d.length, d⟩]) := by
  have e := writeObj_written h hk
  have hlen : d.length ≤ 1024 := by simpa [writeLenOk, h3] using writeLenOk_of_reaches h.1
  simp only [askerVia, viaFrame, viaV1, h3, Nat.reduceBEq] at e
  have hf : itemFits [] 0 = true := by decide
  have hn := frame_attnNote (Frame.refl [] answered (written s (.frame a) i sub d))
  simp only [serveBatch, batchOk_write hlen, serveItems, runItems, hf, e, batchEnd, if_true, Bool.not_true, Bool.false_eq_true,
    if_false, bne_self_eq_false, Bool.and_false]
  split
  · exact ⟨rfl, frame_sendReply hn (fun _ p => p) .., (mgmt_sendReply ..).trans (mgmt_attnNote _)⟩
  · exact ⟨rfl, hn, mgmt_attnNote _⟩

theorem serveFrame_write_answered {a : Arrival} (h : Accepted s (.frame a) i sub d) (hk : objKey i sub ≠ K.SIG_COMMIT) :
    AnsweredAs (written s (.frame a) i sub d) (serveFrame s a (.write i sub 0 d)) := by
  have hv := verOk_of_reaches h.1
  by_cases h3 : a.ver = 3
  · rw [h3] at hv
    simp only [serveFrame, frameVer, h3, hv, Bool.not_true, Bool.false_eq_true, if_false, if_true]
    exact serveBatch_answered h hk h3 _ _
  · have hw := serveWrite_answered h hk
    simp only [serveFrame, frameVer, hv, Bool.not_true, Bool.false_eq_true, if_false, if_neg h3, hw.held]
    exact hw

theorem serveFrame_batch_answered {a : Arrival} (h : Accepted s (.frame a) i sub d) (hk : objKey i sub ≠ K.SIG_COMMIT)
    (h3 : a.ver = 3) (stop : Bool) :
    AnsweredAs (written s (.frame a) i sub d) (serveFrame s a (.batch stop [⟨true, sub, i, 0, d.length, d⟩])) := by
  have hv := verOk_of_reaches h.1
  rw [h3] at hv
  simp only [serveFrame, frameVer, hv, Bool.not_true, Bool.false_eq_true, if_false]
  exact serveBatch_answered h hk h3 _ stop

theorem size_eight_of_halfable (h : halfable i sub = true) : (rowOf i sub).ty.size = 8 := by
  unfold halfable at h
  cases e : objRow i sub with
  | none => simp [e] at h
  | some r => simpa [rowOf, e] using h

/-- A BAR2 write of an object's whole width is one write of its value (R73, R90). -/
theorem serveBar2Write_whole {pf : Nat} (h : Reaches s (.bar2 pf) i sub d) :
    serveBar2Write s pf (i * 4096 + sub * 16) d = barCommit s pf i sub d := by
  obtain ⟨-, -, -, -, hi, hsub, hv⟩ := h
  simp only [viaOpen, barAligned, Nat.zero_mod, beq_self_eq_true, Bool.and_true, Bool.and_eq_true, Bool.or_eq_true,
    beq_iff_eq] at hv
  obtain ⟨⟨-, hlen⟩, hsz⟩ := hv
  have hal : barAligned (i * 4096 + sub * 16) d.length = true := by
    rcases hlen with ((e | e) | e) | e <;> simp [barAligned, e] <;> omega
  have h4 : ¬(d.length = 4 ∧ halfable i sub = true) := fun g => by
    have := size_eight_of_halfable g.2
    omega
  simp only [serveBar2Write, slotOf_addr hi hsub, hal, Bool.not_true, Bool.false_eq_true, if_false]
  rw [if_neg (fun g => h4 ⟨g.1, g.2.2⟩), if_neg (fun g => absurd g.2.1 (by decide)), if_neg (by simp [hsz])]

theorem serveBar2Write_answered {pf : Nat} (h : Accepted s (.bar2 pf) i sub d) (hk : objKey i sub ≠ K.SIG_COMMIT) :
    AnsweredAs (written s (.bar2 pf) i sub d) (serveBar2Write s pf (i * 4096 + sub * 16) d) := by
  have e := writeObj_written h hk
  simp only [askerVia, viaFrame, viaV1] at e
  rw [serveBar2Write_whole h.1, barCommit, e]
  exact ⟨rfl, .refl .., rfl⟩

theorem serve1_reqOf_answered {v : Via} (h : Accepted s v i sub d) (hk : objKey i sub ≠ K.SIG_COMMIT) :
    AnsweredAs (written s v i sub d) (serve1 s (reqOf v i sub d)) := by
  cases v with
  | frame a => exact serveFrame_write_answered h hk
  | bar2 pf =>
    have hw := serveBar2Write_answered h hk
    simp only [reqOf, serve1, hw.held, Bool.false_eq_true, if_false]
    exact hw

end

/-! ### A write of an object without an effect of its own -/

section
variable (s : State) (i sub : Nat)

theorem frame_keySpent : Frame [K.UNLOCK_STATE] [] s (keySpent s i sub) := by
  unfold keySpent
  exact (frame_setNum (.refl ..) 0 (.inl (by simp))).ite (.refl ..)

theorem unlock_keySpent :
    (keySpent s i sub).num K.UNLOCK_STATE = if (rowOf i sub).acc.isKey then 0 else s.num K.UNLOCK_STATE := by
  unfold keySpent
  split <;> simp

end

theorem commitModule_sigCommit (s : State) (q : Asker) (v : Nat) : commitModule s q K.SIG_COMMIT v ≠ none := by
  simp [commitModule, K.SIG_COMMIT, K.PAT_STACKS, K.SCR_MIB]

section
variable {s : State} {v : Via} {i sub : Nat} {d : Bytes}

/-- The object of the write is of fixed size, and neither a unit nor the module gives its write an effect of its own. -/
structure NoOwnEffect (s : State) (v : Via) (i sub : Nat) (d : Bytes) : Prop where
  fixed : (rowOf i sub).ty.isBlob = false
  unit : commitUnit (keySpent s i sub) (askerVia s v) (objKey i sub) (objKey (baseIndex i) sub) (unitOf i)
    (leNat d &&& (rowOf i sub).mask) = none
  module : commitModule (keySpent s i sub) (askerVia s v) (objKey i sub) (leNat d &&& (rowOf i sub).mask) = none

theorem NoOwnEffect.ne_sigCommit (h : NoOwnEffect s v i sub d) : objKey i sub ≠ K.SIG_COMMIT := fun e =>
  commitModule_sigCommit _ _ _ (e ▸ h.module)

/-- What the write of such an object makes of it (R8, R42). -/
def plainValue (s : State) (i sub : Nat) (d : Bytes) : Nat :=
  merged (rowOf i sub) (s.num (objKey i sub)) (leNat d &&& (rowOf i sub).mask)

theorem written_plain (h : NoOwnEffect s v i sub d) :
    written s v i sub d =
      sigTouched ((keySpent s i sub).setNum (objKey i sub) (plainValue (keySpent s i sub) i sub d)) := by
  simp only [written, commit, h.fixed, h.unit, h.module, Bool.false_eq_true, if_false, plainValue]

theorem plainValue_keySpent (hu : objKey i sub ≠ K.UNLOCK_STATE) :
    plainValue (keySpent s i sub) i sub d = plainValue s i sub d := by
  unfold plainValue
  rw [(frame_keySpent s i sub).num _ (by simpa using hu) (by simp)]

theorem frame_written_plain (h : NoOwnEffect s v i sub d) :
    Frame [objKey i sub, K.SIG_CURRENT, K.UNLOCK_STATE] answered s (written s v i sub d) := by
  rw [written_plain h]
  have hk := (frame_keySpent s i sub).mono (ks' := [objKey i sub, K.SIG_CURRENT, K.UNLOCK_STATE]) (ps' := answered)
    (by simp) (by simp)
  exact frame_setNum (frame_setMgmt (frame_setNum hk _ (.inl (by simp))) _ (by simp [answered])) _ (.inl (by simp))

theorem num_written_plain (h : NoOwnEffect s v i sub d) (j : Nat) :
    (written s v i sub d).num j = if j = K.SIG_CURRENT then 0
      else if j = objKey i sub then plainValue (keySpent s i sub) i sub d else (keySpent s i sub).num j := by
  simp [written_plain h, sigTouched]

theorem scanning_written : (written s v i sub d).mgmt.scanning = true := rfl

/-- The commands that carry the write `d` of an object: an access without a row of its own, a frame, a batch of one item, and
a BAR2 write of the object's slot. -/
def CarriesWrite (v : Via) (i sub : Nat) (d : Bytes) (c : Instr) : Prop :=
  c = .registerWrite (.object v i sub d) ∨ (∃ a, v = .frame a ∧ c = .write a i sub 0 d) ∨
  (∃ a stop, v = .frame a ∧ a.ver = 3 ∧ c = .batch a stop [⟨true, sub, i, 0, d.length, d⟩]) ∨
  ∃ pf, v = .bar2 pf ∧ c = .bar2Write pf (i * 4096 + sub * 16) d

/-- Every command that carries an accepted write serves a request that is answered at once. -/
theorem exec_carriesWrite {c : Instr} (h : Accepted s v i sub d) (hk : objKey i sub ≠ K.SIG_COMMIT)
    (hc : CarriesWrite v i sub d c) :
    ∃ f r, exec c s = took s f ∧ f s = serve s r ∧ AnsweredAs (written s v i sub d) (serve1 s r) := by
  have hw := serve1_reqOf_answered h hk
  have hs := writeVia_serve h.1
  rcases hc with rfl | ⟨a, rfl, rfl⟩ | ⟨a, stop, rfl, h3, rfl⟩ | ⟨pf, rfl, rfl⟩
  · exact ⟨fun s => registerAccess s (.object v i sub d), _, rfl, hs, hw⟩
  · exact ⟨fun s => frameIn s a (.write i sub 0 d), _, rfl, hs, hw⟩
  · exact ⟨fun s => frameIn s a (.batch stop _), _, rfl, frameIn_serve h.1 _, serveFrame_batch_answered h hk h3 stop⟩
  · exact ⟨fun s => bar2Write s pf (i * 4096 + sub * 16) d, _, rfl, hs, hw⟩

/-- Such a command leaves the module as the write's commit does, but for the reply; the scan the commit starts runs on. -/
theorem exec_written {c : Instr} (h : Accepted s v i sub d) (hk : objKey i sub ≠ K.SIG_COMMIT)
    (hc : CarriesWrite v i sub d c) (hw : (written s v i sub d).pwr.softReset = false) :
    ∃ t, exec c s = .next t ∧ Frame [] answered (written s v i sub d) t ∧ t.mgmt.scanning = true := by
  obtain ⟨f, r, he, hf, ha⟩ := exec_carriesWrite h hk hc
  obtain ⟨t, ht, htook⟩ := took_next f h.1.1
  obtain ⟨hserve, hscan⟩ := serve_answered ha hw
  rw [hf] at htook
  refine ⟨t, he.trans ht, hserve.trans (htook [] answered), ?_⟩
  rw [(htook [] []).mgmt (by simp), hscan, scanning_written]

end

/-- Settles O11: every way of an accepted write leads to one request answered at once, whose commit sets the object. -/
theorem plainWriteCommits : Obligations.PlainWriteCommits := by
  intro s v i sub d c h hfix hunit hmod hc hsig hul
  have hn : NoOwnEffect s v i sub d := ⟨hfix, hunit, hmod⟩
  have hframe := frame_written_plain hn
  have hsoft : (written s v i sub d).pwr.softReset = false := by
    rw [hframe.pwr (by decide), softReset_of_reaches h.1]
  obtain ⟨t, ht, hft, hscan⟩ := exec_written h hn.ne_sigCommit hc hsoft
  have hnum (j : Nat) := (hft.num j (by simp) (by simp [answered])).trans (num_written_plain hn j)
  refine ⟨t, ht, ?_, by simp [hnum], hscan, ?_, hframe.trans (hft.mono (by simp) fun _ p => p)⟩
  · rw [hnum, if_neg hsig, if_pos rfl, plainValue_keySpent hul]; rfl
  · rw [hnum, if_neg (by decide), if_neg (Ne.symm hul), unlock_keySpent]

end Sys2Proof.Machine

/-! PROOFS. Replies: the fields of their bytes (R49, R52, R55), how one leaves by the port of its request (R66, R79, R694),
and that a request served at once leaves the module as it is answered, but for the management core's notes (R95). -/

namespace Sys2Proof.Machine

/-! ### The fields of a reply -/

/-- The six low bits of the status word are those of the code (R81). -/
theorem statusWord_mod (s : State) : statusWord s % 64 = 0 := by
  have h : (s.num K.ATTN_EVENTS &&& 0xE00) % 2 ^ 6 = 0 := by rw [Nat.and_mod_two_pow]; simp
  unfold statusWord statusLow
  omega

theorem statusOf_mod (s : State) {code : Nat} (h : code < 64) : statusOf s code % 64 = code := by
  have := statusWord_mod s
  unfold statusOf
  omega

theorem findCode_lt (v1 : Bool) (i sub : Nat) : findCode v1 i sub < 64 := by
  unfold findCode
  split
  · omega
  · split
    · omega
    · split <;> omega

theorem readCode_lt (s : State) (q : Asker) (v1 : Bool) (i sub off len : Nat) : readCode s q v1 i sub off len < 64 := by
  have := findCode_lt v1 i sub
  simp only [readCode]
  repeat' split
  all_goals omega

theorem gateCode_lt (s : State) (q : Asker) (v1 : Bool) (i sub : Nat) : gateCode s q v1 i sub < 64 := by
  have := findCode_lt v1 i sub
  simp only [gateCode]
  repeat' split
  all_goals omega

section
variable (s : State) (a : Arrival) (kind i sub cls code count : Nat) (d items : Bytes)

theorem version_reply2 : byteAt (reply2 s a kind i sub cls code d) 0 = 2 := by simp [reply2, byteAt, leBytes]
theorem kind_reply2 : byteAt (reply2 s a kind i sub cls code d) 1 = kind % 256 := by simp [reply2, byteAt, leBytes]
theorem tag_reply2 : replyTag 2 (reply2 s a kind i sub cls code d) = a.tag % 65536 := by
  simp [replyTag, reply2, fieldAt, leBytes, leNat]; omega
theorem index_reply2 : fieldAt (reply2 s a kind i sub cls code d) 8 2 = i % 65536 := by
  simp [reply2, fieldAt, leBytes, leNat]; omega
theorem sub_reply2 : byteAt (reply2 s a kind i sub cls code d) 10 = sub % 256 := by simp [reply2, byteAt, leBytes]
theorem code_reply2 (h : code < 64) : replyCode 2 (reply2 s a kind i sub cls code d) = code := by
  have := statusOf_mod s h
  simp [replyCode, reply2, fieldAt, leBytes, leNat]; omega
theorem drop_reply2 : (reply2 s a kind i sub cls code d).drop 24 = pad4 d := by
  simp [reply2, leBytes, zeros, List.replicate_succ]
theorem length_reply2_nil : (reply2 s a kind i sub cls code []).length = 24 := by
  simp [reply2, leBytes_length, zeros, pad4]

theorem version_reply1 : byteAt (reply1 s a kind i sub code d) 0 = 1 := by simp [reply1, byteAt, leBytes]
theorem tag_reply1 : replyTag 1 (reply1 s a kind i sub code d) = a.tag % 256 := by simp [replyTag, reply1, byteAt, leBytes]
theorem code_reply1 (h : code < 64) : replyCode 1 (reply1 s a kind i sub code d) = code := by
  have := statusOf_mod s h
  simp [replyCode, reply1, fieldAt, leBytes, leNat]; omega
theorem drop_reply1 : (reply1 s a kind i sub code d).drop 20 = pad4 d := by
  simp [reply1, leBytes, zeros, List.replicate_succ]

theorem version_reply3 : byteAt (reply3 s a count cls code items) 0 = 3 := by simp [reply3, byteAt, leBytes]
theorem kind_reply3 : byteAt (reply3 s a count cls code items) 1 = 0x83 := by simp [reply3, byteAt, leBytes]
theorem tag_reply3 : replyTag 3 (reply3 s a count cls code items) = a.tag % 65536 := by
  simp [replyTag, reply3, fieldAt, leBytes, leNat]; omega
theorem count_reply3 : byteAt (reply3 s a count cls code items) 8 = count % 256 := by simp [reply3, byteAt, leBytes]
theorem status_reply3 (h : code < 64) : fieldAt (reply3 s a count cls code items) 12 2 % 64 = code := by
  have := statusOf_mod s h
  simp [reply3, fieldAt, leBytes, leNat, zeros]; omega
theorem drop_reply3 : (reply3 s a count cls code items).drop 24 = items := by
  simp [reply3, leBytes, zeros, List.replicate_succ]

theorem fieldAt_reply3 (off n : Nat) : fieldAt (reply3 s a count cls code items) (24 + off) n = fieldAt items off n := by
  rw [fieldAt, ← List.drop_drop, drop_reply3, fieldAt]
theorem byteAt_reply3 (off : Nat) : byteAt (reply3 s a count cls code items) (24 + off) = byteAt items off := by
  rw [byteAt, ← List.getElem?_drop, drop_reply3, byteAt]

theorem kind_replyItem : byteAt (replyItem kind i sub code d ++ items) 0 = kind % 256 := by simp [replyItem, byteAt, leBytes]
theorem sub_replyItem : byteAt (replyItem kind i sub code d ++ items) 1 = sub % 256 := by simp [replyItem, byteAt, leBytes]
theorem index_replyItem : fieldAt (replyItem kind i sub code d ++ items) 2 2 = i % 65536 := by
  simp [replyItem, fieldAt, leBytes, leNat]; omega
theorem code_replyItem : fieldAt (replyItem kind i sub code d ++ items) 4 2 = code % 65536 := by
  simp [replyItem, fieldAt, leBytes, leNat]; omega
theorem drop_replyItem : (replyItem kind i sub code d).drop 8 = pad4 d := by simp [replyItem, leBytes]

theorem take_pad4 : (pad4 d).take d.length = d := by simp [pad4]

/-- The reply to a READ or a WRITE in the version of its request (R49, R52, R55). -/
def answer : Bytes :=
  if a.ver = 1 then reply1 s a kind i sub code d
  else if a.ver = 3 then reply3 s a 1 cls code (replyItem kind i sub code d)
  else reply2 s a kind i sub cls code d

theorem ver_of_verOk {s : State} {v : Nat} (h : verOk s v = true) : v = 1 ∨ v = 2 ∨ v = 3 := by
  simp only [verOk, Bool.and_eq_true, decide_eq_true_eq] at h
  omega

theorem tag_of_wf {a : Arrival} (h : a.wf = true) : a.tag < if a.ver = 1 then 256 else 65536 := by
  simp only [Arrival.wf, Bool.and_eq_true, decide_eq_true_eq] at h
  obtain ⟨⟨⟨⟨⟨-, h⟩, -⟩, -⟩, -⟩, -⟩ := h
  exact h

variable {s a code d}

theorem repliedWith_answer (hw : a.wf = true) (hv : verOk s a.ver = true) (hc : code < 64) (u : State) :
    RepliedWith a (answer u a kind i sub cls code d) code := by
  have ht := tag_of_wf hw
  unfold RepliedWith answer
  rcases ver_of_verOk hv with e | e | e <;> rw [e] at ht ⊢ <;> simp only [if_true, Nat.reduceEqDiff, if_false] at ht ⊢
  · exact ⟨version_reply1 .., (tag_reply1 ..).trans (Nat.mod_eq_of_lt ht), code_reply1 (h := hc) ..⟩
  · exact ⟨version_reply2 .., (tag_reply2 ..).trans (Nat.mod_eq_of_lt ht), code_reply2 (h := hc) ..⟩
  · have hi := code_replyItem kind i sub code d []
    rw [List.append_nil] at hi
    refine ⟨version_reply3 .., (tag_reply3 ..).trans (Nat.mod_eq_of_lt ht), ?_⟩
    exact (fieldAt_reply3 (off := 4) (n := 2) ..).trans (hi.trans (Nat.mod_eq_of_lt (by omega)))

/-- A reply carries the bytes it was given. -/
theorem data_answer (hv : verOk s a.ver = true) (u : State) :
    ((answer u a kind i sub cls code d).drop (replyHead a.ver)).take d.length = d := by
  have h : (answer u a kind i sub cls code d).drop (replyHead a.ver) = pad4 d := by
    unfold answer replyHead
    rcases ver_of_verOk hv with e | e | e <;> simp only [e, if_true, Nat.reduceEqDiff, if_false]
    · exact drop_reply1 ..
    · exact drop_reply2 ..
    · rw [show 32 = 24 + 8 from rfl, ← List.drop_drop, drop_reply3, drop_replyItem]
  rw [h, take_pad4]

end

/-! ### A reply leaves -/

/-- The module after a request that changes nothing but for its reply, where one is asked for. -/
def replied (silent : Bool) (s : State) (a : Arrival) (f : Bytes) : State := if silent then s else sendReply s a f

theorem frame_replied {s : State} (silent : Bool) (a : Arrival) (f : Bytes) : Frame [] answered s (replied silent s a f) :=
  (Frame.refl ..).ite (frame_sendReply (.refl ..) (fun _ p => p) a f)

theorem repliedOn_sendReply (s : State) (a : Arrival) (f : Bytes) : RepliedOn s (sendReply s a f) a f := by
  unfold RepliedOn sendReply
  cases a.port with
  | pf0 => rintro ⟨hr, hm⟩; simp [hr, hm, State.setPf]
  | pf1 => rintro ⟨hr, hm⟩; simp [hr, hm, State.setPf]
  | e0 => simp
  | e1 => simp
  | jtag => simp

theorem PcieFn.Same.replies {x y : PcieFn} (h : x.Same false y) : y.replies = x.replies := by
  rw [h]; rfl

theorem PcieFn.Same.ringCtrl {b : Bool} {x y : PcieFn} (h : x.Same b y) : y.ringCtrl = x.ringCtrl := by
  rw [h]

theorem PcieFn.Same.rplHead {b : Bool} {x y : PcieFn} (h : x.Same b y) : y.rplHead = x.rplHead := by
  rw [h]

theorem AttnOnly.isPrefix {s t : State} (h : AttnOnly s t) : s.out <+: t.out := by
  obtain ⟨l, e, -⟩ := h
  exact ⟨l, e.symm⟩

theorem AttnOnly.sent {s t : State} (h : AttnOnly s t) {o : Out} (ho : o ∈ s.out) : o ∈ t.out :=
  h.isPrefix.subset ho

theorem Frame.num_eq {ks : List Nat} {ps : List Part} {s t : State} (h : Frame ks ps s t) {k : Nat} (hk : k ∉ ks)
    (hp : Part.units ∉ ps) : t.num k = s.num k := h.num k hk (fun hu => absurd hu hp)

/-- A reply that has left stays out where no part changes by which replies leave. -/
theorem RepliedOn.mono {ks : List Nat} {ps : List Part} {s w t : State} {a : Arrival} {f : Bytes} (h : RepliedOn s w a f)
    (g : Frame ks ps w t) (hp : ∀ p ∈ ps, p = .mgmt ∨ p = .arrived) : RepliedOn s t a f := by
  have hn (p : Part) (h1 : p ≠ .mgmt) (h2 : p ≠ .arrived) : p ∉ ps := fun m => (hp p m).elim h1 h2
  have hr : ps.contains .replies = false := by simpa using hn .replies (by decide) (by decide)
  have h0 := (hr ▸ g.pf0 (hn _ (by decide) (by decide))).replies
  have h1 := (hr ▸ g.pf1 (hn _ (by decide) (by decide))).replies
  unfold RepliedOn at h ⊢
  cases e : a.port <;> simp only [e] at h ⊢
  · exact fun c => h0.trans (h c)
  · exact fun c => h1.trans (h c)
  · exact (g.out (hn _ (by decide) (by decide))).sent h
  · exact (g.out (hn _ (by decide) (by decide))).sent h
  · rw [g.jtag (hn _ (by decide) (by decide))]; exact h

/-- A reply that has left since a change that does not touch the rings has left since before it. -/
theorem RepliedOn.since {ks : List Nat} {ps : List Part} {s u t : State} {a : Arrival} {f : Bytes} (h : RepliedOn u t a f)
    (g : Frame ks ps s u) (hp : ∀ p ∈ ps, p = .arrived) : RepliedOn s t a f := by
  have hn (p : Part) (h2 : p ≠ .arrived) : p ∉ ps := fun m => h2 (hp p m)
  have hr : ps.contains .replies = false := by simpa using hn .replies (by decide)
  have h0 := hr ▸ g.pf0 (hn _ (by decide))
  have h1 := hr ▸ g.pf1 (hn _ (by decide))
  have hm := g.mgmt (hn _ (by decide))
  unfold RepliedOn at h ⊢
  cases e : a.port <;> simp only [e] at h ⊢
  · rw [hm, h0.replies, h0.ringCtrl] at h; exact h
  · rw [hm, h1.replies, h1.ringCtrl] at h; exact h
  all_goals exact h

theorem repliedOn_replied {ks : List Nat} {ps : List Part} {s u t : State} {silent : Bool} {a : Arrival} {f : Bytes}
    (hs : Frame ks ps s u) (hp : ∀ p ∈ ps, p = .arrived) (ht : Frame [] [.mgmt] (replied silent u a f) t)
    (hq : silent = false) : RepliedOn s t a f := by
  rw [replied, hq] at ht
  exact ((repliedOn_sendReply u a f).mono ht (by simp)).since hs hp

/-! ### A request served at once -/

/-- The core is running, serves requests, holds none and has no reset waiting, so that it serves the next one at once. -/
structure Serves (s : State) : Prop where
  running : s.pwr.stopped = false
  serving : serving s = true
  free : s.mgmt.held = none
  staysUp : s.pwr.softReset = false

theorem serve_of_serve1 {s w : State} {r : Req} (h : serve1 s r = (w, false)) (hw : w.pwr.softReset = false) :
    Frame [] [.mgmt] w (serve s r) := by
  have hn : Frame [] [.mgmt] w (attnNote (served (w, false) r)) :=
    frame_attnNote (frame_setMgmt (frame_setMgmt (.refl ..) _ (by simp)) _ (by simp))
  simp only [serve, h, Bool.false_eq_true, if_false, softReset_frame hn (by decide) hw]
  exact hn

section
variable {s w : State} {ks : List Nat} {ps : List Part}

/-- A command that brings a request the core answers at once leaves the module as the answer does, but for the management
core's notes. -/
theorem Serves.took_serve (h : Serves s) {f : State → State} {r : Req} (hf : f s = serve s r) (h1 : serve1 s r = (w, false))
    (hw : Frame ks ps s w) (hp : Part.pwr ∉ ps) : ∃ t, took s f = .next t ∧ Frame [] [.mgmt] w t := by
  obtain ⟨t, ht, g⟩ := took_next f h.running
  have hr : w.pwr.softReset = false := by rw [hw.pwr hp]; exact h.staysUp
  rw [hf] at g
  exact ⟨t, ht, (serve_of_serve1 h1 hr).trans (g ..)⟩

theorem Serves.submit (h : Serves s) (r : Req) : submit s r = serve s r := by
  simp [Machine.submit, h.serving, h.free]

theorem Serves.frameIn (h : Serves s) {a : Arrival} {b : Ask} (hu : portUp s a.port = true) (hn : nodeOk s a = true) :
    frameIn s a b = serve s (.frame a b) := by
  simp [Machine.frameIn, hu, hn, h.submit]

theorem Serves.took_frameIn (h : Serves s) {a : Arrival} {b : Ask} (hu : portUp s a.port = true) (hn : nodeOk s a = true)
    (h1 : serveFrame s a b = (w, false)) (hf : Frame ks ps s w) (hp : Part.pwr ∉ ps) :
    ∃ t, took s (fun s => Machine.frameIn s a b) = .next t ∧ Frame [] [.mgmt] w t :=
  h.took_serve (h.frameIn hu hn) h1 hf hp

end

/-- A frame that is served finds the core serving, its port up, its node addressed and its version accepted. -/
theorem serves_of_frameServed {s : State} {a : Arrival} (h : FrameServed s a) :
    Serves s ∧ a.wf = true ∧ portUp s a.port = true ∧ nodeOk s a = true ∧ verOk s a.ver = true := by
  obtain ⟨h1, h2, h3, h4, h5, h6⟩ := h
  simp only [Bool.and_eq_true] at h6
  exact ⟨⟨h1, h2, h3, h4⟩, h5, h6.1.1, h6.1.2, h6.2⟩

end Sys2Proof.Machine

/-! PROOFS. Requests that are answered and change nothing: reads (O8) and requests in a disabled version (O9). -/

namespace Sys2Proof.Machine

/-! ### Reads -/

/-- A value is as long as its size says (R86). -/
theorem objBytes_length (s : State) (i sub : Nat) :
    (objBytes s i sub (rowOf i sub)).length = sizeOf_ s i sub (rowOf i sub) := by
  unfold objBytes sizeOf_
  by_cases h : sub = 0
  · simp [h, leBytes]
  · by_cases hb : (rowOf i sub).ty.isBlob = true
    · simp [h, hb]
    · simp [h, hb, leBytes_length]

/-- A read that passes its checks lies within the value. -/
theorem readData_length {s : State} {q : Asker} {v1 : Bool} {i sub off len : Nat} (h : readCode s q v1 i sub off len = 0) :
    (readData s i sub off len).length = len := by
  have hle : off + len ≤ sizeOf_ s i sub (rowOf i sub) := by
    simp only [readCode] at h
    by_contra hc
    rw [if_pos (Nat.lt_of_not_le hc)] at h
    repeat' split at h
    all_goals omega
  rw [readData, List.length_take, List.length_drop, objBytes_length]
  omega

section
variable (s : State) (a : Arrival) (i sub off len : Nat)

/-- The bytes a READ asks for: a version 1 READ asks for the whole value (R48, R53). -/
def askedOff : Nat := if a.ver = 1 then 0 else off
def askedLen : Nat := if a.ver = 1 then sizeOf_ s i sub (rowOf i sub) else len

/-- The code of the reply to a READ. -/
def askedCode : Nat := readCode s (askerOf s a.port) (a.ver == 1) i sub (askedOff a off) (askedLen s a i sub len)

/-- The data of the reply to a READ. -/
def askedData : Bytes :=
  if askedCode s a i sub off len = 0 then readData s i sub (askedOff a off) (askedLen s a i sub len) else []

/-- The reply to a READ. -/
def readAnswer : Bytes :=
  answer s a 0x81 i sub (askerOf s a.port).cls (askedCode s a i sub off len) (askedData s a i sub off len)

variable {s a i sub off len}

theorem readData_length_le : (readData s i sub off len).length ≤ len := by simp [readData]

/-- The reply to one item of a batch fits, alone (R47). -/
theorem itemFits_nil {n : Nat} (h : n ≤ 1024) : itemFits [] n = true := by
  have : up4 n ≤ 1024 := by unfold up4; omega
  simp only [itemFits, List.length_nil, decide_eq_true_eq]
  omega

/-- The code and the data of the reply to a READ item (R56). -/
def itemCode (s : State) (a : Arrival) (x : BatchItem) : Nat :=
  readCode s (askerOf s a.port) false x.index x.sub x.off x.len
def itemData (s : State) (a : Arrival) (x : BatchItem) : Bytes :=
  if itemCode s a x = 0 then readData s x.index x.sub x.off x.len else []

theorem itemData_length_le (x : BatchItem) : (itemData s a x).length ≤ x.len := by
  unfold itemData
  split
  · exact readData_length_le
  · simp

section
variable {stop : Bool} {done code : Nat} {items : Bytes} {x : BatchItem} {rest : List BatchItem}

/-- A READ item of a batch that is answered ends the batch where its reply does not fit, or where it fails and STOP_ON_ERROR
is set; otherwise the batch goes on (R56–R58). -/
theorem runItems_read (hx : x.write = false) (hb : broadcast a = false) :
    runItems s a stop done items code (x :: rest) =
      if itemFits items (itemData s a x).length = false then ⟨s, done, items, code, [], false⟩
      else
        let items := items ++ replyItem 0x81 x.index x.sub (itemCode s a x) (itemData s a x)
        let code := if code = 0 then itemCode s a x else code
        if stop && itemCode s a x != 0 then ⟨s, done + 1, items, code, [], false⟩
        else runItems s a stop (done + 1) items code rest := by
  simp only [runItems, hx, hb, Bool.false_eq_true, if_false, Bool.not_eq_true', itemCode, itemData]
  rfl

/-- A READ item of a batch sent to every module is passed over (R78). -/
theorem runItems_silent (hx : x.write = false) (hb : broadcast a = true) :
    runItems s a stop done items code (x :: rest) = runItems s a stop done items code rest := by
  simp only [runItems, hx, hb, Bool.false_eq_true, if_false, if_true]

end

theorem batchOk_read (hl : len ≤ 1024) : batchOk [⟨false, sub, i, off, len, []⟩] = true := by
  simp [batchOk, batchBytes, hl]

/-- A version 3 request of one READ item is answered with one item. -/
theorem serveBatch_read (h3 : a.ver = 3) (hl : len ≤ 1024) (b : Ask) :
    serveBatch s a b false [⟨false, sub, i, off, len, []⟩] =
      (replied (broadcast a) s a (readAnswer s a i sub off len), false) := by
  rw [serveBatch, if_pos (batchOk_read hl)]
  cases hb : broadcast a
  · have hf := itemFits_nil ((itemData_length_le (s := s) (a := a) ⟨false, sub, i, off, len, []⟩).trans hl)
    simp only [serveItems, runItems_read, hb, hf, Bool.true_eq_false, Bool.false_and, if_false, if_true, Bool.false_eq_true]
    simp [batchEnd, batchReplied, hb, replied, runItems, readAnswer, answer, h3, itemData, itemCode, askedData, askedCode,
      askedOff, askedLen]
    rfl
  · simp [serveItems, runItems, hb, batchEnd, batchReplied, replied]

/-- A read, in whatever version, is answered, unless it is sent to every module, and does nothing else. -/
theorem serveFrame_read (hv : verOk s a.ver = true) (hl : len ≤ 1024) :
    serveFrame s a (.read i sub off len) = (replied (broadcast a) s a (readAnswer s a i sub off len), false) := by
  have hc : frameVer a (.read i sub off len) = a.ver := rfl
  simp only [serveFrame, hc, hv, Bool.not_true, Bool.false_eq_true, if_false]
  by_cases h3 : a.ver = 3
  · rw [if_pos h3, serveBatch_read h3 hl]
  · rw [if_neg h3]
    by_cases h1 : a.ver = 1
    · simp [serveRead, replied, readAnswer, answer, askedData, askedCode, askedOff, askedLen, h1]
    · simp [serveRead, replied, readAnswer, answer, askedData, askedCode, askedOff, askedLen, h1, h3, hl]

end

/-- A READ frame that is served leaves the module as its reply does, but for the management core's notes. -/
theorem frame_read {s : State} {a : Arrival} {i sub off len : Nat} (h : Serves s) (hu : portUp s a.port = true)
    (hn : nodeOk s a = true) (hv : verOk s a.ver = true) (hl : len ≤ 1024) :
    Frame [] [.mgmt] (replied (broadcast a) s a (readAnswer s a i sub off len)) (frameIn s a (.read i sub off len)) := by
  rw [h.frameIn hu hn]
  refine serve_of_serve1 (serveFrame_read hv hl) ?_
  rw [(frame_replied ..).pwr (by decide)]
  exact h.staysUp

theorem Frame.of_replied {s u t : State} {ks : List Nat} {ps : List Part} {silent : Bool} {a : Arrival} {f : Bytes}
    (hs : Frame ks ps s u) (ht : Frame [] [.mgmt] (replied silent u a f) t) : Frame ks (ps ++ answered) s t := by
  have hr : ∀ p ∈ answered, p ∈ ps ++ answered := fun _ => List.mem_append_right ps
  have h1 := hs.mono (fun _ k => k) (fun _ => List.mem_append_left answered)
  have h2 := (frame_replied (s := u) silent a f).mono (ks' := ks) (by simp) hr
  exact (h1.trans h2).trans (ht.mono (by simp) (by simp [answered]))

/-- Settles O8: a read is answered and does nothing else, whatever its version, and its reply carries the code of the first
check that fails and the bytes asked for. -/
theorem readIsAnsweredAndChangesNothing : Obligations.ReadIsAnsweredAndChangesNothing := by
  intro s a i sub off len h _ hl
  obtain ⟨hs, hwf, hu, hn, hv⟩ := serves_of_frameServed h
  obtain ⟨t, ht, g⟩ := hs.took_frameIn hu hn (serveFrame_read hv hl) (frame_replied ..) (by decide)
  refine ⟨t, ht, Frame.of_replied (.refl [] [] s) g, fun hb => ?_, fun hb => ?_⟩
  · rw [hb] at g
    exact ⟨(g.pf0 (by decide)).replies, (g.pf1 (by decide)).replies, g.jtag (by decide), g.out (by decide)⟩
  · refine ⟨readAnswer s a i sub off len, repliedOn_replied (.refl [] [] s) (by simp) g hb,
      repliedWith_answer _ _ _ _ hwf hv (readCode_lt ..) s, fun hc => ?_⟩
    have hd : askedData s a i sub off len = readData s i sub (askedOff a off) (askedLen s a i sub len) := if_pos hc
    have hlen : (askedData s a i sub off len).length = askedLen s a i sub len := by rw [hd]; exact readData_length hc
    have := data_answer (d := askedData s a i sub off len) 0x81 i sub (askerOf s a.port).cls
      (code := askedCode s a i sub off len) hv s
    rw [hlen] at this
    exact this.trans hd

/-! ### Requests in a disabled version -/

/-- The KIND, INDEX and SUB of the reply to a request in a version that is not accepted (R46, log entry 33). -/
def disabledHead (a : Arrival) (b : Ask) : Nat × Nat × Nat :=
  if frameVer a b = 3 then (0x81 + ofBool (Config.batchKind a.tag), 0, 0)
  else match b with
    | .read i sub _ _ => (0x81, i, sub)
    | .write i sub _ _ => (0x82, i, sub)
    | .batch _ _ => (0x81, 0, 0)
    | .bad kind i sub _ => (kind, i, sub)

/-- The reply to a request in a version that is not accepted. -/
def disabledReply (s : State) (a : Arrival) (b : Ask) : Bytes :=
  reply2 s a (disabledHead a b).1 (disabledHead a b).2.1 (disabledHead a b).2.2 (askerOf s a.port).cls 10 []

theorem serveFrame_disabled {s : State} {a : Arrival} {b : Ask} (hv : verOk s (frameVer a b) = false) :
    serveFrame s a b = (replied (broadcast a) s a (disabledReply s a b), false) := by
  by_cases h3 : frameVer a b = 3
  · rw [h3] at hv
    simp [serveFrame, replied, disabledReply, disabledHead, h3, hv]
  · cases b <;> simp [serveFrame, replied, disabledReply, disabledHead, h3, hv]

/-- A request that is not in version 3 is answered as a READ or as a WRITE is, with its INDEX and SUB. -/
theorem disabledHead_other {a : Arrival} (h3 : a.ver ≠ 3) (i sub off len : Nat) (d : Bytes) :
    disabledHead a (.read i sub off len) = (0x81, i, sub) ∧ disabledHead a (.write i sub off d) = (0x82, i, sub) :=
  ⟨if_neg h3, if_neg h3⟩

theorem disabledHead_three {a : Arrival} {b : Ask} (h3 : frameVer a b = 3) :
    ((disabledHead a b).1 = 0x81 ∨ (disabledHead a b).1 = 0x82) ∧ (disabledHead a b).2 = (0, 0) := by
  simp only [disabledHead, h3, if_true]
  cases Config.batchKind a.tag
  · exact ⟨.inl rfl, trivial⟩
  · exact ⟨.inr rfl, trivial⟩

/-- The KIND of the reply to a READ, a WRITE or a batch is that of a READ's or a WRITE's. -/
theorem disabledHead_kind {a : Arrival} {b : Ask} (hb : ∀ kind i sub code, b ≠ .bad kind i sub code) :
    (disabledHead a b).1 = 0x81 ∨ (disabledHead a b).1 = 0x82 := by
  by_cases h3 : frameVer a b = 3
  · exact (disabledHead_three h3).1
  · simp only [disabledHead, h3, if_false]
    cases b with
    | read => exact .inl rfl
    | write => exact .inr rfl
    | batch => exact .inl rfl
    | bad kind i sub code => exact absurd rfl (hb kind i sub code)

theorem kind_disabledReply {s : State} {a : Arrival} {b : Ask} (hb : ∀ kind i sub code, b ≠ .bad kind i sub code) :
    byteAt (disabledReply s a b) 1 = (disabledHead a b).1 := by
  refine (kind_reply2 ..).trans (Nat.mod_eq_of_lt ?_)
  rcases disabledHead_kind (a := a) hb with e | e <;> omega

/-- The command that brings a request. -/
inductive Brings (a : Arrival) : Instr → Ask → Prop where
  | read (i sub off len : Nat) : Brings a (.read a i sub off len) (.read i sub off len)
  | write (i sub off : Nat) (d : Bytes) : Brings a (.write a i sub off d) (.write i sub off d)
  | batch (stop : Bool) (items : List BatchItem) : Brings a (.batch a stop items) (.batch stop items)

section
variable {s : State} {a : Arrival} {c : Instr} {b : Ask}

theorem Brings.exec (h : Brings a c b) : exec c s = took s (fun s => frameIn s a b) := by cases h <;> rfl

theorem Brings.ne_bad (h : Brings a c b) (kind i sub code : Nat) : b ≠ .bad kind i sub code := by cases h <;> rintro ⟨⟩

end

/-- Settles O9: whatever the request, a version that is not accepted is answered with code 10 before anything is done. -/
theorem disabledVersionIsAnsweredWithCodeTen : Obligations.DisabledVersionIsAnsweredWithCodeTen := by
  intro s a c v hst hsv hh hr hwf hu hn hv hc
  obtain ⟨b, hb, hver⟩ : ∃ b, Brings a c b ∧ frameVer a b = v := by
    rcases hc with ⟨rfl, ⟨i, sub, off, len, rfl⟩ | ⟨i, sub, off, d, rfl⟩⟩ | ⟨rfl, stop, items, rfl⟩
    · exact ⟨_, .read .., rfl⟩
    · exact ⟨_, .write .., rfl⟩
    · exact ⟨_, .batch .., rfl⟩
  have hserves : Serves s := ⟨hst, hsv, hh, hr⟩
  obtain ⟨t, ht, g⟩ := hserves.took_frameIn hu hn (serveFrame_disabled (hver ▸ hv)) (frame_replied ..) (by decide)
  have htag : a.tag % 65536 = a.tag := Nat.mod_eq_of_lt ((tag_of_wf hwf).trans_le (by split <;> omega))
  have hkind := kind_disabledReply (s := s) (a := a) hb.ne_bad
  refine ⟨t, hb.exec.trans ht, Frame.of_replied (.refl [] [] s) g, fun hbr => ⟨disabledReply s a b,
    repliedOn_replied (.refl [] [] s) (by simp) g hbr, version_reply2 .., (tag_reply2 ..).trans htag,
    code_reply2 (h := by omega) .., length_reply2_nil .., hkind ▸ disabledHead_kind hb.ne_bad, fun h3 => ?_,
    fun i sub hi hsub h3 => ⟨?_, ?_⟩⟩⟩
  · have hz := (disabledHead_three (hver.trans h3)).2
    exact ⟨(index_reply2 ..).trans (by simp [hz]), (sub_reply2 ..).trans (by simp [hz])⟩
  · rintro ⟨off, len, rfl⟩
    cases hb
    have hh := (disabledHead_other (hver.trans_ne h3) i sub off len []).1
    exact ⟨hkind.trans (by rw [hh]), (index_reply2 ..).trans (by rw [hh, Nat.mod_eq_of_lt hi]),
      (sub_reply2 ..).trans (by rw [hh, Nat.mod_eq_of_lt hsub])⟩
  · rintro ⟨off, d, rfl⟩
    cases hb
    have hh := (disabledHead_other (hver.trans_ne h3) i sub off 0 d).2
    exact ⟨hkind.trans (by rw [hh]), (index_reply2 ..).trans (by rw [hh, Nat.mod_eq_of_lt hi]),
      (sub_reply2 ..).trans (by rw [hh, Nat.mod_eq_of_lt hsub])⟩

end Sys2Proof.Machine

/-! PROOFS. Writes that are refused (O10, O21) and batches (O12). -/

namespace Sys2Proof.Machine

/-! ### Refused writes -/

section
variable {s : State} {a : Arrival} {i sub off code : Nat} {d : Bytes} {u : State}

/-- No reply to a WRITE: it was sent to every module, or asks for none, which version 1 cannot (R50, R78, R700). -/
def writeSilent (a : Arrival) : Bool := broadcast a || (a.noReply && a.ver != 1)

/-- A WRITE in whatever version is answered with the code of its write, which leaves the module as it does but for ATTN. -/
theorem serveFrame_write (hv : verOk s a.ver = true) (hl : writeLenOk a d.length = true)
    (hw : writeObj s (askerOf s a.port) true (a.ver == 1) i sub (if a.ver = 1 then 0 else off) d = (code, u, false)) :
    ∃ w, Frame [] [] u w ∧ serveFrame s a (.write i sub off d) =
      (replied (writeSilent a) w a (answer w a 0x82 i sub (askerOf s a.port).cls code []), false) := by
  have hc : frameVer a (.write i sub off d) = a.ver := rfl
  by_cases h3 : a.ver = 3
  · have hd : d.length ≤ 1024 := by simpa [writeLenOk, h3] using hl
    simp only [h3, Nat.reduceBEq, Nat.reduceEqDiff, if_false] at hw
    have hf : itemFits [] 0 = true := itemFits_nil (by omega)
    refine ⟨attnNote u, frame_attnNote (.refl ..), ?_⟩
    rw [h3] at hv hc
    simp only [serveFrame, hc, hv, Bool.not_true, Bool.false_eq_true, if_false, if_true, serveBatch, batchOk_write hd,
      serveItems, runItems, hf, hw, Bool.false_and, batchEnd]
    cases hb : broadcast a <;> cases hr : a.noReply <;> simp [batchReplied, replied, writeSilent, answer, hb, hr, h3]
  · refine ⟨u, .refl .., ?_⟩
    simp only [serveFrame, hc, hv, Bool.not_true, Bool.false_eq_true, if_false, if_neg h3, serveWrite, hl, hw]
    by_cases h1 : a.ver = 1
    · simp [writeReply, replied, writeSilent, answer, h1]
    · simp [writeReply, replied, writeSilent, answer, h1, h3]

/-- A write that fails one of checks 2 to 6 leaves the module as it was. -/
theorem writeObj_refused {q : Asker} {frame v1 : Bool} (h : gateCode s q v1 i sub ≠ 0) :
    writeObj s q frame v1 i sub off d = (gateCode s q v1 i sub, s, false) := by
  simp [writeObj, h]

theorem gateCode_noIndex {q : Asker} {v1 : Bool} (h : rowsOf i = []) : gateCode s q v1 i sub = 1 := by
  simp [gateCode, findCode, h]

theorem gateCode_noAuthority {q : Asker} {v1 : Bool} (hf : findCode v1 i sub = 0) (h : mayWrite q.cls i = false) :
    gateCode s q v1 i sub = 9 := by
  simp [gateCode, hf, h]

theorem gateCode_locked {q : Asker} {v1 : Bool} (hf : findCode v1 i sub = 0) (hm : mayWrite q.cls i = true)
    (hw : (rowOf i sub).acc.canWrite = true) (hk : (rowOf i sub).acc.isLck = true) (hl : locked s i = true) :
    gateCode s q v1 i sub = 5 := by
  simp [gateCode, hf, hm, hw, hk, hl]

end

/-- Settles O10: a write that fails one of checks 2 to 6 of R85 is answered with that check's code and does nothing else. -/
theorem refusedWriteHasNoEffect : Obligations.RefusedWriteHasNoEffect := by
  intro s a i sub off d h _ hl
  refine ⟨gateCode_noIndex, gateCode_noAuthority (q := askerOf s a.port), gateCode_locked (q := askerOf s a.port),
    fun hg => ?_⟩
  obtain ⟨hs, hwf, hu, hn, hv⟩ := serves_of_frameServed h
  obtain ⟨w, hw, hsf⟩ := serveFrame_write hv hl (writeObj_refused (off := if a.ver = 1 then 0 else off) hg)
  obtain ⟨t, ht, g⟩ := hs.took_frameIn hu hn hsf (Frame.of_replied hw (.refl ..)) (by decide)
  refine ⟨t, ht, Frame.of_replied hw g, fun hb hr => ⟨_, repliedOn_replied hw (by simp) g ?_,
    repliedWith_answer _ _ _ _ hwf hv (gateCode_lt ..) w⟩⟩
  rcases hr with hr | hr <;> simp [writeSilent, hb, hr]

/-! ### Batches -/

section
variable {s : State} {a : Arrival} {stop : Bool} {done code : Nat} {items : Bytes} {l : List BatchItem}

/-- READ items run in order, each adding its reply to those before, until one ends the batch. -/
theorem runItems_reads (hb : broadcast a = false) (hl : ∀ y ∈ l, y.write = false) :
    ∃ n more c, n ≤ l.length ∧ runItems s a stop done items code l = ⟨s, done + n, items ++ more, c, [], false⟩ := by
  induction l generalizing done items code with
  | nil => exact ⟨0, [], code, Nat.le_refl _, by rw [List.append_nil]; rfl⟩
  | cons x rest ih =>
    obtain ⟨hx, hrest⟩ := List.forall_mem_cons.1 hl
    rw [runItems_read hx hb]
    dsimp only
    split
    · exact ⟨0, [], code, Nat.zero_le _, by rw [List.append_nil]; rfl⟩
    · split
      · exact ⟨1, _, _, by simp, rfl⟩
      · obtain ⟨n, more, c, hn, e⟩ := ih hrest
        rw [e]
        exact ⟨n + 1, _, c, by simpa using hn, by rw [List.append_assoc, Nat.add_assoc, Nat.add_comm 1 n]⟩

/-- The first READ item of a batch is always answered: its reply fits (R47, R58). -/
theorem runItems_first {x : BatchItem} {rest : List BatchItem} (hb : broadcast a = false) (hx : x.len ≤ 1024)
    (hl : ∀ y ∈ x :: rest, y.write = false) :
    ∃ n more c, 1 ≤ n ∧ n ≤ rest.length + 1 ∧ runItems s a stop 0 [] 0 (x :: rest) =
      ⟨s, n, replyItem 0x81 x.index x.sub (itemCode s a x) (itemData s a x) ++ more, c, [], false⟩ := by
  obtain ⟨hx0, hrest⟩ := List.forall_mem_cons.1 hl
  have hf := itemFits_nil ((itemData_length_le (s := s) (a := a) x).trans hx)
  rw [runItems_read hx0 hb]
  simp only [hf, Bool.true_eq_false, if_false, List.nil_append]
  split
  · exact ⟨1, [], _, Nat.le_refl _, by omega, by rw [List.append_nil]⟩
  · obtain ⟨n, more, c, hn, e⟩ := runItems_reads (s := s) (stop := stop) hb hrest
    rw [e]
    exact ⟨0 + 1 + n, more, c, by omega, by omega, rfl⟩

/-- READ items sent to every module are passed over (R78). -/
theorem runItems_reads_silent (hb : broadcast a = true) (hl : ∀ y ∈ l, y.write = false) :
    runItems s a stop done items code l = ⟨s, done, items, code, [], false⟩ := by
  induction l with
  | nil => rfl
  | cons x rest ih =>
    obtain ⟨hx, hrest⟩ := List.forall_mem_cons.1 hl
    rw [runItems_silent hx hb, ih hrest]

/-- A batch that has run to its end is answered with what its items gave, or not at all. -/
theorem serveBatch_run (hok : batchOk l = true) (b : Ask)
    (hr : runItems s a stop 0 [] 0 l = ⟨s, done, items, code, [], false⟩) :
    serveBatch s a b stop l =
      (replied (!batchReplied a l) s a (reply3 s a done (askerOf s a.port).cls code items), false) := by
  rw [serveBatch, if_pos hok]
  cases hb : batchReplied a l <;> simp [serveItems, hr, batchEnd, replied, hb]

theorem serveBatch_malformed (hok : batchOk l = false) (b : Ask) :
    serveBatch s a b stop l =
      (replied (!batchReplied a l) s a (reply3 s a 0 (askerOf s a.port).cls 3 []), false) := by
  rw [serveBatch, if_neg (by simp [hok])]
  cases hb : batchReplied a l <;> simp [replied]

theorem serveFrame_batch (hv : verOk s 3 = true) : serveFrame s a (.batch stop l) = serveBatch s a (.batch stop l) stop l := by
  simp [serveFrame, frameVer, hv]

/-- A batch is answered where it was not sent to every module and, asking for no reply, holds a READ (R700). -/
theorem batchReplied_of (hb : broadcast a = false) (hr : a.noReply = false ∨ ∃ y ∈ l, y.write = false) :
    batchReplied a l = true := by
  rcases hr with hr | ⟨y, hy, hw⟩
  · simp [batchReplied, hb, hr]
  · have : l.all (fun it => it.write) = false := List.all_eq_false.2 ⟨y, hy, by simp [hw]⟩
    simp [batchReplied, hb, this]

end

/-- The well-formed READ item in front of a batch gives the first item of its reply (R54, R55). -/
theorem first_item_reply3 (s : State) (a : Arrival) (n cls c code : Nat) {x : BatchItem} (hx : x.wf = true) (d more : Bytes)
    (hc : code < 64) :
    let f := reply3 s a n cls c (replyItem 0x81 x.index x.sub code d ++ more)
    byteAt f 24 = 0x81 ∧ byteAt f 25 = x.sub ∧ fieldAt f 26 2 = x.index ∧ fieldAt f 28 2 = code := by
  simp only [BatchItem.wf, addrWf, Bool.and_eq_true, decide_eq_true_eq] at hx
  obtain ⟨⟨⟨hi, hs⟩, -⟩, -⟩ := hx
  refine ⟨?_, ?_, ?_, ?_⟩
  · exact (byteAt_reply3 (off := 0) ..).trans (kind_replyItem ..)
  · exact (byteAt_reply3 (off := 1) ..).trans ((sub_replyItem ..).trans (Nat.mod_eq_of_lt hs))
  · exact (fieldAt_reply3 (off := 2) (n := 2) ..).trans ((index_replyItem ..).trans (Nat.mod_eq_of_lt hi))
  · exact (fieldAt_reply3 (off := 4) (n := 2) ..).trans ((code_replyItem ..).trans (Nat.mod_eq_of_lt (by omega)))

/-- Settles O12: a batch of reads runs its items in order and changes nothing but for its reply; a batch that is not well
formed is not run. -/
theorem batchRunsItsItems : Obligations.BatchRunsItsItems := by
  intro s a stop x rest h h3 hwf
  obtain ⟨hs, haw, hu, hn, hv⟩ := serves_of_frameServed h
  rw [h3] at hv
  have htag : a.tag % 65536 = a.tag := Nat.mod_eq_of_lt ((tag_of_wf haw).trans_le (by split <;> omega))
  refine ⟨fun hok hl => ?_, fun items hok => ?_⟩
  · have hlen : x.len ≤ 1024 ∧ rest.length + 1 ≤ 64 := by
      have hx := hl x List.mem_cons_self
      simp only [batchOk, Bool.and_eq_true, decide_eq_true_eq, List.all_cons, hx, Bool.false_eq_true, if_false,
        List.length_cons] at hok
      exact ⟨hok.2.1, hok.1.1.2⟩
    cases hb : broadcast a
    · obtain ⟨n, more, c, h1, hle, hrun⟩ := runItems_first (s := s) (stop := stop) hb hlen.1 hl
      have hsf := (serveFrame_batch hv).trans (serveBatch_run hok (.batch stop (x :: rest)) hrun)
      obtain ⟨t, ht, g⟩ := hs.took_frameIn hu hn hsf (frame_replied ..) (by decide)
      have hcount : n % 256 = n := Nat.mod_eq_of_lt (by omega)
      have hsil : (!batchReplied a (x :: rest)) = false := by
        rw [batchReplied_of hb (.inr ⟨x, List.mem_cons_self, hl x List.mem_cons_self⟩)]; rfl
      refine ⟨t, ht, Frame.of_replied (.refl [] [] s) g, fun _ => ⟨_, repliedOn_replied (.refl [] [] s) (by simp) g hsil,
        version_reply3 .., kind_reply3 .., (tag_reply3 ..).trans htag, ?_, ?_,
        first_item_reply3 _ _ _ _ _ _ (hwf x List.mem_cons_self) _ _ (readCode_lt ..)⟩⟩
      · rw [count_reply3, hcount]; exact h1
      · rw [count_reply3, hcount]; exact hle
    · have hrun := runItems_reads_silent (s := s) (stop := stop) (done := 0) (code := 0) (items := []) hb hl
      have hsf := (serveFrame_batch hv).trans (serveBatch_run hok (.batch stop (x :: rest)) hrun)
      obtain ⟨t, ht, g⟩ := hs.took_frameIn hu hn hsf (frame_replied ..) (by decide)
      exact ⟨t, ht, Frame.of_replied (.refl [] [] s) g, fun hf => absurd hf (by decide)⟩
  · have hsf := (serveFrame_batch hv).trans (serveBatch_malformed (s := s) (a := a) (stop := stop) hok (.batch stop items))
    obtain ⟨t, ht, g⟩ := hs.took_frameIn hu hn hsf (frame_replied ..) (by decide)
    refine ⟨t, ht, Frame.of_replied (.refl [] [] s) g, fun hb hr => ⟨_, repliedOn_replied (.refl [] [] s) (by simp) g ?_,
      version_reply3 .., count_reply3 .., status_reply3 (h := by omega) ..⟩⟩
    rw [batchReplied_of hb hr]; rfl

/-! ### A wrong key -/

section
variable {s : State} {v : Via} {i sub : Nat} {d : Bytes}

theorem serves_of_reaches (h : Reaches s v i sub d) : Serves s := by
  obtain ⟨h1, h2, h3, h4, -⟩ := h
  exact ⟨h1, h2, h3, h4⟩

theorem took_writeVia {ks : List Nat} {ps : List Part} {w : State} (h : Reaches s v i sub d)
    (h1 : serve1 s (reqOf v i sub d) = (w, false)) (hw : Frame ks ps s w) (hp : Part.pwr ∉ ps) :
    ∃ t, took s (fun s => writeVia s v i sub d) = .next t ∧ Frame [] [.mgmt] w t :=
  (serves_of_reaches h).took_serve (writeVia_serve h) h1 hw hp

/-- A BAR2 write that is refused leaves what its refusal does, counted and recorded (R73). -/
theorem serve1_bar2_refused {pf code : Nat} {u : State} (h : Reaches s (.bar2 pf) i sub d)
    (hw : writeObj s (askerPf s pf) false false i sub 0 d = (code, u, false)) (hc : code ≠ 0) :
    serve1 s (reqOf (.bar2 pf) i sub d) = (barReject u K.BAR_WR_REJECT i sub code, false) := by
  simp [reqOf, serve1, serveBar2Write_whole h, barCommit, hw, hc]

/-- A rejected access is recorded in three objects (R73). -/
theorem frame_barReject {ks : List Nat} {ps : List Part} {u : State} {c : Nat} (h : Frame ks ps s u) (code : Nat)
    (hc : c ∈ ks) (hl : K.BAR_LAST ∈ ks ∧ K.BAR_LAST_CODE ∈ ks) : Frame ks ps s (barReject u c i sub code) := by
  refine frame_setNums (frame_inc h (.inl hc)) _ fun p hp => .inl ?_
  simp only [List.mem_cons, List.not_mem_nil, or_false] at hp
  rcases hp with rfl | rfl
  · exact hl.1
  · exact hl.2

theorem num_barReject (u : State) (c code j : Nat) : (barReject u c i sub code).num j =
    if j = K.BAR_LAST_CODE then code else if j = K.BAR_LAST then i * 256 + sub else (u.inc c).num j := by
  simp only [barReject, setNums_cons, setNums_nil, num_setNum]

end

/-- What a wrong key leaves (R107). -/
def wrongKey (s : State) : State := (s.inc K.KEY_FAILS).raise 0x7F

theorem frame_wrongKey (s : State) : Frame [K.KEY_FAILS] [.arrived] s (wrongKey s) :=
  frame_raise (frame_inc (.refl ..) (.inl (by simp))) _ (.inr (by simp))

theorem row_keyUnlock : rowOf 0x1201 1 = ⟨1, 1, .u16, .wo, 0, false, 0xffff, 0, .any, 0⟩ := by decide

/-- Any other value than 0x7A1C is refused with code 6 (R107). -/
theorem lateCode_wrongKey {s : State} {frame : Bool} {n : Nat} (hn : n < 65536) (hk : n ≠ 0x7A1C) :
    lateCode s frame 0x1201 1 0 (leBytes 2 n) = 6 := by
  have hv : leNat (leBytes 2 n) = n := by rw [leNat_leBytes]; exact Nat.mod_eq_of_lt hn
  have hw : widthOk s frame 0x1201 1 0 2 = true := by simp [widthOk, row_keyUnlock, Ty.size]
  simp [lateCode, leBytes_length, hw, hv, hk, objKey]

/-- A write of another value than 0x7A1C to KEY_UNLOCK is counted and raised. -/
theorem writeObj_wrongKey {s : State} {q : Asker} {frame v1 : Bool} {n : Nat} (hn : n < 65536) (hk : n ≠ 0x7A1C)
    (hg : gateCode s q v1 0x1201 1 = 0) : writeObj s q frame v1 0x1201 1 0 (leBytes 2 n) = (6, wrongKey s, false) := by
  have hl := lateCode_wrongKey (s := s) (frame := frame) hn hk
  have hr : refusedEffect s 0x1201 1 (leBytes 2 n) 6 = wrongKey s := by
    simp [refusedEffect, objKey, wrongKey]
  simp [writeObj, hg, row_keyUnlock, Acc.isKey, hl, hr]

/-- Settles O21: a wrong key is refused by the one write that carries it, which counts it and raises its fault. -/
theorem wrongKeyRaisesAFault : Obligations.WrongKeyRaisesAFault := by
  intro s v n h hn hk hg
  have hu := frame_wrongKey s
  have hfails : (wrongKey s).num K.KEY_FAILS = inc32 (s.num K.KEY_FAILS) := by simp [wrongKey]
  cases v with
  | frame a =>
    have hw := writeObj_wrongKey (frame := true) hn hk hg
    rw [show askerVia s (.frame a) = askerOf s a.port from rfl, show viaV1 (.frame a) = (a.ver == 1) from rfl] at hw
    have hv := verOk_of_reaches h
    obtain ⟨w, hf, hsf⟩ := serveFrame_write (off := 0) hv (writeLenOk_of_reaches h) (by rw [ite_self]; exact hw)
    have hs := hu.trans (hf.mono (by simp) (by simp))
    obtain ⟨t, ht, g⟩ := took_writeVia h hsf (Frame.of_replied hs (.refl ..)) (by decide)
    have gu := Frame.of_replied hf g
    refine ⟨t, ht, (gu.num_eq (by simp) (by decide)).trans hfails, by rw [gu.flt (by decide)]; rfl, ?_, by rintro _ ⟨⟩⟩
    rintro _ ⟨⟩ hwf
    refine ⟨Frame.of_replied hs g, fun hb hr => ⟨_, repliedOn_replied hs (by simp) g ?_,
      repliedWith_answer _ _ _ _ hwf hv (by omega) w⟩⟩
    have hver := ver_of_verOk hv
    rcases hr.imp_right fun hr => show a.ver = 1 by omega with hr | hr <;> simp [writeSilent, hb, hr]
  | bar2 pf =>
    have hs1 := serve1_bar2_refused h (writeObj_wrongKey (frame := false) hn hk hg) (by omega)
    have hu' := hu.mono (ks' := [K.KEY_FAILS, K.BAR_LAST, K.BAR_LAST_CODE, K.BAR_WR_REJECT]) (by simp) (fun _ p => p)
    have hr := frame_barReject hu' (c := K.BAR_WR_REJECT) (i := 0x1201) (sub := 1) 6 (by simp) (by simp)
    obtain ⟨t, ht, g⟩ := took_writeVia h hs1 hr (by decide)
    have gn (k : Nat) := g.num_eq (k := k) (by simp) (by decide)
    refine ⟨t, ht, (gn _).trans (by simp [num_barReject, hfails]), by rw [g.flt (by decide)]; rfl,
      by rintro _ ⟨⟩, fun _ _ => ⟨(gn _).trans (by simp [num_barReject]), (gn _).trans (by simp [num_barReject]),
      (gn _).trans (by simp [num_barReject, wrongKey]), ?_⟩⟩
    exact (hr.mono (fun _ k => k) (by simp)).trans (g.mono (by simp) (by simp [answered]))

end Sys2Proof.Machine

/-! PROOFS. The functions' registers: the ring registers (O13), command fetches (O14), reply writes (O15) and function-level
reset (O17). -/

namespace Sys2Proof.Machine

/-! ### The registers of the two functions -/

section
variable {s t : State} {pf : Nat}

theorem pf_setPf_same (x : PcieFn) : (s.setPf pf x).pf pf = x := by
  unfold State.setPf State.pf
  split <;> rfl

theorem pf_setPf_other (x : PcieFn) (hpf : pf < 2) : (s.setPf pf x).pf (1 - pf) = s.pf (1 - pf) := by
  have : pf = 0 ∨ pf = 1 := by omega
  rcases this with rfl | rfl <;> rfl

theorem pf_emit (o : Out) (n : Nat) : (s.emit o).pf n = s.pf n := rfl
theorem pf_setMgmt (m : Mgmt) (n : Nat) : (s.setMgmt m).pf n = s.pf n := rfl
theorem mgmt_setPf (x : PcieFn) : (s.setPf pf x).mgmt = s.mgmt := by unfold State.setPf; split <;> rfl
theorem pwr_setPf (x : PcieFn) : (s.setPf pf x).pwr = s.pwr := by unfold State.setPf; split <;> rfl
theorem out_setPf (x : PcieFn) : (s.setPf pf x).out = s.out := by unfold State.setPf; split <;> rfl
theorem num_setPf (x : PcieFn) (k : Nat) : (s.setPf pf x).num k = s.num k := by unfold State.setPf; split <;> rfl
theorem flt_setPf (x : PcieFn) : (s.setPf pf x).flt = s.flt := by unfold State.setPf; split <;> rfl
theorem flag_setPf (x : PcieFn) (k i : Nat) : (s.setPf pf x).flag k i = s.flag k i := by unfold State.flag; rw [num_setPf]

/-- What a frame says of a function's registers. -/
theorem Frame.pf_same {ks : List Nat} {ps : List Part} (h : Frame ks ps s t) (hp : Part.fns ∉ ps) (n : Nat) :
    (s.pf n).Same (ps.contains .replies) (t.pf n) := by
  unfold State.pf
  split
  · exact h.pf0 hp
  · exact h.pf1 hp

/-- A command that takes effect leaves each function's registers as its effect does, but for ATTN. -/
theorem took_pf {ks : List Nat} {ps : List Part} {x : PcieFn} {f : State → State} (hs : s.pwr.stopped = false)
    (hx : (f s).pf pf = x) (ho : (f s).pf (1 - pf) = s.pf (1 - pf)) (hf : Frame ks ps s (f s)) :
    ∃ t, took s f = .next t ∧ Frame [] [] (f s) t ∧ x.Same false (t.pf pf) ∧
      (s.pf (1 - pf)).Same false (t.pf (1 - pf)) ∧ Frame ks ps s t := by
  obtain ⟨t, ht, g⟩ := took_next f hs
  have h0 := g [] []
  exact ⟨t, ht, h0, hx ▸ h0.pf_same (by simp) pf, ho ▸ h0.pf_same (by simp) (1 - pf), hf.trans (g ks ps)⟩

/-- An effect on one function's registers alone. -/
theorem took_setPf {x : PcieFn} {f : State → State} (hs : s.pwr.stopped = false) (hpf : pf < 2) (hf : f s = s.setPf pf x) :
    ∃ t, took s f = .next t ∧ x.Same false (t.pf pf) ∧ (s.pf (1 - pf)).Same false (t.pf (1 - pf)) ∧
      Frame [] [.fns] s t := by
  obtain ⟨t, ht, -, h1, h2, h3⟩ := took_pf (f := f) (ks := []) (ps := [.fns]) hs (by rw [hf, pf_setPf_same])
    (by rw [hf, pf_setPf_other x hpf]) (by rw [hf]; exact frame_setPf (.refl ..) _ _ (.inl (by simp)))
  exact ⟨t, ht, h1, h2, h3⟩

/-! ### Replies that are discarded -/

theorem pf_muteRing_same : (muteRing s pf).pf pf = { s.pf pf with replies := [] } := by
  simp only [muteRing, pf_setMgmt, pf_setPf_same]

theorem pf_muteRing_other (hpf : pf < 2) : (muteRing s pf).pf (1 - pf) = s.pf (1 - pf) := by
  simp only [muteRing, pf_setMgmt, pf_setPf_other _ hpf]

theorem mgmt_muteRing :
    ∃ m, (muteRing s pf).mgmt = { s.mgmt with mute0 := m } ∨ (muteRing s pf).mgmt = { s.mgmt with mute1 := m } := by
  simp only [muteRing, mgmt_setMgmt, mgmt_setPf]
  split
  · exact ⟨_, .inl rfl⟩
  · exact ⟨_, .inr rfl⟩

theorem frame_muteRing : Frame [] [.fns, .mgmt] s (muteRing s pf) :=
  frame_setMgmt (frame_setPf (.refl ..) _ _ (.inl (by simp))) _ (by simp)

end

/-- Settles O17: the reset discards the function's replies and puts its registers at their reset values. -/
theorem functionLevelResetClearsOneFunction : Obligations.FunctionLevelResetClearsOneFunction := by
  intro s pf hs hpf hd
  have he : functionReset s pf = (muteRing s pf).setPf pf { PcieFn.init (s.pf pf).cls with attn := (s.pf pf).attn } :=
    if_neg (by omega)
  obtain ⟨t, ht, -, h1, h2, h3⟩ := took_pf (f := fun s => functionReset s pf) (ks := []) (ps := [.fns, .mgmt]) hs
    (by rw [he, pf_setPf_same]) (by rw [he, pf_setPf_other _ hpf, pf_muteRing_other hpf])
    (by rw [he]; exact frame_setPf frame_muteRing _ _ (.inl (by simp)))
  refine ⟨t, ht, ?_, h2, h3⟩
  exact PcieFn.Same.trans (y := { PcieFn.init (s.pf pf).cls with attn := (s.pf pf).attn }) rfl h1

/-! ### Ring registers -/

section
variable {s : State} {pf off v : Nat}

theorem fieldAt_leBytes (n : Nat) : fieldAt (leBytes n v) 0 n = v % 256 ^ n := by
  rw [fieldAt, List.drop_zero, List.take_of_length_le (leBytes_length n v).le, leNat_leBytes]

/-- A write of one word of BAR0 is done, or dropped and counted (R68–R70). -/
theorem bar0Write_word (ho : barOpen s = true) (hpf : pf < 2) (ha : off % 4 = 0) (hv : v < 2 ^ 32) {refused : Bool} {u : State}
    (h : bar0Put s pf off v = (refused, u)) :
    bar0Write s pf off (leBytes 4 v) = if refused then u.inc K.BAR_WR_REJECT else u := by
  have hval : fieldAt (leBytes 4 v) 0 4 = v := (fieldAt_leBytes 4).trans (Nat.mod_eq_of_lt hv)
  have hal : bar0Aligned off 4 = true := by simp [bar0Aligned, ha]
  have h2 : ¬ 2 ≤ pf := by omega
  simp [bar0Write, ho, h2, leBytes_length, hal, bar0RunHalt, hval, h]

theorem bar0Put_cmdTail (h : v < 2 ^ (s.pf pf).cmdSize) :
    bar0Put s pf 0x100C v = (false, s.setPf pf { s.pf pf with cmdTail := v, stopped := false }) := by
  simp [bar0Put, bar0Action, bar0Reg, ringSlots, Nat.not_le.2 h]

theorem bar0Put_cmdTail_beyond (h : 2 ^ (s.pf pf).cmdSize ≤ v) : bar0Put s pf 0x100C v = (true, s) := by
  simp [bar0Put, bar0Action, bar0Reg, ringSlots, h]

theorem bar0Put_rplTail (h : v < 2 ^ (s.pf pf).rplSize) :
    bar0Put s pf 0x1024 v = (false, s.setPf pf { s.pf pf with rplTail := v }) := by
  simp [bar0Put, bar0Action, bar0Reg, ringSlots, Nat.not_le.2 h]

theorem bar0Put_rplTail_beyond (h : 2 ^ (s.pf pf).rplSize ≤ v) : bar0Put s pf 0x1024 v = (true, s) := by
  simp [bar0Put, bar0Action, bar0Reg, ringSlots, h]

theorem bar0Put_ringCtrl : bar0Put s pf 0x1038 v = (false, ringCtrlSet s pf v) := by
  simp [bar0Put, bar0Action, bar0Reg]

/-- A write that is dropped is counted and does nothing else (R98). -/
theorem took_rejected {f : State → State} (hs : s.pwr.stopped = false) (hf : f s = s.inc K.BAR_WR_REJECT) :
    ∃ t, took s f = .next t ∧ t.num K.BAR_WR_REJECT = inc32 (s.num K.BAR_WR_REJECT) ∧ Frame [K.BAR_WR_REJECT] [] s t := by
  obtain ⟨t, ht, g⟩ := took_next f hs
  rw [hf] at g
  refine ⟨t, ht, ((g [] []).num_eq (by simp) (by simp)).trans (by simp), ?_⟩
  exact (frame_inc (.refl ..) (.inl (by simp))).trans (g _ _)

theorem bit_zero_mod_four : bit (v % 4) 0 = bit v 0 := by
  simp only [bit, Nat.testBit_zero, Nat.mod_mod_of_dvd v (show 2 ∣ 4 by decide)]

/-- A write of RING_CTRL that leaves the ring enabled, or disabled (R69). -/
theorem ringCtrlSet_keeps (h : bit (s.pf pf).ringCtrl 0 = false ∨ bit v 0 = true) :
    ringCtrlSet s pf v = s.setPf pf { s.pf pf with ringCtrl := v % 4 } := by
  rw [ringCtrlSet, bit_zero_mod_four]
  rcases h with h | h <;> simp [h]

/-- A write of RING_CTRL that disables the ring (R69). -/
theorem ringCtrlSet_disables (h : bit (s.pf pf).ringCtrl 0 = true) (h0 : bit v 0 = false) :
    ringCtrlSet s pf v = (muteRing s pf).setPf pf { s.pf pf with
      ringCtrl := v % 4, cmdTail := 0, cmdHead := 0, rplTail := 0, rplHead := 0, replies := [], stopped := false } := by
  rw [ringCtrlSet, bit_zero_mod_four]
  simp [h, h0, pf_muteRing_same]

end

/-- Settles O13: each register is one word, which is set, or dropped and counted; RING_CTRL clears the ring where ENABLE
falls. -/
theorem ringRegisterWrites : Obligations.RingRegisterWrites := by
  intro s pf v hs ho hpf hv
  have hword {off : Nat} {refused : Bool} {u : State} (h4 : off % 4 = 0) (h : bar0Put s pf off v = (refused, u)) :=
    bar0Write_word ho hpf h4 hv h
  refine ⟨fun h => ?_, fun h => ?_, fun h => ?_, fun h => ?_, fun h h0 => ?_, fun h => ?_⟩
  · exact took_setPf (f := fun s => bar0Write s pf 0x100C (leBytes 4 v)) hs hpf (hword (by omega) (bar0Put_cmdTail h))
  · exact took_rejected (f := fun s => bar0Write s pf 0x100C (leBytes 4 v)) hs (hword (by omega) (bar0Put_cmdTail_beyond h))
  · exact took_setPf (f := fun s => bar0Write s pf 0x1024 (leBytes 4 v)) hs hpf (hword (by omega) (bar0Put_rplTail h))
  · exact took_rejected (f := fun s => bar0Write s pf 0x1024 (leBytes 4 v)) hs (hword (by omega) (bar0Put_rplTail_beyond h))
  · have hctl := (hword (by omega) bar0Put_ringCtrl).trans (ringCtrlSet_disables h h0)
    obtain ⟨t, ht, g, h1, h2, h3⟩ := took_pf (f := fun s => bar0Write s pf 0x1038 (leBytes 4 v)) (ks := [])
      (ps := [.fns, .mgmt]) hs (by rw [hctl, pf_setPf_same]) (by rw [hctl, pf_setPf_other _ hpf, pf_muteRing_other hpf])
      (by rw [hctl]; exact frame_setPf frame_muteRing _ _ (.inl (by simp)))
    refine ⟨t, ht, h1, h2, h3, ?_⟩
    rw [g.mgmt (by simp), hctl, mgmt_setPf]
    exact mgmt_muteRing
  · exact took_setPf (f := fun s => bar0Write s pf 0x1038 (leBytes 4 v)) hs hpf
      ((hword (by omega) bar0Put_ringCtrl).trans (ringCtrlSet_keeps h))

/-! ### Replies to the ring -/

section
variable {s : State} {pf : Nat}

/-- An MSI-X vector changes nothing of the functions but a pending bit (R67). -/
theorem pf_msix (hpf : pf < 2) (v n : Nat) : (s.pf n).Same false ((s.msix pf v).pf n) := by
  have h2 : pf = 0 ∨ pf = 1 := by omega
  unfold State.msix
  split
  · exact .refl ..
  · split
    · rcases h2 with rfl | rfl <;> by_cases hn : n = 0 <;> simp [State.pf, State.setPf, hn, PcieFn.Same]
    · exact .refl ..

theorem frame_msix {ks : List Nat} {ps : List Part} {a : State} (h : Frame ks ps a s) (v : Nat) (hf : Part.fns ∈ ps)
    (ho : Part.out ∈ ps) : Frame ks ps a (s.msix pf v) := by
  unfold State.msix
  exact h.ite ((frame_setPf h _ _ (.inl hf)).ite (frame_emit h _ ho))

/-- What a reply without a PAD leaves, before its MSI-X vector (R62, R65): two posted writes, and the reply gone. -/
def replyPosted (s : State) (pf : Nat) (f : Bytes) (rest : List Bytes) (head : Nat) : State :=
  (((s.emit (.hostWrite pf ((s.pf pf).rplBase + 64 * (s.pf pf).rplHead) f)).setPf pf
    { s.pf pf with rplHead := head, replies := rest })).emit (.hostWrite pf (s.pf pf).rplWb (leBytes 4 head))

theorem replyWrite_posts {f : Bytes} {rest : List Bytes} (hpf : pf < 2) (hup : s.flag K.READY 6 = true)
    (he : bit (s.pf pf).ringCtrl 0 = true) (hr : (s.pf pf).replies = f :: rest) (hroom : replyRoom (s.pf pf) f = true)
    (hpad : (replyNeed (s.pf pf) f).1 = 0) :
    let u := replyPosted s pf f rest (((s.pf pf).rplHead + ceilDiv f.length 64) % 2 ^ (s.pf pf).rplSize)
    replyWrite s pf = if bit (s.pf pf).ringCtrl 1 then u.msix pf 1 else u := by
  have h2 : (replyNeed (s.pf pf) f).2 = ceilDiv f.length 64 := rfl
  have hc : ¬(2 ≤ pf ∨ (!s.flag K.READY 6) = true ∨ (!bit (s.pf pf).ringCtrl 0) = true ∨
      (!replyRoom (s.pf pf) f) = true) := by
    simp [hup, he, hroom, hpf]
  simp only [replyWrite, hr, if_neg hc, hpad, if_true, h2, replyPosted, ringSlots]

theorem out_replyPosted (f : Bytes) (rest : List Bytes) (head : Nat) : (replyPosted s pf f rest head).out = s.out ++
    [.hostWrite pf ((s.pf pf).rplBase + 64 * (s.pf pf).rplHead) f, .hostWrite pf (s.pf pf).rplWb (leBytes 4 head)] := by
  simp [replyPosted, out_setPf]

theorem frame_replyPosted (f : Bytes) (rest : List Bytes) (head : Nat) :
    Frame [] [.fns, .out] s (replyPosted s pf f rest head) :=
  frame_emit (frame_setPf (frame_emit (.refl ..) _ (by simp)) _ _ (.inl (by simp))) _ (by simp)

theorem replyWrite_waits {f : Bytes} {rest : List Bytes} (hr : (s.pf pf).replies = f :: rest)
    (hroom : replyRoom (s.pf pf) f = false) : replyWrite s pf = s := by
  simp [replyWrite, hr, hroom]

end

/-- Settles O15: the reply is posted, then the new head, and the reply leaves the queue; without room nothing happens. -/
theorem replyWriteGoesToTheRing : Obligations.ReplyWriteGoesToTheRing := by
  intro s pf f rest hs hpf hup he hr
  refine ⟨fun hroom hpad => ?_, fun hroom => ?_⟩
  · have hw := replyWrite_posts hpf hup he hr hroom hpad
    dsimp only at hw ⊢
    generalize ((s.pf pf).rplHead + ceilDiv f.length 64) % 2 ^ (s.pf pf).rplSize = head at hw ⊢
    have hu := frame_replyPosted (s := s) (pf := pf) f rest head
    have hsame (n : Nat) : ((replyPosted s pf f rest head).pf n).Same false ((replyWrite s pf).pf n) := by
      rw [hw]
      split
      · exact pf_msix hpf 1 n
      · exact .refl ..
    have hframe : Frame [] [.fns, .out] s (replyWrite s pf) := by
      rw [hw]
      exact (frame_msix hu 1 (by simp) (by simp)).ite hu
    have hsent : (replyPosted s pf f rest head).out <+: (replyWrite s pf).out := by
      rw [hw]
      exact ((keeps_msix (.refl _) pf 1).ite (.refl _)).sent
    obtain ⟨t, ht, g⟩ := took_next (fun s => replyWrite s pf) hs
    have ht0 := g [] []
    have hx : { s.pf pf with rplHead := head, replies := rest : PcieFn }.Same false (t.pf pf) := by
      have := (hsame pf).trans (ht0.pf_same (by simp) pf)
      rwa [replyPosted, pf_emit, pf_setPf_same] at this
    have ho : (s.pf (1 - pf)).Same false (t.pf (1 - pf)) := by
      have := (hsame (1 - pf)).trans (ht0.pf_same (by simp) (1 - pf))
      rwa [replyPosted, pf_emit, pf_setPf_other _ hpf, pf_emit] at this
    refine ⟨t, ht, hx.rplHead, hx.replies, ?_, ho, hframe.trans (g _ _)⟩
    rw [← out_replyPosted]
    exact hsent.trans (ht0.out (by simp)).isPrefix
  · obtain ⟨t, ht, g⟩ := took_next (fun s => replyWrite s pf) hs
    rw [replyWrite_waits hr hroom] at g
    exact ⟨t, ht, g [] [], ((g [] []).pf_same (by simp) pf).replies.trans hr⟩
/-! ### Command fetches -/

theorem leNat_lt (d : Bytes) : leNat d < 256 ^ d.length := by
  induction d with
  | nil => simp [leNat]
  | cons b r ih =>
    have hb := b.isLt
    simp only [leNat, List.length_cons, Nat.pow_succ]
    omega

theorem fieldAt_lt (d : Bytes) (off n : Nat) : fieldAt d off n < 256 ^ n :=
  (leNat_lt _).trans_le (Nat.pow_le_pow_right (by omega) (by simp))

section
variable {f : Bytes}

/-- The arrival of a frame of version 2 (R48). -/
theorem arrivalOf_two (p : Port) (mac : Nat) (vlan : Option Nat) (h0 : byteAt f 0 = 2) : arrivalOf p mac vlan f =
    ⟨p, 2, fieldAt f 2 2, fieldAt f 6 2, fieldAt f 4 2, bit (byteAt f 11) 0, mac, vlan⟩ := by
  simp [arrivalOf, h0]

/-- What a sound READ frame of version 2 asks for (R48, R50). -/
theorem askOf_read (h0 : byteAt f 0 = 2) (h1 : byteAt f 1 = 1) :
    askOf f true = .read (fieldAt f 8 2) (byteAt f 10) (fieldAt f 12 2) (fieldAt f 14 2) := by
  simp [askOf, h0, h1]

theorem impliedLen_read (h0 : byteAt f 0 = 2) (h1 : byteAt f 1 = 1) : impliedLen f = 16 := by
  simp [impliedLen, h0, h1]

end

/-- The reply to a READ of version 2 (R49). -/
theorem readAnswer_two {s : State} {a : Arrival} (h2 : a.ver = 2) (i sub off len : Nat) :
    byteAt (readAnswer s a i sub off len) 0 = 2 ∧ byteAt (readAnswer s a i sub off len) 1 = 0x81 ∧
      replyTag 2 (readAnswer s a i sub off len) = a.tag % 65536 := by
  simp only [readAnswer, answer, h2, Nat.reduceEqDiff, if_false]
  exact ⟨version_reply2 .., kind_reply2 .., tag_reply2 ..⟩

/-- One slot of an enabled command ring waits to be fetched (R63). -/
structure OneWaits (x : PcieFn) : Prop where
  enabled : bit x.ringCtrl 0 = true
  going : x.stopped = false
  inRing : x.cmdHead < 2 ^ x.cmdSize
  next : x.cmdTail = (x.cmdHead + 1) % 2 ^ x.cmdSize
  waits : x.cmdHead ≠ x.cmdTail

theorem OneWaits.next_slot {x : PcieFn} (h : OneWaits x) : (x.cmdHead + 1) % ringSlots x.cmdSize = x.cmdTail := h.next.symm

theorem OneWaits.cmdAvail {x : PcieFn} (h : OneWaits x) : cmdAvail x = 1 := by
  have hn := h.next
  have hlt := h.inRing
  unfold Machine.cmdAvail ringSlots
  by_cases hw : x.cmdHead + 1 < 2 ^ x.cmdSize
  · rw [Nat.mod_eq_of_lt hw] at hn
    rw [if_pos (by omega)]
    omega
  · rw [show x.cmdHead + 1 = 2 ^ x.cmdSize by omega, Nat.mod_self] at hn
    have := h.waits
    rw [if_neg (by omega)]
    omega

section
variable {s : State} {pf : Nat} {d : Bytes}

/-- The function's registers once the waiting slot has been taken. -/
def slotTaken (s : State) (pf : Nat) : State := s.setPf pf { s.pf pf with cmdHead := (s.pf pf).cmdTail }

/-- Nothing is fetched without a slot's bytes. -/
theorem fetchLoop_nil (n : Nat) : fetchLoop pf n s [] = s := by
  cases n with
  | zero => rfl
  | succ n => simp [fetchLoop]

/-- A waiting slot that holds a PAD is passed over (R62). -/
theorem fetchLoop_pad (h : OneWaits (s.pf pf)) (hr : replyStuck (s.pf pf) = false) (hd : d.length = 64) (h0 : byteAt d 0 = 2)
    (h1 : byteAt d 1 = 0) (n : Nat) : fetchLoop pf (n + 1) s d = slotTaken s pf := by
  have hdrop : d.drop 64 = [] := List.drop_eq_nil_of_le hd.le
  simp [fetchLoop, h.enabled, h.going, h.waits, hr, hd, h0, h1, h.cmdAvail, hdrop, fetchLoop_nil, slotTaken, h.next_slot]

/-- A waiting slot that holds one READ frame is fetched, and the frame arrives (R63). -/
theorem fetchLoop_read (h : OneWaits (s.pf pf)) (hr : replyStuck (s.pf pf) = false) (hd : d.length = 64) (h0 : byteAt d 0 = 2)
    (h1 : byteAt d 1 = 1) (n : Nat) : fetchLoop pf (n + 1) s d =
      frameIn (slotTaken s pf) (arrivalOf (pfPort pf) 0 none d)
        (.read (fieldAt d 8 2) (byteAt d 10) (fieldAt d 12 2) (fieldAt d 14 2)) := by
  have htake : d.take 64 = d := List.take_of_length_le hd.le
  have hdrop : d.drop 64 = [] := List.drop_eq_nil_of_le hd.le
  have hask := askOf_read h0 h1
  simp [fetchLoop, h.enabled, h.going, h.waits, hr, hd, h0, h1, h.cmdAvail, hdrop, htake, impliedLen_read h0 h1, hask,
    fetchLoop_nil, slotTaken, h.next_slot, ceilDiv]

theorem portUp_pfPort (hup : s.flag K.READY 6 = true) : portUp s (pfPort pf) = true := by
  unfold pfPort
  split <;> exact hup

theorem isNet_pfPort : isNet (pfPort pf) = false := by
  unfold pfPort
  split <;> rfl

/-- A reply to a function whose ring is enabled, and whose replies are not discarded, joins its queue (R66, R69). -/
theorem sendReply_pf {a : Arrival} (hpf : pf < 2) (hp : a.port = pfPort pf) (he : bit (s.pf pf).ringCtrl 0 = true)
    (hm : (if pf = 0 then s.mgmt.mute0 else s.mgmt.mute1) = 0) (f : Bytes) :
    sendReply s a f = s.setPf pf { s.pf pf with replies := (s.pf pf).replies ++ [f] } := by
  have h2 : pf = 0 ∨ pf = 1 := by omega
  rcases h2 with rfl | rfl
  · simp_all [sendReply, pfPort, State.pf]
  · simp_all [sendReply, pfPort, State.pf]

end

theorem serves_slotTaken {s : State} {pf : Nat} (h : Serves s) : Serves (slotTaken s pf) := by
  have hserving : serving (slotTaken s pf) = serving s := by simp only [serving, slotTaken, flag_setPf, pwr_setPf]
  refine ⟨?_, hserving.trans h.serving, ?_, ?_⟩
  · rw [slotTaken, pwr_setPf]; exact h.running
  · rw [slotTaken, mgmt_setPf]; exact h.free
  · rw [slotTaken, pwr_setPf]; exact h.staysUp

theorem setPf_setPf {s : State} {pf : Nat} (x y : PcieFn) : (s.setPf pf x).setPf pf y = s.setPf pf y := by
  by_cases h : pf = 0 <;> simp [State.setPf, h]

theorem commandFetch_eq {s : State} {pf : Nat} (hpf : pf < 2) (hup : s.flag K.READY 6 = true) (d : Bytes) :
    commandFetch s pf d = fetchLoop pf 4096 s d := if_pos ⟨hpf, hup⟩

/-- A READ fetched from a slot is served as any other, and its reply joins the function's queue (R63, R66). -/
theorem commandFetch_read {s : State} {pf : Nat} {d : Bytes} (hs : Serves s) (hpf : pf < 2) (hup : s.flag K.READY 6 = true)
    (hw : OneWaits (s.pf pf)) (hr : replyStuck (s.pf pf) = false) (hd : d.length = 64) (h0 : byteAt d 0 = 2)
    (h1 : byteAt d 1 = 1) (hl : fieldAt d 14 2 ≤ 1024) (hver : s.flag K.VER_ENABLE 1 = true)
    (hm : (if pf = 0 then s.mgmt.mute0 else s.mgmt.mute1) = 0) :
    ∃ f, byteAt f 0 = 2 ∧ byteAt f 1 = 0x81 ∧ replyTag 2 f = fieldAt d 2 2 ∧
      Frame [] [.mgmt] (s.setPf pf { s.pf pf with cmdHead := (s.pf pf).cmdTail, replies := (s.pf pf).replies ++ [f] })
        (commandFetch s pf d) := by
  have harr := arrivalOf_two (pfPort pf) 0 none h0
  have hfetch := (commandFetch_eq hpf hup d).trans (fetchLoop_read hw hr hd h0 h1 4095)
  generalize arrivalOf (pfPort pf) 0 none d = a at hfetch harr
  have hport : a.port = pfPort pf := by rw [harr]
  have hquiet : broadcast a = false := by simp [broadcast, hport, isNet_pfPort]
  have hread := frame_read (serves_slotTaken (pf := pf) hs) (hport ▸ portUp_pfPort (by rw [slotTaken, flag_setPf]; exact hup))
    (by simp [nodeOk, hport, isNet_pfPort]) (by simp [verOk, harr, slotTaken, flag_setPf, hver])
    (i := fieldAt d 8 2) (sub := byteAt d 10) (off := fieldAt d 12 2) hl
  obtain ⟨hv, hk, htag⟩ := readAnswer_two (s := slotTaken s pf) (a := a) (by rw [harr]) (fieldAt d 8 2) (byteAt d 10)
    (fieldAt d 12 2) (fieldAt d 14 2)
  refine ⟨_, hv, hk, ?_, ?_⟩
  · rw [htag, harr]
    exact Nat.mod_eq_of_lt (fieldAt_lt d 2 2)
  · rw [hfetch]
    rw [hquiet, replied, if_neg Bool.false_ne_true, sendReply_pf hpf hport (by rw [slotTaken, pf_setPf_same]; exact hw.enabled)
      (by rw [slotTaken, mgmt_setPf]; exact hm)] at hread
    simpa [slotTaken, pf_setPf_same, setPf_setPf] using hread

/-- A completion error stops the fetch and raises its fault (R701). -/
theorem commandFetchError_stops {s : State} {pf : Nat} (hpf : pf < 2) (hup : s.flag K.READY 6 = true)
    (h : OneWaits (s.pf pf)) :
    commandFetchError s pf = (s.raise 0x7A).setPf pf { s.pf pf with stopped := true } := by
  have h2 : pf = 0 ∨ pf = 1 := by omega
  rcases h2 with rfl | rfl <;> simp [commandFetchError, hup, h.enabled, h.going, h.waits] <;> rfl

/-- Settles O14: the slot is taken, and a READ in it is served as any other and answered to the function's reply queue. -/
theorem commandFetchTakesOneFrame : Obligations.CommandFetchTakesOneFrame := by
  intro s pf d hs hpf hup he hgo hlt hn hw
  have h1 : OneWaits (s.pf pf) := ⟨he, hgo, hlt, hn, hw⟩
  refine ⟨?_, fun hd hr hv hk _ => ?_, fun hd hr hv hk hl hver hserving hfree hreset hmute => ?_⟩
  · have hstop := commandFetchError_stops hpf hup h1
    have hraised : Frame [] [.fns, .arrived] s (s.raise 0x7A) := frame_raise (.refl ..) _ (.inr (by simp))
    obtain ⟨t, ht, g, h2, h3, h4⟩ := took_pf (f := fun s => commandFetchError s pf) (ks := []) (ps := [.fns, .arrived]) hs
      (by rw [hstop, pf_setPf_same]) (by rw [hstop, pf_setPf_other _ hpf]; rfl)
      (by rw [hstop]; exact frame_setPf hraised _ _ (.inl (by simp)))
    refine ⟨t, ht, h2, h3, ?_, h4⟩
    rw [g.flt (by simp), if_neg (by simp), hstop, flt_setPf, flt_raise]
  · exact took_setPf (f := fun s => commandFetch s pf d) hs hpf
      ((commandFetch_eq hpf hup d).trans (fetchLoop_pad h1 hr hd hv hk 4095))
  · obtain ⟨f, hv0, hv1, htag, hread⟩ :=
      commandFetch_read ⟨hs, hserving, hfree, hreset⟩ hpf hup h1 hr hd hv hk hl hver hmute
    obtain ⟨t, ht, g⟩ := took_next (fun s => commandFetch s pf d) hs
    have hall := hread.trans (g [] [.mgmt])
    refine ⟨t, ht, ?_, ?_, f, ?_, hv0, hv1, htag⟩
    · exact (frame_setPf (.refl ..) pf _ (.inl (by simp))).trans (hall.mono (by simp) (by simp))
    · rw [← pf_setPf_other _ hpf]
      exact hall.pf_same (by simp) (1 - pf)
    · have := hall.pf_same (by simp) pf
      rwa [pf_setPf_same] at this

end Sys2Proof.Machine

/-! PROOFS. Frames of Onpel Link (O18) and BAR2 accesses (O16). -/

namespace Sys2Proof.Machine

/-! ### Onpel Link -/

section
variable {s : State} {p : Nat} {f : EthFrame}

/-- The port of Onpel Link number `p`. -/
def netPort (p : Nat) : Port := if p = 0 then .e0 else .e1

theorem portUp_netPort (hp : p < 2) (hr : s.flag K.READY (7 + p) = true) : portUp s (netPort p) = true := by
  have h2 : p = 0 ∨ p = 1 := by omega
  rcases h2 with rfl | rfl <;> exact hr

theorem isNet_netPort : isNet (netPort p) = true := by
  unfold netPort
  split <;> rfl

/-- A frame of Onpel Link that is not counted as dropped reaches the core as its bytes say (R76–R79). -/
theorem onpelFrame_arrives (hp : p < 2) (hr : s.flag K.READY (7 + p) = true) (hs : f.sound = true)
    (he : f.etherType = 0x88B5) (ht : f.tags.length ≤ 1) (hl : headerLen (byteAt f.payload 0) ≤ f.payload.length) :
    onpelFrame s p f =
      frameIn s (arrivalOf (netPort p) f.mac f.tags.head? f.payload) (askOf f.payload (netLenOk f)) := by
  have hup := portUp_netPort hp hr
  simp only [netPort] at hup
  simp [onpelFrame, netPort, hup, hs, he, Nat.not_le.2 hp, Nat.not_lt.2 ht, Nat.not_lt.2 hl]

theorem onpelFrame_drops (hp : p < 2) (hr : s.flag K.READY (7 + p) = true) (hs : f.sound = true)
    (h : f.etherType ≠ 0x88B5 ∨ 1 < f.tags.length ∨ f.payload.length < headerLen (byteAt f.payload 0)) :
    onpelFrame s p f = s.inc K.NET_DROPPED := by
  have hup := portUp_netPort hp hr
  simp only [netPort] at hup
  simp [onpelFrame, hup, hs, Nat.not_le.2 hp, h]

/-- A reply by Onpel Link goes to the requester's MAC address with its tag (R79). -/
theorem sendReply_net (a : Arrival) (hp : p < 2) (ha : a.port = netPort p) (g : Bytes) :
    sendReply s a g = s.emit (.ether p a.mac a.vlan g) := by
  have h2 : p = 0 ∨ p = 1 := by omega
  rcases h2 with rfl | rfl <;> simp [sendReply, ha, netPort]

/-- Where a frame of another version than 1 goes (R48, R54). -/
theorem arrivalOf_dst {port : Port} {mac : Nat} {vlan : Option Nat} {d : Bytes} (h1 : byteAt d 0 ≠ 1) :
    (arrivalOf port mac vlan d).port = port ∧ (arrivalOf port mac vlan d).dst = fieldAt d 4 2 := by
  simp [arrivalOf, h1]

end

/-- A version 2 READ for this module is served and answered to its sender, with its TAG (R77–R79). -/
theorem onpelFrame_read {s : State} {p : Nat} {f : EthFrame} (hs : Serves s) (hp : p < 2)
    (hr : s.flag K.READY (7 + p) = true) (hsound : f.sound = true) (he : f.etherType = 0x88B5) (ht : f.tags.length ≤ 1)
    (hlen : netLenOk f = true) (h16 : 16 ≤ f.payload.length) (h0 : byteAt f.payload 0 = 2) (h1 : byteAt f.payload 1 = 1)
    (hl : fieldAt f.payload 14 2 ≤ 1024) (hd : fieldAt f.payload 4 2 % 4096 = s.num K.NODE_ADDR)
    (hnode : s.num K.NODE_ADDR ≠ 0xFFF) (hver : s.flag K.VER_ENABLE 1 = true) :
    ∃ g, byteAt g 0 = 2 ∧ byteAt g 1 = 0x81 ∧ replyTag 2 g = fieldAt f.payload 2 2 ∧
      Frame [] [.mgmt] (s.emit (.ether p f.mac f.tags.head? g)) (onpelFrame s p f) := by
  have harr := onpelFrame_arrives hp hr hsound he ht (by rw [h0]; exact h16)
  have ha := arrivalOf_two (netPort p) f.mac f.tags.head? h0
  rw [hlen, askOf_read h0 h1] at harr
  generalize arrivalOf (netPort p) f.mac f.tags.head? f.payload = a at harr ha
  have hport : a.port = netPort p := by rw [ha]
  have hdst : a.dst % 4096 = s.num K.NODE_ADDR := by rw [ha]; exact hd
  have hquiet : broadcast a = false := by simp [broadcast, hdst, hnode]
  have hread := frame_read (a := a) (i := fieldAt f.payload 8 2) (sub := byteAt f.payload 10)
    (off := fieldAt f.payload 12 2) hs (hport ▸ portUp_netPort hp hr) (by simp [nodeOk, hdst]) (by simp [verOk, ha, hver]) hl
  obtain ⟨hv, hk, htag⟩ := readAnswer_two (s := s) (a := a) (by rw [ha]) (fieldAt f.payload 8 2) (byteAt f.payload 10)
    (fieldAt f.payload 12 2) (fieldAt f.payload 14 2)
  refine ⟨_, hv, hk, ?_, ?_⟩
  · rw [htag, ha]
    exact Nat.mod_eq_of_lt (fieldAt_lt f.payload 2 2)
  · have hmac : a.mac = f.mac := by rw [ha]
    have hvlan : a.vlan = f.tags.head? := by rw [ha]
    rwa [hquiet, replied, if_neg Bool.false_ne_true, sendReply_net a hp hport, hmac, hvlan, ← harr] at hread

/-- Settles O18: a frame is dropped, arrives and is not for this module, or arrives as a READ that is served. -/
theorem ethernetFrames : Obligations.EthernetFrames := by
  intro s p f hs hp hr hsound
  refine ⟨fun h => ?_, fun he ht hl h1 hd hb => ?_, fun he ht hlen h16 h0 h1 hl hd hnode hver hserving hfree hreset => ?_⟩
  · obtain ⟨t, ht, g⟩ := took_next (fun s => onpelFrame s p f) hs
    rw [onpelFrame_drops hp hr hsound h] at g
    have hcount := (g [] []).num_eq (k := K.NET_DROPPED) (by simp) (by simp)
    exact ⟨t, ht, hcount.trans (by simp), (frame_inc (.refl ..) (.inl (by simp))).trans (g ..)⟩
  · obtain ⟨t, htook, g⟩ := took_next (fun s => onpelFrame s p f) hs
    have harr := onpelFrame_arrives hp hr hsound he ht hl
    obtain ⟨hport, hdst⟩ := arrivalOf_dst (port := netPort p) (mac := f.mac) (vlan := f.tags.head?) h1
    have hstay : onpelFrame s p f = s := by
      rw [harr, frameIn, if_neg]
      simp [nodeOk, hport, hdst, isNet_netPort, hd, hb]
    rw [hstay] at g
    exact ⟨t, htook, g ..⟩
  · obtain ⟨g, hv, hk, htag, hread⟩ :=
      onpelFrame_read ⟨hs, hserving, hfree, hreset⟩ hp hr hsound he ht hlen h16 h0 h1 hl hd hnode hver
    obtain ⟨t, htook, hnote⟩ := took_next (fun s => onpelFrame s p f) hs
    have hall := hread.trans (hnote [] [.mgmt])
    have hsent := frame_emit (ks := []) (ps := answered) (.refl _ _ s) (.ether p f.mac f.tags.head? g) (by simp [answered])
    exact ⟨t, g, htook, (hall.out (by simp)).sent (by simp), hv, hk, htag,
      hsent.trans (hall.mono (by simp) (by simp [answered]))⟩

/-! ### BAR2 accesses -/

section
variable {s : State} {pf i sub o n : Nat}

theorem slotOf_byte (hi : i < 65536) (hs : sub < 256) (ho : o < 16) : slotOf (i * 4096 + sub * 16 + o) = (i, sub, o) := by
  unfold slotOf
  refine Prod.ext ?_ (Prod.ext ?_ ?_) <;> simp only <;> omega

/-- The alignment of an access is that of its bytes in the slot. -/
theorem barAligned_byte : barAligned (i * 4096 + sub * 16 + o) n = barAligned o n := by
  unfold barAligned
  rw [Bool.eq_iff_iff]
  simp only [Bool.and_eq_true, Bool.or_eq_true, beq_iff_eq]
  refine and_congr_right fun hn => ?_
  rcases hn with ((rfl | rfl) | rfl) | rfl <;> omega

theorem serveBar2Read_aligned (hi : i < 65536) (hs : sub < 256) (ho : o < 16) (ha : barAligned o n = true)
    (hc : readCode s (askerPf s pf) false i sub 0 0 = 0) :
    serveBar2Read s pf (i * 4096 + sub * 16 + o) n = s.emit (.bar2 pf (some (fieldAt (slotBytes s i sub) o n))) := by
  simp [serveBar2Read, slotOf_byte hi hs ho, barAligned_byte, ha, hc]

theorem serveBar2Read_unaligned (ha : barAligned o n = false) :
    serveBar2Read s pf (i * 4096 + sub * 16 + o) n = s.emit (.bar2 pf none) := by
  simp [serveBar2Read, barAligned_byte, ha]

/-- A BAR2 read that completes does nothing else. -/
theorem took_bar2Read (h : Serves s) (hb : barOpen s = true) {off : Nat} {x : Option Nat}
    (hr : serveBar2Read s pf off n = s.emit (.bar2 pf x)) :
    ∃ t, took s (fun s => bar2Read s pf off n) = .next t ∧ Out.bar2 pf x ∈ t.out ∧ Frame [] answered s t := by
  have hf : Frame [] answered s (s.emit (.bar2 pf x)) := frame_emit (.refl ..) _ (by simp [answered])
  have hs : bar2Read s pf off n = serve s (.bar2Read pf off n) := by simp [bar2Read, hb, h.submit]
  obtain ⟨t, ht, g⟩ := h.took_serve (f := fun s => bar2Read s pf off n) hs (by rw [serve1, hr]) hf (by decide)
  exact ⟨t, ht, (g.out (by simp)).sent (by simp), hf.trans (g.mono (by simp) (by simp [answered]))⟩

theorem slot_addr : (i * 256 + sub) * 16 = i * 4096 + sub * 16 := by omega

theorem barAligned_low : barAligned (i * 4096 + sub * 16) 4 = true := by
  have := barAligned_byte (i := i) (sub := sub) (o := 0) (n := 4)
  rw [Nat.add_zero] at this
  rw [this]; decide

/-- A low half whose write passes checks 2 to 7 is staged (R91). -/
theorem serveBar2Write_low {low : Nat} (hi : i < 65536) (hs : sub < 256) (hl : low < 2 ^ 32) (hh : halfable i sub = true)
    (hg : gateCode s (askerPf s pf) false i sub = 0) :
    serveBar2Write s pf (i * 4096 + sub * 16) (leBytes 4 low) =
      (s.setPf pf { s.pf pf with stage := some (i * 256 + sub, low) }, false) := by
  have hv : leNat (leBytes 4 low) = low := by rw [leNat_leBytes]; exact Nat.mod_eq_of_lt hl
  have hslot : (i * 4096 + sub * 16) / 16 = i * 256 + sub := by omega
  simp [serveBar2Write, slotOf_addr hi hs, leBytes_length, barAligned_low, hh, lowHalf, hg, hslot, hv]

/-- A high half that follows its low half writes the whole value and empties the staging register (R91). -/
theorem serveBar2Write_high {low high : Nat} (hi : i < 65536) (hs : sub < 256) (hh : halfable i sub = true)
    (hst : (s.pf pf).stage = some (i * 256 + sub, low)) :
    serveBar2Write s pf (i * 4096 + sub * 16 + 4) (leBytes 4 high) =
      barCommit (s.setPf pf { s.pf pf with stage := none }) pf i sub (leBytes 4 low ++ leBytes 4 high) := by
  have hslot : (i * 4096 + sub * 16 + 4) / 16 = i * 256 + sub := by omega
  have ha : barAligned (i * 4096 + sub * 16 + 4) 4 = true := by rw [barAligned_byte]; decide
  simp [serveBar2Write, slotOf_byte hi hs (show 4 < 16 by omega), leBytes_length, ha, hh, highHalf, hst, hslot]

/-- A write of a value through BAR2 that passes its checks commits (R73). -/
theorem barCommit_written {d : Bytes} (h : Accepted s (.bar2 pf) i sub d) (hk : objKey i sub ≠ K.SIG_COMMIT) :
    barCommit s pf i sub d = (written s (.bar2 pf) i sub d, false) := by
  have e := writeObj_written h hk
  simp only [askerVia, viaFrame, viaV1] at e
  simp [barCommit, e]

theorem took_bar2Write (h : Serves s) (hb : barOpen s = true) {off : Nat} {d : Bytes} {w : State} {ks : List Nat}
    {ps : List Part} (hw : serveBar2Write s pf off d = (w, false)) (hf : Frame ks ps s w) (hp : Part.pwr ∉ ps) :
    ∃ t, took s (fun s => bar2Write s pf off d) = .next t ∧ Frame [] [.mgmt] w t := by
  have hs : bar2Write s pf off d = serve s (.bar2Write pf off d) := by simp [bar2Write, hb, h.submit]
  exact h.took_serve (f := fun s => bar2Write s pf off d) hs (by simp [serve1, hw]) hf hp

theorem stage_of_same {b : Bool} {x y : PcieFn} (h : x.Same b y) : y.stage = x.stage := by rw [h]

theorem leNat_append (x y : Bytes) : leNat (x ++ y) = leNat x + 256 ^ x.length * leNat y := by
  induction x with
  | nil => simp [leNat]
  | cons b r ih => simp only [List.cons_append, leNat, ih, List.length_cons, Nat.pow_succ]; ring

/-- The value of two halves (R91). -/
theorem leNat_halves {low high : Nat} (hl : low < 2 ^ 32) (hh : high < 2 ^ 32) :
    leNat (leBytes 4 low ++ leBytes 4 high) = low + 2 ^ 32 * high := by
  rw [leNat_append, leBytes_length, leNat_leBytes, leNat_leBytes, show 256 ^ 4 = 2 ^ 32 from rfl, Nat.mod_eq_of_lt hl,
    Nat.mod_eq_of_lt hh]

/-- An object that may be written by halves is of fixed size, and none that the management core sets itself. -/
theorem of_halfable (hi : i < 65536) (hs : sub < 256) (h : halfable i sub = true) : (rowOf i sub).ty.isBlob = false ∧
    objKey i sub ≠ K.SIG_CURRENT ∧ objKey i sub ≠ K.UNLOCK_STATE := by
  have h8 := size_eight_of_halfable h
  refine ⟨?_, fun e => ?_, fun e => ?_⟩
  · revert h8
    cases (rowOf i sub).ty <;> decide
  · obtain ⟨rfl, rfl⟩ : i = 0x1100 ∧ sub = 8 := by simp only [objKey, K.SIG_CURRENT] at e; omega
    exact absurd h8 (by decide)
  · obtain ⟨rfl, rfl⟩ : i = 0x1201 ∧ sub = 2 := by simp only [objKey, K.UNLOCK_STATE] at e; omega
    exact absurd h8 (by decide)

end

/-- Settles O16: a read completes with its slot's bytes, a low half is staged, and the high half commits the value. -/
theorem barTwoAccesses : Obligations.BarTwoAccesses := by
  intro s pf i sub hrun hserving hfree hreset hb hpf hi hsub
  have hs : Serves s := ⟨hrun, hserving, hfree, hreset⟩
  refine ⟨fun o n ho ha hc => ?_, fun o n ho ha => ?_, fun low hl hh hg => ?_, fun low high hl hhi hh hst => ?_⟩
  · exact took_bar2Read hs hb (serveBar2Read_aligned hi hsub ho ha hc)
  · exact took_bar2Read hs hb (serveBar2Read_unaligned ha)
  · have hf : Frame [] (.fns :: answered) s (s.setPf pf { s.pf pf with stage := some (i * 256 + sub, low) }) :=
      frame_setPf (.refl ..) _ _ (.inl (by simp))
    have hw := serveBar2Write_low hi hsub hl hh hg
    rw [← slot_addr] at hw
    obtain ⟨t, ht, g⟩ := took_bar2Write hs hb hw hf (by decide)
    refine ⟨t, ht, ?_, hf.trans (g.mono (by simp) (by simp [answered]))⟩
    rw [stage_of_same (g.pf_same (by simp) pf), pf_setPf_same]
  · intro s' d hacc hunit hmod
    obtain ⟨hfix, hcur, hul⟩ := of_halfable hi hsub hh
    have hq : askerVia s' (.bar2 pf) = askerPf s pf := by simp only [askerVia, askerPf, classOf, s', num_setPf]
    have hn : NoOwnEffect s' (.bar2 pf) i sub d := ⟨hfix, hq ▸ hunit, hq ▸ hmod⟩
    have hw := (serveBar2Write_high (high := high) hi hsub hh hst).trans (barCommit_written hacc hn.ne_sigCommit)
    have hs' : Frame [objKey i sub, K.SIG_CURRENT, K.UNLOCK_STATE] (.fns :: answered) s s' :=
      frame_setPf (.refl ..) _ _ (.inl (by simp))
    have hplain := frame_written_plain hn
    have hf := hs'.trans (hplain.mono (fun _ k => k) (fun _ => List.mem_cons_of_mem _))
    rw [← slot_addr] at hw
    obtain ⟨t, ht, g⟩ := took_bar2Write hs hb hw hf (by decide)
    refine ⟨t, ht, ?_, ?_, hf.trans (g.mono (by simp) (by simp [answered]))⟩
    · rw [stage_of_same (g.pf_same (by simp) pf), stage_of_same (hplain.pf_same (by decide) pf), pf_setPf_same]
    · rw [g.num_eq (by simp) (by simp), num_written_plain hn, if_neg hcur, if_pos rfl, plainValue_keySpent hul, plainValue,
        leNat_halves hl hhi, num_setPf]

end Sys2Proof.Machine

/-! PROOFS. Keys, locks, authority and the signature's reference (O20), and the signature's scans (O22). -/

namespace Sys2Proof.Machine

/-! ### Writes with an effect of their own -/

section
variable {s : State} {v : Via} {i sub off : Nat} {d : Bytes} {fr : Bool} {q : Asker}

/-- A write that is accepted passes the check of its value, which KEY_UNLOCK alone goes without (R85, R107). -/
theorem badValue_of_lateCode (h : lateCode s fr i sub off d = 0) (hk : objKey i sub ≠ K.KEY_UNLOCK) :
    badValue s i sub d = false := by
  simp only [lateCode, hk, if_false] at h
  by_contra hb
  rw [Bool.not_eq_false] at hb
  rw [hb, if_pos rfl] at h
  split at h <;> omega

theorem keySpent_of_notKey (h : (rowOf i sub).acc.isKey = false) : keySpent s i sub = s := by
  simp [keySpent, h]

theorem frame_sigTouched {ks : List Nat} {ps : List Part} {a u : State} (h : Frame ks ps a u) (hk : K.SIG_CURRENT ∈ ks)
    (hp : Part.mgmt ∈ ps) : Frame ks ps a (sigTouched u) :=
  frame_setNum (frame_setMgmt h _ hp) _ (.inl hk)

/-- An accepted write of an object that is no KEY leaves the module as its commit does, SIG_CURRENT 0 and a scan running,
but for its reply. -/
theorem took_commit {f : State → State} {u : State} {ks : List Nat} {ps : List Part} (hf : f s = writeVia s v i sub d)
    (h : Accepted s v i sub d) (hc : objKey i sub ≠ K.SIG_COMMIT) (hk : (rowOf i sub).acc.isKey = false)
    (hu : commit s (askerVia s v) (viaFrame v) i sub 0 d = u) (hs : Frame ks ps s u) (hp : Part.pwr ∉ ps) :
    ∃ t, took s f = .next t ∧ Frame [] answered (sigTouched u) t ∧
      Frame (ks ++ [K.SIG_CURRENT]) (ps ++ answered) s t := by
  have hspent := keySpent_of_notKey (s := s) hk
  have hw : written s v i sub d = sigTouched u := by rw [written, hspent, hu]
  obtain ⟨t, ht, g⟩ := took_next f h.1.1
  have hv := writeVia_accepted h (fun e => hc e.1) (by rw [hspent, hu, hs.pwr hp]; exact softReset_of_reaches h.1)
  rw [hw, ← hf] at hv
  have hall := hv.trans (g ..)
  have hwide := hs.mono (ks' := ks ++ [K.SIG_CURRENT]) (ps' := ps ++ answered) (fun _ => List.mem_append_left _)
    (fun _ => List.mem_append_left _)
  have htouch := frame_sigTouched hwide (by simp) (List.mem_append_right _ (by simp [answered]))
  exact ⟨t, ht, hall, htouch.trans (hall.mono (by simp) fun _ => List.mem_append_right _)⟩

theorem num_touched {u t : State} (g : Frame [] answered (sigTouched u) t) (j : Nat) :
    t.num j = if j = K.SIG_CURRENT then 0 else u.num j := by
  rw [g.num_eq (by simp) (by decide)]
  simp [sigTouched]

theorem frame_setNum_one (k w : Nat) : Frame [k] [] s (s.setNum k w) := frame_setNum (.refl ..) _ (.inl (by simp))

/-! ### The objects' rows and commits -/

theorem row_lockSet : rowOf 0x1200 1 = ⟨1, 1, .u32, .rw, 0, true, 0xff, 0, .any, 0⟩ := by decide
theorem row_verEnable : rowOf 0x1F01 6 = ⟨6, 6, .u8, .lck, 7, true, 7, 0, .any, 0⟩ := by decide
theorem row_sigRef : rowOf 0x1100 2 = ⟨2, 2, .u32, .lck, 0, false, 0xffffffff, 0, .any, 0⟩ := by decide
theorem row_sigCommit : rowOf 0x1100 3 = ⟨3, 3, .u8, .cmdLck, 0, false, 1, 0, .any, 0⟩ := by decide

theorem commit_keyUnlock : commit s q fr 0x1201 1 off d = s.setNum K.UNLOCK_STATE q.port := by
  simp [commit, row_keyUnlock, Ty.isBlob, commitUnit, commitModule, objKey, baseIndex, K.LINE_CFG0, K.PAT_STACKS, K.SCR_MIB]

theorem commit_lockSet : commit s q fr 0x1200 1 off d = s.setNum K.LOCK_SET (s.num K.LOCK_SET ||| (leNat d &&& 0xff)) := by
  simp [commit, row_lockSet, Ty.isBlob, commitUnit, commitModule, objKey, baseIndex, K.LINE_CFG0, K.PAT_STACKS, K.SCR_MIB]

theorem commit_verEnable : commit s q fr 0x1F01 6 off d = s.setNum K.VER_ENABLE (leNat d &&& 7) := by
  simp [commit, row_verEnable, Ty.isBlob, commitUnit, commitModule, objKey, baseIndex, merged, K.LINE_CFG0, K.PAT_STACKS,
    K.SCR_MIB, K.AUTH_PF0, K.VREF_T0]

theorem commit_sigRef : commit s q fr 0x1100 2 off d = sigRefWrite s (leNat d &&& 0xffffffff) := by
  simp [commit, row_sigRef, Ty.isBlob, commitUnit, commitModule, objKey, baseIndex, K.LINE_CFG0, K.PAT_STACKS, K.SCR_MIB]

theorem commit_sigCommit (hd : bit (leNat d) 0 = true) : commit s q fr 0x1100 3 off d = s.setNum K.SIG_COMMIT 1 := by
  have hb : bit (leNat d % 2) 0 = true := by simpa [bit] using hd
  simp [commit, row_sigCommit, Ty.isBlob, commitUnit, commitModule, objKey, baseIndex, K.LINE_CFG0, K.PAT_STACKS, K.SCR_MIB, hb,
    sigCommitStart]

theorem num_sigRefWrite (w j : Nat) : (sigRefWrite s w).num j =
    if j = K.SIG_VALID then 1 else if j = K.SIG_REF then w else s.num j := by
  simp [sigRefWrite, setNums_cons, setNums_nil]

theorem frame_sigRefWrite {w : Nat} : Frame [K.SIG_REF, K.SIG_VALID] [] s (sigRefWrite s w) :=
  frame_setNum (frame_setNum (.refl ..) w (.inl (by simp))) 1 (.inl (by simp))

/-! ### The authority table -/

section
variable {port : Nat} (h1 : 1 ≤ port) (h5 : port ≤ 5)
include h1 h5

theorem row_auth : ∃ dflt, rowOf 0x1F00 port = ⟨port, port, .u8, .lck, dflt, true, 0xff, 0, .nat 0 4, 0⟩ := by
  interval_cases port <;> exact ⟨_, rfl⟩

theorem commit_auth : commit s q fr 0x1F00 port off d = authSet s (objKey 0x1F00 port) (leNat d &&& 0xff) := by
  obtain ⟨dflt, hr⟩ := row_auth h1 h5
  have hu (w : Nat) : commitUnit s q (objKey 0x1F00 port) (objKey 0x1F00 port) 0 w = none := by
    interval_cases port <;> simp [commitUnit, objKey, K.LINE_CFG0]
  have hm (w : Nat) : commitModule s q (objKey 0x1F00 port) w = some (authSet s (objKey 0x1F00 port) w) := by
    interval_cases port <;> simp [commitModule, objKey, K.PAT_STACKS, K.SCR_MIB, K.AUTH_PF0]
  have hb : baseIndex 0x1F00 = 0x1F00 ∧ unitOf 0x1F00 = 0 := by decide
  simp only [commit, hr, Ty.isBlob, Bool.false_eq_true, if_false, hb, hu, hm]

end

/-- A pending unlock lapses where a write changes the class of its port (R109). -/
def unlockLapsed (s : State) (k w : Nat) : State :=
  if s.num k ≠ w ∧ s.num K.UNLOCK_STATE = k - K.AUTH_PF0 + 1 then s.setNum K.UNLOCK_STATE 0 else s

/-- A function's copy of its class follows a write of the class of its port (R102). -/
def classCopied (s : State) (k w : Nat) : State :=
  if k = K.AUTH_PF0 then s.setPf 0 { s.pf 0 with cls := w }
  else if k = K.AUTH_PF0 + 1 then s.setPf 1 { s.pf 1 with cls := w } else s

section
variable {k w : Nat}

theorem authSet_eq : authSet s k w = classCopied ((unlockLapsed s k w).setNum k w) k w := rfl

theorem frame_unlockLapsed : Frame [K.UNLOCK_STATE] [] s (unlockLapsed s k w) :=
  (frame_setNum (.refl ..) _ (.inl (by simp))).ite (.refl ..)

theorem num_unlock_unlockLapsed : (unlockLapsed s k w).num K.UNLOCK_STATE =
    if s.num k ≠ w ∧ s.num K.UNLOCK_STATE = k - K.AUTH_PF0 + 1 then 0 else s.num K.UNLOCK_STATE := by
  unfold unlockLapsed
  split <;> simp

theorem pf_unlockLapsed (n : Nat) : (unlockLapsed s k w).pf n = s.pf n := by
  unfold unlockLapsed
  split <;> rfl

theorem frame_classCopied : Frame [] [.fns] s (classCopied s k w) :=
  (frame_setPf (.refl ..) _ _ (.inl (by simp))).ite ((frame_setPf (.refl ..) _ _ (.inl (by simp))).ite (.refl ..))

theorem pf_classCopied {port n : Nat} (hk : k = K.AUTH_PF0 + (port - 1)) (h1 : 1 ≤ port) (hn : n < 2) :
    (classCopied s k w).pf n = if port = n + 1 then { s.pf n with cls := w } else s.pf n := by
  have h2 : n = 0 ∨ n = 1 := by omega
  have h3 : port = 1 ∨ port = 2 ∨ 3 ≤ port := by omega
  rcases h3 with rfl | rfl | h3
  · rcases h2 with rfl | rfl <;> simp [classCopied, hk, State.pf, State.setPf]
  · rcases h2 with rfl | rfl <;> simp [classCopied, hk, State.pf, State.setPf]
  · have hc : classCopied s k w = s := by
      unfold classCopied
      rw [if_neg (by omega), if_neg (by omega)]
    rw [hc, if_neg (by omega)]

theorem num_authSet_key : (authSet s k w).num k = w := by
  rw [authSet_eq, frame_classCopied.num_eq (by simp) (by simp), num_setNum, if_pos rfl]

theorem num_authSet_unlock (hk : k ≠ K.UNLOCK_STATE) : (authSet s k w).num K.UNLOCK_STATE =
    if s.num k ≠ w ∧ s.num K.UNLOCK_STATE = k - K.AUTH_PF0 + 1 then 0 else s.num K.UNLOCK_STATE := by
  rw [authSet_eq, frame_classCopied.num_eq (by simp) (by simp), num_setNum, if_neg hk.symm, num_unlock_unlockLapsed]

theorem pf_authSet {port n : Nat} (hk : k = K.AUTH_PF0 + (port - 1)) (h1 : 1 ≤ port) (hn : n < 2) :
    (authSet s k w).pf n = if port = n + 1 then { s.pf n with cls := w } else s.pf n := by
  have hset (u : State) : (u.setNum k w).pf n = u.pf n := rfl
  rw [authSet_eq, pf_classCopied hk h1 hn, hset, pf_unlockLapsed]

theorem frame_authSet : Frame [k, K.UNLOCK_STATE] [.fns] s (authSet s k w) := by
  have h1 := (frame_unlockLapsed (s := s) (k := k) (w := w)).mono (ks' := [k, K.UNLOCK_STATE]) (ps' := [.fns])
    (by simp) (by simp)
  exact (frame_setNum h1 w (.inl (by simp))).trans (frame_classCopied.mono (by simp) (fun _ p => p))

end

end

/-- The bits of LOCK_SET after a write (R104). -/
theorem bit_lockSet {old n b : Nat} (hb : b < 8) : bit (old ||| (n &&& 0xff)) b = (bit old b || bit n b) := by
  have hm : Nat.testBit 0xff b = true := by interval_cases b <;> rfl
  simp [bit, hm]

theorem and_mask {n k : Nat} (h : n < 2 ^ k) : n &&& (2 ^ k - 1) = n := by
  rw [Nat.and_two_pow_sub_one_eq_mod, Nat.mod_eq_of_lt h]

/-- A class that is accepted is one of the five (R9, R96). -/
theorem class_le_of_accepted {s : State} {v : Via} {port n : Nat} (h1 : 1 ≤ port) (h5 : port ≤ 5) (hn : n < 256)
    (h : Accepted s v 0x1F00 port (leBytes 1 n)) : n ≤ 4 := by
  obtain ⟨-, -, hl⟩ := h
  obtain ⟨dflt, hr⟩ := row_auth h1 h5
  have hv : leNat (leBytes 1 n) = n := by rw [leNat_leBytes]; exact Nat.mod_eq_of_lt hn
  have hb := badValue_of_lateCode hl (by simp only [objKey, K.KEY_UNLOCK]; omega)
  simp only [badValue, hr, Ty.isBlob, Bool.false_eq_true, if_false, Bool.or_eq_false_iff, Bool.not_eq_false', hv] at hb
  obtain ⟨⟨hok, -⟩, -⟩ := hb
  have hm : n &&& 255 = n := and_mask (k := 8) hn
  simpa [valueOk, rngOk, hm] using hok

/-- Version 2 stays enabled by every value of VER_ENABLE that is accepted (R103). -/
theorem bit_one_of_accepted {s : State} {v : Via} {n : Nat} (hn : n < 256) (h : Accepted s v 0x1F01 6 (leBytes 1 n)) :
    bit n 1 = true := by
  obtain ⟨-, -, hl⟩ := h
  have hv : leNat (leBytes 1 n) = n := by rw [leNat_leBytes]; exact Nat.mod_eq_of_lt hn
  have hb := badValue_of_lateCode hl (by decide)
  simp only [badValue, row_verEnable, Ty.isBlob, Bool.false_eq_true, if_false, Bool.or_eq_false_iff, hv] at hb
  obtain ⟨-, hm⟩ := hb
  have hboth : n.testBit 1 = true ∧ Nat.testBit 7 1 = true := by
    simpa [moduleBad, objKey, baseIndex, K.AUTH_PF0, bit] using hm
  exact hboth.1

/-- Settles O20: each write commits its object, with the effect its rule gives, and touches the signature. -/
theorem keyAndLocks : Obligations.KeyAndLocks := by
  intro s v n
  refine ⟨fun h hn => ?_, fun hs => ?_, fun h hn => ?_, fun port h1 h5 h hn => ?_, fun h hn => ?_, fun h hn => ?_⟩
  · obtain ⟨t, ht, g, hf⟩ := took_commit (f := fun s => writeKey s v K.KEY_UNLOCK n) (i := 0x1201) (sub := 1)
      (d := leBytes 2 n) rfl h (by decide) (by rw [row_keyUnlock]; rfl) commit_keyUnlock (frame_setNum_one ..) (by simp)
    have hkey : n = 0x7A1C := by
      by_contra hne
      have := lateCode_wrongKey (s := keySpent s 0x1201 1) (frame := viaFrame v) hn hne
      exact absurd (this.symm.trans h.2.2) (by decide)
    exact ⟨t, ht, hkey, by simp [num_touched g], by simp [num_touched g], hf⟩
  · obtain ⟨t, ht, g⟩ := took_next (fun s => s.setNum K.UNLOCK_STATE 0) hs
    exact ⟨t, ht, ((g [] []).num_eq (by simp) (by simp)).trans (by simp), (frame_setNum_one ..).trans (g ..)⟩
  · obtain ⟨t, ht, g, hf⟩ := took_commit (f := fun s => writeKey s v K.LOCK_SET n) (i := 0x1200) (sub := 1)
      (d := leBytes 4 n) rfl h (by decide) (by rw [row_lockSet]; rfl) commit_lockSet (frame_setNum_one ..) (by simp)
    have hv : leNat (leBytes 4 n) = n := by rw [leNat_leBytes]; exact Nat.mod_eq_of_lt hn
    exact ⟨t, ht, fun b hb => by simp [num_touched g, hv, bit_lockSet hb], by simp [num_touched g], hf⟩
  · have hle := class_le_of_accepted h1 h5 hn h
    have hv : leNat (leBytes 1 n) &&& 0xff = n := by
      rw [leNat_leBytes, Nat.pow_one, Nat.mod_eq_of_lt hn, show n &&& 0xff = n from and_mask (k := 8) hn]
    have h8 : n % 8 = n := Nat.mod_eq_of_lt (by omega)
    have hk : objKey 0x1F00 port = K.AUTH_PF0 + (port - 1) := by simp only [objKey, K.AUTH_PF0]; omega
    have hplain : objKey 0x1F00 port ≠ K.SIG_COMMIT := by rw [hk]; simp only [K.AUTH_PF0, K.SIG_COMMIT]; omega
    have hopen : (rowOf 0x1F00 port).acc.isKey = false := by obtain ⟨_, hr⟩ := row_auth h1 h5; rw [hr]; rfl
    obtain ⟨t, ht, g, hf⟩ := took_commit (f := fun s => writeVia s v 0x1F00 port (leBytes 1 n)) rfl h hplain hopen
      (commit_auth h1 h5) frame_authSet (by simp)
    rw [hv] at g
    have hne : objKey 0x1F00 port ≠ K.SIG_CURRENT ∧ objKey 0x1F00 port ≠ K.UNLOCK_STATE := by
      rw [hk]; simp only [K.AUTH_PF0, K.SIG_CURRENT, K.UNLOCK_STATE]; omega
    have hport : objKey 0x1F00 port - K.AUTH_PF0 + 1 = port := by rw [hk]; omega
    rw [h8]
    refine ⟨t, ht, ?_, ?_, ?_, fun pf hpf => ?_, hf⟩
    · rw [num_touched g, if_neg hne.1, num_authSet_key]
    · rw [num_touched g, if_pos rfl]
    · rw [num_touched g, if_neg (by decide), num_authSet_unlock hne.2, hport]
      simp only [ne_comm]
    · rw [← pf_authSet hk h1 hpf]
      exact g.pf_same (by decide) pf
  · obtain ⟨t, ht, g, hf⟩ := took_commit (f := fun s => writeKey s v K.VER_ENABLE n) (i := 0x1F01) (sub := 6)
      (d := leBytes 1 n) rfl h (by decide) (by rw [row_verEnable]; rfl) commit_verEnable (frame_setNum_one ..) (by simp)
    have hv : leNat (leBytes 1 n) &&& 7 = n % 8 := by
      rw [leNat_leBytes, Nat.pow_one, Nat.mod_eq_of_lt hn]
      exact Nat.and_two_pow_sub_one_eq_mod n 3
    exact ⟨t, ht, by simp [num_touched g, hv], bit_one_of_accepted hn h, by simp [num_touched g], hf⟩
  · obtain ⟨t, ht, g, hf⟩ := took_commit (f := fun s => writeKey s v K.SIG_REF n) (i := 0x1100) (sub := 2)
      (d := leBytes 4 n) rfl h (by decide) (by rw [row_sigRef]; rfl) commit_sigRef frame_sigRefWrite (by simp)
    have hv : leNat (leBytes 4 n) &&& 0xffffffff = n := by
      rw [leNat_leBytes, show 256 ^ 4 = 2 ^ 32 from rfl, Nat.mod_eq_of_lt hn]
      exact and_mask (k := 32) hn
    exact ⟨t, ht, by simp [num_touched g, num_sigRefWrite, hv], by simp [num_touched g, num_sigRefWrite],
      by simp [num_touched g], hf⟩

end Sys2Proof.Machine

/-! PROOFS. The scans of the configuration signature (O22). -/

namespace Sys2Proof.Machine

section
variable {s : State}

/-! ### The comparison -/

/-- The signature is compared, and the reference differs from it (R116). -/
def sigDiffers (s : State) : Bool := s.num K.SIG_VALID != 0 && s.num K.SIG_LIVE != s.num K.SIG_REF

/-- A comparison notes whether the signatures differ (R116). -/
theorem mgmt_sigCompare : (sigCompare s).mgmt =
    { s.mgmt with mismatch := if s.num K.SIG_VALID = 0 then s.mgmt.mismatch else sigDiffers s } := by
  by_cases hv : s.num K.SIG_VALID = 0
  · simp [sigCompare, hv]
  · simp only [sigCompare, hv, if_false, sigDiffers]
    split <;> simp [hv]

/-- A mismatch that rises is counted and raises its fault (R116). -/
theorem sigCompare_rises (h : sigDiffers s = true) (hm : s.mgmt.mismatch = false) :
    (sigCompare s).num K.SIG_MISMATCHES = inc32 (s.num K.SIG_MISMATCHES) ∧
      (sigCompare s).flt.arrived = s.flt.arrived ++ [(0x76, false)] := by
  simp only [sigDiffers, Bool.and_eq_true, bne_iff_ne, ne_eq] at h
  simp [sigCompare, h, hm]

theorem sigCompare_stays (h : sigDiffers s = false ∨ s.mgmt.mismatch = true) :
    (sigCompare s).num K.SIG_MISMATCHES = s.num K.SIG_MISMATCHES ∧ (sigCompare s).flt = s.flt := by
  by_cases hv : s.num K.SIG_VALID = 0
  · simp [sigCompare, hv]
  · have hd : sigDiffers s = (s.num K.SIG_LIVE != s.num K.SIG_REF) := by simp [sigDiffers, hv]
    rw [hd] at h
    have hc : ((s.num K.SIG_LIVE != s.num K.SIG_REF) && !s.mgmt.mismatch) = false := by
      rcases h with h | h <;> simp [h]
    simp [sigCompare, hv, hc]

theorem frame_sigCompare : Frame [K.SIG_MISMATCHES] [.mgmt, .arrived] s (sigCompare s) := by
  have hm (x : Mgmt) : Frame [K.SIG_MISMATCHES] [.mgmt, .arrived] s (s.setMgmt x) := frame_setMgmt (.refl ..) _ (by simp)
  exact (Frame.refl ..).ite ((frame_raise (frame_inc (hm _) (.inl (by simp))) _ (.inr (by simp))).ite (hm _))

/-! ### A scan that completes -/

/-- The signature does not depend on the scan. -/
theorem signature_setScanning (b : Bool) : signature (s.setMgmt { s.mgmt with scanning := b }) = signature s := rfl

/-- The module once a scan has ended and its signature stands in SIG_LIVE (R115). -/
def scanned (s : State) : State :=
  (s.setMgmt { s.mgmt with scanning := false }).setNums [(K.SIG_LIVE, signature s), (K.SIG_CURRENT, 1)]

theorem num_scanned (j : Nat) : (scanned s).num j =
    if j = K.SIG_CURRENT then 1 else if j = K.SIG_LIVE then signature s else s.num j := by
  simp [scanned, setNums_cons, setNums_nil]

theorem mgmt_scanned : (scanned s).mgmt = { s.mgmt with scanning := false } := rfl

theorem flt_scanned : (scanned s).flt = s.flt := rfl

theorem frame_scanned : Frame [K.SIG_LIVE, K.SIG_CURRENT] [.mgmt] s (scanned s) :=
  frame_setNum (frame_setNum (frame_setMgmt (.refl ..) _ (by simp)) _ (.inl (by simp))) _ (.inl (by simp))

theorem sigDiffers_scanned :
    sigDiffers (scanned s) = true ↔ s.num K.SIG_VALID ≠ 0 ∧ signature s ≠ s.num K.SIG_REF := by
  simp [sigDiffers, num_scanned]

theorem sigScanComplete_free (hscan : s.mgmt.scanning = true) (hs : serving s = true) (hh : s.mgmt.held = none) :
    sigScanComplete s = sigCompare (scanned s) := by
  have hheld : (scanned s).mgmt.held = none := hh
  simp only [scanned] at hheld ⊢
  simp only [sigScanComplete, hscan, hs, Bool.not_true, Bool.or_self, Bool.false_eq_true, if_false, signature_setScanning,
    hheld]

/-! ### A commit of the signature -/

/-- An accepted SIG_COMMIT holds its request once the write has committed (R117). -/
theorem serve1_sigCommit {v : Via} {i sub : Nat} {d : Bytes} (h : Accepted s v i sub d) (hk : objKey i sub = K.SIG_COMMIT)
    (hd : bit (leNat d) 0 = true) :
    ∃ x u, Frame [] [] (written s v i sub d) u ∧ serve1 s (reqOf v i sub d) = (hold_ u x, true) := by
  obtain ⟨hr, hg, hl⟩ := h
  have e := writeObj_accepted (frame := viaFrame v) hg hl
  rw [hk, hd, beq_self_eq_true, Bool.and_self] at e
  cases v with
  | bar2 pf =>
    simp only [viaFrame, askerVia, viaV1] at e
    refine ⟨⟨.bar2Write pf (i * 4096 + sub * 16) d, [], 0, [], 0⟩, written s (.bar2 pf) i sub d, .refl .., ?_⟩
    simp only [reqOf, serve1, serveBar2Write_whole hr, barCommit, e, ne_eq, not_true_eq_false, if_false, if_true]
    rfl
  | frame a =>
    have hv := verOk_of_reaches hr
    have hlen := writeLenOk_of_reaches hr
    simp only [viaFrame, askerVia, viaV1] at e
    by_cases h3 : a.ver = 3
    · have hd : d.length ≤ 1024 := by simpa [writeLenOk, h3] using hlen
      have hf : itemFits [] 0 = true := itemFits_nil (by omega)
      simp only [h3, Nat.reduceBEq] at e hv
      refine ⟨⟨.frame a (.write i sub 0 d), [], 1, replyItem 0x82 i sub 0 [], 0⟩, attnNote (written s (.frame a) i sub d),
        frame_attnNote (.refl ..), ?_⟩
      simp only [reqOf, serve1, serveFrame, frameVer, h3, hv, Bool.not_true, Bool.false_eq_true, if_false, if_true, serveBatch,
        batchOk_write hd, serveItems, runItems, hf, e, batchEnd]
      rfl
    · refine ⟨⟨.frame a (.write i sub 0 d), [], 0, [], 0⟩, written s (.frame a) i sub d, .refl .., ?_⟩
      simp only [reqOf, serve1, serveFrame, frameVer, hv, Bool.not_true, Bool.false_eq_true, if_false, if_neg h3, serveWrite,
        hlen, ite_self, e, if_true]
      rfl

/-- The core holds the request, and goes on with its notes alone. -/
theorem frame_serve_held {r : Req} {x : Held} {u : State} (h : serve1 s r = (hold_ u x, true)) :
    Frame [] [.mgmt] u (serve s r) ∧ (serve s r).mgmt.held = some x ∧ (serve s r).mgmt.scanning = u.mgmt.scanning := by
  have hs : serve s r = attnNote (served (hold_ u x, true) r) := by simp only [serve, h, if_true]
  refine ⟨?_, ?_, ?_⟩
  · rw [hs]
    exact frame_attnNote (frame_setMgmt (frame_setMgmt (.refl ..) _ (by simp)) _ (by simp))
  · rw [hs, mgmt_attnNote]; rfl
  · rw [hs, mgmt_attnNote]; rfl

end

/-- Settles O22: a scan that completes is compared with the reference, and a SIG_COMMIT holds its request until then. -/
theorem signatureScans : Obligations.SignatureScans := by
  intro s hrun
  refine ⟨fun hr => ?_, fun hscan hs hh => ?_, fun v h => ?_⟩
  · obtain ⟨t, ht, g⟩ := took_next sigScanStart hrun
    rw [sigScanStart, if_pos hr] at g
    exact ⟨t, ht, (g [] []).mgmt (by simp), (frame_setMgmt (.refl ..) _ (by simp)).trans (g ..)⟩
  · obtain ⟨t, ht, g⟩ := took_next sigScanComplete hrun
    rw [sigScanComplete_free hscan hs hh] at g
    have g0 := g [] []
    have hnum (k : Nat) (hk : k ≠ K.SIG_MISMATCHES) : t.num k = (scanned s).num k :=
      (g0.num_eq (by simp) (by simp)).trans (frame_sigCompare.num_eq (by simpa using hk) (by simp))
    have hmis := g0.num_eq (k := K.SIG_MISMATCHES) (by simp) (by simp)
    have hflt : t.flt = (sigCompare (scanned s)).flt := by rw [g0.flt (by simp), if_neg (by simp)]
    have hbase : (scanned s).num K.SIG_MISMATCHES = s.num K.SIG_MISMATCHES := by simp [num_scanned]
    refine ⟨t, ht, ?_, ?_, ?_, fun hm hw => ?_, fun hm => ?_, ?_⟩
    · rw [hnum _ (by decide), num_scanned]; simp
    · rw [hnum _ (by decide), num_scanned]; simp
    · rw [g0.mgmt (by simp), mgmt_sigCompare, mgmt_scanned]
      have hd : sigDiffers (scanned s) = decide (s.num K.SIG_VALID ≠ 0 ∧ signature s ≠ s.num K.SIG_REF) := by
        rw [Bool.eq_iff_iff, sigDiffers_scanned, decide_eq_true_iff]
      simp only [hd, num_scanned, K.SIG_VALID, K.SIG_CURRENT, K.SIG_LIVE, Nat.reduceEqDiff, if_false]
    · obtain ⟨h1, h2⟩ := sigCompare_rises (sigDiffers_scanned.2 hm) hw
      exact ⟨by rw [hmis, h1, hbase], by rw [hflt, h2, flt_scanned]⟩
    · obtain ⟨h1, h2⟩ := sigCompare_stays (s := scanned s)
        (hm.imp_left fun hm => by rw [← Bool.not_eq_true, sigDiffers_scanned]; exact hm)
      exact ⟨by rw [hmis, h1, hbase], by rw [hflt, h2, flt_scanned]⟩
    · have h1 := frame_scanned (s := s).mono (ks' := [K.SIG_LIVE, K.SIG_CURRENT, K.SIG_MISMATCHES])
        (ps' := [.mgmt, .arrived]) (by simp) (by simp)
      exact (h1.trans (frame_sigCompare.mono (by simp) fun _ p => p)).trans (g ..)
  · replace h : Accepted s v 0x1100 3 (leBytes 1 1) := h
    obtain ⟨x, u, hu, h1⟩ := serve1_sigCommit h (by decide) (by decide)
    obtain ⟨hf, hheld, hscan⟩ := frame_serve_held h1
    rw [← writeVia_serve h.1] at hf hheld hscan
    have hw : written s v 0x1100 3 (leBytes 1 1) = sigTouched (s.setNum K.SIG_COMMIT 1) := by
      rw [written, keySpent_of_notKey (by rw [row_sigCommit]; rfl), commit_sigCommit (by decide)]
    rw [hw] at hu
    obtain ⟨t, ht, g⟩ := took_next (fun s => writeVia s v 0x1100 3 (leBytes 1 1)) hrun
    have hmgmt := (g [] []).mgmt (by simp)
    have hall : Frame [] answered (sigTouched (s.setNum K.SIG_COMMIT 1)) t :=
      ((hu.mono (by simp) (by simp)).trans (hf.mono (by simp) (by simp [answered]))).trans (g ..)
    have hwide := (frame_setNum_one (s := s) K.SIG_COMMIT 1).mono (ks' := [K.SIG_COMMIT, K.SIG_CURRENT])
      (ps' := answered) (by simp) (by simp)
    have hframe := frame_sigTouched hwide (by simp) (by simp [answered])
    refine ⟨t, ht, ?_, ?_, ?_, ?_, hframe.trans (hall.mono (by simp) fun _ p => p)⟩
    · rw [hmgmt]; simp [hheld]
    · rw [hmgmt, hscan, hu.mgmt (by simp)]; rfl
    · simp [num_touched hall]
    · simp [num_touched hall]

end Sys2Proof.Machine

/-! PROOFS. One issue of a pattern program: what playing its granule leaves (R145, R173, R179), where control goes after it
(R129, R131, R176, R191, R192), and what every issue counts. -/

namespace Sys2Proof.Machine

/-! ### A granule plays -/

theorem not_played {k : Nat} (hk : k < 0x300000) : ¬Played k := fun h => absurd h.1 (Nat.not_le.2 hk)

/-- The objects that playing a granule changes beside those of tiles and channels. -/
def playKeys : List Nat := K.ISSUES :: queueKeys

/-- The parts of the state that playing a granule changes. -/
def playParts : List Part := [.units, .seq, .chans, .cis, .arrived, .out]

theorem Plays.frame {s t : State} (h : Plays s t) : Frame [] playParts s t where
  pending := h.pending
  num := fun k _ hu => h.num k (hu (by simp [playParts]))
  blob := fun k _ => by unfold State.blob; rw [h.blobs]
  pf0 := fun _ => by rw [h.pf0]; exact .refl _ _
  pf1 := fun _ => by rw [h.pf1]; exact .refl _ _
  seq := fun hp => absurd (by simp [playParts]) hp
  uc := fun _ => h.uc
  chans := fun hp => absurd (by simp [playParts]) hp
  cis := fun hp => absurd (by simp [playParts]) hp
  mem := fun _ => by rw [h.mem]; exact ⟨rfl, fun _ => rfl⟩
  flt := fun _ => by
    rw [if_pos (by simp [playParts])]
    show t.flt.withArrived t.flt = _
    rw [← h.flt]; rfl
  pwr := fun _ => h.pwr
  slow := fun _ => h.slow
  tb := fun _ => h.tb
  pump := fun _ => by rw [h.pump]; exact ⟨rfl, fun _ => rfl⟩
  cal := fun _ => h.cal
  ring := fun _ => h.ring
  trust := fun _ => h.trust
  mgmt := fun _ => h.mgmt
  jtag := fun _ => h.jtag
  drawn := fun _ => h.freeCtr
  out := fun hp => absurd (by simp [playParts]) hp

/-- From `s` to `t` the granule `g` has played once and ISSUES has counted it. -/
structure GranulePlays (g : Granule) (s t : State) : Prop where
  frame : Frame playKeys playParts s t
  seq : t.seq.withPins s.seq = s.seq.played g
  issues : t.num K.ISSUES = (s.num K.ISSUES + 1) % 2 ^ 64

theorem granulePlays_cyclePlay {s u : State} (h : Plays s u) (up : List Nat) (g : Granule)
    (io : List (Nat × List (List Pad))) : GranulePlays g s (cyclePlay u up g io) := by
  obtain ⟨v, hv, e⟩ := plays_cyclePlay u up g io
  have hcis : Frame queueKeys [.cis] v (eyeFlush v) := frame_eyeFlush (.refl ..) (fun _ h => h) (by simp)
  have hadd : Frame playKeys playParts s ((u.add 64 K.ISSUES 1).setSeq (u.seq.played g)) :=
    frame_setSeq (frame_add (h.frame.mono (by simp) fun _ p => p) _ _ (.inl (by simp [playKeys]))) _ (by simp [playParts])
  rw [e]
  refine ⟨(hadd.trans (hv.frame.mono (by simp) fun _ p => p)).trans
    (hcis.mono (fun _ => List.mem_cons_of_mem _) (by simp [playParts])), ?_, ?_⟩
  · rw [hcis.seq (by simp)]
    exact (congrArg (Seq.withPins · s.seq) hv.seq).trans (congrArg (Seq.played · g) h.seq)
  · have hI : ¬Played K.ISSUES := not_played (by decide)
    rw [hcis.num_eq (by simp [queueKeys]) (by simp), hv.num _ hI]
    simp [h.num _ hI]

theorem granulePlays_playOne (s : State) (io : Io) (g : Granule) : GranulePlays g s (playOne s io g) :=
  granulePlays_cyclePlay (plays_cycleBegin (.refl s)) ..

theorem granulePlays_sampleAndPlay (s : State) (io : Io) (w : Nat) (g : Granule) :
    GranulePlays g s (sampleAndPlay s io w g).2 := by
  have h := plays_consume (plays_cycleBegin (Plays.refl s)) (field w 11 8)
  unfold sampleAndPlay
  dsimp only
  exact granulePlays_cyclePlay h _ g _

/-! ### Where an issue stands -/

/-- What of the sequencer says where control goes at the end of an issue. -/
def Seq.place (q : Seq) : Nat × Nat × Nat × List Seg × List Nat × Option JumpReq :=
  (q.seg, q.off, q.entry, q.segs, q.jumpTable, q.jump)

/-- `u` stands at the issue that was due in `s`, and a pending request lands in `u` as `landsAt s d` says. -/
structure Course (d : Nat) (s u : State) : Prop where
  seg : u.seq.seg = s.seq.seg
  off : u.seq.off = s.seq.off
  entry : u.seq.entry = s.seq.entry
  segs : u.seq.segs = s.seq.segs
  table : u.seq.jumpTable = s.seq.jumpTable
  jump : u.seq.jump.map JumpReq.entry = s.seq.jump.map JumpReq.entry
  lands : lands u = landsAt s d
  landed : u.num K.JUMPS_LANDED = s.num K.JUMPS_LANDED
  restarts : u.num K.RESTARTS = s.num K.RESTARTS

theorem Course.refl (s : State) : Course 8 s s := ⟨rfl, rfl, rfl, rfl, rfl, rfl, rfl, rfl, rfl⟩

theorem lands_of_place {u v : State} (h : v.seq.place = u.seq.place) : lands v = lands u := by
  simp only [Seq.place, Prod.mk.injEq] at h
  obtain ⟨hseg, -, -, hsegs, -, hjump⟩ := h
  simp only [lands, Seq.segAt, hseg, hsegs, hjump]

theorem Course.same {d : Nat} {s u v : State} (h : Course d s u) (e : v.seq.place = u.seq.place)
    (hl : v.num K.JUMPS_LANDED = u.num K.JUMPS_LANDED) (hr : v.num K.RESTARTS = u.num K.RESTARTS) : Course d s v := by
  have hlands := lands_of_place e
  simp only [Seq.place, Prod.mk.injEq] at e
  obtain ⟨hseg, hoff, hent, hsegs, htab, hjump⟩ := e
  exact ⟨hseg.trans h.seg, hoff.trans h.off, hent.trans h.entry, hsegs.trans h.segs, htab.trans h.table,
    hjump ▸ h.jump, hlands.trans h.lands, hl.trans h.landed, hr.trans h.restarts⟩

theorem Course.atLast {d : Nat} {s u : State} (h : Course d s u) : atLast u = atLast s := by
  simp only [Machine.atLast, Seq.segAt, h.off, h.seg, h.segs]

theorem Course.after {d : Nat} {s u : State} (h : Course d s u) : u.seq.after u.seq.seg = s.seq.after s.seq.seg := by
  simp only [Seq.after, h.seg, h.segs]

theorem Course.jump_isSome {d : Nat} {s u : State} (h : Course d s u) : u.seq.jump.isSome = s.seq.jump.isSome := by
  simpa using congrArg Option.isSome h.jump

/-- The target of the pending request, by its entry (R172). -/
theorem Course.target {d : Nat} {s u : State} (h : Course d s u) {j : JumpReq} (hj : u.seq.jump = some j) :
    (s.seq.jump.bind fun j => s.seq.jumpTable[j.entry]?).getD 0 = (u.seq.jumpTable[j.entry]?).getD 0 := by
  have e := h.jump
  rw [hj] at e
  cases hs : s.seq.jump with
  | none => rw [hs] at e; exact nomatch e
  | some i =>
    rw [hs] at e
    have : j.entry = i.entry := Option.some.inj e
    simp [h.table, this]

/-! ### What the steps of control leave -/

theorem frame_whReport (s : State) : Frame [] [.units] s (whReport s) := by
  unfold whReport
  refine Frame.ite ((Frame.refl ..).foldl _ fun u t ht h => ?_) (.refl ..)
  exact (frame_setNum h _ (.inr ⟨by simp, played_atTile (by decide) (List.mem_range.1 ht)⟩)).ite h

@[simp] theorem seq_whReport (s : State) : (whReport s).seq = s.seq := (frame_whReport s).seq (by simp)

theorem frame_earlyFeed (s : State) (l : List Granule) : Frame [] [.chans] s (earlyFeed s l) := by
  unfold earlyFeed
  exact (Frame.refl ..).foldl _ fun u c _ h => h.ite (frame_setChan h _ _ (by simp))

@[simp] theorem seq_earlyFeed (s : State) (l : List Granule) : (earlyFeed s l).seq = s.seq :=
  (frame_earlyFeed s l).seq (by simp)

theorem num_whReport (s : State) {k : Nat} (hk : ¬Played k) : (whReport s).num k = s.num k :=
  (frame_whReport s).num k (by simp) fun _ => hk

theorem num_earlyFeed (s : State) (l : List Granule) (k : Nat) : (earlyFeed s l).num k = s.num k :=
  (frame_earlyFeed s l).num_eq (by simp) (by simp)

/-- From `s` to `t` control has gone on: what has been issued stands, and no other unit has changed. -/
structure Steers (ks : List Nat) (s t : State) : Prop where
  frame : Frame ks [.units, .seq, .chans] s t
  cycle : t.seq.cycle = s.seq.cycle
  last : t.seq.last = s.seq.last

theorem Steers.refl (ks : List Nat) (s : State) : Steers ks s s := ⟨.refl .., rfl, rfl⟩

theorem Steers.trans {ks : List Nat} {a b c : State} (h : Steers ks a b) (g : Steers ks b c) : Steers ks a c :=
  ⟨h.frame.trans g.frame, g.cycle.trans h.cycle, g.last.trans h.last⟩

theorem Steers.mono {ks ks' : List Nat} {a b : State} (h : Steers ks a b) (hk : ∀ k ∈ ks, k ∈ ks') : Steers ks' a b :=
  ⟨h.frame.mono hk fun _ p => p, h.cycle, h.last⟩

section
variable {ks : List Nat} {a s : State} (h : Steers ks a s)
include h

theorem Steers.ite {c : Prop} [Decidable c] {t : State} (g : Steers ks a t) : Steers ks a (if c then s else t) := by
  split <;> assumption

theorem steers_setSeq (q : Seq) (hc : q.cycle = s.seq.cycle) (hl : q.last = s.seq.last) : Steers ks a (s.setSeq q) :=
  h.trans ⟨frame_setSeq (.refl ..) _ (by simp), hc, hl⟩

theorem steers_setNum {k : Nat} (v : Nat) (hk : k ∈ ks) : Steers ks a (s.setNum k v) :=
  h.trans ⟨frame_setNum (.refl ..) _ (.inl hk), rfl, rfl⟩

theorem steers_whReport : Steers ks a (whReport s) :=
  h.trans ⟨(frame_whReport s).mono (by simp) (by simp), by simp, by simp⟩

theorem steers_earlyFeed (l : List Granule) : Steers ks a (earlyFeed s l) :=
  h.trans ⟨(frame_earlyFeed s l).mono (by simp) (by simp), by simp, by simp⟩

theorem steers_popGranule : Steers ks a (popGranule s) := by
  unfold popGranule
  dsimp only
  split
  · exact steers_setSeq h _ rfl rfl
  · exact steers_setSeq h _ rfl rfl
  · exact steers_whReport (steers_setSeq h _ rfl rfl)

theorem steers_releaseBodies : Steers ks a (releaseBodies s) := steers_setSeq h _ rfl rfl

theorem steers_enterSegment (n : Nat) (b : Bool) : Steers ks a (enterSegment s n b) := steers_setSeq h _ rfl rfl

theorem steers_restart (hr : K.RESTARTS ∈ ks) (n : Nat) (l : List Granule) (b : Bool) : Steers ks a (restart s n l b) := by
  unfold restart
  dsimp only
  exact steers_whReport (steers_setNum (by exact steers_setSeq (steers_earlyFeed h _) _ rfl rfl) _ hr)

theorem steers_landJump (hl : K.JUMPS_LANDED ∈ ks) (hr : K.RESTARTS ∈ ks) : Steers ks a (landJump s) := by
  unfold landJump
  split
  · exact h
  · dsimp only
    refine steers_restart (steers_releaseBodies ?_) hr _ _ _
    exact steers_setNum (by exact steers_setSeq h _ rfl rfl) _ hl

theorem steers_endTo (hl : K.JUMPS_LANDED ∈ ks) (hr : K.RESTARTS ∈ ks) (n : Option Nat) (b : Bool) :
    Steers ks a (endTo s n b) := by
  unfold endTo
  refine (steers_landJump h hl hr).ite ?_
  split
  · exact steers_enterSegment (steers_popGranule h) _ _
  · exact steers_setSeq h _ rfl rfl

theorem steers_endBranch (hl : K.JUMPS_LANDED ∈ ks) (hr : K.RESTARTS ∈ ks) (n : Nat) : Steers ks a (endBranch s n) := by
  unfold endBranch
  refine (steers_landJump h hl hr).ite ?_
  dsimp only
  split <;> exact steers_restart h hr _ _ _

theorem steers_goNext (hl : K.JUMPS_LANDED ∈ ks) (hr : K.RESTARTS ∈ ks) : Steers ks a (goNext s) := by
  unfold goNext
  exact (steers_endTo h hl hr _ _).ite (steers_setSeq (steers_popGranule h) _ rfl rfl)

end

/-- The granule due leaves its source alone (R181). -/
theorem seq_popGranule (s : State) :
    ∃ side stream primed, (popGranule s).seq = { s.seq with side := side, stream := stream, primed := primed } := by
  unfold popGranule
  dsimp only
  split
  · exact ⟨_, _, _, rfl⟩
  · exact ⟨_, _, _, rfl⟩
  · exact ⟨_, _, _, seq_whReport _⟩

theorem num_popGranule (s : State) {k : Nat} (hk : ¬Played k) : (popGranule s).num k = s.num k :=
  (steers_popGranule (Steers.refl [] s)).frame.num k (by simp) fun _ => hk

/-- A restart (R191, R192): the target issues next from its first granule, and the stacks stand. -/
structure Restarted (n : Nat) (s t : State) : Prop where
  seg : t.seq.seg = n
  off : t.seq.off = 0
  made : t.seq.made = 0
  loops : t.seq.loops = s.seq.loops
  calls : t.seq.calls = s.seq.calls
  jump : t.seq.jump = s.seq.jump
  landed : t.num K.JUMPS_LANDED = s.num K.JUMPS_LANDED
  restarts : t.num K.RESTARTS = (s.num K.RESTARTS + 1) % 2 ^ 64

theorem restarted_restart (s : State) (n : Nat) (l : List Granule) (b : Bool) : Restarted n s (restart s n l b) := by
  unfold restart
  constructor
  case landed => rw [num_whReport _ (not_played (by decide))]; simp [num_earlyFeed]
  case restarts => rw [num_whReport _ (not_played (by decide))]; simp [num_earlyFeed]
  all_goals simp

/-- A branch that no landing replaces restarts at its target (R191). -/
theorem endBranch_restarts {s : State} (h : lands s = false) (n : Nat) : Restarted n s (endBranch s n) := by
  unfold endBranch
  rw [h, if_neg (by simp)]
  dsimp only
  split <;> exact restarted_restart ..

/-! ### Where control goes -/

theorem Course.landed_landJump {d : Nat} {s u : State} (c : Course d s u) (h : Machine.lands u = true) :
    Landed s (landJump u) := by
  cases hj : u.seq.jump with
  | none => rw [Machine.lands, hj] at h; exact nomatch h
  | some j =>
    unfold landJump Landed
    rw [hj, c.target hj]
    dsimp only
    have r := restarted_restart
      (releaseBodies ((u.setSeq { u.seq with jump := none, reserve := none, loops := [], calls := [] }).inc K.JUMPS_LANDED))
    refine ⟨(r ..).seg, (r ..).off, (r ..).made, (r ..).loops, (r ..).calls, (r ..).jump, (r ..).landed.trans ?_,
      (r ..).restarts.trans ?_⟩ <;> simp [releaseBodies, c.landed, c.restarts]

theorem Course.ends_endTo {d : Nat} {s u : State} (c : Course d s u) (n : Option Nat) (b : Bool) :
    Ends d n b u.seq.loops u.seq.calls s (endTo u n b) := by
  unfold Ends endTo
  rw [← c.lands]
  split
  · exact c.landed_landJump ‹_›
  · cases n with
    | none => exact ⟨⟨c.jump_isSome, c.landed, c.restarts, rfl, c.seg, c.off⟩, rfl, rfl⟩
    | some i =>
      obtain ⟨x, y, z, hq⟩ := seq_popGranule u
      have hn {k : Nat} (hk : ¬Played k) : (enterSegment (popGranule u) i b).num k = u.num k := num_popGranule u hk
      refine ⟨⟨?_, (hn (not_played (by decide))).trans c.landed, (hn (not_played (by decide))).trans c.restarts, rfl, rfl, rfl,
        rfl, ?_⟩, ?_, ?_⟩ <;> simp [enterSegment, hq, c.jump_isSome, c.entry]

theorem Course.branches_endBranch {d : Nat} {s u : State} (c : Course d s u) (hl : u.seq.loops = s.seq.loops)
    (hc : u.seq.calls = s.seq.calls) (n : Nat) : Branches d n s (endBranch u n) := by
  unfold Branches
  rw [← c.lands]
  split
  · have e : endBranch u n = landJump u := if_pos ‹_›
    exact e ▸ c.landed_landJump ‹_›
  · have r := endBranch_restarts (eq_false_of_ne_true ‹_›) n
    exact ⟨r.seg, r.off, r.made, r.loops.trans hl, r.calls.trans hc, by rw [r.jump, c.jump_isSome],
      r.restarts.trans (by rw [c.restarts])⟩

theorem Course.goesOnWith_goNext {d : Nat} {s u : State} (c : Course d s u) (hc : u.seq.calls = s.seq.calls) :
    GoesOnWith d u.seq.loops s (goNext u) := by
  unfold GoesOnWith goNext
  rw [c.atLast, c.after]
  split
  · exact hc ▸ c.ends_endTo _ _
  · obtain ⟨x, y, z, hq⟩ := seq_popGranule u
    simp [hq, c.seg, c.off, c.entry, hc]

/-! ### A change of ATTN hides nothing of where control has gone -/

section
variable {d : Nat} {s u t : State} (g : Frame [] [] u t)
include g

theorem Frame.num_all (k : Nat) : t.num k = u.num k := g.num_eq (by simp) (by simp)
theorem Frame.seq_all : t.seq = u.seq := g.seq (by simp)

theorem Ends.seen {n : Option Nat} {b : Bool} {l : List LoopEntry} {c : List (Option Nat)} (h : Ends d n b l c s u) :
    Ends d n b l c s t := by
  unfold Ends Landed Left at *
  rw [g.seq_all, g.num_all, g.num_all]
  exact h

theorem GoesOnWith.seen {l : List LoopEntry} (h : GoesOnWith d l s u) : GoesOnWith d l s t := by
  unfold GoesOnWith at *
  split at h
  · rw [if_pos ‹_›]; exact Ends.seen g h
  · rw [if_neg ‹_›, g.seq_all]; exact h

theorem Branches.seen {n : Nat} (h : Branches d n s u) : Branches d n s t := by
  unfold Branches Landed at *
  rw [g.seq_all, g.num_all, g.num_all]
  exact h

end

/-! ### An issue is made -/

/-- The counters that every issue, or the control after it, moves. -/
def countKeys : List Nat := [K.ISSUES, K.UC_CORRECTED, K.JUMPS_LANDED, K.RESTARTS]

/-- The counters of a landing (R176, R192). -/
def landKeys : List Nat := [K.JUMPS_LANDED, K.RESTARTS]

theorem frame_prepared (s : State) (io : Io) (w : Nat) : Frame [K.UC_CORRECTED] [.uc] s (prepared s io w) := by
  unfold prepared ucRead
  exact frame_setUc (Frame.ite (frame_inc (.refl ..) (.inl (by simp))) (.refl ..)) _ (by simp)

theorem num_prepared (s : State) (io : Io) (w k : Nat) : (prepared s io w).num k =
    if k = K.UC_CORRECTED then (if io.uc = 1 then inc32 (s.num K.UC_CORRECTED) else s.num K.UC_CORRECTED) else s.num k := by
  unfold prepared ucRead
  split <;> split <;> simp_all

theorem seq_prepared (s : State) (io : Io) (w : Nat) : (prepared s io w).seq = s.seq := (frame_prepared s io w).seq (by simp)

theorem uc_prepared (s : State) (io : Io) (w : Nat) :
    (prepared s io w).uc = { s.uc with lastUpc := (prepared s io w).uc.lastUpc, inRoutine := false } := by
  unfold prepared ucRead
  split <;> rfl

theorem IssueDue.served {s : State} {io : Io} {w : Nat} {g : Granule} (h : IssueDue s io w g) : s.pwr.stopped = false := by
  obtain ⟨⟨hs, -⟩, -⟩ := h
  exact hs

/-- An issue that is due is its instruction's body, on the state in which it plays (R244, R273). -/
theorem issueRow_due {s : State} {io : Io} {w : Nat} {g : Granule} (h : IssueDue s io w g) {cls : Nat → Bool}
    (hc : cls w = true) (body : State → Nat → Granule → State) :
    issueRow s io cls body = body (prepared s io w) w g := by
  obtain ⟨⟨-, hrun, hwait, hroutine, hdefer, hword, hgran, hprog, hread⟩, hdisp⟩ := h
  have hucRead : (ucRead s io.uc).uc = s.uc := by unfold ucRead; split <;> rfl
  unfold issueRow prepared
  simp [hrun, hwait, hroutine, hdefer, hword, hc, hprog, hgran, hread, hucRead, hdisp]

/-- A command that issues an instruction leaves, where the issue is due, what the instruction's body leaves. -/
theorem exec_row {s : State} {io : Io} {w : Nat} {g : Granule} {c : Instr} {cls : Nat → Bool}
    {body : State → Nat → Granule → State} (hc : exec c s = took s fun s => issueRow s io cls body)
    (h : IssueDue s io w g) (hw : cls w = true) :
    ∃ t, exec c s = .next t ∧ Frame [] [] (body (prepared s io w) w g) t := by
  obtain ⟨t, ht, hf⟩ := took_next (fun s => issueRow s io cls body) h.served
  rw [issueRow_due h hw] at hf
  exact ⟨t, hc.trans ht, hf [] []⟩

/-- The issue due in `s` has been made in `u`, where control has still to go on; its instruction has changed `pk` and `pp`
besides. -/
structure IssueMade (io : Io) (g : Granule) (pk : List Nat) (pp : List Part) (s u : State) : Prop where
  frame : Frame (pk ++ K.UC_CORRECTED :: playKeys) (pp ++ .uc :: playParts) s u
  seq : u.seq.withPins s.seq = s.seq.played g
  issues : u.num K.ISSUES = (s.num K.ISSUES + 1) % 2 ^ 64
  corrected : u.num K.UC_CORRECTED = if io.uc = 1 then inc32 (s.num K.UC_CORRECTED) else s.num K.UC_CORRECTED
  landed : u.num K.JUMPS_LANDED = s.num K.JUMPS_LANDED
  restarts : u.num K.RESTARTS = s.num K.RESTARTS
  uc : u.uc = { s.uc with lastUpc := u.uc.lastUpc, inRoutine := false }

theorem issueMade_of_plays {s p u : State} {io : Io} {w : Nat} {g : Granule} {pk : List Nat} {pp : List Part}
    (hp : Frame pk pp (prepared s io w) p) (hk : ∀ k ∈ countKeys, k ∉ pk) (hq : Part.seq ∉ pp) (hu : Part.uc ∉ pp)
    (h : GranulePlays g p u) : IssueMade io g pk pp s u := by
  have hcount {k : Nat} (hm : k ∈ countKeys) (hl : k < 0x300000) : p.num k = (prepared s io w).num k :=
    hp.num k (hk k hm) fun _ => not_played hl
  have hstand {k : Nat} (hm : k ∈ countKeys) (hl : k < 0x300000) (hn : k ∉ playKeys) :
      u.num k = (prepared s io w).num k := (h.frame.num k hn fun _ => not_played hl).trans (hcount hm hl)
  have huc : u.uc = (prepared s io w).uc := (h.frame.uc (by simp [playParts])).trans (hp.uc hu)
  have hseq : p.seq = s.seq := (hp.seq hq).trans (seq_prepared s io w)
  refine ⟨?_, hseq ▸ h.seq, ?_, ?_, ?_, ?_, ?_⟩
  · have h1 := (frame_prepared s io w).mono (ks' := pk ++ K.UC_CORRECTED :: playKeys) (ps' := pp ++ .uc :: playParts)
      (by simp) (by simp)
    refine (h1.trans (hp.mono ?_ ?_)).trans (h.frame.mono ?_ ?_) <;> intro x hx <;> simp [hx]
  · rw [h.issues, hcount (by decide) (by decide), num_prepared, if_neg (by decide)]
  · rw [hstand (by decide) (by decide) (by decide), num_prepared, if_pos rfl]
  · rw [hstand (by decide) (by decide) (by decide), num_prepared, if_neg (by decide)]
  · rw [hstand (by decide) (by decide) (by decide), num_prepared, if_neg (by decide)]
  · rw [huc]; exact uc_prepared s io w

/-- An issue whose instruction does no more than to play. -/
theorem issueMade_playOne (s : State) (io : Io) (w : Nat) (g : Granule) :
    IssueMade io g [] [] s (playOne (prepared s io w) io g) :=
  issueMade_of_plays (.refl ..) (by simp) (by simp) (by simp) (granulePlays_playOne ..)

theorem issueMade_sampleAndPlay (s : State) (io : Io) (w v : Nat) (g : Granule) :
    IssueMade io g [] [] s (sampleAndPlay (prepared s io w) io v g).2 :=
  issueMade_of_plays (.refl ..) (by simp) (by simp) (by simp) (granulePlays_sampleAndPlay ..)

section
variable {io : Io} {g : Granule} {pk ck ks : List Nat} {pp ps : List Part} {s u v t : State} (m : IssueMade io g pk pp s u)
include m

/-- What of the sequencer neither pins nor the count of an issue change stands. -/
theorem IssueMade.kept {α : Type} (f : Seq → α) (hw : ∀ q r : Seq, f (q.withPins r) = f q)
    (hg : ∀ q : Seq, f (q.played g) = f q) : f u.seq = f s.seq :=
  (hw ..).symm.trans ((congrArg f m.seq).trans (hg _))

theorem IssueMade.jump : u.seq.jump = s.seq.jump.map fun j => { j with d := j.d + 1 } := congrArg Seq.jump m.seq
theorem IssueMade.loops : u.seq.loops = s.seq.loops := m.kept Seq.loops (fun _ _ => rfl) fun _ => rfl
theorem IssueMade.calls : u.seq.calls = s.seq.calls := m.kept Seq.calls (fun _ _ => rfl) fun _ => rfl
theorem IssueMade.made : u.seq.made = s.seq.made := m.kept Seq.made (fun _ _ => rfl) fun _ => rfl
theorem IssueMade.back : u.seq.back = s.seq.back := m.kept Seq.back (fun _ _ => rfl) fun _ => rfl
theorem IssueMade.wait : u.seq.wait = s.seq.wait := m.kept Seq.wait (fun _ _ => rfl) fun _ => rfl

/-- A request that has counted 7 issues lands at the end of this one (R173, R174). -/
theorem IssueMade.lands : Machine.lands u = landsAt s 7 := by
  have hseg : u.seq.seg = s.seq.seg := m.kept Seq.seg (fun _ _ => rfl) fun _ => rfl
  have hsegs : u.seq.segs = s.seq.segs := m.kept Seq.segs (fun _ _ => rfl) fun _ => rfl
  simp only [Machine.lands, landsAt, m.jump, Seq.segAt, hseg, hsegs]
  cases s.seq.jump with
  | none => rfl
  | some j => simp

theorem IssueMade.course : Course 7 s u where
  seg := m.kept Seq.seg (fun _ _ => rfl) fun _ => rfl
  off := m.kept Seq.off (fun _ _ => rfl) fun _ => rfl
  entry := m.kept Seq.entry (fun _ _ => rfl) fun _ => rfl
  segs := m.kept Seq.segs (fun _ _ => rfl) fun _ => rfl
  table := m.kept Seq.jumpTable (fun _ _ => rfl) fun _ => rfl
  jump := by rw [m.jump]; cases s.seq.jump <;> rfl
  lands := m.lands
  landed := m.landed
  restarts := m.restarts

theorem IssueMade.issued (c : Steers ck u v) (ht : Frame [] [] v t) (hi : K.ISSUES ∉ ck) (hu : K.UC_CORRECTED ∉ ck) :
    Issued io g s t := by
  have hnum {k : Nat} (hk : k ∉ ck) (hl : k < 0x300000) : t.num k = u.num k :=
    (ht.num_all k).trans (c.frame.num k hk fun _ => not_played hl)
  have huc : t.uc = u.uc := (ht.uc (by simp)).trans (c.frame.uc (by simp))
  refine ⟨(hnum hi (by decide)).trans m.issues, ?_, ?_, (hnum hu (by decide)).trans m.corrected, ?_⟩
  · rw [ht.seq_all, c.cycle]; exact congrArg Seq.cycle m.seq
  · rw [ht.seq_all, c.last]; exact congrArg Seq.last m.seq
  · rw [huc]; exact m.uc

theorem IssueMade.frame_after (c : Steers ck u v) (ht : Frame [] [] v t) (hpk : ∀ k ∈ pk, k ∈ ks) (hck : ∀ k ∈ ck, k ∈ ks)
    (hks : ∀ k ∈ issueKeys, k ∈ ks) (hpp : ∀ p ∈ pp, p ∈ ps) (hps : ∀ p ∈ issueParts, p ∈ ps) : Frame ks ps s t := by
  have hplay : ∀ k ∈ K.UC_CORRECTED :: playKeys, k ∈ issueKeys := by decide
  have hparts : ∀ p ∈ Part.uc :: playParts, p ∈ issueParts := by decide
  have hctl : ∀ p ∈ [Part.units, .seq, .chans], p ∈ issueParts := by decide
  have h1 : Frame ks ps s u := m.frame.mono
    (fun k hk => (List.mem_append.1 hk).elim (hpk k) fun h => hks k (hplay k h))
    (fun p hp => (List.mem_append.1 hp).elim (hpp p) fun h => hps p (hparts p h))
  have h2 : Frame ks ps u v := c.frame.mono hck fun p hp => hps p (hctl p hp)
  exact (h1.trans h2).trans (ht.mono (by simp) (by simp))

end

end Sys2Proof.Machine

/-! PROOFS. The instructions of a pattern program that move control: RPT and HOLD (O26), LOOP and ENDL (O27), CALL, RET and JMP
(O28), JIF and MATCH (O29), SYNCW and SYNCS (O30). -/

namespace Sys2Proof.Machine

/-! ### What an issue and the control after it make together -/

section
variable {io : Io} {g : Granule} {pk ck : List Nat} {pp : List Part} {s u v t : State} (m : IssueMade io g pk pp s u)
include m

/-- Control may go on from a state that has changed since the issue in other places than those that say where it goes. -/
theorem IssueMade.course_from (c : Steers ck u v) (hck : ∀ k ∈ countKeys, k ∉ ck) (hp : v.seq.place = u.seq.place) :
    Course 7 s v :=
  m.course.same hp (c.frame.num _ (hck _ (by decide)) fun _ => not_played (by decide))
    (c.frame.num _ (hck _ (by decide)) fun _ => not_played (by decide))

theorem IssueMade.issued_framed (c : Steers (ck ++ landKeys) u v) (hck : ∀ k ∈ countKeys, k ∉ ck) (ht : Frame [] [] v t) :
    Issued io g s t ∧ Frame (pk ++ (ck ++ issueKeys)) (pp ++ issueParts) s t := by
  have hland : ∀ k ∈ landKeys, k ∈ issueKeys := by decide
  have hI : K.ISSUES ∉ ck ++ landKeys := by
    simpa [landKeys, K.ISSUES, K.JUMPS_LANDED, K.RESTARTS] using hck K.ISSUES (by decide)
  have hU : K.UC_CORRECTED ∉ ck ++ landKeys := by
    simpa [landKeys, K.UC_CORRECTED, K.JUMPS_LANDED, K.RESTARTS] using hck K.UC_CORRECTED (by decide)
  refine ⟨m.issued c ht hI hU, m.frame_after c ht ?_ ?_ ?_ ?_ ?_⟩
  · intro k hk; simp [hk]
  · intro k hk
    rcases List.mem_append.1 hk with h | h
    · simp [h]
    · simp [hland k h]
  · intro k hk; simp [hk]
  · intro p hp; simp [hp]
  · intro p hp; simp [hp]

theorem IssueMade.goes_on_from (ht : Frame [] [] (goNext v) t) (c : Steers ck u v) (hck : ∀ k ∈ countKeys, k ∉ ck)
    (hp : v.seq.place = u.seq.place) (hcalls : v.seq.calls = u.seq.calls) :
    Issued io g s t ∧ GoesOnWith 7 v.seq.loops s t ∧ Frame (pk ++ (ck ++ issueKeys)) (pp ++ issueParts) s t := by
  have hgo : Steers (ck ++ landKeys) u (goNext v) :=
    steers_goNext (c.mono fun _ h => List.mem_append_left _ h) (by simp [landKeys]) (by simp [landKeys])
  obtain ⟨h1, h2⟩ := m.issued_framed hgo hck ht
  have hc := (m.course_from c hck hp).goesOnWith_goNext (hcalls.trans m.calls)
  exact ⟨h1, hc.seen ht, h2⟩

theorem IssueMade.goes_on (ht : Frame [] [] (goNext u) t) :
    Issued io g s t ∧ GoesOn 7 s t ∧ Frame (pk ++ issueKeys) (pp ++ issueParts) s t := by
  have h := m.goes_on_from ht (.refl [] u) (by simp) rfl rfl
  rw [m.loops] at h
  exact h

theorem IssueMade.ends_from {n : Option Nat} {b : Bool} (ht : Frame [] [] (endTo v n b) t) (c : Steers [] u v)
    (hp : v.seq.place = u.seq.place) :
    Issued io g s t ∧ Frame (pk ++ issueKeys) (pp ++ issueParts) s t ∧ Ends 7 n b v.seq.loops v.seq.calls s t := by
  have hgo : Steers ([] ++ landKeys) u (endTo v n b) :=
    steers_endTo (c.mono (by simp)) (by simp [landKeys]) (by simp [landKeys]) n b
  obtain ⟨h1, h2⟩ := m.issued_framed hgo (by simp) ht
  exact ⟨h1, h2, ((m.course_from c (by simp) hp).ends_endTo n b).seen ht⟩

theorem IssueMade.ends {n : Option Nat} {b : Bool} {l : List LoopEntry} {c : List (Option Nat)}
    (ht : Frame [] [] (endTo (u.setSeq { u.seq with loops := l, calls := c }) n b) t) :
    Issued io g s t ∧ Frame (pk ++ issueKeys) (pp ++ issueParts) s t ∧ Ends 7 n b l c s t :=
  m.ends_from ht (steers_setSeq (.refl ..) _ rfl rfl) rfl

/-- The same where the bodies of popped entries are released (R210). -/
theorem IssueMade.ends_releasing {n : Option Nat} {b : Bool} {l : List LoopEntry}
    (ht : Frame [] [] (endTo (releaseBodies (u.setSeq { u.seq with loops := l })) n b) t) :
    Issued io g s t ∧ Frame (pk ++ issueKeys) (pp ++ issueParts) s t ∧ Ends 7 n b l u.seq.calls s t :=
  m.ends_from ht (steers_releaseBodies (steers_setSeq (.refl ..) _ rfl rfl)) rfl

theorem IssueMade.branches {n : Nat} (ht : Frame [] [] (endBranch u n) t) :
    Issued io g s t ∧ Branches 7 n s t ∧ Frame (pk ++ issueKeys) (pp ++ issueParts) s t := by
  have hgo : Steers ([] ++ landKeys) u (endBranch u n) :=
    steers_endBranch (.refl ..) (by simp [landKeys]) (by simp [landKeys]) n
  obtain ⟨h1, h2⟩ := m.issued_framed hgo (by simp) ht
  exact ⟨h1, (m.course.branches_endBranch m.loops m.calls n).seen ht, h2⟩

theorem IssueMade.stays {x : Wait} {k : Nat} (ht : Frame [] [] (u.setSeq { u.seq with made := k, wait := x }) t) :
    Issued io g s t ∧ Frame (pk ++ issueKeys) (pp ++ issueParts) s t ∧ StacksStand s t ∧ t.seq.seg = s.seq.seg ∧
      t.seq.off = s.seq.off ∧ t.seq.entry = s.seq.entry ∧ t.seq.made = k ∧ t.seq.wait = x := by
  have hgo : Steers ([] ++ landKeys) u (u.setSeq { u.seq with made := k, wait := x }) := steers_setSeq (.refl ..) _ rfl rfl
  obtain ⟨h1, h2⟩ := m.issued_framed hgo (by simp) ht
  have hq := ht.seq_all
  refine ⟨h1, h2, ⟨?_, ?_, ?_⟩, ?_, ?_, ?_, ?_, ?_⟩ <;> rw [hq]
  exacts [m.loops, m.calls, m.jump, m.course.seg, m.course.off, m.course.entry, rfl, rfl]

theorem IssueMade.issues_again (hw : s.seq.wait = .none) (ht : Frame [] [] (goAgain u) t) :
    Issued io g s t ∧ StacksStand s t ∧ IssuesAgain s t ∧ Frame (pk ++ issueKeys) (pp ++ issueParts) s t := by
  obtain ⟨h1, h2, h3, hseg, hoff, hent, hmade, hwait⟩ := m.stays (x := u.seq.wait) (k := u.seq.made + 1) ht
  exact ⟨h1, h3, ⟨hseg, hoff, hent, by rw [hmade, m.made], by rw [hwait, m.wait, hw]⟩, h2⟩

theorem IssueMade.waits {x : Wait} (ht : Frame [] [] (u.setSeq { u.seq with wait := x }) t) :
    Issued io g s t ∧ StacksStand s t ∧ t.seq.wait = x ∧ t.seq.seg = s.seq.seg ∧ t.seq.off = s.seq.off ∧
      Frame (pk ++ issueKeys) (pp ++ issueParts) s t := by
  obtain ⟨h1, h2, h3, hseg, hoff, -, -, hwait⟩ := m.stays (x := x) (k := u.seq.made) ht
  exact ⟨h1, h3, hwait, hseg, hoff, h2⟩

end

theorem IssueDue.wait {s : State} {io : Io} {w : Nat} {g : Granule} (h : IssueDue s io w g) : s.seq.wait = .none := by
  obtain ⟨⟨-, -, hwait, -⟩, -⟩ := h
  exact hwait

/-! ### CALL, RET and JMP -/

/-- Settles O28: each issues, changes its stack alone, and ends its segment for the target it chooses. -/
theorem callRetJmp : Obligations.CallRetJmp := by
  intro s io w g h
  have m := issueMade_playOne s io w g
  refine ⟨fun hw => ?_, fun n r hw hr => ?_, fun hw => ?_⟩
  · obtain ⟨t, ht, hf⟩ := exec_row (c := .call io) rfl h (by simp [opIs, hw])
    obtain ⟨h1, h2, h3⟩ := m.ends hf
    refine ⟨t, ht, h1, h2, ?_⟩
    rw [← m.loops, ← m.calls, ← m.course.after]
    exact h3
  · obtain ⟨t, ht, hf⟩ := exec_row (c := .ret io) rfl h (by simp [opIs, hw])
    simp only [m.calls, hr] at hf
    obtain ⟨h1, h2, h3⟩ := m.ends hf
    exact ⟨t, ht, h1, h2, m.loops ▸ h3⟩
  · obtain ⟨t, ht, hf⟩ := exec_row (c := .jmp io) rfl h (by simp [opIs, hw])
    obtain ⟨h1, h2, h3⟩ := m.ends_from hf (.refl ..) rfl
    exact ⟨t, ht, h1, h2, by rw [← m.loops, ← m.calls]; exact h3⟩

/-! ### LOOP and ENDL -/

theorem frame_reportHeads (s : State) : Frame headKeys [] s (reportHeads s) := by
  have hn : Frame headKeys [] s (s.setNums [(K.HEADS_TOTAL, s.seq.headOrder.length), (K.HEADS_RESIDENT, s.seq.heads.length),
      (K.HEAD_BYTES, headsHeld s.seq)]) := frame_setNums (.refl ..) _ (by simp [headKeys])
  exact frame_setFlag hn _ _ (.inl (by simp [headKeys]))

/-- From `s` to `t` the loop cache alone has changed. -/
structure Caches (s t : State) : Prop where
  steers : Steers headKeys s t
  place : t.seq.place = s.seq.place
  loops : t.seq.loops = s.seq.loops
  calls : t.seq.calls = s.seq.calls

theorem Caches.refl (s : State) : Caches s s := ⟨.refl .., rfl, rfl, rfl⟩

theorem caches_heads (s : State) (heads : List Head) (evicted : List Nat) (bodies : List Body) :
    Caches s (s.setSeq { s.seq with heads := heads, evicted := evicted, bodies := bodies }) :=
  ⟨steers_setSeq (.refl ..) _ rfl rfl, rfl, rfl, rfl⟩

theorem Caches.setNum {a s : State} (h : Caches a s) {k : Nat} (v : Nat) (hk : k ∈ headKeys) : Caches a (s.setNum k v) :=
  ⟨steers_setNum h.steers v hk, h.place, h.loops, h.calls⟩

theorem Caches.reportHeads {a s : State} (h : Caches a s) : Caches a (reportHeads s) :=
  ⟨h.steers.trans ⟨(frame_reportHeads s).mono (fun _ k => k) (by simp), rfl, rfl⟩, h.place, h.loops, h.calls⟩

/-- Opening a body in the loop cache changes the loop cache and its objects alone (R171, R185, R209, R211). -/
theorem caches_openBody (s : State) (l : Nat) : Caches s (openBody s l) := by
  unfold openBody
  split
  · exact .refl _
  · rename_i segs _
    extract_lets need q nested need' q1 q2 s2
    split
    · exact .refl _
    · split
      · exact (caches_heads s _ _ _).reportHeads
      · have h : Caches s s2 := caches_heads s _ _ _
        exact ((h.setNum _ (by simp [headKeys])).setNum _ (by simp [headKeys])).reportHeads

/-- A LOOP that control reaches from outside pushes its entry, and its body may be opened (R152, R209). -/
theorem IssueMade.goes_on_pushed {io : Io} {g : Granule} {pk : List Nat} {pp : List Part} {s u t : State} {w : Nat}
    (m : IssueMade io g pk pp s u) {l : List LoopEntry}
    (ht : Frame [] [] (goNext (if bit w 8 then openBody (u.setSeq { u.seq with loops := l }) u.seq.seg
      else u.setSeq { u.seq with loops := l })) t) :
    Issued io g s t ∧ GoesOnWith 7 l s t ∧ Frame (pk ++ (headKeys ++ issueKeys)) (pp ++ issueParts) s t := by
  have hpush : Steers headKeys u (u.setSeq { u.seq with loops := l }) := steers_setSeq (.refl ..) _ rfl rfl
  split at ht
  · have c := caches_openBody (u.setSeq { u.seq with loops := l }) u.seq.seg
    have h := m.goes_on_from ht (hpush.trans c.steers) (by decide) c.place c.calls
    rw [c.loops] at h
    exact h
  · exact m.goes_on_from ht hpush (by decide) rfl rfl

/-- Settles O27: a LOOP pushes its entry unless the loop-back brought control to it; an ENDL counts its entry down or pops
it. -/
theorem loopAndEndl : Obligations.LoopAndEndl := by
  intro s io w g h
  have m := issueMade_playOne s io w g
  refine ⟨fun hw => ?_, fun e r hw hr => ?_⟩
  · obtain ⟨t, ht, hf⟩ := exec_row (c := .loop io) rfl h (by simp [opIs, hw])
    refine ⟨t, ht, ?_⟩
    dsimp only at hf
    rw [← m.back]
    by_cases hb : (playOne (prepared s io w) io g).seq.back = true
    · rw [if_pos hb] at hf ⊢
      obtain ⟨h1, h2, h3⟩ := m.goes_on hf
      exact ⟨h1, h2, h3.mono (fun _ k => List.mem_append_right _ k) fun _ p => p⟩
    · rw [if_neg hb] at hf ⊢
      rw [← m.loops, ← m.course.seg]
      exact m.goes_on_pushed hf
  · obtain ⟨t, ht, hf⟩ := exec_row (c := .endl io) rfl h (by simp [opIs, hw])
    refine ⟨t, ht, ?_⟩
    simp only [m.loops, hr] at hf
    by_cases he : e.rem = 0
    · rw [if_pos he] at hf
      obtain ⟨h1, h2, h3⟩ := m.ends_releasing hf
      exact ⟨h1, fun _ => m.calls ▸ m.course.after ▸ h3, fun h0 => absurd he h0, h2⟩
    · rw [if_neg he] at hf
      obtain ⟨h1, h2, h3⟩ := m.ends hf
      exact ⟨h1, fun h0 => absurd h0 he, fun _ => m.calls ▸ h3, h2⟩

/-! ### Boundaries at which no granule issues -/

section
variable {ck : List Nat} {s v u t : State}

/-- Control goes on at a boundary without an issue: what has been issued stands. -/
theorem Steers.boundary (c : Steers (ck ++ landKeys) s u) (hI : K.ISSUES ∉ ck ++ landKeys) (ht : Frame [] [] u t) :
    t.num K.ISSUES = s.num K.ISSUES ∧ Frame (ck ++ landKeys) issueParts s t ∧ t.uc = s.uc :=
  ⟨(ht.num_all _).trans (c.frame.num _ hI fun _ => not_played (by decide)),
    (c.frame.mono (fun _ k => k) (by simp [issueParts])).trans (ht.mono (by simp) (by simp)),
    (ht.uc (by simp)).trans (c.frame.uc (by simp))⟩

theorem goesOn_at_boundary (hp : v.seq.place = s.seq.place) (hl : v.seq.loops = s.seq.loops)
    (hc : v.seq.calls = s.seq.calls) (c : Steers [] s v) (ht : Frame [] [] (goNext v) t) :
    GoesOn 8 s t ∧ t.num K.ISSUES = s.num K.ISSUES ∧ Frame landKeys issueParts s t ∧ t.uc = s.uc := by
  have hcourse : Course 8 s v := (Course.refl s).same hp (c.frame.num _ (by simp) fun _ => not_played (by decide))
    (c.frame.num _ (by simp) fun _ => not_played (by decide))
  have hgo : Steers ([] ++ landKeys) s (goNext v) :=
    steers_goNext (c.mono (by simp)) (by simp [landKeys]) (by simp [landKeys])
  refine ⟨?_, hgo.boundary (by decide) ht⟩
  have h := (hcourse.goesOnWith_goNext hc).seen ht
  rw [hl] at h
  exact h

theorem wait_goNext (h : atLast s = false) : (goNext s).seq.wait = s.seq.wait := by
  obtain ⟨x, y, z, hq⟩ := seq_popGranule s
  simp [goNext, h, hq]

end

/-! ### RPT and HOLD -/

theorem rptCountEnd_ends {s : State} (hr : running s = true) (hw : s.seq.wait = .repeatDone) :
    rptCountEnd s = goNext (s.setSeq { s.seq with wait := .none }) := by
  simp [rptCountEnd, hr, hw]

theorem holdEnd_ends {s : State} {w : Nat} (hr : running s = true) (hw : s.seq.wait = .none) (hd : dueWord s = some w)
    (h9 : w % 256 = 9) (ho : holdOver s = true) : holdEnd s = goNext s := by
  simp [holdEnd, hr, hw, hd, opIs, h9, ho]

/-- Settles O26: an issue of RPT or HOLD stays at its granule, and the boundaries that end them move control on. -/
theorem rptAndHoldRepeat : Obligations.RptAndHoldRepeat := by
  refine ⟨fun s io w g h => ⟨fun hw => ?_, fun hw ho => ?_⟩, fun s hs hr => ⟨fun hw => ?_, fun w hw hd h9 ho => ?_⟩⟩
  · have m := issueMade_playOne s io w g
    obtain ⟨t, ht, hf⟩ := exec_row (c := .rpt io) rfl h (by simp [opIs, hw])
    refine ⟨t, ht, ?_⟩
    dsimp only at hf
    rw [← m.made]
    by_cases hlast : (playOne (prepared s io w) io g).seq.made = field w 63 32
    · rw [if_pos hlast] at hf
      obtain ⟨h1, h2, h3, h4, h5, h6⟩ := m.waits hf
      exact ⟨h1, h2, h6, fun hn => absurd hlast hn, fun _ => ⟨h3, h4, h5⟩⟩
    · rw [if_neg hlast] at hf
      obtain ⟨h1, h2, h3, h4⟩ := m.issues_again h.wait hf
      exact ⟨h1, h2, h4, fun _ => h3, fun he => absurd he hlast⟩
  · obtain ⟨t, ht, hf⟩ := took_next (fun s => hold s io) h.served
    have hrow : hold s io = goAgain (playOne (prepared s io w) io g) := issueRow_due h (by simp [opIs, hw, ho]) _
    rw [hrow] at hf
    exact ⟨t, ht, (issueMade_playOne s io w g).issues_again h.wait (hf [] [])⟩
  · obtain ⟨t, ht, hf⟩ := took_next rptCountEnd hs
    rw [rptCountEnd_ends hr hw] at hf
    obtain ⟨h1, h2, h3, h4⟩ := goesOn_at_boundary (s := s) (v := s.setSeq { s.seq with wait := .none })
      rfl rfl rfl (steers_setSeq (.refl ..) _ rfl rfl) (hf [] [])
    refine ⟨t, ht, h1, h2, h3, h4, fun ha => ?_⟩
    rw [(hf [] []).seq_all]
    exact wait_goNext (s := s.setSeq { s.seq with wait := .none }) ha
  · obtain ⟨t, ht, hf⟩ := took_next holdEnd hs
    rw [holdEnd_ends hr hw hd h9 ho] at hf
    exact ⟨t, ht, goesOn_at_boundary rfl rfl rfl (.refl ..) (hf [] [])⟩

/-! ### JIF and MATCH -/

theorem waitOn_held {u : State} {w : Nat} : waitOn u w true = goNext u := rfl

theorem waitOn_again {u : State} {w : Nat} (h : u.seq.made ≠ field w 63 32) : waitOn u w false = goAgain u := by
  simp [waitOn, h]

theorem waitOn_out {u : State} {w : Nat} (h : u.seq.made = field w 63 32) :
    waitOn u w false = u.setSeq { u.seq with wait := .timedOut } := by
  simp [waitOn, h]

/-- A waiting instruction whose test fails issues again, and after its last permitted issue waits for its timeout (R158,
R159, R161). -/
theorem IssueMade.waits_on {io : Io} {g : Granule} {pk : List Nat} {pp : List Part} {s u t : State} {w : Nat}
    (m : IssueMade io g pk pp s u) (hw : s.seq.wait = .none) (ht : Frame [] [] (waitOn u w false) t) :
    Issued io g s t ∧ Frame (pk ++ issueKeys) (pp ++ issueParts) s t ∧
      (s.seq.made ≠ field w 63 32 → IssuesAgain s t ∧ StacksStand s t) ∧
      (s.seq.made = field w 63 32 → t.seq.wait = .timedOut ∧ t.seq.seg = s.seq.seg ∧ t.seq.off = s.seq.off ∧
        StacksStand s t) := by
  rw [← m.made]
  by_cases hlast : u.seq.made = field w 63 32
  · rw [waitOn_out hlast] at ht
    obtain ⟨h1, h2, h3, h4, h5, h6⟩ := m.waits ht
    exact ⟨h1, h6, fun hn => absurd hlast hn, fun _ => ⟨h3, h4, h5, h2⟩⟩
  · rw [waitOn_again hlast] at ht
    obtain ⟨h1, h2, h3, h4⟩ := m.issues_again hw ht
    exact ⟨h1, h4, fun _ => ⟨h3, h2⟩, fun he => absurd he hlast⟩

theorem timeoutTo_branches {s : State} {w k : Nat} (flag : Nat) (hr : running s = true) (hw : s.seq.wait = .timedOut)
    (hd : dueWord s = some w) (hk : w % 256 = k) :
    timeoutTo s k flag = endBranch ((s.setSeq { s.seq with wait := .none, markSeen := false }).setFlag K.SEQ_FLAGS flag true)
      (field w 31 16) := by
  simp [timeoutTo, timedOutWord, hr, hw, hd, hk]

/-- A timeout sets its flag and branches, at a boundary at which nothing issues (R158, R161, R176). -/
theorem timedOut_branches {s t : State} {n flag : Nat}
    (ht : Frame [] [] (endBranch ((s.setSeq { s.seq with wait := .none, markSeen := false }).setFlag K.SEQ_FLAGS flag true)
      n) t) :
    t.flag K.SEQ_FLAGS flag = true ∧ Branches 8 n s t ∧ t.num K.ISSUES = s.num K.ISSUES ∧
      Frame [K.SEQ_FLAGS, K.JUMPS_LANDED, K.RESTARTS] issueParts s t := by
  have c : Steers [K.SEQ_FLAGS] s ((s.setSeq { s.seq with wait := .none, markSeen := false }).setFlag K.SEQ_FLAGS flag true) :=
    steers_setNum (by exact steers_setSeq (.refl ..) _ rfl rfl) _ (by simp)
  have hgo : Steers ([K.SEQ_FLAGS] ++ landKeys) s (endBranch _ n) :=
    steers_endBranch (c.mono (by simp)) (by simp [landKeys]) (by simp [landKeys]) n
  have hcourse : Course 8 s ((s.setSeq { s.seq with wait := .none, markSeen := false }).setFlag K.SEQ_FLAGS flag true) :=
    (Course.refl s).same rfl (by simp) (by simp)
  obtain ⟨h1, h2, -⟩ := hgo.boundary (by decide) ht
  refine ⟨?_, (hcourse.branches_endBranch rfl rfl n).seen ht, h1, h2⟩
  have hflag := (steers_endBranch (ks := landKeys) (.refl landKeys
    ((s.setSeq { s.seq with wait := .none, markSeen := false }).setFlag K.SEQ_FLAGS flag true)) (by simp [landKeys])
    (by simp [landKeys]) n).frame.num K.SEQ_FLAGS (by decide) fun _ => not_played (by decide)
  rw [State.flag, ht.num_all, hflag, num_setFlag, if_pos rfl]
  exact putBit_get ..

theorem sampleAndPlay_fst (s : State) (io : Io) (w : Nat) (g : Granule) :
    (sampleAndPlay s io w g).1 = (condition (cycleBegin s).1 (field w 11 8) != bit w 12) := by
  unfold sampleAndPlay
  dsimp only

theorem sampleAndPlay_test (s : State) (io : Io) (w : Nat) (g : Granule) :
    (sampleAndPlay (prepared s io w) io w g).1 = testNow s io w := by
  rw [sampleAndPlay_fst, testNow]

/-- Settles O29: the test is the condition sampled in the cycle of the issue, and the branch, the wait and its timeout follow
it. -/
theorem jifAndMatch : Obligations.JifAndMatch := by
  refine ⟨fun s io w g h => ⟨fun hw => ?_, fun hw => ?_⟩, fun s w hs hr hw hd h8 => ?_⟩
  · have m := issueMade_sampleAndPlay s io w w g
    obtain ⟨t, ht, hf⟩ := exec_row (c := .jif io) rfl h (by simp [opIs, hw])
    refine ⟨t, ht, ?_⟩
    dsimp only at hf
    rw [sampleAndPlay_test] at hf
    cases hv : testNow s io w with
    | true =>
      rw [hv, if_pos rfl] at hf
      obtain ⟨h1, h2, h3⟩ := m.branches hf
      exact ⟨h1, h3, fun _ => h2, nofun⟩
    | false =>
      rw [hv, if_neg (by simp)] at hf
      obtain ⟨h1, h2, h3⟩ := m.goes_on hf
      exact ⟨h1, h3, nofun, fun _ => h2⟩
  · have m := issueMade_sampleAndPlay s io w w g
    obtain ⟨t, ht, hf⟩ := exec_row (c := .matchOp io) rfl h (by simp [opIs, hw])
    refine ⟨t, ht, ?_⟩
    dsimp only at hf
    rw [sampleAndPlay_test] at hf
    cases hv : testNow s io w with
    | true =>
      rw [hv, waitOn_held] at hf
      obtain ⟨h1, h2, h3⟩ := m.goes_on hf
      exact ⟨h1, h3, fun _ => h2, nofun, nofun⟩
    | false =>
      rw [hv] at hf
      obtain ⟨h1, h2, h3⟩ := m.waits_on h.wait hf
      exact ⟨h1, h2, nofun, fun _ hn => h3.1 hn, fun _ he => h3.2 he⟩
  · obtain ⟨t, ht, hf⟩ := took_next matchTimeout hs
    rw [matchTimeout, timeoutTo_branches 0 hr hw hd h8] at hf
    exact ⟨t, ht, timedOut_branches (hf [] [])⟩

/-! ### SYNCW and SYNCS -/

theorem GranulePlays.frame_on {g : Granule} {p u t : State} (h : GranulePlays g p u) (ht : Frame [] [] (goNext u) t) :
    Frame (playKeys ++ landKeys) playParts p t := by
  have hgo : Steers landKeys u (goNext u) := steers_goNext (.refl ..) (by simp [landKeys]) (by simp [landKeys])
  have h1 : Frame (playKeys ++ landKeys) playParts p u := h.frame.mono (fun _ => List.mem_append_left _) fun _ p => p
  have h2 : Frame (playKeys ++ landKeys) playParts u (goNext u) :=
    hgo.frame.mono (fun _ => List.mem_append_right _) (by simp [playParts])
  exact (h1.trans h2).trans (ht.mono (by simp) (by simp))

theorem frame_ringMark (s : State) (id : Nat) : Frame [K.RING_CAUSE, K.DROPS] [.ring, .arrived] s (ringMark s id) := by
  unfold ringMark ringQueue ringCause
  refine Frame.ite (.refl ..) (Frame.ite ?_ (frame_setRing (.refl ..) _ (by simp)))
  exact frame_raise (frame_setFlag (frame_inc (.refl ..) (.inl (by simp))) _ _ (.inl (by simp))) _ (.inr (by simp))

theorem ring_ringMark {s : State} {id : Nat} (hs : s.num K.RING_STATE ≠ 0) (hq : s.ring.queue.length < 32) :
    (ringMark s id).ring =
      { s.ring with queue := s.ring.queue ++ [ringOwn s 4 (s.num K.SIG_GROUP % 64) (id % 256) 0 0] } := by
  simp [ringMark, ringQueue, hs, Nat.not_le.2 hq]

/-- A message of the module's own is the same before and after its instruction is read. -/
theorem ringOwn_prepared (s : State) (io : Io) (w ty group a16 a b : Nat) :
    ringOwn (prepared s io w) ty group a16 a b = ringOwn s ty group a16 a b := by
  simp [ringOwn, ringOrigin, ringMaster, num_prepared, K.UC_CORRECTED, K.RING_ROLE, K.RING_POS, K.LINK_OUT_PS]

/-- A SYNCW whose message has been seen forgets it and goes on (R161). -/
theorem IssueMade.goes_on_marked {io : Io} {g : Granule} {pk : List Nat} {pp : List Part} {s u t : State} {b : Bool}
    (m : IssueMade io g pk pp s u) (ht : Frame [] [] (goNext (u.setSeq { u.seq with markSeen := b })) t) :
    Issued io g s t ∧ GoesOn 7 s t ∧ Frame (pk ++ issueKeys) (pp ++ issueParts) s t := by
  obtain ⟨h1, h2, h3⟩ := m.goes_on_from ht (steers_setSeq (.refl [] _) _ rfl rfl) (by simp) rfl rfl
  have h2 : GoesOnWith 7 u.seq.loops s t := h2
  rw [m.loops] at h2
  exact ⟨h1, h2, h3⟩

/-- Settles O30: SYNCW waits for the message that has been seen, and SYNCS queues its own before it plays. -/
theorem syncwAndSyncs : Obligations.SyncwAndSyncs := by
  refine ⟨fun s io w g h => ⟨fun hw => ?_, fun hw => ?_⟩, fun s w hs hr hw hd hb => ?_⟩
  · have m := issueMade_playOne s io w g
    obtain ⟨t, ht, hf⟩ := exec_row (c := .syncw io) rfl h (by simp [opIs, hw])
    refine ⟨t, ht, ?_⟩
    dsimp only at hf
    rw [seq_prepared] at hf
    cases hv : s.seq.markSeen with
    | true =>
      rw [hv, waitOn_held, if_pos rfl] at hf
      obtain ⟨h1, h2, h3⟩ := m.goes_on_marked hf
      exact ⟨h1, h3, fun _ => h2, nofun, nofun⟩
    | false =>
      rw [hv, if_neg Bool.false_ne_true] at hf
      obtain ⟨h1, h2, h3, h4⟩ := m.waits_on h.wait hf
      exact ⟨h1, h2, nofun, fun _ => h3, fun _ => h4⟩
  · obtain ⟨t, ht, hf⟩ := exec_row (c := .syncs io) rfl h (by simp [opIs, hw])
    have hmark := frame_ringMark (prepared s io w) (field w 15 8)
    have hplay := granulePlays_playOne (ringMark (prepared s io w) (field w 15 8)) io g
    obtain ⟨h1, h2, h3⟩ := (issueMade_of_plays hmark (by decide) (by decide) (by decide) hplay).goes_on hf
    refine ⟨t, ht, h1, h2, h3.mono (fun _ k => k) (by decide), fun hs hq => ?_⟩
    have hring : (prepared s io w).ring = s.ring := (frame_prepared s io w).ring (by simp)
    have hnum {k : Nat} (hk : k ≠ K.UC_CORRECTED) : (prepared s io w).num k = s.num k := by rw [num_prepared, if_neg hk]
    have hid : field w 15 8 % 256 = field w 15 8 := Nat.mod_eq_of_lt (Nat.mod_lt _ (by decide))
    rw [(hplay.frame_on hf).ring (by decide), ring_ringMark (by rwa [hnum (by decide)]) (by rwa [hring]), hring,
      hnum (by decide), ringOwn_prepared, hid]
  · obtain ⟨t, ht, hf⟩ := took_next syncwTimeout hs
    rw [syncwTimeout, timeoutTo_branches 1 hr hw hd hb] at hf
    exact ⟨t, ht, timedOut_branches (hf [] [])⟩

end Sys2Proof.Machine

/-! PROOFS. EYE (O25): the raster steps before the granule plays, and playing it leaves the raster (R165, R403, R404). -/

namespace Sys2Proof.Machine

/-! ### What an action does to the raster -/

/-- The objects of the raster. -/
def rasterKeys : List Nat := [K.R_POINT, K.R_STATE, K.R_STRAY]

theorem frame_pointEnter {ks : List Nat} {ps : List Part} {a s : State} (h : Frame ks ps a s) (i m : Nat)
    (hk : ∀ k ∈ rasterKeys, k ∈ ks) (hp : Part.cis ∈ ps) : Frame ks ps a (pointEnter s i m) :=
  frame_setCis (frame_setNums h [(K.R_POINT, i), (K.R_STATE, 1)] fun p hp => .inl (hk _ (by
    simp only [List.mem_cons, List.not_mem_nil, or_false] at hp
    rcases hp with rfl | rfl <;> simp [rasterKeys]))) _ hp

theorem num_pointEnter (s : State) (i m k : Nat) :
    (pointEnter s i m).num k = if k = K.R_STATE then 1 else if k = K.R_POINT then i else s.num k := by
  simp [pointEnter, setNums_cons, setNums_nil]

section
variable {s : State} {act m : Nat}

theorem frame_eyeAction : Frame rasterKeys [.cis] s (eyeAction s act m) := by
  have hclose : Frame rasterKeys [.cis] s (if s.num K.R_STATE == 1 then pointClose s m else s) :=
    (frame_setCis (.refl ..) _ (by simp)).ite (.refl ..)
  have henter (i : Nat) : Frame rasterKeys [.cis] s (pointEnter (if s.num K.R_STATE == 1 then pointClose s m else s) i m) :=
    frame_pointEnter hclose i m (fun _ k => k) (by simp)
  unfold eyeAction
  refine (frame_inc (.refl ..) (.inl (by simp [rasterKeys]))).ite ?_
  dsimp only
  refine (henter _).ite (Frame.ite (frame_setNum hclose _ (.inl (by simp [rasterKeys]))) ?_)
  exact (frame_setNum hclose _ (.inl (by simp [rasterKeys]))).ite (henter _)

/-- An action out of place is counted in R_STRAY alone (R404). -/
theorem eyeAction_stray (h : s.num K.CAP_MODE ≠ 3 ∨ (act ≠ 0 ∧ s.num K.R_STATE ≠ 1)) : eyeAction s act m = s.inc K.R_STRAY :=
  if_pos h

theorem eyeAction_start (h : s.num K.CAP_MODE = 3) :
    (eyeAction s 0 m).num K.R_STATE = 1 ∧ (eyeAction s 0 m).num K.R_POINT = 0 := by
  simp [eyeAction, h, num_pointEnter]

section
variable (h : s.num K.CAP_MODE = 3) (hr : s.num K.R_STATE = 1)
include h hr

theorem eyeAction_advance (hlt : s.num K.R_POINT + 1 < s.num K.X_COUNT * s.num K.Y_COUNT) :
    (eyeAction s 1 m).num K.R_STATE = 1 ∧ (eyeAction s 1 m).num K.R_POINT = s.num K.R_POINT + 1 := by
  simp [eyeAction, h, hr, num_pointEnter, pointClose, Nat.not_le.2 hlt]

theorem eyeAction_done (hle : s.num K.X_COUNT * s.num K.Y_COUNT ≤ s.num K.R_POINT + 1) :
    (eyeAction s 1 m).num K.R_STATE = 2 := by
  simp [eyeAction, h, hr, pointClose, hle]

theorem eyeAction_stop : (eyeAction s 2 m).num K.R_STATE = 3 := by
  simp [eyeAction, h, hr]

end

end

/-! ### An EYE granule is issued -/

/-- `p` has the raster of `s`. -/
structure SameRaster (s p : State) : Prop where
  mode : p.num K.CAP_MODE = s.num K.CAP_MODE
  columns : p.num K.X_COUNT = s.num K.X_COUNT
  rows : p.num K.Y_COUNT = s.num K.Y_COUNT
  point : p.num K.R_POINT = s.num K.R_POINT
  state : p.num K.R_STATE = s.num K.R_STATE
  stray : p.num K.R_STRAY = s.num K.R_STRAY

theorem sameRaster_prepared (s : State) (io : Io) (w : Nat) : SameRaster s (prepared s io w) := by
  constructor <;> rw [num_prepared, if_neg (by decide)]

/-- An EYE granule goes on as any other, and leaves in the raster what its action has made of it. -/
theorem eye_goes_on {s : State} {io : Io} {w act : Nat} {g : Granule} {c : Instr} (hc : exec c s = took s fun s => eye act s io)
    (h : IssueDue s io w g) (hw : w % 256 = 0x0E) (ha : field w 9 8 = act) :
    ∃ t, exec c s = .next t ∧ Issued io g s t ∧ GoesOn 7 s t ∧ Frame (eyeKeys ++ issueKeys) issueParts s t ∧
      ∃ p m, SameRaster s p ∧ ∀ k ∈ rasterKeys, t.num k = (eyeAction p act m).num k := by
  obtain ⟨t, ht, hf⟩ := exec_row (cls := fun w => opIs 0x0E w && field w 9 8 == act) hc h (by simp [opIs, hw, ha])
  have hplay := granulePlays_playOne (eyeAction (prepared s io w) act (prepared s io w).seq.cycle) io g
  have m := issueMade_of_plays frame_eyeAction (by decide) (by decide) (by decide) hplay
  obtain ⟨h1, h2, h3⟩ := m.goes_on hf
  refine ⟨t, ht, h1, h2, h3.mono (by decide) (by decide), prepared s io w, (prepared s io w).seq.cycle,
    sameRaster_prepared s io w, fun k hk => ?_⟩
  have hfar : ∀ k ∈ rasterKeys, k ∉ playKeys ++ landKeys ∧ k < 0x300000 := by decide
  exact (hplay.frame_on hf).num k (hfar k hk).1 fun _ => not_played (hfar k hk).2

/-- The raster stands where an action is out of place. -/
theorem raster_stray {p s t : State} {act m : Nat} (hp : SameRaster s p)
    (ht : ∀ k ∈ rasterKeys, t.num k = (eyeAction p act m).num k)
    (h : s.num K.CAP_MODE ≠ 3 ∨ (act ≠ 0 ∧ s.num K.R_STATE ≠ 1)) :
    t.num K.R_STRAY = inc32 (s.num K.R_STRAY) ∧ t.num K.R_STATE = s.num K.R_STATE ∧ t.num K.R_POINT = s.num K.R_POINT := by
  rw [eyeAction_stray (by rwa [hp.mode, hp.state])] at ht
  refine ⟨?_, ?_, ?_⟩ <;> rw [ht _ (by decide)]
  · simp [hp.stray]
  · simp [hp.state]
  · simp [hp.point]

/-- Settles O25: the action steps the raster, and neither the granule's play nor the control after it touches it. -/
theorem eyeStepsTheRaster : Obligations.EyeStepsTheRaster := by
  intro s io w g h hw
  refine ⟨fun ha => ?_, fun ha => ?_, fun ha => ?_⟩
  · obtain ⟨t, ht, h1, h2, h3, p, m, hp, hr⟩ := eye_goes_on (c := .eyeStart io) rfl h hw ha
    refine ⟨t, ht, h1, h2, h3, ?_, fun hc => raster_stray hp hr (.inl hc)⟩
    rw [hr _ (by decide), hr _ (by decide), ← hp.mode]
    exact eyeAction_start
  · obtain ⟨t, ht, h1, h2, h3, p, m, hp, hr⟩ := eye_goes_on (c := .eyeAdvance io) rfl h hw ha
    refine ⟨t, ht, h1, h2, h3, ?_, ?_, fun hc => raster_stray hp hr (hc.imp id fun h => ⟨by decide, h⟩)⟩
    · rw [hr _ (by decide), hr _ (by decide), ← hp.mode, ← hp.state, ← hp.point, ← hp.columns, ← hp.rows]
      exact eyeAction_advance
    · rw [hr _ (by decide), ← hp.mode, ← hp.state, ← hp.point, ← hp.columns, ← hp.rows]
      exact eyeAction_done
  · obtain ⟨t, ht, h1, h2, h3, p, m, hp, hr⟩ := eye_goes_on (c := .eyeStop io) rfl h hw ha
    refine ⟨t, ht, h1, h2, h3, ?_, fun hc => raster_stray hp hr (hc.imp id fun h => ⟨by decide, h⟩)⟩
    rw [hr _ (by decide), ← hp.mode, ← hp.state]
    exact eyeAction_stop

end Sys2Proof.Machine

/-! PROOFS. A marker pulse and the time-measurement units it reaches (R164, R422–R450). -/

namespace Sys2Proof.Machine

/-- From `s` to `t` the unit of channel `c` alone has measured. -/
structure Measures (c : Nat) (s t : State) : Prop where
  frame : Frame [atCh K.TS_BUF c, atCh K.HIST c] [.units, .tb, .drawn] s t
  tmu : ∀ d ≠ c, t.tmu d = s.tmu d

theorem Measures.refl (c : Nat) (s : State) : Measures c s s := ⟨.refl .., fun _ _ => rfl⟩

section
variable {c : Nat} {a s : State} (h : Measures c a s)
include h

theorem Measures.trans {t : State} (g : Measures c s t) : Measures c a t :=
  ⟨h.frame.trans g.frame, fun d hd => (g.tmu d hd).trans (h.tmu d hd)⟩

theorem Measures.ite {p : Prop} [Decidable p] {t : State} (g : Measures c a t) : Measures c a (if p then s else t) := by
  split <;> assumption

theorem measures_setTmu (x : Tmu) : Measures c a (s.setTmu c x) :=
  h.trans ⟨frame_setTmu (.refl ..) _ _ (by simp), fun d hd => by simp [hd]⟩

theorem measures_fresh (n : Nat) : Measures c a (s.fresh n).2 :=
  h.trans ⟨frame_fresh (.refl ..) n (by simp), fun _ _ => rfl⟩

theorem measures_setBlob {k : Nat} (v : Bytes) (hk : k = K.TS_BUF ∨ k = K.HIST) : Measures c a (s.setBlob (atCh k c) v) := by
  refine h.trans ⟨frame_setBlob (.refl ..) v ?_, fun _ _ => rfl⟩
  rcases hk with rfl | rfl <;> simp

variable (hc : c < 96)
include hc

theorem measures_setNum {k : Nat} (hk : 0x400000 ≤ k ∧ k < 0x440000) (v : Nat) : Measures c a (s.setNum (atCh k c) v) :=
  h.trans ⟨frame_setNum (.refl ..) v (.inr ⟨by simp, played_atCh hk hc⟩), fun _ _ => rfl⟩

theorem measures_tmuEnter (m : Int) (b : Bool) : Measures c a (tmuEnter s c m b) := by
  unfold tmuEnter
  refine measures_setNum (measures_setTmu ?_ _) hc (by decide) _
  show Measures c a (if _ then s.fresh 3 else (0, s)).2
  split
  · exact measures_fresh h 3
  · exact h

theorem measures_tmuExpire : Measures c a (tmuExpire s c) := by
  have hx := measures_setTmu h tmuInit
  unfold tmuExpire
  refine (measures_setNum hx hc (by decide) _).ite ?_
  exact measures_setNum (measures_setNum (measures_setNum hx hc (by decide) _) hc (by decide) _) hc (by decide) _

theorem measures_tmuCatchUp (t : Int) : Measures c a (tmuCatchUp s c t) := by
  have hr (o : Option Int) : Measures c a
      (match o with | some r => if 0 ≤ span r t then tmuEnter s c r true else s | none => s) := by
    cases o with
    | none => exact h
    | some r => exact (measures_tmuEnter h hc r true).ite h
  unfold tmuCatchUp
  dsimp only
  split
  · exact (measures_tmuExpire (hr _) hc).ite (hr _)
  · exact hr _

theorem measures_tmuAccumulate (r : Int) : Measures c a (tmuAccumulate s c r) := by
  unfold tmuAccumulate
  simp only [setNums_cons, setNums_nil]
  have hf : Measures c a (s.setFlag (atCh K.RES_FLAGS c) 7 true) := measures_setNum h hc (by decide) _
  exact measures_setNum (measures_setNum (measures_setNum (measures_setNum (h.ite hf) hc (by decide) _) hc (by decide) _) hc
    (by decide) _) hc (by decide) _

theorem measures_tmuComplete (x y e : Int) (n : Nat) : Measures c a (tmuComplete s c x y e n) := by
  unfold tmuComplete
  extract_lets d coin r x fl s1 s2 s3 s4
  have h1 : Measures c a s1 := measures_setNum h hc (by decide) _
  have h2 : Measures c a s2 := by
    simp only [s2, setNums_cons, setNums_nil]
    exact measures_setNum (measures_setNum (measures_setNum (measures_setNum (measures_setNum h1 hc (by decide) _) hc
      (by decide) _) hc (by decide) _) hc (by decide) _) hc (by decide) _
  have h3 : Measures c a s3 := (measures_setNum h2 hc (by decide) _).ite h2
  exact measures_setTmu (measures_tmuAccumulate (measures_setNum h3 hc (by decide) _) hc _) _

theorem measures_tmuStart (t : Int) (b : Bool) : Measures c a (tmuStart s c t b) :=
  measures_setNum (measures_setTmu h _) hc (by decide) _

theorem measures_tmuStop (x t : Int) : Measures c a (tmuStop s c x t) :=
  (measures_tmuComplete h hc ..).ite (measures_setNum h hc (by decide) _)

theorem measures_tmuInterval (t : Int) (st sp : Bool) : Measures c a (tmuInterval s c t st sp) := by
  have hstart := measures_tmuStart h hc t false
  have hdone (x y : Int) := measures_tmuComplete h hc x y t 1
  have horphan : Measures c a (s.inc (atCh K.ORPHAN_STOP c)) := measures_setNum h hc (by decide) _
  unfold tmuInterval
  dsimp only
  refine Measures.ite (Measures.ite ?_ (Measures.ite ?_ h)) ?_
  · cases (s.tmu c).stop with
    | none => exact hstart
    | some b => exact hdone t b
  · cases (s.tmu c).start with
    | none => exact measures_setNum (measures_setTmu h _) hc (by decide) _
    | some b => exact hdone b t
  · cases (s.tmu c).start with
    | none => exact hstart.ite (horphan.ite h)
    | some b => exact (measures_tmuStop h hc b t).ite h

theorem measures_tmuCounted (t : Int) : Measures c a (tmuCounted s c t) := by
  unfold tmuCounted
  dsimp only
  cases (s.tmu c).start with
  | none => exact measures_tmuStart h hc t false
  | some b => exact (measures_tmuComplete h hc ..).ite (measures_setTmu h _)

theorem measures_tmuPrescaled (t : Int) : Measures c a (tmuPrescaled s c t) := by
  have hx := measures_setTmu h { s.tmu c with presc := ((s.tmu c).presc + 1) % 8 }
  unfold tmuPrescaled
  exact ((measures_tmuCounted hx hc t).ite hx).ite (measures_tmuCounted h hc t)

theorem measures_tmuWidth (e : Nat) (t : Int) : Measures c a (tmuWidth s c e t) := by
  have horphan : Measures c a (s.inc (atCh K.ORPHAN_STOP c)) := measures_setNum h hc (by decide) _
  unfold tmuWidth
  dsimp only
  cases (s.tmu c).start with
  | none => exact (measures_tmuStart h hc ..).ite (horphan.ite h)
  | some b => exact (measures_tmuStop h hc b t).ite h

theorem measures_tmuCollect (t : Int) (b : Bool) (x : Nat) : Measures c a (tmuCollect s c t b x) := by
  have hdead := measures_setTmu h { s.tmu c with deadTo := some (t + 57344) }
  unfold tmuCollect
  dsimp only
  refine Measures.ite (measures_setNum h hc (by decide) _) (Measures.ite ?_ (Measures.ite ?_ ?_))
  · exact measures_setNum (measures_setBlob hdead _ (.inl rfl)) hc (by decide) _
  · exact measures_setNum hdead hc (by decide) _
  · exact measures_setBlob (Measures.ite (measures_setNum hdead hc (by decide) _) hdead) _ (.inr rfl)

theorem measures_tmuTake (e : Nat) (t : Int) (x : Nat) : Measures c a (tmuTake s c e t x) := by
  unfold tmuTake
  dsimp only
  refine (measures_tmuInterval h hc ..).ite ((measures_tmuWidth h hc ..).ite (h.ite ?_))
  exact (measures_tmuCounted h hc t).ite ((measures_tmuPrescaled h hc t).ite ((measures_tmuCollect h hc ..).ite h))

theorem measures_tmuCapture (e : Nat) (t : Int) : Measures c a (tmuCapture e t s c) := by
  have hu := measures_tmuCatchUp h hc (tmuStamp s c t)
  unfold tmuCapture
  exact h.ite ((measures_tmuTake hu hc ..).ite hu)

end

end Sys2Proof.Machine

/-! PROOFS. The active timing set of a channel, which no pin changes as it plays (R163, R304). -/

namespace Sys2Proof.Machine

/-- The active timing set of a channel. -/
def tsetOf (s : State) (d : Nat) : Nat := (s.chan d).tset

section
variable {s : State} {d : Nat}

theorem chan_tset : (s.chan d).tset = tsetOf s d := rfl

theorem tsetOf_ite {p : Prop} [Decidable p] {t : State} :
    tsetOf (if p then s else t) d = if p then tsetOf s d else tsetOf t d := apply_ite (tsetOf · d) p s t

theorem tsetOf_setChan {c : Nat} {x : Chan} (hx : x.tset = tsetOf s c) : tsetOf (s.setChan c x) d = tsetOf s d := by
  unfold tsetOf at *
  rw [chan_setChan]
  split
  · rw [hx, ‹d = c›]
  · rfl

theorem tsetOf_foldl {α : Type} {f : State → α → State} (l : List α) (hf : ∀ s x, tsetOf (f s x) d = tsetOf s d) :
    tsetOf (l.foldl f s) d = tsetOf s d := by
  induction l generalizing s with
  | nil => rfl
  | cons x r ih => exact (ih (s := f s x)).trans (hf s x)

theorem tsetOf_foldl_fst {α β : Type} {f : State × β → α → State × β} (p : State × β) (l : List α)
    (hf : ∀ p x, tsetOf (f p x).1 d = tsetOf p.1 d) : tsetOf (l.foldl f p).1 d = tsetOf p.1 d := by
  induction l generalizing p with
  | nil => rfl
  | cons x r ih => exact (ih (f p x)).trans (hf p x)

@[simp] theorem tsetOf_setNum (k v : Nat) : tsetOf (s.setNum k v) d = tsetOf s d := rfl
@[simp] theorem tsetOf_setSeq (q : Seq) : tsetOf (s.setSeq q) d = tsetOf s d := rfl
@[simp] theorem tsetOf_setCis (x : Cistern) : tsetOf (s.setCis x) d = tsetOf s d := rfl
@[simp] theorem tsetOf_raise (n : Nat) : tsetOf (s.raise n) d = tsetOf s d := rfl
@[simp] theorem tsetOf_emit (o : Out) : tsetOf (s.emit o) d = tsetOf s d := rfl
@[simp] theorem tsetOf_inc (k : Nat) : tsetOf (s.inc k) d = tsetOf s d := rfl
@[simp] theorem tsetOf_add (n k v : Nat) : tsetOf (s.add n k v) d = tsetOf s d := rfl
@[simp] theorem tsetOf_setFlag (k i : Nat) (b : Bool) : tsetOf (s.setFlag k i b) d = tsetOf s d := rfl

/-! ### Judging -/

variable {c : Nat}

@[simp] theorem tsetOf_senseVs (v : Pad) : tsetOf (senseVs s c v) d = tsetOf s d := tsetOf_setChan rfl

@[simp] theorem tsetOf_attnRecord (e : Nat) : tsetOf (attnRecord c s e) d = tsetOf s d := by
  simp [attnRecord, tsetOf_ite]

@[simp] theorem tsetOf_senseEdge (v : Pad) : tsetOf (senseEdge s c v) d = tsetOf s d := by
  simp [senseEdge, tsetOf_ite, tsetOf_foldl]

@[simp] theorem tsetOf_satCount (k f i : Nat) : tsetOf (satCount s k f i) d = tsetOf s d := by
  simp [satCount, tsetOf_ite]

@[simp] theorem tsetOf_capMap (i n : Nat) (f : IssueCap → IssueCap) : tsetOf (capMap s i n f) d = tsetOf s d := rfl

@[simp] theorem tsetOf_capFail (j : Judgement) : tsetOf (capFail s c j) d = tsetOf s d := rfl

@[simp] theorem tsetOf_wordMark (w b : Nat) : tsetOf (wordMark s c w b) d = tsetOf s d := tsetOf_setChan rfl

@[simp] theorem tsetOf_countJudgement (j : Judgement) : tsetOf (countJudgement s c j) d = tsetOf s d := by
  simp [countJudgement, firstFail, invSeen, setNums_cons, setNums_nil, tsetOf_ite]

@[simp] theorem tsetOf_binMap (w : Nat) (f : Nat → Nat) : tsetOf (binMap s c w f) d = tsetOf s d := by
  simp [binMap, tsetOf_ite]

@[simp] theorem tsetOf_suspectMark (w : Nat) : tsetOf (suspectMark s c w) d = tsetOf s d := by
  simp [suspectMark, tsetOf_ite]

@[simp] theorem tsetOf_blockJudgement (b : Bool) : tsetOf (blockJudgement s c b) d = tsetOf s d := by
  simp [blockJudgement, tsetOf_ite, tsetOf_setChan, chan_tset]

@[simp] theorem tsetOf_settleOne (j : Judgement) : tsetOf (settleOne s c j) d = tsetOf s d := by
  simp [settleOne, binJudgement, tsetOf_ite]

@[simp] theorem tsetOf_judge (m : Nat) (j : Judgement) : tsetOf (judge s c m j) d = tsetOf s d := by
  simp [judge, tsetOf_ite, tsetOf_setChan, chan_tset]

@[simp] theorem tsetOf_settleLater (m : Nat) : tsetOf (settleLater s m c) d = tsetOf s d := by
  simp [settleLater, tsetOf_ite, tsetOf_setChan, chan_tset, tsetOf_foldl]

/-! ### The condition lines -/

@[simp] theorem tsetOf_dropWords (t w : Nat) : tsetOf (dropWords s t w) d = tsetOf s d := by
  simp [dropWords, tsetOf_ite, tsetOf_setChan, chan_tset, tsetOf_foldl]

@[simp] theorem tsetOf_tileWord (t w : Nat) (p : State × List Nat) : tsetOf (tileWord t w p).1 d = tsetOf p.1 d := rfl

@[simp] theorem tsetOf_tileCycle (m t : Nat) (p : State × List Nat) : tsetOf (tileCycle m p t).1 d = tsetOf p.1 d := by
  unfold tileCycle
  split
  · rfl
  · split
    · rfl
    · simp [apply_ite Prod.fst, tsetOf_ite]

@[simp] theorem tsetOf_cycleBegin : tsetOf (cycleBegin s).1 d = tsetOf s d := by
  simp [cycleBegin, linesCycle, tsetOf_foldl_fst]

/-! ### Streams -/

@[simp] theorem tsetOf_streamOut (m : Nat) (l : List Drive) : tsetOf (streamOut s c m l) d = tsetOf s d := by
  simp [streamOut, tsetOf_setChan, chan_tset]

theorem tset_genBits (n : Nat) (x : Chan) : (genBits s c n x).2.tset = x.tset := by
  induction n generalizing x with
  | zero => rfl
  | succ n ih => exact (ih (genBit s c x).2).trans rfl

@[simp] theorem tsetOf_genPlay (m : Nat) : tsetOf (genPlay s c m) d = tsetOf s d := by
  unfold genPlay
  simp only [tsetOf_ite, tsetOf_streamOut, tsetOf_setChan (tset_genBits _ _), ite_self]

@[simp] theorem tsetOf_capData (x : PlayCtx) (v : Nat) : tsetOf (capData s c x v) d = tsetOf s d := rfl

@[simp] theorem tsetOf_wordStart (w : Nat) : tsetOf (wordStart s c w) d = tsetOf s d := by
  simp [wordStart, tsetOf_ite]

@[simp] theorem tsetOf_slotStart (m n u : Nat) : tsetOf (slotStart s c m n u) d = tsetOf s d := by
  simp [slotStart, tsetOf_ite]

@[simp] theorem tsetOf_streamJudge (x : PlayCtx) (k : Bool) (u n : Nat) (ok : Bool) :
    tsetOf (streamJudge c x k s u n ok) d = tsetOf s d := by
  simp [streamJudge]

@[simp] theorem tsetOf_comparePlay (x : PlayCtx) (io : List (List Pad)) : tsetOf (comparePlay s c x io) d = tsetOf s d := by
  simp [comparePlay, tsetOf_ite, tsetOf_foldl_fst]

@[simp] theorem tsetOf_checkBit (x : PlayCtx) (u n : Nat) (b : Bool) : tsetOf (checkBit c x s u n b) d = tsetOf s d := by
  simp [checkBit, tsetOf_ite, tsetOf_setChan, chan_tset]

@[simp] theorem tsetOf_checkPlay (x : PlayCtx) (io : List (List Pad)) : tsetOf (checkPlay s c x io) d = tsetOf s d := by
  simp [checkPlay, tsetOf_ite, tsetOf_foldl_fst, apply_ite Prod.fst]

/-! ### Edge pins -/

@[simp] theorem tsetOf_edgeChange (t : Int) (v : Drive) : tsetOf (edgeChange s c t v) d = tsetOf s d := by
  unfold edgeChange
  dsimp only
  split
  · rfl
  · split
    · simp only [tsetOf_ite, tsetOf_emit]
      split_ifs <;> exact tsetOf_setChan rfl
    · exact tsetOf_setChan rfl

@[simp] theorem tsetOf_edgeFlush (m : Nat) : tsetOf (edgeFlush s c m) d = tsetOf s d := by
  unfold edgeFlush
  dsimp only
  split <;> simp [tsetOf_ite, tsetOf_setChan, chan_tset]

@[simp] theorem tsetOf_setAwait (b : Bool) : tsetOf (setAwait s c b) d = tsetOf s d := tsetOf_setChan rfl

@[simp] theorem tsetOf_edgeApply (n : Nat) (t : Int) (e : EdgeEvent) : tsetOf (edgeApply c n t e s) d = tsetOf s d := by
  unfold edgeApply
  dsimp only
  split
  · simp
  · simp [tsetOf_ite]

@[simp] theorem tsetOf_vectorStart (x : PlayCtx) (t : Int) (f n i l : Nat) :
    tsetOf (vectorStart s c x t f n i l) d = tsetOf s d := by
  simp [vectorStart, tsetOf_ite, tsetOf_setChan, chan_tset]

@[simp] theorem tsetOf_vectorJudge (x : PlayCtx) (v : Vector) (t : Int) (b : Bool) :
    tsetOf (vectorJudge s c x v t b) d = tsetOf s d := by
  simp [vectorJudge]

@[simp] theorem tsetOf_windowSense (h l : Bool) (vs : List Pad) : tsetOf (windowSense s c h l vs).1 d = tsetOf s d := by
  simp [windowSense, tsetOf_foldl_fst]

@[simp] theorem tsetOf_senseAll (vs : List Pad) : tsetOf (senseAll s c vs) d = tsetOf s d := by
  simp [senseAll, tsetOf_foldl]

@[simp] theorem tsetOf_vectorCompare (x : PlayCtx) (t : Int) (n : Nat) (l : List (List Pad)) :
    tsetOf (vectorCompare s c x t n l).1 d = tsetOf s d := by
  unfold vectorCompare
  split
  · rfl
  · rename_i v _
    cases v.atC0 <;> simp [apply_ite Prod.fst, tsetOf_ite, tsetOf_setChan, chan_tset]

@[simp] theorem tsetOf_vectorDrive (t : Int) (n : Nat) : tsetOf (vectorDrive s c t n) d = tsetOf s d := by
  unfold vectorDrive
  split
  · rfl
  · simp [tsetOf_foldl]

@[simp] theorem tsetOf_vectorAge (n : Nat) : tsetOf (vectorAge s c n) d = tsetOf s d := by
  unfold vectorAge
  dsimp only
  split
  · rfl
  · exact tsetOf_setChan rfl

@[simp] theorem tsetOf_vectorPlay (x : PlayCtx) (t : Int) (n : Nat) (p : State × List (List Pad)) :
    tsetOf (vectorPlay x c t n p).1 d = tsetOf p.1 d := by
  simp [vectorPlay, tsetOf_ite]

@[simp] theorem tsetOf_edgePlay (x : PlayCtx) (io : List (List Pad)) : tsetOf (edgePlay s c x io) d = tsetOf s d := by
  simp [edgePlay, tsetOf_ite, tsetOf_foldl_fst]

@[simp] theorem tsetOf_edgeFed (x : PlayCtx) (g : Granule) : tsetOf (edgeFed s c x g) d = tsetOf s d := by
  simp [edgeFed, tsetOf_setChan, chan_tset]

/-! ### An issue -/

@[simp] theorem tsetOf_neutralPlay (m : Nat) : tsetOf (neutralPlay s c m) d = tsetOf s d := by
  simp [neutralPlay]

@[simp] theorem tsetOf_fedPass : tsetOf (fedPass s c) d = tsetOf s d := tsetOf_setChan rfl

@[simp] theorem tsetOf_pinPlay (x : PlayCtx) (io : List (Nat × List (List Pad))) :
    tsetOf (pinPlay x io s c) d = tsetOf s d := by
  unfold pinPlay
  dsimp only
  split
  · rfl
  · rcases fedNow x (s.chan c) with _ | _ | g <;> simp [tsetOf_ite]

end

end Sys2Proof.Machine

/-! PROOFS. VEC, TSET and MARK (O24). -/

namespace Sys2Proof.Machine

/-! ### TSET -/

section
variable {s t : State} {d : Nat}

theorem tsetOf_of_frame {ks : List Nat} {ps : List Part} (h : Frame ks ps s t) (hp : Part.chans ∉ ps) :
    tsetOf t d = tsetOf s d := by
  unfold tsetOf State.chan
  rw [h.chans hp]

@[simp] theorem tsetOf_playOne (io : Io) (g : Granule) : tsetOf (playOne s io g) d = tsetOf s d := by
  have hflush (u : State) : tsetOf (eyeFlush u) d = tsetOf u d :=
    tsetOf_of_frame (frame_eyeFlush (ks := queueKeys) (ps := [.cis]) (.refl ..) (fun _ h => h) (by simp)) (by simp)
  simp [playOne, cyclePlay, capOpen, playAll, countersCycle, capPrune, hflush, tsetOf_ite, tsetOf_foldl]

@[simp] theorem tsetOf_whReport : tsetOf (whReport s) d = tsetOf s d := tsetOf_of_frame (frame_whReport s) (by simp)

@[simp] theorem tsetOf_restart (n : Nat) (l : List Granule) (b : Bool) : tsetOf (restart s n l b) d = tsetOf s d := by
  simp [restart, earlyFeed, tsetOf_foldl, tsetOf_ite, tsetOf_setChan, chan_tset]

@[simp] theorem tsetOf_popGranule : tsetOf (popGranule s) d = tsetOf s d := by
  unfold popGranule
  dsimp only
  split <;> simp

@[simp] theorem tsetOf_goNext : tsetOf (goNext s) d = tsetOf s d := by
  have hland : tsetOf (landJump s) d = tsetOf s d := by
    unfold landJump
    split <;> simp [releaseBodies]
  have hend (n : Option Nat) (b : Bool) : tsetOf (endTo s n b) d = tsetOf s d := by
    unfold endTo
    cases n <;> simp [tsetOf_ite, hland, enterSegment]
  simp [goNext, tsetOf_ite, hend]

/-- TSET selects the pin of a channel: a stream compare pin of a tile in the mask (R163). -/
def tsetTakes (s : State) (tiles d : Nat) : Bool :=
  bit tiles (tileOf d) && (roleOf s d == 3 || roleOf s d == 4 || roleOf s d == 6)

/-- The pins that TSET selects among some channels have its set, and the others keep theirs. -/
theorem tsetOf_tsetFold (set tiles : Nat) (l : List Nat) :
    tsetOf (l.foldl (fun s c => if tsetTakes s tiles c then s.setChan c { s.chan c with tset := set } else s) s) d =
      if d ∈ l ∧ tsetTakes s tiles d then set else tsetOf s d := by
  induction l generalizing s with
  | nil => simp
  | cons c r ih =>
    have hsel (x : Chan) : tsetTakes (s.setChan c x) tiles d = tsetTakes s tiles d := rfl
    rw [List.foldl_cons, ih]
    by_cases hc : tsetTakes s tiles c = true
    · rw [if_pos hc, hsel]
      by_cases hd : d = c
      · simp [hd, hc, tsetOf]
      · simp [hd, tsetOf]
    · rw [if_neg hc]
      by_cases hd : d = c
      · simp [hd, hc]
      · simp [hd]

theorem tsetOf_tsetAction (set tiles : Nat) (hd : d < 96) (ht : tsetTakes s tiles d = true) :
    tsetOf (tsetAction s set tiles) d = set := by
  have h := tsetOf_tsetFold (s := s) (d := d) set tiles (List.range 96)
  rw [if_pos ⟨List.mem_range.2 hd, ht⟩] at h
  exact h

end

theorem frame_tsetAction (s : State) (set tiles : Nat) : Frame [] [.chans] s (tsetAction s set tiles) := by
  unfold tsetAction
  exact (Frame.refl ..).foldl _ fun u c _ h => (frame_setChan h _ _ (by simp)).ite h

/-! ### MARK -/

/-- A marker pulse changes the measurements of the units it reaches alone. -/
theorem measures_tmuCaptureAll (e : Nat) (p : Int) (l : List Nat) (hl : ∀ c ∈ l, c < 96) (s : State) :
    Frame (chKeys [K.TS_BUF, K.HIST] (List.range 96)) [.units, .tb, .drawn] s (tmuCaptureAll e p l s) ∧
      ∀ d ∉ l, (tmuCaptureAll e p l s).tmu d = s.tmu d := by
  unfold tmuCaptureAll
  induction l generalizing s with
  | nil => exact ⟨.refl .., fun _ _ => rfl⟩
  | cons c r ih =>
    have hc := hl c List.mem_cons_self
    obtain ⟨h1, h2⟩ := ih (fun d hd => hl d (List.mem_cons_of_mem _ hd)) (tmuCapture e p s c)
    have m := measures_tmuCapture (.refl c s) hc e p
    have hk : ∀ k ∈ [atCh K.TS_BUF c, atCh K.HIST c], k ∈ chKeys [K.TS_BUF, K.HIST] (List.range 96) := fun k hk =>
      List.mem_flatMap.2 ⟨c, List.mem_range.2 hc, hk⟩
    refine ⟨(m.frame.mono hk fun _ p => p).trans h1, fun d hd => ?_⟩
    obtain ⟨hne, hr⟩ := not_or.1 (List.mem_cons.not.1 hd)
    exact (h2 d hr).trans (m.tmu d hne)

section
variable {s : State} {n k tiles : Nat}

theorem frame_markAction :
    Frame (chKeys [K.TS_BUF, K.HIST] (List.range 96)) [.units, .tb, .drawn, .out] s (markAction s n k tiles) := by
  have hl : ∀ c ∈ (List.range 96).filter (fun c => bit tiles (tileOf c)), c < 96 := fun c hc =>
    List.mem_range.1 (List.mem_of_mem_filter hc)
  exact (frame_emit (.refl ..) _ (by simp)).trans
    ((measures_tmuCaptureAll _ _ _ hl _).1.mono (fun _ k => k) (by simp))

theorem tmu_markAction {c : Nat} (hc : bit tiles (tileOf c) = false) : (markAction s n k tiles).tmu c = s.tmu c := by
  have hl : ∀ c ∈ (List.range 96).filter (fun c => bit tiles (tileOf c)), c < 96 := fun c hc =>
    List.mem_range.1 (List.mem_of_mem_filter hc)
  exact (measures_tmuCaptureAll _ _ _ hl _).2 c (by simp [hc])

theorem sent_markAction : Out.marker n (s.num K.ISSUES) k tiles ∈ (markAction s n k tiles).out :=
  (keeps_tmuCaptureAll (.refl _) ..).sent.subset (by simp [State.emit])

end

/-- Settles O24: TSET and MARK act before their granule plays, and neither its play nor the control after it touches what
they have set. -/
theorem vecTsetMarkIssue : Obligations.VecTsetMarkIssue := by
  intro s io w g h
  have hnum {k : Nat} (hk : k ≠ K.UC_CORRECTED) : (prepared s io w).num k = s.num k := by rw [num_prepared, if_neg hk]
  refine ⟨fun hw => ?_, fun hw => ?_, fun hw => ?_⟩
  · obtain ⟨t, ht, hf⟩ := exec_row (c := .vec io) rfl h hw
    exact ⟨t, ht, (issueMade_playOne s io w g).goes_on hf⟩
  · obtain ⟨t, ht, hf⟩ := exec_row (c := .tset io) rfl h (by simp [opIs, hw])
    have hplay := granulePlays_playOne (tsetAction (prepared s io w) (field w 13 8) (field w 27 16)) io g
    have m := issueMade_of_plays (frame_tsetAction ..) (by decide) (by decide) (by decide) hplay
    obtain ⟨h1, h2, h3⟩ := m.goes_on hf
    refine ⟨t, ht, h1, h2, h3.mono (by decide) (by decide), fun c hc hb hr => ?_⟩
    rw [chan_tset, tsetOf_of_frame hf (by simp), tsetOf_goNext, tsetOf_playOne]
    refine tsetOf_tsetAction _ _ hc ?_
    have hrole : roleOf (prepared s io w) c = roleOf s c := hnum (by simp only [atCh, K.ROLE, K.UC_CORRECTED]; omega)
    simpa [tsetTakes, hb, hrole, or_assoc] using hr
  · obtain ⟨t, ht, hf⟩ := exec_row (c := .mark io) rfl h (by simp [opIs, hw])
    have hplay := granulePlays_playOne (markAction (prepared s io w) (field w 9 8) (field w 21 16) (field w 43 32)) io g
    have m := issueMade_of_plays frame_markAction (by decide) (by decide) (by decide) hplay
    obtain ⟨h1, h2, h3⟩ := m.goes_on hf
    refine ⟨t, ht, h1, h2, h3.mono (fun _ k => k) (by decide), ?_, fun c hc hb => ?_⟩
    · have hsent := sent_markAction (s := prepared s io w) (n := field w 9 8) (k := field w 21 16) (tiles := field w 43 32)
      rw [hnum (by decide)] at hsent
      have hkeep := keeps_goNext (keeps_playOne (.refl (markAction (prepared s io w) (field w 9 8) (field w 21 16)
        (field w 43 32))) io g)
      exact (hf.out (by simp)).sent (hkeep.sent.subset hsent)
    · have htb : t.tb = (markAction (prepared s io w) (field w 9 8) (field w 21 16) (field w 43 32)).tb :=
        (hplay.frame_on hf).tb (by decide)
      have hp : (prepared s io w).tb = s.tb := (frame_prepared s io w).tb (by simp)
      calc t.tmu c = (markAction (prepared s io w) (field w 9 8) (field w 21 16) (field w 43 32)).tmu c := by
            unfold State.tmu; rw [htb]
        _ = (prepared s io w).tmu c := tmu_markAction hb
        _ = s.tmu c := by unfold State.tmu; rw [hp]

end Sys2Proof.Machine

/-! PROOFS. How a burst ends (O31). -/

namespace Sys2Proof.Machine

/-- A burst whose last issue chose no successor, while fault source 0x80, beyond those of channels, tiles and stacks, waits
to be fenced: its "unit" is a domain that does not exist, whose loss reaches the tile behind the last. -/
def fallsWithFence : State :=
  let s := State.reset.setNums [(K.SEQ_STATE, 4), (K.DOM_STATE, 4 ^ 28), (atCh K.TMU_STATE 128, 1)]
  let s := s.setFlt { s.flt with fenceWait := [0x80] }
  s.setSeq { s.seq with wait := .fallOff, last := some ⟨0, 0, 0, 0, [], 0x80, [], false⟩ }

theorem fallsWithFence_tmu : fallsWithFence.num (atCh K.TMU_STATE 128) = 1 := by decide +kernel

theorem exec_fallsWithFence :
    (match exec .fallOff fallsWithFence with | .next t => t.num (atCh K.TMU_STATE 128) | _ => 0) = 0 := by
  decide +kernel

/-- Refutes O31: the end of a burst fences the units that wait, and a waiting unit 0x80 moves an object of a channel 128,
which the module does not have and the frame of the statement leaves alone. -/
theorem not_burstEnds : ¬ Obligations.BurstEnds := by
  rintro ⟨-, hfall, -⟩
  obtain ⟨t, ht, -, -, -, -, hframe⟩ := hfall fallsWithFence ⟨0, 0, 0, 0, [], 0x80, [], false⟩ (by decide +kernel)
    (by decide +kernel) rfl rfl
  have hstand : t.num (atCh K.TMU_STATE 128) = fallsWithFence.num (atCh K.TMU_STATE 128) :=
    hframe.num _ (by decide) fun _ hp => absurd hp.2 (by decide)
  have hgone := exec_fallsWithFence
  rw [ht] at hgone
  dsimp only at hgone
  rw [hstand, fallsWithFence_tmu] at hgone
  exact absurd hgone (by decide)

end Sys2Proof.Machine

/-! PROOFS. Jump requests and the jump reserve (O36). -/

namespace Sys2Proof.Machine

/-! ### A request is latched -/

section
variable {s : State} {entry : Nat}

/-- A request of the host that the sequencer takes (R173, R175, R194, R231). -/
theorem jumpRequest_taken (hr : s.num K.SEQ_STATE = 4) (hv : bit s.seq.jtValid entry = true) :
    (jumpRequest s entry false).1 = 0 ∧ JumpLatched entry false s (jumpRequest s entry false).2 ∧
      Frame [K.JUMPS_REPLACED] [.seq] s (jumpRequest s entry false).2 := by
  have hst : ¬ seqState s ≠ 4 := not_not.2 hr
  have hcount : Frame [K.JUMPS_REPLACED] [.seq] s (s.inc K.JUMPS_REPLACED) := frame_inc (.refl ..) (.inl (by simp))
  unfold jumpRequest JumpLatched
  rw [if_neg hst, if_neg (by simp [hv]), if_neg (by simp)]
  by_cases hp : ringPrecedes s false = true
  · have hj : s.seq.jump.isSome = true := by
      unfold ringPrecedes at hp
      cases h : s.seq.jump with
      | none => rw [h] at hp; exact nomatch hp
      | some j => rfl
    rw [if_pos hp]
    simp [hp, hj, hcount]
  · rw [if_neg hp]
    refine ⟨rfl, ⟨?_, ?_⟩, ?_⟩
    · simp only [hp]
      split <;> simp [reserveStart]
    · dsimp only [reserveStart]
      split <;> simp
    · exact frame_setSeq (frame_setSeq (hcount.ite (.refl ..)) _ (by simp)) _ (by simp)

theorem jumpRequest_refused (h : s.num K.SEQ_STATE ≠ 4 ∨ bit s.seq.jtValid entry = false) :
    (jumpRequest s entry false).1 ≠ 0 ∧ (jumpRequest s entry false).2 = s.inc K.JUMPS_REJECTED := by
  unfold jumpRequest seqState
  by_cases hr : s.num K.SEQ_STATE = 4
  · have hv := h.resolve_left (not_not.2 hr)
    simp [hr, hv]
  · simp [hr]

/-- A request that its checks let pass is one the sequencer takes (R230). -/
theorem taken_of_code (h : (jumpRequest s entry false).1 = 0) :
    s.num K.SEQ_STATE = 4 ∧ bit s.seq.jtValid entry = true := by
  by_contra hn
  refine (jumpRequest_refused ?_).1 h
  rw [Classical.not_and_iff_not_or_not, Bool.not_eq_true] at hn
  exact hn

end

theorem row_jumpReq : rowOf 0x2100 1 = ⟨1, 1, .u8, .wo, 0, false, 0xf, 0, .any, 0⟩ := by decide

/-- A write that is accepted passes its object's own check (R85). -/
theorem moduleCode_of_lateCode {s : State} {b : Bool} {i sub off : Nat} {d : Bytes} (h : lateCode s b i sub off d = 0)
    (hk : objKey i sub ≠ K.KEY_UNLOCK) : moduleCode s (objKey i sub) (leNat d &&& (rowOf i sub).mask) = 0 := by
  unfold lateCode at h
  dsimp only at h
  rw [if_neg hk] at h
  generalize moduleCode s (objKey i sub) (leNat d &&& (rowOf i sub).mask) = m at h ⊢
  split_ifs at h with _ _ _ hu
  · exact absurd h hu
  · exact h

section
variable {s : State} {n : Nat}

/-- The entry that a write of JUMP_REQ names (R229). -/
theorem jumpReq_entry (hn : n < 256) : leNat (leBytes 1 n) &&& (rowOf 0x2100 1).mask = n % 16 := by
  rw [row_jumpReq, leNat_leBytes, Nat.pow_one, Nat.mod_eq_of_lt hn]
  show n &&& 15 = n % 16
  exact Nat.and_two_pow_sub_one_eq_mod n 4

theorem commit_jumpReq (q : Asker) (b : Bool) (off : Nat) (hn : n < 256) :
    commit s q b 0x2100 1 off (leBytes 1 n) = (jumpRequest s (n % 16) false).2 := by
  have hv := jumpReq_entry hn
  rw [row_jumpReq] at hv
  simp [commit, row_jumpReq, Ty.isBlob, commitUnit, commitModule, objKey, baseIndex, K.LINE_CFG0, hv]

/-- An accepted JUMP_REQ names a request that the sequencer takes (R229, R230). -/
theorem taken_of_accepted {v : Via} (hn : n < 256) (h : AcceptedKey s v K.JUMP_REQ n) :
    s.num K.SEQ_STATE = 4 ∧ bit s.seq.jtValid (n % 16) = true := by
  obtain ⟨-, -, hl⟩ := h
  have hl : lateCode (keySpent s 0x2100 1) (viaFrame v) 0x2100 1 0 (leBytes 1 n) = 0 := hl
  have hc := moduleCode_of_lateCode hl (by decide)
  rw [keySpent_of_notKey (by rw [row_jumpReq]; rfl), jumpReq_entry hn] at hc
  exact taken_of_code (by simpa [moduleCode, objKey] using hc)

end

/-- A permitted write of SEQ_JUMP with bit 31 makes its request (R69, R238). -/
theorem seqJump_requests {s : State} {pf v : Nat} (ho : barOpen s = true) (hpf : pf < 2) (hp : barPermit s pf = true)
    (hv : v < 2 ^ 32) (hb : bit v 31 = true) :
    bar0Write s pf 0x2008 (leBytes 4 v) = (jumpRequest s (v % 16) false).2 := by
  have hput : bar0Put s pf 0x2008 v = (false, (jumpRequest s (v % 16) false).2) := by simp [bar0Put, bar0Action, hb, hp]
  rw [bar0Write_word ho hpf (by decide) hv hput, if_neg Bool.false_ne_true]

/-! ### The reserve fills -/

/-- From `s` to `t` memory has been read: blocks may have been marked uncorrectable, and that is counted. -/
structure MemMarked (s t : State) : Prop where
  frame : Frame [K.MEM_CE, K.MEM_UE, K.MEM_UE_ADDR, K.LC_CORRECTED] [.mem, .arrived] s t
  mem : t.mem = { s.mem with bad := t.mem.bad }

theorem MemMarked.refl (s : State) : MemMarked s s := ⟨.refl .., rfl⟩

theorem MemMarked.trans {a b c : State} (h : MemMarked a b) (g : MemMarked b c) : MemMarked a c :=
  ⟨h.frame.trans g.frame, by rw [g.mem, h.mem]⟩

section
variable {s t : State}

theorem MemMarked.seq (h : MemMarked s t) : t.seq = s.seq := h.frame.seq (by simp)

theorem MemMarked.byte (h : MemMarked s t) (a : Nat) : memByte t.mem a = memByte s.mem a := by rw [h.mem]; rfl

theorem MemMarked.word (h : MemMarked s t) (g : Nat) : instrWord t g = instrWord s g := by
  have hbyte : memByte t.mem = memByte s.mem := funext h.byte
  simp only [instrWord, memNat, memRead, h.seq, hbyte]

theorem memMarked_applyUpset (s : State) (u : Upset) : MemMarked s (applyUpset s u) := by
  cases u with
  | memCorrected => exact ⟨frame_inc (.refl ..) (.inl (by simp)), rfl⟩
  | memUncorrectable a =>
    unfold applyUpset
    dsimp only
    split
    · exact .refl s
    · exact ⟨frame_setMem (.refl ..) _ (by simp), rfl⟩
  | cacheCorrected => exact ⟨frame_inc (.refl ..) (.inl (by simp)), rfl⟩
  | cacheUncorrectable a f n => exact .refl s

theorem memMarked_upsets (s : State) (l : List Upset) : MemMarked s (l.foldl applyUpset s) := by
  induction l generalizing s with
  | nil => exact .refl s
  | cons u r ih => exact (memMarked_applyUpset s u).trans (ih _)

theorem memMarked_memUE (s : State) (a : Nat) : MemMarked s (memUE s a) := by
  have hm (l : List Nat) :
      MemMarked s (((s.setMem { s.mem with bad := l }).inc K.MEM_UE).setNum K.MEM_UE_ADDR (a / 32 * 32)) :=
    ⟨frame_setNum (frame_inc (frame_setMem (.refl ..) _ (by simp)) (.inl (by simp))) _ (.inl (by simp)), rfl⟩
  unfold memUE memFault
  dsimp only
  split
  · exact (hm _).trans ⟨frame_raise (.refl ..) _ (.inr (by simp)), rfl⟩
  · exact hm _

theorem memMarked_fetchMemory (s : State) (seg off entry : Nat) : MemMarked s (fetchMemory s seg off entry).2 := by
  unfold fetchMemory fetchUE
  dsimp only
  split
  · exact memMarked_memUE ..
  · exact .refl s

/-- What names a granule fetched from memory, and its instruction word (R188, R193). -/
theorem fetchMemory_granule (s : State) (seg off entry : Nat) :
    let g := (fetchMemory s seg off entry).1
    (g.seg, g.off, g.word) = (seg, off, instrWord s (s.seq.index seg off)) := rfl

/-- Granules of a segment fetched from memory, in order. -/
theorem fetchMemory_fold (seg : Nat) (l : List Nat) (p : List Granule × State) :
    let r := l.foldl (fun (acc : List Granule × State) o =>
      ((acc.1 ++ [(fetchMemory acc.2 seg o 0).1], (fetchMemory acc.2 seg o 0).2))) p
    MemMarked p.2 r.2 ∧ r.1.map (fun g => (g.seg, g.off, g.word)) =
      p.1.map (fun g => (g.seg, g.off, g.word)) ++ l.map fun i => (seg, i, instrWord p.2 (p.2.seq.index seg i)) := by
  induction l generalizing p with
  | nil => exact ⟨.refl _, by simp⟩
  | cons o l ih =>
    obtain ⟨h1, h2⟩ := ih (p.1 ++ [(fetchMemory p.2 seg o 0).1], (fetchMemory p.2 seg o 0).2)
    have m := memMarked_fetchMemory p.2 seg o 0
    refine ⟨m.trans h1, h2.trans ?_⟩
    simp [fetchMemory_granule, m.seq, m.word]

/-- A head whose copy is lost is no longer resident (R220). -/
theorem frame_cacheUE (s : State) (a g h : Nat) : Frame fetchKeys [.seq, .arrived] s (cacheUE s a g (some h)) := by
  have hn : Frame fetchKeys [.seq, .arrived] s
      (((s.inc K.LC_UNCORRECTED).setNum K.LC_BAD_ADDR (a / 32 * 32)).raise 0x74) :=
    frame_raise (frame_setNum (frame_inc (.refl ..) (.inl (by decide))) _ (.inl (by decide))) _ (.inr (by simp))
  exact (frame_setSeq hn _ (by simp)).trans ((frame_reportHeads _).mono (by decide) (by simp))

/-- Reading the first granules of a segment changes no byte of memory. -/
theorem readFirst_leaves (s : State) (seg : Nat) (u : Option (Nat × Nat × Nat)) :
    Frame fetchKeys fetchParts s (readFirst s seg u).2 ∧ ∀ a, memByte (readFirst s seg u).2.mem a = memByte s.mem a := by
  have hcache (v : State) (h : Frame fetchKeys [.seq, .arrived] s v) :
      Frame fetchKeys fetchParts s v ∧ ∀ a, memByte v.mem a = memByte s.mem a :=
    ⟨h.mono (fun _ k => k) (by decide), (h.mem (by decide)).2⟩
  unfold readFirst
  cases s.seq.heads.find? (fun h => h.seg == seg) with
  | some h =>
    cases u with
    | none => exact hcache s (.refl ..)
    | some x =>
      exact hcache _ (Frame.ite (frame_cacheUE ..) (.refl ..))
  | none =>
    generalize List.range 16 = l
    obtain ⟨m, -⟩ := fetchMemory_fold seg l ([], s)
    exact ⟨m.frame.mono (by decide) (by decide), m.byte⟩

theorem readFirst_granules (s : State) (seg : Nat) : FirstGranules s seg (readFirst s seg none).1 := by
  unfold FirstGranules readFirst
  cases s.seq.heads.find? (fun h => h.seg == seg) with
  | some h => simp [upsetCovers]
  | none => exact (fetchMemory_fold seg (List.range 16) ([], s)).2

theorem reserveFill_reads {r : Reserve} (hr : s.seq.reserve = some r) (hn : r.ready = false) (u : Option (Nat × Nat × Nat)) :
    reserveFill s u = (readFirst s r.seg u).2.setSeq
      { (readFirst s r.seg u).2.seq with reserve := some ⟨r.seg, true, (readFirst s r.seg u).1⟩ } := by
  simp [reserveFill, hr, hn]

end

/-- Settles O36: a request that its checks let pass is latched by its commit or its register's action, and the reserve is
filled by reading the target's first granules. -/
theorem jumpRequests : Obligations.JumpRequests := by
  refine ⟨fun s v n hn h => ?_, fun s pf value hs ho hpf hp hv hb => ⟨fun hr hj => ?_, fun hrej => ?_⟩,
    fun s r hs hf hr hn ups => ?_⟩
  · obtain ⟨hr, hj⟩ := taken_of_accepted hn h
    obtain ⟨-, ⟨hseq, hcount⟩, hframe⟩ := jumpRequest_taken hr hj
    obtain ⟨t, ht, hall, hwide⟩ := took_commit (f := fun s => writeKey s v K.JUMP_REQ n) (i := 0x2100) (sub := 1)
      (d := leBytes 1 n) rfl h (by decide) (by rw [row_jumpReq]; rfl) (commit_jumpReq _ _ _ hn) hframe (by simp)
    refine ⟨t, ht, ⟨(hall.seq (by simp [answered])).trans hseq, ?_⟩, hwide⟩
    rw [num_touched hall, if_neg (by decide)]
    exact hcount
  · obtain ⟨-, ⟨hseq, hcount⟩, hframe⟩ := jumpRequest_taken hr hj
    obtain ⟨t, ht, g⟩ := took_next (fun s => bar0Write s pf 0x2008 (leBytes 4 value)) hs
    rw [seqJump_requests ho hpf hp hv hb] at g
    exact ⟨t, ht, ⟨(g [] []).seq_all.trans hseq, ((g [] []).num_all _).trans hcount⟩, hframe.trans (g ..)⟩
  · obtain ⟨t, ht, g⟩ := took_next (fun s => bar0Write s pf 0x2008 (leBytes 4 value)) hs
    rw [seqJump_requests ho hpf hp hv hb, (jumpRequest_refused hrej).2] at g
    exact ⟨t, ht, ((g [] []).num_all _).trans (by simp), (frame_inc (.refl ..) (.inl (by simp))).trans (g ..)⟩
  · have m := memMarked_upsets s ups
    have hreserve : (ups.foldl applyUpset s).seq.reserve = some r := by rw [m.seq, hr]
    obtain ⟨hread, hbytes⟩ := readFirst_leaves (ups.foldl applyUpset s) r.seg (cacheUpset ups)
    obtain ⟨t, ht, g⟩ := took_next (fun s => jumpReserveFilled s ups) hs
    have hfill : jumpReserveFilled s ups = reserveFill (ups.foldl applyUpset s) (cacheUpset ups) := by
      simp [jumpReserveFilled, hf]
    rw [hfill, reserveFill_reads hreserve hn] at g
    refine ⟨t, _, ht, congrArg Seq.reserve (g [] []).seq_all, rfl, rfl, ?_, ?_, fun a => ?_⟩
    · rintro rfl
      exact readFirst_granules s r.seg
    · exact (m.frame.mono (by decide) (by decide)).trans ((frame_setSeq hread _ (by decide)).trans (g ..))
    · exact (((g [] []).mem (by simp)).2 a).trans ((hbytes a).trans (m.byte a))

end Sys2Proof.Machine

/-! PROOFS. The ends of a burst by a halt request (O33), by a domain's loss (O35) and by a dry well (O38). As in O31, each fences
the units that wait, whatever they are. -/

namespace Sys2Proof.Machine

/-- A running burst with no granule waiting, its BAR windows open, while fault source 0x80, beyond those of channels, tiles and
stacks, waits to be fenced (see `fallsWithFence`). -/
def runsWithFence : State :=
  let s := State.reset.setNums [(K.SEQ_STATE, 4), (K.READY, 64), (K.DOM_STATE, 4 ^ 28), (atCh K.TMU_STATE 128, 1)]
  let s := s.setFlt { s.flt with fenceWait := [0x80] }
  s.setPwr { s.pwr with seqOnce := true }

theorem runsWithFence_tmu : runsWithFence.num (atCh K.TMU_STATE 128) = 1 := by decide +kernel

/-- What the command leaves, where it leaves a state at all. -/
def tmuLeft (c : Instr) : Option Nat :=
  match exec c runsWithFence with
  | .next t => some (t.num (atCh K.TMU_STATE 128))
  | _ => none

/-- A command that fences the waiting unit moves an object of a channel that the module does not have, which no frame of the
burst's ends names. -/
theorem not_frame_of_fences {c : Instr} {t : State} {ks : List Nat} {ps : List Part} (h0 : tmuLeft c = some 0)
    (ht : exec c runsWithFence = .next t) (hk : atCh K.TMU_STATE 128 ∉ ks) : ¬ Frame ks ps runsWithFence t := by
  intro hframe
  have hstand : t.num (atCh K.TMU_STATE 128) = 1 :=
    (hframe.num _ hk fun _ hp => absurd hp.2 (by decide)).trans runsWithFence_tmu
  simp [tmuLeft, ht, hstand] at h0

/-- Refutes O33: SEQ_HALT ends the burst, which fences the waiting unit 0x80 and moves an object beyond the frame. -/
theorem not_runAndHaltRequests : ¬ Obligations.RunAndHaltRequests := by
  rintro ⟨-, hbar, -⟩
  obtain ⟨-, -, ⟨t, ht, hends, -⟩, -⟩ := hbar runsWithFence 0 1 (by decide +kernel) (by decide +kernel) (by decide)
    (by decide +kernel) (by decide) (by decide)
  obtain ⟨-, hframe⟩ := hends (by decide +kernel) (by decide +kernel) (by decide +kernel)
  exact not_frame_of_fences (by decide +kernel) ht (by decide) hframe

/-- Refutes O35: TICK stops while RUNNING, and the end of the burst fences the waiting unit 0x80. -/
theorem not_drainingAndDomainLoss : ¬ Obligations.DrainingAndDomainLoss := by
  rintro ⟨-, hloss⟩
  obtain ⟨hburst, -⟩ := hloss runsWithFence 0 (by decide +kernel)
  obtain ⟨t, ht, -, -, -, -, -, hframe⟩ := hburst (by decide +kernel)
  exact not_frame_of_fences (by decide +kernel) ht (by decide) hframe

/-- Refutes O38: the issue that falls due finds no granule, and the dry well's end fences the waiting unit 0x80. -/
theorem not_dryWell : ¬ Obligations.DryWell := by
  intro h
  obtain ⟨t, ht, -, -, -, -, -, -, -, hframe⟩ := h runsWithFence 0x10 (by decide +kernel) (by decide +kernel)
    (by decide +kernel) (by decide +kernel) (.inr (by decide +kernel))
  exact not_frame_of_fences (by decide +kernel) ht (by decide) hframe

end Sys2Proof.Machine

/-! PROOFS. The fetch front, priming and the heads (O37). -/

namespace Sys2Proof.Machine

/-! ### What reading granules leaves -/

/-- From `s` to `t` memory and the loop cache have been read and the fetch front has brought the granules `l`: no byte of
memory has changed, and of the sequencer nothing but the stream, the front with what it passes, and what the cache holds. -/
structure Fetched (l : List Granule) (s t : State) : Prop where
  frame : Frame fetchKeys fetchParts s t
  byte : ∀ a, memByte t.mem a = memByte s.mem a
  stream : t.seq.stream = s.seq.stream ++ l
  seq : t.seq = { s.seq with stream := t.seq.stream, front := t.seq.front, primeQueue := t.seq.primeQueue,
                             heads := t.seq.heads, bodies := t.seq.bodies }

theorem Fetched.refl (s : State) : Fetched [] s s := ⟨.refl .., fun _ => rfl, by simp, rfl⟩

theorem Fetched.trans {l m : List Granule} {a b c : State} (h : Fetched l a b) (g : Fetched m b c) : Fetched (l ++ m) a c where
  frame := h.frame.trans g.frame
  byte := fun x => (g.byte x).trans (h.byte x)
  stream := by rw [g.stream, h.stream, List.append_assoc]
  seq := g.seq.trans (by rw [h.seq])

section
variable {a s : State} {l : List Granule}

theorem MemMarked.fetched (h : MemMarked a s) : Fetched [] a s :=
  ⟨h.frame.mono (by decide) (by decide), h.byte, by rw [h.seq, List.append_nil], by rw [h.seq]⟩

theorem fetched_reportHeads (s : State) : Fetched [] s (reportHeads s) :=
  have h := frame_reportHeads s
  have hq := h.seq (by decide)
  ⟨h.mono (by decide) (by decide), (h.mem (by decide)).2, by rw [hq, List.append_nil], by rw [hq]⟩

variable (h : Fetched l a s)
include h

/-- Nothing more has been fetched since. -/
theorem Fetched.after {t : State} (g : Fetched [] s t) : Fetched l a t := by
  have := h.trans g
  rwa [List.append_nil] at this

theorem Fetched.foldl {α : Type} {f : State → α → State} (hf : ∀ s x, Fetched [] s (f s x)) (m : List α) :
    Fetched l a (m.foldl f s) := by
  induction m generalizing s with
  | nil => exact h
  | cons x r ih => exact ih (h.after (hf s x))

theorem fetched_setNum {k : Nat} (v : Nat) (hk : k ∈ fetchKeys) : Fetched l a (s.setNum k v) :=
  h.after ⟨frame_setNum (.refl ..) _ (.inl hk), fun _ => rfl, by simp, rfl⟩

theorem fetched_raise (n : Nat) : Fetched l a (s.raise n) :=
  h.after ⟨frame_raise (.refl ..) _ (.inr (by decide)), fun _ => rfl, by simp, rfl⟩

/-- A step of the front, and what the loop cache holds. -/
theorem fetched_setFront (f : Front) (p : List (Nat × Nat)) (x : List Head) (y : List Body) :
    Fetched l a (s.setSeq { s.seq with front := f, primeQueue := p, heads := x, bodies := y }) :=
  h.after ⟨frame_setSeq (.refl ..) _ (by decide), fun _ => rfl, by simp, rfl⟩

/-- A failing read of the loop cache costs it the head, or the bodies, that held the granule (R220). -/
theorem fetched_cacheUE (addr g : Nat) (head : Option Nat) : Fetched l a (cacheUE s addr g head) := by
  have hn : Fetched l a (((s.inc K.LC_UNCORRECTED).setNum K.LC_BAD_ADDR (addr / 32 * 32)).raise 0x74) :=
    fetched_raise (fetched_setNum (fetched_setNum h _ (by decide)) _ (by decide)) _
  cases head with
  | some x => exact (fetched_setFront hn ..).after (fetched_reportHeads _)
  | none =>
    unfold cacheUE
    dsimp only
    split
    · exact fetched_setFront hn ..
    · exact fetched_setNum (fetched_setNum (fetched_setFront hn ..) _ (by decide)) _ (by decide)

theorem fetched_loadHead (x : Nat) : Fetched l a (loadHead s x) := by
  unfold loadHead
  split
  · split
    · exact h
    · exact h.after (memMarked_memUE ..).fetched
  · exact fetched_setFront h ..

/-! ### The front moves -/

theorem fetched_frontTo (t : Option Nat) (b : Bool) : Fetched l a (frontTo s t b) := by
  cases t with
  | none => exact fetched_setFront h ..
  | some t => exact fetched_setFront h ..

/-- The front passes a granule: its own place changes, and the segment entries it has reached (R182). -/
theorem fetched_frontPass (w : Nat) : Fetched l a (frontPass s w) := by
  unfold frontPass
  extract_lets q f x op f' s' fall
  have h0 : Fetched l a s' := fetched_setFront h ..
  have hto (g : Front) (t : Option Nat) (b : Bool) : Fetched l a (frontTo (s'.setSeq { s'.seq with front := g }) t b) :=
    fetched_frontTo (fetched_setFront h0 ..) t b
  split
  · exact fetched_frontTo h0 ..
  · split
    · exact fetched_setFront h0 ..
    · split
      · split
        · split <;> exact hto ..
        · exact fetched_frontTo h0 ..
      · split
        · exact hto ..
        · split
          · split
            · exact hto ..
            · exact fetched_frontTo h0 ..
          · split <;> exact fetched_frontTo h0 ..

omit h

/-- The granule joins the stream, and the front passes it (R182, R209). -/
theorem fetched_frontTake (g : Granule) (cached : Bool) : Fetched [g] s (frontTake s g cached) := by
  have hjoin : Fetched [g] s (s.setSeq { s.seq with
      stream := s.seq.stream ++ [g], bodies := bodiesTake s.seq g,
      front := { s.seq.front with sure := s.seq.front.sure && cached } }) :=
    ⟨frame_setSeq (.refl ..) _ (by decide), fun _ => rfl, rfl, rfl⟩
  exact fetched_frontPass hjoin _

end

/-! ### The front brings granules -/

/-- The granule at the front, its data to reach the tiles `late` later: the loop cache's copy where one is held, else as memory
delivers it (R182, R186, R193, R209). -/
def frontGranule (s : State) (late : List Nat) : Granule :=
  let f := s.seq.front
  match cachedAt s.seq with
  | some (x, _) => { x with seg := f.seg, off := f.off, entry := f.entry, late := if f.sure then [] else late }
  | none => { (fetchMemory s f.seg f.off f.entry).1 with late := late }

section
variable {s : State}

/-- The front does not move past a missing successor, nor with the instruction queue full (R182). -/
theorem fetchOne_stands (h : s.seq.front.stopped = true ∨ 2032 ≤ s.seq.side.length + s.seq.stream.length) (bad : Option Nat)
    (lost : Bool) (late : List Nat) : fetchOne bad lost late s = s := by
  unfold fetchOne
  exact if_pos (by simpa using h)

/-- Otherwise it brings one granule, the one it stands at where no read of the loop cache fails (R182, R220). -/
theorem fetchOne_fetched (ho : s.seq.front.stopped = false) (hr : s.seq.side.length + s.seq.stream.length < 2032)
    (bad : Option Nat) (lost : Bool) (late : List Nat) :
    ∃ g, Fetched [g] s (fetchOne bad lost late s) ∧ (bad = none → lost = false → g = frontGranule s late) := by
  unfold fetchOne frontGranule
  dsimp only
  rw [if_neg (by simp [ho, hr])]
  cases cachedAt s.seq with
  | some c =>
    obtain ⟨x, head⟩ := c
    cases bad with
    | some a => exact ⟨_, (fetched_cacheUE (.refl s) ..).trans (fetched_frontTake ..), nofun⟩
    | none => exact ⟨_, fetched_frontTake .., fun _ hl => by rw [hl]; rfl⟩
  | none =>
    exact ⟨_, (memMarked_fetchMemory ..).fetched.trans (fetched_frontTake ..), fun _ hl => by rw [hl]; rfl⟩

/-- From `s` to `t` the front has brought the granules `l`, no more than `n`, and no more than 2,032 wait (R182). -/
structure FrontBrings (n : Nat) (l : List Granule) (s t : State) : Prop where
  fetched : Fetched l s t
  count : l.length ≤ n
  room : l ≠ [] → t.seq.side.length + t.seq.stream.length ≤ 2032

theorem FrontBrings.refl (n : Nat) (s : State) : FrontBrings n [] s s := ⟨.refl s, Nat.zero_le n, absurd rfl⟩

theorem FrontBrings.trans {m n : Nat} {k l : List Granule} {a b c : State} (h : FrontBrings n k a b)
    (g : FrontBrings m l b c) : FrontBrings (m + n) (k ++ l) a c where
  fetched := h.fetched.trans g.fetched
  count := by
    have := h.count
    have := g.count
    rw [List.length_append]
    omega
  room := fun hne => by
    cases l with
    | cons x r => exact g.room (List.cons_ne_nil x r)
    | nil =>
      rw [g.fetched.seq, g.fetched.stream, List.append_nil]
      exact h.room (by simpa using hne)

theorem fetchOne_brings (bad : Option Nat) (lost : Bool) (late : List Nat) (s : State) :
    ∃ l, FrontBrings 1 l s (fetchOne bad lost late s) := by
  by_cases h : s.seq.front.stopped = true ∨ 2032 ≤ s.seq.side.length + s.seq.stream.length
  · rw [fetchOne_stands h]
    exact ⟨[], .refl ..⟩
  · rw [not_or, Bool.not_eq_true, Nat.not_le] at h
    obtain ⟨hopen, hroom⟩ := h
    obtain ⟨g, hg, -⟩ := fetchOne_fetched hopen hroom bad lost late
    refine ⟨[g], hg, Nat.le_refl 1, fun _ => ?_⟩
    rw [hg.seq, hg.stream, List.length_append]
    exact hroom

/-- One granule more, before what brings `n`. -/
theorem brings_after_one {n : Nat} {f : State → State} (hf : ∀ s, ∃ l, FrontBrings n l s (f s)) (bad : Option Nat)
    (lost : Bool) (late : List Nat) (s : State) : ∃ l, FrontBrings (n + 1) l s (f (fetchOne bad lost late s)) := by
  obtain ⟨l, h⟩ := fetchOne_brings bad lost late s
  obtain ⟨m, g⟩ := hf (fetchOne bad lost late s)
  exact ⟨l ++ m, h.trans g⟩

theorem fetchLost_brings (late : List Nat) (k n : Nat) (s : State) :
    ∃ l, FrontBrings n l s (fetchMany.fetchLost late k n s) := by
  induction n generalizing k s with
  | zero => exact ⟨[], by cases k <;> exact .refl ..⟩
  | succ n ih =>
    cases k with
    | zero => exact brings_after_one (ih 0) none false late s
    | succ k => exact brings_after_one (ih k) none true late s

theorem fetchMany_brings (late : List Nat) (u : Option (Nat × Nat × Nat)) (n : Nat) (s : State) :
    ∃ l, FrontBrings n l s (fetchMany late u n s) := by
  induction n generalizing u s with
  | zero => exact ⟨[], by unfold fetchMany; exact .refl ..⟩
  | succ n ih =>
    unfold fetchMany
    split
    · split
      · exact brings_after_one (fetchLost_brings late _ n) _ true late s
      · exact brings_after_one (ih none) none false late s
    · exact brings_after_one (ih _) none false late s

end

/-! ### A fetch -/

section
variable {s : State}

/-- What a fetch meets: upsets of memory have been noted, and data in flight have reached the wellheads but for those of the
tiles `late` (R182, R215, R480). -/
def dataArrived (s : State) (late : List Nat) (ups : List Upset) : State :=
  arrive (ups.foldl applyUpset s) (late.filter (tileFetchesNow s))

theorem frame_dataArrived (late : List Nat) (ups : List Upset) : Frame fetchKeys fetchParts s (dataArrived s late ups) :=
  frame_setSeq ((memMarked_upsets s ups).frame.mono (by decide) (by decide)) _ (by decide)

theorem byte_dataArrived (late : List Nat) (ups : List Upset) (a : Nat) :
    memByte (dataArrived s late ups).mem a = memByte s.mem a := (memMarked_upsets s ups).byte a

theorem seq_dataArrived (late : List Nat) (ups : List Upset) : (dataArrived s late ups).seq = { s.seq with
    stream := s.seq.stream.map fun x => { x with late := x.late.filter (late.filter (tileFetchesNow s)).contains } } := by
  unfold dataArrived arrive
  rw [seq_setSeq, (memMarked_upsets s ups).seq]

theorem granuleFetch_eq (h : fetching s = true) (n : Nat) (late : List Nat) (ups : List Upset) :
    granuleFetch s n late ups = fetchMany (late.filter (tileFetchesNow s)) (cacheUpset ups) n (dataArrived s late ups) :=
  if_pos h

/-- A fetch of one granule, which nothing stops, brings the one at the front to the end of the stream (R182). -/
theorem granuleFetch_one (h : fetching s = true) (ho : s.seq.front.stopped = false)
    (hr : s.seq.side.length + s.seq.stream.length < 2032) (late : List Nat) :
    Fetched [frontGranule (dataArrived s late []) (late.filter (tileFetchesNow s))] (dataArrived s late [])
      (granuleFetch s 1 late []) := by
  have hq := seq_dataArrived (s := s) late []
  obtain ⟨g, hg, hsame⟩ := fetchOne_fetched (s := dataArrived s late []) (by rw [hq]; exact ho)
    (by rw [hq]; simpa using hr) none false (late.filter (tileFetchesNow s))
  rw [granuleFetch_eq h, ← hsame rfl rfl]
  exact hg

/-- Where the granule at the front stands (R182). -/
theorem place_frontGranule (late : List Nat) : (frontGranule s late).seg = s.seq.front.seg ∧
    (frontGranule s late).off = s.seq.front.off ∧ (frontGranule s late).entry = s.seq.front.entry := by
  unfold frontGranule
  cases cachedAt s.seq with
  | some c => exact ⟨rfl, rfl, rfl⟩
  | none => exact ⟨rfl, rfl, rfl⟩

/-- A granule that the loop cache does not hold comes as the image has it (R193). -/
theorem frontGranule_memory (h : cachedAt s.seq = none) (late : List Nat) :
    (frontGranule s late).word = instrWord s (s.seq.index s.seq.front.seg s.seq.front.off) ∧
    (frontGranule s late).late = late := by
  unfold frontGranule
  rw [h]
  exact ⟨rfl, rfl⟩

/-- A granule that the loop cache holds comes as its copy (R186, R209). -/
theorem frontGranule_cached {x : Granule} {o : Option Nat} (h : cachedAt s.seq = some (x, o)) (late : List Nat) :
    (frontGranule s late).word = x.word ∧ (frontGranule s late).planes = x.planes ∧ (frontGranule s late).lost = x.lost := by
  unfold frontGranule
  rw [h]
  exact ⟨rfl, rfl, rfl⟩

/-! ### Priming -/

/-- Reading the first granules of a segment, the loop cache alone may lose its head. -/
theorem fetched_readFirst (seg : Nat) (u : Option (Nat × Nat × Nat)) : Fetched [] s (readFirst s seg u).2 := by
  unfold readFirst
  cases s.seq.heads.find? (fun h => h.seg == seg) with
  | some h =>
    cases u with
    | none => exact .refl s
    | some x =>
      dsimp only
      split
      · exact fetched_cacheUE (.refl s) ..
      · exact .refl s
  | none => exact (fetchMemory_fold seg (List.range 16) ([], s)).1.fetched

/-- The set with one more of its targets primed. -/
def PrimeSet.withTarget (p : PrimeSet) (k seg : Nat) (data : List Granule) : PrimeSet :=
  { p with targets := p.targets.set k ⟨seg, true, data⟩ }

/-- Priming a target that is not ready reads its first granules into its set (R190). -/
theorem primeComplete_reads {e k : Nat} {p : PrimeSet} {x : PrimeTarget}
    (hp : s.seq.primed.find? (fun p => p.owner == e && !p.supplying) = some p) (hx : p.targets[k]? = some x)
    (hn : x.ready = false) (u : Option (Nat × Nat × Nat)) :
    primeComplete s e k u = (readFirst s x.seg u).2.setSeq { (readFirst s x.seg u).2.seq with
      primed := s.seq.primed.map fun y =>
        if y.owner == e && !y.supplying then p.withTarget k x.seg (readFirst s x.seg u).1 else y } := by
  have hstand : (readFirst s x.seg u).2.seq.primed = s.seq.primed := by rw [(fetched_readFirst ..).seq]
  unfold primeComplete
  simp [hp, hx, hn, hstand, PrimeSet.withTarget]

/-- What is found is found again once another that is found as well stands in its place. -/
theorem find?_replaced {α : Type} {f : α → Bool} {l : List α} {x y : α} (hx : l.find? f = some x) (hy : f y = true) :
    (l.map fun z => if f z then y else z).find? f = some y := by
  induction l with
  | nil => exact nomatch hx
  | cons z r ih =>
    by_cases hz : f z = true
    · simp [hz, hy]
    · simpa [hz] using ih (by simpa [hz] using hx)

/-! ### The heads -/

/-- The evicted heads that fit are read again, and the heads have places in the load order (R185). -/
theorem reloadHeads_reports : ∃ u, Fetched [] s u ∧ ∃ heads evicted, (∀ h ∈ heads, Head.seg h ∈ s.seq.headOrder) ∧
    reloadHeads s = reportHeads (u.setSeq { u.seq with heads := heads, evicted := evicted, reload := false }) := by
  refine ⟨_, Fetched.foldl (.refl s) (fun u x => fetched_loadHead (.refl u) x) _, _, _, fun h hh => ?_, rfl⟩
  obtain ⟨x, hx, hfind⟩ := List.mem_filterMap.1 hh
  have hseg : h.seg = x := by simpa using List.find?_some hfind
  rw [hseg]
  exact (List.mem_filter.1 hx).1

theorem num_reportHeads : (reportHeads s).num K.HEADS_RESIDENT = s.seq.heads.length ∧
    (reportHeads s).num K.HEADS_TOTAL = s.seq.headOrder.length := by
  simp [reportHeads, State.setNums]

theorem headReload_eq : headReload s =
    if s.seq.reload = true ∧ s.flag K.READY 4 = true ∧ s.num K.SEQ_STATE ≠ 0 ∧ s.num K.SEQ_STATE ≠ 2 then reloadHeads s
    else s := by
  unfold headReload seqState
  simp only [Bool.and_eq_true, decide_eq_true_eq, and_assoc]

/-- The heads have been loaded again: all have a place in the load order, and they are reported (R185, R235). -/
structure Reloaded (s t : State) : Prop where
  reload : t.seq.reload = false
  resident : t.num K.HEADS_RESIDENT = t.seq.heads.length
  total : t.num K.HEADS_TOTAL = s.seq.headOrder.length
  segs : ∀ h ∈ t.seq.heads, h.seg ∈ s.seq.headOrder
  frame : Frame fetchKeys fetchParts s t
  byte : ∀ a, memByte t.mem a = memByte s.mem a

theorem reloaded_reloadHeads : Reloaded s (reloadHeads s) := by
  obtain ⟨u, hu, heads, evicted, hsegs, hreload⟩ := reloadHeads_reports (s := s)
  rw [hreload]
  generalize hv : u.setSeq { u.seq with heads := heads, evicted := evicted, reload := false } = v
  have hseq : v.seq = { u.seq with heads := heads, evicted := evicted, reload := false } := by rw [← hv]; rfl
  have hstand : (reportHeads v).seq = v.seq := (frame_reportHeads v).seq (by simp)
  obtain ⟨hres, htot⟩ := num_reportHeads (s := v)
  have hrep := fetched_reportHeads v
  exact {
    reload := by rw [hstand, hseq]
    resident := by rw [hres, hstand]
    total := by rw [htot, hseq, hu.seq]
    segs := by rw [hstand, hseq]; exact hsegs
    frame := (hv ▸ frame_setSeq hu.frame _ (by decide) : Frame fetchKeys fetchParts s v).trans hrep.frame
    byte := fun a => (hrep.byte a).trans (hv ▸ hu.byte a) }

/-- A command that reads memory and the loop cache answers a state that is its effect's in the sequencer and the objects. -/
theorem took_reading (f : State → State) (hs : s.pwr.stopped = false) (hframe : Frame fetchKeys fetchParts s (f s))
    (hbyte : ∀ a, memByte (f s).mem a = memByte s.mem a) : ∃ t, took s f = .next t ∧ t.seq = (f s).seq ∧
      (∀ k, t.num k = (f s).num k) ∧ Frame fetchKeys fetchParts s t ∧ ∀ a, memByte t.mem a = memByte s.mem a := by
  obtain ⟨t, ht, g⟩ := took_next f hs
  exact ⟨t, ht, (g [] []).seq_all, (g [] []).num_all, hframe.trans (g ..),
    fun a => (((g [] []).mem (by simp)).2 a).trans (hbyte a)⟩

end

/-- Settles O37: a fetch, a priming and a reload each read memory and the loop cache, and change of the sequencer what they
are for. -/
theorem fetchingAndPriming : Obligations.FetchingAndPriming := by
  refine ⟨fun s hs hf => ⟨fun late ho hr => ?_, fun n late ups => ?_, fun e seg r hq hl => ?_⟩,
    fun s e k p x hs hf hp hx hn ups => ?_, fun s hs => ?_⟩
  · have hone := granuleFetch_one hf ho hr late
    obtain ⟨t, ht, hseq, -, hframe, hbyte⟩ := took_reading (fun s => granuleFetch s 1 late []) hs
      ((frame_dataArrived late []).trans hone.frame) fun a => (hone.byte a).trans (byte_dataArrived late [] a)
    obtain ⟨hseg, hoff, hentry⟩ := place_frontGranule (s := dataArrived s late []) (late.filter (tileFetchesNow s))
    refine ⟨t, _, ht, ?_, hseg, hoff, hentry, fun hc => frontGranule_memory hc _, fun y o hc => frontGranule_cached hc _,
      hframe, hbyte⟩
    rw [hseq, hone.stream, seq_dataArrived]
  · obtain ⟨l, hb⟩ := fetchMany_brings (late.filter (tileFetchesNow s)) (cacheUpset ups) n (dataArrived s late ups)
    rw [← granuleFetch_eq hf] at hb
    obtain ⟨t, ht, hseq, -, hframe, hbyte⟩ := took_reading (fun s => granuleFetch s n late ups) hs
      ((frame_dataArrived late ups).trans hb.fetched.frame)
      fun a => (hb.fetched.byte a).trans (byte_dataArrived late ups a)
    refine ⟨t, l, ht, hb.count, ?_, fun hl => ?_, hframe, hbyte⟩
    · rw [hseq, hb.fetched.stream, seq_dataArrived]
    · rw [hseq]
      exact hb.room hl
  · obtain ⟨t, ht, g⟩ := took_next primingStart hs
    have hstart : primingStart s = s.setSeq { s.seq with
        primeQueue := r,
        primed := s.seq.primed ++ [⟨e, false, (s.seq.segAt seg).tgts.map (fun x => ⟨x, false, []⟩)⟩] } := by
      simp [primingStart, primeStart, hf, hq, hl]
    rw [hstart] at g
    exact ⟨t, ht, (g [] []).seq_all, (frame_setSeq (.refl ..) _ (by simp)).trans (g ..)⟩
  · have m := memMarked_upsets s ups
    have hset : (ups.foldl applyUpset s).seq.primed.find? (fun p => p.owner == e && !p.supplying) = some p := by
      rw [m.seq]; exact hp
    have hread := fetched_readFirst (s := ups.foldl applyUpset s) x.seg (cacheUpset ups)
    have hdone : primingComplete s e k ups = _ := (if_pos hf).trans (primeComplete_reads hset hx hn (cacheUpset ups))
    generalize hd : (readFirst (ups.foldl applyUpset s) x.seg (cacheUpset ups)).1 = data at hdone
    obtain ⟨t, ht, hseq, -, hframe, hbyte⟩ := took_reading (fun s => primingComplete s e k ups) hs
      (hdone ▸ frame_setSeq (m.fetched.frame.trans hread.frame) _ (by decide))
      fun a => hdone ▸ (hread.byte a).trans (m.byte a)
    have hprimed := congrArg Seq.primed (hseq.trans (congrArg State.seq hdone))
    refine ⟨t, ⟨x.seg, true, data⟩, ht, ⟨p.withTarget k x.seg data, ?_, ?_⟩, rfl, rfl, ?_, hframe, hbyte⟩
    · rw [hprimed]
      have hit := List.find?_some hp
      exact find?_replaced hset hit
    · obtain ⟨hk, -⟩ := List.getElem?_eq_some_iff.1 hx
      exact List.getElem?_set_self hk
    · rintro rfl
      rw [← hd]
      exact readFirst_granules s x.seg
  · by_cases hdue : s.seq.reload = true ∧ s.flag K.READY 4 = true ∧ s.num K.SEQ_STATE ≠ 0 ∧ s.num K.SEQ_STATE ≠ 2
    · rw [if_pos hdue]
      have h : Reloaded s (headReload s) := by rw [headReload_eq, if_pos hdue]; exact reloaded_reloadHeads
      obtain ⟨t, ht, hseq, hnum, hframe, hbyte⟩ := took_reading headReload hs h.frame h.byte
      refine ⟨t, ht, ?_, ?_, ?_, ?_, hframe, hbyte⟩
      · rw [hseq, h.reload]
      · rw [hnum, hseq, h.resident]
      · rw [hnum, h.total]
      · rw [hseq]
        exact h.segs
    · rw [if_neg hdue]
      obtain ⟨t, ht, g⟩ := took_next headReload hs
      rw [headReload_eq, if_neg hdue] at g
      exact ⟨t, ht, g ..⟩

end Sys2Proof.Machine

/-! PROOFS. The first issue of a burst (O34). -/

namespace Sys2Proof.Machine

/-! ### Objects of several units -/

/-- A channel object by its key at channel 0. -/
abbrev ChannelKey (k : Nat) : Prop := 0x400000 ≤ k ∧ k < 0x402000

theorem atCh_inj {k j c d : Nat} (hk : ChannelKey k) (hj : ChannelKey j) (h : atCh k c = atCh j d) : k = j ∧ c = d := by
  unfold atCh at *
  omega

theorem module_ne_channel {j k c : Nat} (hj : j < 0x400000) (hk : ChannelKey k) : j ≠ atCh k c := by
  unfold atCh at *
  omega

theorem mem_chKeys {ks cs : List Nat} {k c : Nat} (hk : k ∈ ks) (hc : c ∈ cs) : atCh k c ∈ chKeys ks cs :=
  List.mem_flatMap.2 ⟨c, hc, List.mem_map.2 ⟨k, hk, rfl⟩⟩

theorem mem_tileKeys {ks ts : List Nat} {k t : Nat} (hk : k ∈ ks) (ht : t ∈ ts) : atTile k t ∈ tileKeys ks ts :=
  List.mem_flatMap.2 ⟨t, ht, List.mem_map.2 ⟨k, hk, rfl⟩⟩

/-- An object of the module is none of its channels'. -/
theorem not_mem_chKeys {ks cs : List Nat} {j : Nat} (hks : ∀ k ∈ ks, 0x400000 ≤ k) (hj : j < 0x400000) : j ∉ chKeys ks cs := by
  intro h
  obtain ⟨c, -, hc⟩ := List.mem_flatMap.1 h
  obtain ⟨k, hk, rfl⟩ := List.mem_map.1 hc
  have := hks k hk
  unfold atCh at hj
  omega

/-- An object of a list that names each object once takes its value. -/
theorem num_setNums_mem {s : State} {l : List (Nat × Nat)} {k v : Nat} (hl : (l.map Prod.fst).Nodup) (hm : (k, v) ∈ l) :
    (s.setNums l).num k = v := by
  induction l generalizing s with
  | nil => exact nomatch hm
  | cons p r ih =>
    obtain ⟨hp, hr⟩ := List.nodup_cons.1 hl
    rw [setNums_cons]
    rcases List.mem_cons.1 hm with rfl | hm
    · rw [num_setNums _ r k fun q hq e => hp (List.mem_map.2 ⟨q, hq, e.symm⟩), num_setNum, if_pos rfl]
    · exact ih hr hm

/-! ### The first issue of a burst: the channels -/

/-- What a channel's counters start with, by their keys at channel 0, where CAP_CTRL keeps the counts or not (R384). -/
def channelStart (keep : Bool) : List (Nat × Nat) :=
  [(K.FF_ISSUE, 2 ^ 64 - 1), (K.FF_GRANULE, 0xFFFFFFFF), (K.FF_SEGMENT, 0xFFFF), (K.FF_WORD, 0xFF)] ++
    if keep then [] else [(K.ERR_COUNT, 0), (K.JUDGED, 0), (K.INV_COUNT, 0), (K.CNT_FLAGS, 0)]

theorem channelStart_keys {keep : Bool} {p : Nat × Nat} (hp : p ∈ channelStart keep) : ChannelKey p.1 := by
  revert p
  cases keep <;> decide

/-- The objects of all channels that the first issue sets. -/
def startKeysOf : List Nat :=
  chKeys [K.FF_ISSUE, K.FF_GRANULE, K.FF_SEGMENT, K.FF_WORD, K.ERR_COUNT, K.JUDGED, K.INV_COUNT, K.CNT_FLAGS] (List.range 96)

/-- A channel at the first issue: its electronics and its counters. -/
def channelFirst (s : State) (c : Nat) : State := countersFirst (s.setChan c (chanFirst s c)) c

/-- All channels at the first issue. -/
def channelsFirst (s : State) : State := (List.range 96).foldl channelFirst s

section
variable {s : State} {c d k v : Nat}

theorem channelFirst_eq : channelFirst s c = (s.setChan c (chanFirst s c)).setNums
    ((channelStart (s.flag K.CAP_CTRL 1)).map fun p => (atCh p.1 c, p.2)) := by
  have hflag : (((s.setChan c (chanFirst s c)).setNums [(atCh K.FF_ISSUE c, 2 ^ 64 - 1), (atCh K.FF_GRANULE c, 0xFFFFFFFF),
      (atCh K.FF_SEGMENT c, 0xFFFF), (atCh K.FF_WORD c, 0xFF)]).flag K.CAP_CTRL 1) = s.flag K.CAP_CTRL 1 := by
    unfold State.flag
    rw [num_setNums _ _ _ fun p hp => ?_]
    · rfl
    · obtain ⟨q, hq, rfl⟩ : ∃ q ∈ channelStart true, (atCh q.1 c, q.2) = p := List.mem_map.1 hp
      exact module_ne_channel (by decide) (channelStart_keys hq)
  unfold channelFirst countersFirst channelStart
  dsimp only
  rw [hflag]
  cases s.flag K.CAP_CTRL 1 <;> rfl

theorem num_channelFirst_own {keep : Bool} (hf : s.flag K.CAP_CTRL 1 = keep) (hm : (k, v) ∈ channelStart keep) :
    (channelFirst s c).num (atCh k c) = v := by
  rw [channelFirst_eq, hf]
  refine num_setNums_mem ?_ (List.mem_map.2 ⟨(k, v), hm, rfl⟩)
  rw [List.map_map]
  have hinj : Function.Injective fun k => atCh k c := fun a b h => Nat.add_right_cancel h
  have hkeys : ((channelStart keep).map Prod.fst).Nodup := by cases keep <;> decide
  have := hkeys.map hinj
  rwa [List.map_map] at this

theorem num_channelFirst_other (hk : ChannelKey k)
    (h : c ≠ d ∨ ∀ p ∈ channelStart (s.flag K.CAP_CTRL 1), p.1 ≠ k) : (channelFirst s c).num (atCh k d) = s.num (atCh k d) := by
  rw [channelFirst_eq, num_setNums]
  · rfl
  · rintro q hq e
    obtain ⟨p, hp, rfl⟩ := List.mem_map.1 hq
    obtain ⟨hkey, hch⟩ := atCh_inj hk (channelStart_keys hp) e
    exact h.elim (fun hne => hne hch.symm) fun hne => hne p hp hkey.symm

theorem frame_channelFirst (hc : c < 96) : Frame startKeysOf [.chans] s (channelFirst s c) := by
  rw [channelFirst_eq]
  refine frame_setNums (frame_setChan (.refl ..) _ _ (by simp)) _ fun q hq => .inl ?_
  obtain ⟨p, hp, rfl⟩ := List.mem_map.1 hq
  refine mem_chKeys ?_ (List.mem_range.2 hc)
  clear hq
  revert p
  cases s.flag K.CAP_CTRL 1 <;> decide

theorem flag_channelFirst (hc : c < 96) : (channelFirst s c).flag K.CAP_CTRL 1 = s.flag K.CAP_CTRL 1 := by
  unfold State.flag
  rw [(frame_channelFirst hc).num_eq (not_mem_chKeys (by decide) (by decide)) (by simp)]

theorem frame_channelsFirst : Frame startKeysOf [.chans] s (channelsFirst s) :=
  (Frame.refl ..).foldl _ fun _ _ hc h => h.trans (frame_channelFirst (List.mem_range.1 hc))

/-- Over a list of channels, one of them sets its own object, and the others leave it. -/
theorem num_channels_own {keep : Bool} {l : List Nat} (hl : ∀ c ∈ l, c < 96) (hf : s.flag K.CAP_CTRL 1 = keep)
    (hm : (k, v) ∈ channelStart keep) (h : d ∈ l ∨ s.num (atCh k d) = v) : (l.foldl channelFirst s).num (atCh k d) = v := by
  induction l generalizing s with
  | nil => exact h.resolve_left List.not_mem_nil
  | cons c r ih =>
    refine ih (fun c hc => hl c (List.mem_cons_of_mem _ hc)) ((flag_channelFirst (hl c List.mem_cons_self)).trans hf) ?_
    by_cases hd : c = d
    · exact .inr (hd ▸ num_channelFirst_own hf hm)
    · rw [num_channelFirst_other (channelStart_keys hm) (.inl hd)]
      exact h.imp_left fun h => (List.mem_cons.1 h).resolve_left (Ne.symm hd)

/-- Over a list of channels, an object that none of them sets stands. -/
theorem num_channels_other {l : List Nat} (hl : ∀ c ∈ l, c < 96) (hk : ChannelKey k)
    (h : ∀ p ∈ channelStart (s.flag K.CAP_CTRL 1), p.1 ≠ k) : (l.foldl channelFirst s).num (atCh k d) = s.num (atCh k d) := by
  induction l generalizing s with
  | nil => rfl
  | cons c r ih =>
    have hflag := flag_channelFirst (s := s) (hl c List.mem_cons_self)
    rw [List.foldl_cons, ih (fun c hc => hl c (List.mem_cons_of_mem _ hc)) (by rwa [hflag]),
      num_channelFirst_other hk (.inr h)]

/-- Every first-fail record is empty, and the counts are 0 unless CAP_CTRL keeps them (R384). -/
theorem num_channelsFirst (hc : c < 96) :
    (∀ k v, (k, v) ∈ channelStart true → (channelsFirst s).num (atCh k c) = v) ∧
    ∀ k ∈ [K.ERR_COUNT, K.JUDGED, K.INV_COUNT, K.CNT_FLAGS],
      (channelsFirst s).num (atCh k c) = if s.flag K.CAP_CTRL 1 then s.num (atCh k c) else 0 := by
  have hl : ∀ c ∈ List.range 96, c < 96 := fun c => List.mem_range.1
  have hm := List.mem_range.2 hc
  refine ⟨fun k v hv => num_channels_own hl rfl ?_ (.inl hm), fun k hk => ?_⟩
  · exact List.mem_append_left _ (by simpa [channelStart] using hv)
  · cases hf : s.flag K.CAP_CTRL 1 with
    | true =>
      rw [if_pos rfl]
      refine num_channels_other hl ?_ ?_
      · revert k; decide
      · rw [hf]; revert k; decide
    | false =>
      rw [if_neg Bool.false_ne_true]
      refine num_channels_own hl hf ?_ (.inl hm)
      revert k; decide

end

/-! ### The first issue of a burst: the module -/

/-- The objects of the module and its tiles that the first issue sets. -/
def startKeysOfModule : List Nat :=
  [K.SEQ_STATE, K.ISSUES, K.RESTARTS, K.TRAP_CYCLES, K.RECORDS, K.DEMOTED, K.LOST_RECORDS, K.R_POINTS_DONE, K.R_STATE,
   K.REC_END, K.REC_OLDEST, K.STEP1_ISSUE, K.STEP2_ISSUE, K.CAP_LEVEL, K.CAP_FLAGS, K.ATTN_EVENTS] ++
  tileKeys [K.WH_MIN] (List.range 12)

theorem beginKeys_eq : beginKeys = startKeysOfModule ++ startKeysOf := rfl

section
variable {s t u : State} {o : Int}

theorem frame_whReport_keys : Frame (tileKeys [K.WH_MIN] (List.range 12)) [] s (whReport s) := by
  unfold whReport
  refine Frame.ite ((Frame.refl ..).foldl _ fun u i hi h => ?_) (.refl ..)
  exact (frame_setNum h _ (.inl (mem_tileKeys (List.mem_singleton.2 rfl) hi))).ite h

/-- The state of the first issue before it is reported, once the channels are at theirs. -/
def moduleFirst (s : State) (o : Int) : State :=
  let s := captureFirst s
  let s := s.setSeq { s.seq with cnt := (List.range 4).map (fun i => s.num (K.CNT_LOAD0 + i)) }
  let s := s.setUc { s.uc with routine := none, deferred := none, trap := none, haltAfter := none }
  let s := s.setTb { s.tb with origin := o }
  (s.setNums [(K.SEQ_STATE, 4), (K.ISSUES, 0), (K.RESTARTS, 0), (K.TRAP_CYCLES, 0)]).evBurst

theorem firstIssue_eq : firstIssue s o = whReport (moduleFirst (channelsFirst s) o) := rfl

theorem frame_captureFirst : Frame startKeysOfModule [.cis] s (captureFirst s) :=
  frame_setCis (frame_setNums (.refl ..) _ fun p hp => .inl (by
    revert p
    simp [startKeysOfModule])) _ (by simp)

theorem frame_moduleFirst : Frame startKeysOfModule [.seq, .uc, .cis, .tb] s (moduleFirst s o) := by
  have hcap : Frame startKeysOfModule [.seq, .uc, .cis, .tb] s (captureFirst s) :=
    frame_captureFirst.mono (fun _ h => h) (by decide)
  exact frame_evBurst (frame_setNums (frame_setTb (frame_setUc (frame_setSeq hcap _ (by simp)) _ (by simp)) _ (by simp)) _
    (by simp [startKeysOfModule])) (by simp [startKeysOfModule])

theorem frame_firstIssue_channels : Frame startKeysOfModule [.seq, .uc, .cis, .tb] (channelsFirst s) (firstIssue s o) := by
  rw [firstIssue_eq]
  exact frame_moduleFirst.trans (frame_whReport_keys.mono (fun _ h => List.mem_append_right _ h) (by simp))

theorem frame_firstIssue : Frame beginKeys [.seq, .uc, .chans, .cis, .tb] s (firstIssue s o) := by
  rw [beginKeys_eq]
  exact (frame_channelsFirst.mono (fun _ h => List.mem_append_right _ h) (by decide)).trans
    ((frame_firstIssue_channels (s := s) (o := o)).mono (fun _ h => List.mem_append_left _ h) (by decide))

theorem startKeysOfModule_low : ∀ j ∈ startKeysOfModule, j < 0x400000 := by decide

theorem num_firstIssue_channel {k c : Nat} (hk : ChannelKey k) :
    (firstIssue s o).num (atCh k c) = (channelsFirst s).num (atCh k c) := by
  have hnot : atCh k c ∉ startKeysOfModule := fun h => module_ne_channel (startKeysOfModule_low _ h) hk rfl
  exact (frame_firstIssue_channels (s := s) (o := o)).num_eq hnot (by simp)

/-- An object of the module before its channels, as `moduleFirst` leaves it. -/
theorem num_firstIssue_module {k : Nat} (hk : k < 0x300000) :
    (firstIssue s o).num k = (moduleFirst (channelsFirst s) o).num k := by
  rw [firstIssue_eq]
  exact num_whReport _ (not_played hk)

theorem flag_firstIssue {k i : Nat} (hk : k < 0x300000) :
    (firstIssue s o).flag k i = (moduleFirst (channelsFirst s) o).flag k i := by
  unfold State.flag
  rw [num_firstIssue_module hk]

/-- An object of the module that the channels' first issue leaves. -/
theorem num_channelsFirst_module {k : Nat} (hk : k < 0x400000) : (channelsFirst s).num k = s.num k :=
  frame_channelsFirst.num_eq (not_mem_chKeys (by decide) hk) (by simp)

theorem cis_channelsFirst : (channelsFirst s).cis = s.cis := frame_channelsFirst.cis (by simp)

/-- The burst runs, and its counters and the capture's record objects have their start values (R221, R387, R399). -/
theorem moduleFirst_starts :
    (moduleFirst s o).num K.SEQ_STATE = 4 ∧ (moduleFirst s o).flag K.ATTN_EVENTS 11 = true ∧
    (∀ k ∈ [K.ISSUES, K.RESTARTS, K.TRAP_CYCLES, K.RECORDS, K.DEMOTED, K.LOST_RECORDS, K.R_POINTS_DONE, K.R_STATE],
      (moduleFirst s o).num k = 0) ∧
    (moduleFirst s o).num K.REC_END = 4096 ∧ (moduleFirst s o).num K.REC_OLDEST = 4096 ∧
    (moduleFirst s o).num K.STEP1_ISSUE = 2 ^ 64 - 1 ∧ (moduleFirst s o).num K.STEP2_ISSUE = 2 ^ 64 - 1 ∧
    (moduleFirst s o).num K.CAP_LEVEL = (if s.cis.short then 0 else s.num K.CAP_MODE) ∧
    (moduleFirst s o).num K.CAP_FLAGS = (if s.cis.short then 9 else 0) := by
  simp [moduleFirst, captureFirst, State.setNums, State.flag, putBit_get]

theorem uc_moduleFirst : (moduleFirst s o).uc =
    { s.uc with routine := none, deferred := none, trap := none, haltAfter := none } := rfl

theorem tb_moduleFirst : (moduleFirst s o).tb = { s.tb with origin := o } := rfl

theorem seq_moduleFirst : (moduleFirst s o).seq =
    { s.seq with cnt := (List.range 4).map fun i => s.num (K.CNT_LOAD0 + i) } := by
  have hcnt : ∀ i ∈ List.range 4, (captureFirst s).num (K.CNT_LOAD0 + i) = s.num (K.CNT_LOAD0 + i) := fun i hi =>
    frame_captureFirst.num_eq (by revert i; decide) (by simp)
  rw [← List.map_congr_left hcnt]
  rfl

/-- The first issue of a burst begins it (R202, R221, R223, R384). -/
theorem burstBegun_firstIssue : BurstBegun o [] s (firstIssue s o) := by
  obtain ⟨hstate, hev, hzero, hend, hold, h1, h2, hlevel, hflags⟩ := moduleFirst_starts (s := channelsFirst s) (o := o)
  have hseq : (channelsFirst s).seq = s.seq := frame_channelsFirst.seq (by simp)
  have huc : (channelsFirst s).uc = s.uc := frame_channelsFirst.uc (by simp)
  have htb : (channelsFirst s).tb = s.tb := frame_channelsFirst.tb (by simp)
  have hcis : (firstIssue s o).cis = (captureFirst (channelsFirst s)).cis := (frame_whReport _).cis (by simp)
  rw [cis_channelsFirst] at hlevel hflags
  rw [num_channelsFirst_module (by decide)] at hlevel
  have hown {k v : Nat} (hk : k < 0x300000) (h : (moduleFirst (channelsFirst s) o).num k = v) : (firstIssue s o).num k = v :=
    (num_firstIssue_module hk).trans h
  have hch {k c v : Nat} (hk : ChannelKey k) (h : (channelsFirst s).num (atCh k c) = v) : (firstIssue s o).num (atCh k c) = v :=
    (num_firstIssue_channel hk).trans h
  refine ⟨hown (by decide) hstate, (flag_firstIssue (by decide)).trans hev, fun k hk => hown ?_ (hzero k hk),
    hown (by decide) hend, hown (by decide) hold, congrArg Cistern.next hcis, congrArg Cistern.recs hcis, hown (by decide) h1, hown (by decide) h2,
    hown (by decide) hlevel, hown (by decide) hflags, fun c hc => ?_, ?_, ?_, ?_, frame_firstIssue⟩
  · revert k; decide
  · obtain ⟨hfirst, hcounts⟩ := num_channelsFirst (s := s) hc
    refine ⟨hch (by decide) (hfirst _ _ (by decide)), hch (by decide) (hfirst _ _ (by decide)),
      hch (by decide) (hfirst _ _ (by decide)), hch (by decide) (hfirst _ _ (by decide)), fun k hk => hch ?_ (hcounts k hk)⟩
    revert k; decide
  · have hload : ∀ i ∈ List.range 4, (channelsFirst s).num (K.CNT_LOAD0 + i) = s.num (K.CNT_LOAD0 + i) := fun i hi =>
      num_channelsFirst_module (by revert i; decide)
    rw [firstIssue_eq, seq_whReport, seq_moduleFirst, hseq, List.map_congr_left hload]
  · rw [firstIssue_eq, (frame_whReport _).uc (by simp), uc_moduleFirst, huc]
  · rw [firstIssue_eq, (frame_whReport _).tb (by simp), tb_moduleFirst, htb]

/-- A change of ATTN hides nothing of a burst's beginning. -/
theorem BurstBegun.seen {ks : List Nat} (h : BurstBegun o ks s u) (g : ∀ ks ps, Frame ks ps u t) : BurstBegun o ks s t := by
  have hn : t.num = u.num := funext (g [] []).num_all
  have hcis : t.cis = u.cis := (g [] []).cis (by simp)
  have huc : t.uc = u.uc := (g [] []).uc (by simp)
  have htb : t.tb = u.tb := (g [] []).tb (by simp)
  unfold BurstBegun State.flag at *
  rw [hn, hcis, (g [] []).seq_all, huc, htb]
  obtain ⟨h1, h2, h3, h4, h5, h6, h7, h8, h9, h10, h11, h12, h13, h14, h15, hframe⟩ := h
  exact ⟨h1, h2, h3, h4, h5, h6, h7, h8, h9, h10, h11, h12, h13, h14, h15, hframe.trans (g ..)⟩

end

end Sys2Proof.Machine

/-! PROOFS. LOADING: its checks and its steps (O34). -/

namespace Sys2Proof.Machine

/-! ### The steps of LOADING -/

/-- The header of the image that IMAGE_ADDR names, and where its segment table stands (R120, R123). -/
abbrev headerOf (s : State) : Bytes := imageHeader s (s.num K.IMAGE_ADDR)
abbrev tableAddr (s : State) : Nat := s.num K.IMAGE_ADDR + fieldAt (headerOf s) 24 8
abbrev tableLen (s : State) : Nat := fieldAt (headerOf s) 8 4 * 16

/-- Its segment table (R123). -/
abbrev imageTable (s : State) : Bytes := memRead s.mem (tableAddr s) (tableLen s)

section
variable {s t u : State}

/-- The checked image has been taken: its header and table are in use, and the flags and the levels of the last burst cleared
(R120–R123, R221, R223). -/
def imageTaken (s : State) : State :=
  ((s.setSeq (loadImage s (s.num K.IMAGE_ADDR) (headerOf s) (imageTable s))).setNum K.SEQ_FLAGS
    (clearBits (s.num K.SEQ_FLAGS) 0x17)).setNums ((List.range 12).map (fun t => (atTile K.WH_MIN t, 2032)))

/-- The objects that taking an image sets. -/
def takenKeys : List Nat := K.SEQ_FLAGS :: tileKeys [K.WH_MIN] (List.range 12)

/-- From its sequencer's image on, taking an image changes those objects. -/
theorem frame_taken (q : Seq) (v : Nat) : Frame takenKeys [] (s.setSeq q) (((s.setSeq q).setNum K.SEQ_FLAGS v).setNums
    ((List.range 12).map (fun t => (atTile K.WH_MIN t, 2032)))) := by
  refine frame_setNums (frame_setNum (.refl ..) _ (.inl List.mem_cons_self)) _ fun p hp => .inl ?_
  obtain ⟨i, hi, rfl⟩ := List.mem_map.1 hp
  exact List.mem_cons_of_mem _ (mem_tileKeys (List.mem_singleton.2 rfl) hi)

theorem frame_imageTaken : Frame takenKeys [.seq] s (imageTaken s) :=
  (frame_setSeq (.refl ..) _ (by simp)).trans ((frame_taken _ _).mono (fun _ h => h) (by simp))

theorem seq_imageTaken : (imageTaken s).seq = loadImage s (s.num K.IMAGE_ADDR) (headerOf s) (imageTable s) :=
  (frame_taken _ _).seq (by simp)

theorem mem_imageTaken : (imageTaken s).mem = s.mem := (frame_imageTaken.mem (by simp)).1

theorem whMin_imageTaken {i : Nat} (hi : i < 12) : (imageTaken s).num (atTile K.WH_MIN i) = 2032 := by
  refine num_setNums_mem ?_ (List.mem_map.2 ⟨i, List.mem_range.2 hi, rfl⟩)
  decide

/-- Whether the region is short is a matter of the map, the stacks and the mode (R389). -/
theorem cisShort_imageTaken : cisShort (imageTaken s) = cisShort s := by
  have hflag (i : Nat) : (imageTaken s).flag K.STACK_STATE i = s.flag K.STACK_STATE i := by
    unfold State.flag
    rw [frame_imageTaken.num_eq (by decide) (by simp)]
  unfold cisShort regionReady stackMapped stackReady
  simp only [hflag, mem_imageTaken, frame_imageTaken.num_eq (k := K.CAP_MODE) (by decide) (by simp)]

theorem frame_checkCistern : Frame [K.CAP_FLAGS] [.cis] s (checkCistern s) := by
  unfold checkCistern
  have hc := frame_setCis (.refl [K.CAP_FLAGS] [.cis] s) { s.cis with short := cisShort s } (by simp)
  exact (frame_setFlag (frame_setFlag hc _ _ (.inl (by simp))) _ _ (.inl (by simp))).ite hc

theorem cis_checkCistern : (checkCistern s).cis = { s.cis with short := cisShort s } := by
  unfold checkCistern
  cases cisShort s <;> rfl

/-- Setting bit 0 leaves the others. -/
theorem bit_succ_putBit_zero (v i : Nat) : bit (putBit v 0 true) (i + 1) = bit v (i + 1) := by
  unfold putBit bit
  split
  · rfl
  · rename_i h
    have heven : v % 2 = 0 := by
      rw [Nat.testBit_zero] at h
      simpa using h
    have hhalf : (v + 2 ^ 0) / 2 = v / 2 := by omega
    rw [if_pos rfl, Nat.testBit_add_one, Nat.testBit_add_one, hhalf]

/-- A short region sets SHORT_REGION and OVERFLOW (R389). -/
theorem flags_checkCistern : (cisShort s = true → (checkCistern s).flag K.CAP_FLAGS 0 = true ∧
      (checkCistern s).flag K.CAP_FLAGS 3 = true) ∧
    (cisShort s = false → (checkCistern s).num K.CAP_FLAGS = s.num K.CAP_FLAGS) := by
  refine ⟨fun h => ?_, fun h => ?_⟩
  · simp [checkCistern, h, State.flag, putBit_get, bit_succ_putBit_zero _ 2]
  · simp [checkCistern, h]

/-- The heads are loaded: their order is the one of the image (R184). -/
theorem loadingHeads_reads : Frame fetchKeys fetchParts s (loadingHeads s) ∧
    (∀ a, memByte (loadingHeads s).mem a = memByte s.mem a) ∧
    (loadingHeads s).seq = { s.seq with
      headOrder := headOrder s.seq, evicted := [], reload := false, stream := (loadingHeads s).seq.stream,
      front := (loadingHeads s).seq.front, primeQueue := (loadingHeads s).seq.primeQueue,
      heads := (loadingHeads s).seq.heads, bodies := (loadingHeads s).seq.bodies } := by
  have h : Fetched [] (s.setSeq { s.seq with
      headOrder := headOrder s.seq, heads := [], evicted := [], reload := false, bodies := [] }) (loadingHeads s) :=
    (Fetched.foldl (.refl _) (fun u x => fetched_loadHead (.refl u) x) _).after (fetched_reportHeads _)
  exact ⟨(frame_setSeq (.refl ..) _ (by decide)).trans h.frame, h.byte, h.seq⟩

/-! ### The targets of ENTRY are primed -/

/-- From `s` to `t` the only set has had its first `k` targets primed, memory and the loop cache being read (R190, R223). -/
structure Primes (k : Nat) (s t : State) : Prop where
  frame : Frame fetchKeys fetchParts s t
  byte : ∀ a, memByte t.mem a = memByte s.mem a
  seq : t.seq = { s.seq with stream := t.seq.stream, front := t.seq.front, primeQueue := t.seq.primeQueue,
                             heads := t.seq.heads, bodies := t.seq.bodies, primed := t.seq.primed }
  stream : t.seq.stream = s.seq.stream
  set : ∃ p q, s.seq.primed = [p] ∧ t.seq.primed = [q] ∧ q.owner = 1 ∧ q.supplying = false ∧
    q.targets.map (·.seg) = p.targets.map (·.seg) ∧ ∀ x ∈ q.targets.take k, x.ready = true

theorem map_seg_withTarget {q : PrimeSet} {k : Nat} {x : PrimeTarget} (hx : q.targets[k]? = some x) (data : List Granule) :
    (q.withTarget k x.seg data).targets.map (·.seg) = q.targets.map (·.seg) := by
  obtain ⟨hk, rfl⟩ := List.getElem?_eq_some_iff.1 hx
  unfold PrimeSet.withTarget
  rw [List.map_set]
  have hset := List.set_getElem_self (as := q.targets.map (·.seg)) (i := k) (by simpa using hk)
  rwa [List.getElem_map] at hset

theorem ready_withTarget {q : PrimeSet} {k seg : Nat} {data : List Granule}
    (h : ∀ x ∈ q.targets.take k, x.ready = true) {y : PrimeTarget}
    (hy : y ∈ (q.withTarget k seg data).targets.take (k + 1)) : y.ready = true := by
  obtain ⟨i, hi, rfl⟩ := List.mem_take_iff_getElem.1 hy
  have hlen : i < k + 1 ∧ i < q.targets.length := by simpa [PrimeSet.withTarget] using hi
  by_cases hik : k = i
  · simp [PrimeSet.withTarget, hik]
  · have hmem : q.targets[i] ∈ q.targets.take k := List.mem_take_iff_getElem.2 ⟨i, by omega, rfl⟩
    simpa [PrimeSet.withTarget, hik] using h _ hmem

/-- One target more is primed, where there is one more. -/
theorem Primes.next {k : Nat} (h : Primes k s t) : Primes (k + 1) s (primeComplete t 1 k none) := by
  obtain ⟨p, q, hp, hq, howner, hsup, hsegs, hready⟩ := h.set
  have hfind : t.seq.primed.find? (fun p => p.owner == 1 && !p.supplying) = some q := by simp [hq, howner, hsup]
  have hstands (hx : primeComplete t 1 k none = t) (hk : ∀ x ∈ q.targets.take (k + 1), x.ready = true) :
      Primes (k + 1) s (primeComplete t 1 k none) := by
    rw [hx]
    exact { h with set := ⟨p, q, hp, hq, howner, hsup, hsegs, hk⟩ }
  cases hx : q.targets[k]? with
  | none =>
    refine hstands (by simp [primeComplete, hfind, hx]) ?_
    rw [List.take_add_one, hx]
    simpa using hready
  | some x =>
    cases hr : x.ready with
    | true =>
      refine hstands (by simp [primeComplete, hfind, hx, hr]) ?_
      rw [List.take_add_one, hx]
      intro y hy
      rcases List.mem_append.1 hy with hy | hy
      · exact hready y hy
      · rw [List.mem_singleton.1 hy, hr]
    | false =>
      have hread := fetched_readFirst (s := t) x.seg none
      have hdone := primeComplete_reads hfind hx hr none
      generalize (readFirst t x.seg none).1 = data at hdone
      rw [hdone]
      refine ⟨h.frame.trans (frame_setSeq hread.frame _ (by decide)), fun a => (hread.byte a).trans (h.byte a), ?_, ?_,
        p, q.withTarget k x.seg data, hp, ?_, howner, hsup, ?_, fun y hy => ?_⟩
      · rw [seq_setSeq, hread.seq, h.seq]
      · rw [seq_setSeq, hread.stream, List.append_nil, h.stream]
      · simp [hq, howner, hsup]
      · rw [← hsegs]
        exact map_seg_withTarget hx data
      · exact ready_withTarget hready hy

/-- A segment has at most three targets (R123). -/
theorem tgts_length_parseSegs {q : Seq} {x : Bytes} {n : Nat} (h : q.segs = parseSegs x n) (i : Nat) :
    (q.segAt i).tgts.length ≤ 3 := by
  unfold Seq.segAt
  rw [h]
  cases hi : (parseSegs x n)[i]? with
  | none => exact Nat.zero_le 3
  | some y =>
    obtain ⟨j, -, rfl⟩ := List.mem_map.1 (List.mem_of_getElem? hi)
    simp [parseSeg]

/-! ### The filling -/

/-- Nothing has been fetched yet: the issue due is granule 0 of ENTRY, and its targets are to be primed (R223). -/
def fillStart (s : State) : State :=
  let q := s.seq
  s.setSeq { q with
    seg := q.entrySeg, off := 0, entry := 1, back := false, made := 0, wait := .none, markSeen := false, last := none,
    loops := [], calls := [], cycle := 0, side := [], stream := [],
    front := { Front.init with seg := q.entrySeg, entry := 1, stopped := false }, primeQueue := [],
    primed := [⟨1, false, (q.segAt q.entrySeg).tgts.map (fun x => ⟨x, false, []⟩)⟩], jump := none, reserve := none,
    replays := 0 }

/-- The three targets that the set has room for are primed (R188, R223). -/
def fillPrimed (s : State) : State := (List.range 3).foldl (fun s k => primeComplete s 1 k none) (fillStart s)

theorem loadingFill_eq : loadingFill s none = fetchMany [] none ((fillPrimed s).num K.START_FILL) (fillPrimed s) := rfl

theorem primes_fillPrimed : Primes 3 (fillStart s) (fillPrimed s) := by
  have h0 : Primes 0 (fillStart s) (fillStart s) := ⟨.refl .., fun _ => rfl, rfl, rfl, _, _, rfl, rfl, rfl, rfl, rfl, nofun⟩
  exact h0.next.next.next

/-- The targets of ENTRY are primed and the stream filled (R223). -/
theorem loadingFill_fills (hl : ((s.seq.segAt s.seq.entrySeg).tgts).length ≤ 3) :
    Frame fetchKeys fetchParts s (loadingFill s none) ∧ (∀ a, memByte (loadingFill s none).mem a = memByte s.mem a) ∧
    (loadingFill s none).seq.stream.length ≤ s.num K.START_FILL ∧
    ∃ p, p.owner = 1 ∧ p.targets.map (·.seg) = (s.seq.segAt s.seq.entrySeg).tgts ∧ (∀ x ∈ p.targets, x.ready = true) ∧
      (loadingFill s none).seq = { (fillStart s).seq with
        stream := (loadingFill s none).seq.stream, front := (loadingFill s none).seq.front,
        primeQueue := (loadingFill s none).seq.primeQueue, heads := (loadingFill s none).seq.heads,
        bodies := (loadingFill s none).seq.bodies, primed := [p] } := by
  have hp := primes_fillPrimed (s := s)
  have hstart : Frame fetchKeys fetchParts s (fillStart s) := frame_setSeq (.refl ..) _ (by decide)
  obtain ⟨p, q, hq, hset, howner, -, hsegs, hready⟩ := hp.set
  obtain ⟨l, hb⟩ := fetchMany_brings [] none ((fillPrimed s).num K.START_FILL) (fillPrimed s)
  rw [← loadingFill_eq] at hb
  have hfill : (fillPrimed s).num K.START_FILL = s.num K.START_FILL :=
    (hstart.trans hp.frame).num_eq (by decide) (by decide)
  have htgts : q.targets.map (·.seg) = (s.seq.segAt s.seq.entrySeg).tgts := by
    obtain rfl : _ = p := (List.cons.inj hq).1
    rw [hsegs, List.map_map]
    exact List.map_id _
  refine ⟨(hstart.trans hp.frame).trans hb.fetched.frame, fun a => (hb.fetched.byte a).trans (hp.byte a), ?_, q, howner, htgts,
    fun x hx => hready x ?_, ?_⟩
  · rw [hb.fetched.stream, hp.stream, ← hfill]
    exact hb.count
  · rwa [List.take_of_length_le]
    rw [← List.length_map (·.seg), htgts]
    exact hl
  · rw [hb.fetched.seq, hp.seq, hset]

/-! ### The image is loaded -/

/-- The sequencer holds the image that IMAGE_ADDR names, and stands at its first granule with its targets primed and at most
START_FILL granules waiting (R120–R123, R184, R223). -/
structure HoldsImage (s : State) (q : Seq) : Prop where
  loaded : q.loaded = true
  image : q.image = s.num K.IMAGE_ADDR
  segs : q.segs = parseSegs (imageTable s) (fieldAt (headerOf s) 8 4)
  fetchCh : q.fetchCh = fetchChannels s
  entrySeg : q.entrySeg = fieldAt (headerOf s) 12 2
  seg : q.seg = q.entrySeg
  off : q.off = 0
  loops : q.loops = []
  calls : q.calls = []
  jump : q.jump = none
  order : q.headOrder = headOrder q
  filled : q.stream.length ≤ s.num K.START_FILL
  primed : ∃ p, q.primed = [p] ∧ p.owner = 1 ∧ p.targets.map (·.seg) = (q.segAt q.entrySeg).tgts ∧
    ∀ x ∈ p.targets, x.ready = true

/-- The state in which the heads of an image that has been taken are loaded. -/
def headsLoaded (s : State) : State := loadingHeads (checkCistern (imageTaken s))

/-- What LOADING leaves once every check has passed (R223). -/
def imageLoaded (s : State) : State :=
  (loadingFill (headsLoaded s) none).setSeq { (loadingFill (headsLoaded s) none).seq with loaded := true }

theorem headsLoaded_reads : Frame fetchKeys fetchParts (checkCistern (imageTaken s)) (headsLoaded s) ∧
    (∀ a, memByte (headsLoaded s).mem a = memByte s.mem a) ∧
    (headsLoaded s).seq = { (imageTaken s).seq with
      headOrder := headOrder (imageTaken s).seq, evicted := [], reload := false, stream := (headsLoaded s).seq.stream,
      front := (headsLoaded s).seq.front, primeQueue := (headsLoaded s).seq.primeQueue,
      heads := (headsLoaded s).seq.heads, bodies := (headsLoaded s).seq.bodies } := by
  obtain ⟨hframe, hbyte, hseq⟩ := loadingHeads_reads (s := checkCistern (imageTaken s))
  rw [frame_checkCistern.seq (by simp)] at hseq
  refine ⟨hframe, fun a => (hbyte a).trans ?_, hseq⟩
  rw [(frame_checkCistern.mem (by simp)).2, mem_imageTaken]

/-- The load order of the heads is a matter of the segments and the jump table (R184). -/
theorem headOrder_congr {q r : Seq} (hs : q.segs = r.segs) (hv : q.jtValid = r.jtValid) (hj : q.jumpTable = r.jumpTable) :
    headOrder q = headOrder r := by
  unfold headOrder Seq.segAt
  rw [hs, hv, hj]

/-- The image that IMAGE_ADDR names is in use once the heads are loaded. -/
theorem headsLoaded_image : (headsLoaded s).seq.image = s.num K.IMAGE_ADDR ∧
    (headsLoaded s).seq.segs = parseSegs (imageTable s) (fieldAt (headerOf s) 8 4) ∧
    (headsLoaded s).seq.fetchCh = fetchChannels s ∧
    (headsLoaded s).seq.entrySeg = fieldAt (headerOf s) 12 2 ∧
    (headsLoaded s).seq.headOrder = headOrder (headsLoaded s).seq := by
  obtain ⟨-, -, hseq⟩ := headsLoaded_reads (s := s)
  have himg := seq_imageTaken (s := s)
  exact ⟨(congrArg Seq.image hseq).trans (congrArg Seq.image himg), (congrArg Seq.segs hseq).trans (congrArg Seq.segs himg),
    (congrArg Seq.fetchCh hseq).trans (congrArg Seq.fetchCh himg),
    (congrArg Seq.entrySeg hseq).trans (congrArg Seq.entrySeg himg),
    (congrArg Seq.headOrder hseq).trans (headOrder_congr (congrArg Seq.segs hseq).symm (congrArg Seq.jtValid hseq).symm
      (congrArg Seq.jumpTable hseq).symm)⟩

/-- Loading the image leaves the sequencer with it, no byte of memory changed (R223). -/
theorem imageLoaded_holds : Frame fetchKeys fetchParts (checkCistern (imageTaken s)) (imageLoaded s) ∧
    (∀ a, memByte (imageLoaded s).mem a = memByte s.mem a) ∧ HoldsImage s (imageLoaded s).seq := by
  obtain ⟨hframe, hbyte, -⟩ := headsLoaded_reads (s := s)
  obtain ⟨himage, hsegs, hch, hentry, horder⟩ := headsLoaded_image (s := s)
  have hstart : (headsLoaded s).num K.START_FILL = s.num K.START_FILL := by
    rw [hframe.num_eq (by decide) (by decide), frame_checkCistern.num_eq (by decide) (by simp),
      frame_imageTaken.num_eq (by decide) (by simp)]
  unfold imageLoaded
  generalize headsLoaded s = v at *
  obtain ⟨hfill, hfbyte, hlen, p, howner, htgts, hready, hfseq⟩ :=
    loadingFill_fills (s := v) (tgts_length_parseSegs hsegs v.seq.entrySeg)
  generalize loadingFill v none = w at *
  refine ⟨frame_setSeq (hframe.trans hfill) _ (by decide), fun a => (hfbyte a).trans (hbyte a), ?_⟩
  have hq {α : Type} (f : Seq → α) : f w.seq = f _ := congrArg f hfseq
  exact {
    loaded := rfl
    image := (hq Seq.image).trans himage
    segs := (hq Seq.segs).trans hsegs
    fetchCh := (hq Seq.fetchCh).trans hch
    entrySeg := (hq Seq.entrySeg).trans hentry
    seg := (hq Seq.seg).trans (hq Seq.entrySeg).symm
    off := hq Seq.off
    loops := hq Seq.loops
    calls := hq Seq.calls
    jump := hq Seq.jump
    order := (hq Seq.headOrder).trans (horder.trans (headOrder_congr (hq Seq.segs).symm (hq Seq.jtValid).symm
      (hq Seq.jumpTable).symm))
    filled := hlen.trans_eq hstart
    primed := ⟨p, hq Seq.primed, howner, htgts.trans (hq fun q => (q.segAt q.entrySeg).tgts).symm, hready⟩ }

/-! ### The checks of LOADING -/

/-- LOADING has nothing to wait for, and its steps are yet to be carried out. -/
structure LoadingDue (s : State) : Prop where
  state : s.num K.SEQ_STATE = 2
  loaded : s.seq.loaded = false
  held : loadingHeld s = false

/-- While it is held, LOADING does nothing (R393, R514, R648). -/
theorem loadingBegin_held (h : loadingHeld s = true) (ups : List Upset) : loadingBegin s ups = s :=
  if_pos (.inr (.inr h))

theorem loadingBegin_misaligned (h : LoadingDue s)
    (ha : s.num K.IMAGE_ADDR % 4096 ≠ 0 ∨ inRegion s.mem 0 (s.num K.IMAGE_ADDR) 256 = false) :
    loadingBegin s [] = refuseRun s 0x17 := by
  unfold loadingBegin
  simp [seqState, h.state, h.loaded, h.held, ha]

end

section
variable {s : State} (h : LoadingDue s) (ha : s.num K.IMAGE_ADDR % 4096 = 0)
  (hr : inRegion s.mem 0 (s.num K.IMAGE_ADDR) 256 = true)
include h ha hr

theorem loadingBegin_domains (hd : runDomainsOk s = false) : loadingBegin s [] = refuseRun s 0x18 := by
  simp [loadingBegin, seqState, h.state, h.loaded, h.held, ha, hr, hd]

variable (hd : runDomainsOk s = true) (hb : badBlock s.mem (s.num K.IMAGE_ADDR) 256 = none)
include hd hb

theorem loadingBegin_header (hh : headerOk (headerOf s) = false) :
    loadingBegin s [] = refuseRun s 0x10 := by
  simp [loadingBegin, seqState, h.state, h.loaded, h.held, ha, hr, hd, hb, hh]

variable (hh : headerOk (headerOf s) = true)
include hh

theorem loadingBegin_outside
    (hi : inRegion s.mem 0 (s.num K.IMAGE_ADDR) (fieldAt (headerOf s) 48 8) = false) :
    loadingBegin s [] = refuseRun s 0x17 := by
  simp [loadingBegin, seqState, h.state, h.loaded, h.held, ha, hr, hd, hb, hh, hi]

variable (hi : inRegion s.mem 0 (s.num K.IMAGE_ADDR) (fieldAt (headerOf s) 48 8) = true)
  (ht : badBlock s.mem (tableAddr s) (tableLen s) = none)
include hi ht

theorem loadingBegin_checked {c : Nat} (hc : imageCheck s (s.num K.IMAGE_ADDR) (headerOf s) (imageTable s) = some c) :
    loadingBegin s [] = refuseRun s c := by
  simp [loadingBegin, seqState, h.state, h.loaded, h.held, ha, hr, hd, hb, hh, hi, ht, hc]

theorem loadingBegin_loads (hc : imageCheck s (s.num K.IMAGE_ADDR) (headerOf s) (imageTable s) = none) :
    loadingBegin s [] = imageLoaded s := by
  unfold imageLoaded headsLoaded imageTaken
  simp [loadingBegin, seqState, h.state, h.loaded, h.held, ha, hr, hd, hb, hh, hi, ht, hc, cacheUpset]

end

/-! ### The commands of LOADING -/

section
variable {s : State}

/-- A run that is refused with a cause is over in IDLE (R224). -/
theorem loading_refused (hs : s.pwr.stopped = false) {c : Nat} (hf : loadingBegin s [] = refuseRun s c) :
    ∃ t, exec (.loadingBegin []) s = .next t ∧ t.num K.SEQ_STATE = 1 ∧ t.num K.END_CAUSE = c ∧
      t.flag K.ATTN_EVENTS 11 = true ∧ Frame [K.SEQ_STATE, K.END_CAUSE, K.ATTN_EVENTS] [] s t := by
  obtain ⟨t, ht, g⟩ := took_next (fun s => loadingBegin s []) hs
  rw [hf] at g
  have hn := (g [] []).num_all
  refine ⟨t, ht, ?_, ?_, ?_, ?_⟩
  · rw [hn]; simp [refuseRun, State.setNums]
  · rw [hn]; simp [refuseRun, State.setNums]
  · unfold State.flag
    rw [hn]; simp [refuseRun, putBit_get]
  · exact (frame_evBurst (frame_setNums (.refl ..) _ (by simp)) (by simp)).trans (g ..)

/-- The objects that loading an image may change. -/
theorem frame_imageLoaded : Frame (K.CAP_FLAGS :: tileKeys [K.WH_MIN] (List.range 12) ++ fetchKeys) (.cis :: fetchParts) s
    (imageLoaded s) := by
  obtain ⟨hframe, -, -⟩ := imageLoaded_holds (s := s)
  have htaken : Frame (K.CAP_FLAGS :: tileKeys [K.WH_MIN] (List.range 12) ++ fetchKeys) (.cis :: fetchParts) s
      (imageTaken s) := frame_imageTaken.mono (fun k hk => by
    rcases List.mem_cons.1 hk with rfl | hk
    · exact List.mem_append_right _ (by decide)
    · exact List.mem_append_left _ (List.mem_cons_of_mem _ hk)) (by decide)
  exact (htaken.trans (frame_checkCistern.mono (by simp) (by simp))).trans
    (hframe.mono (fun k hk => List.mem_append_right _ hk) fun p hp => List.mem_cons_of_mem _ hp)

/-- What loading notes of the cistern, and the levels of the wellheads (R214, R389). -/
theorem imageLoaded_notes : (imageLoaded s).cis = { s.cis with short := cisShort s } ∧
    (∀ i < 12, (imageLoaded s).num (atTile K.WH_MIN i) = 2032) ∧
    (cisShort s = true → (imageLoaded s).flag K.CAP_FLAGS 0 = true ∧ (imageLoaded s).flag K.CAP_FLAGS 3 = true) ∧
    (cisShort s = false → (imageLoaded s).num K.CAP_FLAGS = s.num K.CAP_FLAGS) := by
  obtain ⟨hframe, -, -⟩ := imageLoaded_holds (s := s)
  have hnum {k : Nat} (hk : k ∉ fetchKeys) : (imageLoaded s).num k = (checkCistern (imageTaken s)).num k :=
    hframe.num_eq hk (by decide)
  obtain ⟨hshort, hwide⟩ := flags_checkCistern (s := imageTaken s)
  rw [cisShort_imageTaken] at hshort hwide
  refine ⟨?_, fun i hi => ?_, fun h => ?_, fun h => ?_⟩
  · rw [hframe.cis (by decide), cis_checkCistern, cisShort_imageTaken, frame_imageTaken.cis (by simp)]
  · have hkeys : ∀ i < 12, atTile K.WH_MIN i ∉ fetchKeys ∧ atTile K.WH_MIN i ∉ [K.CAP_FLAGS] := by decide
    obtain ⟨hf, hc⟩ := hkeys i hi
    rw [hnum hf, frame_checkCistern.num_eq hc (by simp), whMin_imageTaken hi]
  · unfold State.flag at hshort ⊢
    rw [hnum (by decide)]
    exact hshort h
  · rw [hnum (by decide), hwide h, frame_imageTaken.num_eq (by decide) (by simp)]

theorem loadingComplete_armed (h2 : s.num K.SEQ_STATE = 2) (hl : s.seq.loaded = true) (hm : s.num K.START_MODE = 1) :
    loadingComplete s = (s.setNum K.SEQ_STATE 3).evBurst := by
  simp [loadingComplete, seqState, h2, hl, hm]

theorem loadingComplete_running (h2 : s.num K.SEQ_STATE = 2) (hl : s.seq.loaded = true) (hm : s.num K.START_MODE ≠ 1) :
    loadingComplete s = firstIssue s (now16 s) := by
  simp [loadingComplete, seqState, h2, hl, hm]

end

/-- Settles O34: each check that fails refuses the run, all of them passed load the image, and a loaded image is ARMED or makes
its first issue. -/
theorem loadingToRunning : Obligations.LoadingToRunning := by
  refine ⟨fun s hs h2 hl => ⟨fun hheld ups => ?_, fun hheld => ?_⟩, fun s hs h2 hl => ⟨fun hm => ?_, fun hm => ?_⟩⟩
  · obtain ⟨t, ht, g⟩ := took_next (fun s => loadingBegin s ups) hs
    rw [loadingBegin_held hheld] at g
    exact ⟨t, ht, g ..⟩
  · have h : LoadingDue s := ⟨h2, hl, hheld⟩
    refine ⟨fun ha => loading_refused hs (loadingBegin_misaligned h ha), fun ha hr =>
      ⟨fun hd => loading_refused hs (loadingBegin_domains h ha hr hd), fun hd hb =>
      ⟨fun hh => loading_refused hs (loadingBegin_header h ha hr hd hb hh),
        fun hh hi => loading_refused hs (loadingBegin_outside h ha hr hd hb hh hi), fun hh hi ht =>
      ⟨fun c _ hc => loading_refused hs (loadingBegin_checked h ha hr hd hb hh hi ht hc), fun hc => ?_⟩⟩⟩⟩
    obtain ⟨t, hnext, g⟩ := took_next (fun s => loadingBegin s []) hs
    rw [loadingBegin_loads h ha hr hd hb hh hi ht hc] at g
    obtain ⟨-, hbyte, hq⟩ := imageLoaded_holds (s := s)
    obtain ⟨hcis, hwh, hshort, hwide⟩ := imageLoaded_notes (s := s)
    have hn := (g [] []).num_all
    rw [← (g [] []).seq_all] at hq
    refine ⟨t, hnext, ?_, hq.loaded, hq.image, hq.segs, hq.fetchCh, hq.entrySeg, hq.seg, hq.off, hq.loops,
      hq.calls, hq.jump, hq.order, hq.filled, hq.primed, ?_, ?_, ?_, ?_, fun x => ?_, ?_⟩
    · rw [hn, frame_imageLoaded.num_eq (by decide) (by decide), h2]
    · exact ((g [] []).cis (by simp)).trans hcis
    · exact fun i hi => (hn _).trans (hwh i hi)
    · unfold State.flag at hshort ⊢
      rwa [hn]
    · rwa [hn]
    · exact (((g [] []).mem (by simp)).2 x).trans (hbyte x)
    · exact frame_imageLoaded.trans (g ..)
  · obtain ⟨t, ht, g⟩ := took_next loadingComplete hs
    rw [loadingComplete_armed h2 hl hm] at g
    have hn := (g [] []).num_all
    refine ⟨t, ht, ?_, ?_, (frame_evBurst (frame_setNum (.refl ..) _ (.inl (by simp))) (by simp)).trans (g ..)⟩
    · rw [hn]; simp
    · unfold State.flag
      rw [hn]; simp [putBit_get]
  · obtain ⟨t, ht, g⟩ := took_next loadingComplete hs
    rw [loadingComplete_running h2 hl hm] at g
    exact ⟨t, ht, burstBegun_firstIssue.seen g⟩

end Sys2Proof.Machine

/-! PROOFS. TRAP_CMD (O40): SNAP and USER raise their causes, and SNAP outside a burst is served at once (R278, R279). -/

namespace Sys2Proof.Machine

/-! ### What a command of TRAP_CMD leaves -/

section
variable {s : State} {q : Asker} {fr : Bool} {off n : Nat} {d : Bytes}

theorem row_trapCmd : rowOf 0x2300 0x0E = ⟨0x0E, 0x0E, .u8, .cmd, 0, false, 3, 0, .any, 0⟩ := by decide

theorem commit_trapCmd : commit s q fr 0x2300 0x0E off d = trapCmd s (leNat d &&& 3) := by
  simp [commit, row_trapCmd, Ty.isBlob, commitUnit, commitModule, objKey, baseIndex, K.LINE_CFG0]

theorem commit_snap : commit s q fr 0x2300 0x0E 0 (leBytes 1 1) = snapCmd s := commit_trapCmd

theorem commit_user : commit s q fr 0x2300 0x0E 0 (leBytes 1 2) = userCmd s := commit_trapCmd

/-- A cause is raised: its pending bit and its bit of TRAP_CMD are set (R279). -/
def causeRaised (s : State) (pending cmd : Nat) : State := (s.setFlag K.TRAP_PENDING pending true).setFlag K.TRAP_CMD cmd true

theorem snapCmd_running (h : s.num K.SEQ_STATE = 4) : snapCmd s = causeRaised s 2 0 := if_pos h

theorem snapCmd_at_once (h : s.num K.SEQ_STATE ≠ 4) :
    snapCmd s = ((snapNow s).setFlag K.TRAP_PENDING 2 false).setFlag K.TRAP_CMD 0 false := if_neg h

theorem userCmd_taken (h : s.flag K.TRAP_PENDING 3 = false) :
    userCmd s = causeRaised (s.setUc { s.uc with userVec := s.num K.UTRAP_VEC }) 3 1 := by
  simp [userCmd, h, causeRaised]

theorem userCmd_pending (h : s.flag K.TRAP_PENDING 3 = true) : userCmd s = s := if_pos h

theorem frame_causeRaised {ks : List Nat} {ps : List Part} {a : State} (h : Frame ks ps a s) (p c : Nat)
    (hp : K.TRAP_PENDING ∈ ks) (hc : K.TRAP_CMD ∈ ks) : Frame ks ps a (causeRaised s p c) :=
  frame_setFlag (frame_setFlag h _ _ (.inl hp)) _ _ (.inl hc)

theorem num_causeRaised (p c j : Nat) : (causeRaised s p c).num j =
    if j = K.TRAP_CMD then putBit (s.num K.TRAP_CMD) c true
    else if j = K.TRAP_PENDING then putBit (s.num K.TRAP_PENDING) p true else s.num j := by
  simp [causeRaised]

theorem frame_snapCmd_at_once (h : s.num K.SEQ_STATE ≠ 4) :
    Frame [K.SNAPSHOT, K.TRAP_PENDING, K.TRAP_CMD] [] s (snapCmd s) := by
  rw [snapCmd_at_once h]
  exact frame_setFlag (frame_setFlag (frame_setBlob (.refl ..) _ (by simp)) _ _ (.inl (by simp))) _ _ (.inl (by simp))

end

/-- A write to TRAP_CMD that is accepted leaves what its command does (R279). -/
theorem took_trapCmd {s u : State} {v : Via} {n : Nat} {ks : List Nat} {ps : List Part} (h : AcceptedKey s v K.TRAP_CMD n)
    (hu : commit s (askerVia s v) (viaFrame v) 0x2300 0x0E 0 (leBytes 1 n) = u) (hf : Frame ks ps s u) (hp : Part.pwr ∉ ps) :
    ∃ t, took s (fun s => writeKey s v K.TRAP_CMD n) = .next t ∧ Frame [] answered (sigTouched u) t ∧
      Frame (ks ++ [K.SIG_CURRENT]) (ps ++ answered) s t :=
  took_commit (i := 0x2300) (sub := 0x0E) (d := leBytes 1 n) rfl h (by decide) (by rw [row_trapCmd]; rfl) hu hf hp

/-- Settles O40: the commit of TRAP_CMD is SNAP's or USER's effect, each by the state of the burst or of its cause. -/
theorem trapCommands : Obligations.TrapCommands := by
  refine fun s v => ⟨fun h => ⟨fun hrun => ?_, fun hrun => ?_⟩, fun h => ⟨fun hfree => ?_, fun hpend => ?_⟩⟩
  · obtain ⟨t, ht, g, hf⟩ := took_trapCmd h (commit_snap.trans (snapCmd_running hrun))
      (frame_causeRaised (ks := [K.TRAP_PENDING, K.TRAP_CMD]) (.refl _ [] _) 2 0 (by simp) (by simp)) (by simp)
    exact ⟨t, ht, by simp [State.flag, num_touched g, num_causeRaised, putBit_get],
      by simp [State.flag, num_touched g, num_causeRaised, putBit_get], hf⟩
  · obtain ⟨t, ht, g, hf⟩ := took_trapCmd h commit_snap (frame_snapCmd_at_once hrun) (by simp)
    rw [snapCmd_at_once hrun] at g
    refine ⟨t, ht, ?_, by simp [State.flag, num_touched g, putBit_get, snapNow],
      by simp [State.flag, num_touched g, putBit_get, snapNow], hf⟩
    rw [g.blob _ (by simp)]
    simp [sigTouched, snapNow]
  · obtain ⟨t, ht, g, hf⟩ := took_trapCmd h (commit_user.trans (userCmd_taken hfree))
      (frame_causeRaised (ks := [K.TRAP_PENDING, K.TRAP_CMD]) (frame_setUc (.refl _ [.uc] s) _ (by simp)) 3 1 (by simp)
        (by simp)) (by simp)
    exact ⟨t, ht, by simp [State.flag, num_touched g, num_causeRaised, putBit_get],
      by simp [State.flag, num_touched g, num_causeRaised, putBit_get], g.uc (by simp [answered]), hf⟩
  · obtain ⟨t, ht, -, hf⟩ := took_trapCmd h (commit_user.trans (userCmd_pending hpend)) (.refl [] [] s) (by simp)
    exact ⟨t, ht, hf⟩

end Sys2Proof.Machine

/-! PROOFS. The control store's own commands (O41): the scrubber, the customer region and patch installs. -/

namespace Sys2Proof.Machine

/-! ### The scrubber -/

section
variable {s : State}

theorem scrubRead_off (h : domState s 3 = 0) (n : Nat) : scrubRead s n = s := if_pos h

/-- The scrubber has gone on to its next word (R243). -/
def scrubbed (s : State) : State := s.setUc { s.uc with scrub := (s.uc.scrub + 1) % 0x2000 }

theorem scrubRead_clean (h : domState s 3 ≠ 0) (hb : s.uc.bad = []) : scrubRead s 0 = scrubbed s := by
  simp [scrubRead, h, hb, scrubbed]

theorem scrubRead_corrected (h : domState s 3 ≠ 0) : scrubRead s 1 = (scrubbed s).inc K.UC_CORRECTED := by
  simp [scrubRead, h, scrubbed]

theorem scrubRead_uncorrectable (h : domState s 3 ≠ 0) (hb : s.uc.bad = []) : scrubRead s 2 =
    (ucBad ((scrubbed s).setUc { (scrubbed s).uc with bad := [s.uc.scrub] }) s.uc.scrub).setFlag K.READY 3 false := by
  simp [scrubRead, h, hb, scrubbed, clearReady]

theorem frame_ucBad {ks : List Nat} {ps : List Part} {a : State} (h : Frame ks ps a s) (w : Nat) (hu : K.UC_UNCORRECTED ∈ ks)
    (hb : K.UC_BAD_ADDR ∈ ks) (hp : Part.flt ∈ ps ∨ Part.arrived ∈ ps) : Frame ks ps a (ucBad s w) :=
  frame_raise (frame_setNum (frame_inc h (.inl hu)) _ (.inl hb)) _ hp

theorem frame_scrubbed (ks : List Nat) : Frame ks [.uc] s (scrubbed s) := frame_setUc (.refl ..) _ (by simp)

theorem frame_scrubRead_uncorrectable : Frame [K.UC_UNCORRECTED, K.UC_BAD_ADDR, K.READY] [.uc, .arrived] s
    ((ucBad ((scrubbed s).setUc { (scrubbed s).uc with bad := [s.uc.scrub] }) s.uc.scrub).setFlag K.READY 3 false) := by
  have h := (frame_scrubbed (s := s) [K.UC_UNCORRECTED, K.UC_BAD_ADDR, K.READY]).mono (ps' := [.uc, .arrived]) (fun _ p => p)
    (by simp)
  exact frame_setFlag (frame_ucBad (frame_setUc h _ (by simp)) _ (by simp) (by simp) (by simp)) _ _ (.inl (by simp))

end

/-! ### The words of the control store -/

section
variable {s t : State}

theorem microWord_congr (h : t.uc.store = s.uc.store) (a : Nat) : microWord t a = microWord s a := by
  unfold microWord; rw [h]

theorem microWord_customer {a : Nat} (h : customerAddr a = true) : microWord s a = (aFind s.uc.store a).getD 0 := by
  simp only [customerAddr, Bool.and_eq_true, decide_eq_true_eq] at h
  exact if_neg (by omega)

end

/-- The customer region is empty: its words are 0, and all others stand (R265). -/
def customerErased (s : State) : State := s.setUc { s.uc with store := s.uc.store.filter fun p => !customerAddr p.1 }

section
variable {s : State}

theorem aFind_customerErased (a : Nat) :
    aFind (customerErased s).uc.store a = if customerAddr a then none else aFind s.uc.store a := by
  refine (aFind_filter (fun a => !customerAddr a) a).trans ?_
  cases customerAddr a <;> rfl

theorem microWord_customerErased (a : Nat) :
    microWord (customerErased s) a = if customerAddr a then 0 else microWord s a := by
  cases hc : customerAddr a with
  | true => rw [microWord_customer hc, aFind_customerErased, hc]; rfl
  | false => unfold microWord; rw [aFind_customerErased, hc]; rfl

/-- Without an uncorrectable word found the clearing does no more than that (R247, R265). -/
theorem custClear_clean (h : s.uc.bad = []) : custClear s = (customerErased s).setNum K.UENTRY_MAP 0 := by
  have hu : { (customerErased s).uc with bad := [] } = (customerErased s).uc := by rw [← h]; rfl
  calc custClear s = ((customerErased s).setNum K.UENTRY_MAP 0).setUc { (customerErased s).uc with bad := [] } := by
        simp [custClear, ucRewritten, h, customerErased]
    _ = (customerErased s).setNum K.UENTRY_MAP 0 := by rw [hu]; rfl

theorem frame_custClear (h : s.uc.bad = []) : Frame [K.UENTRY_MAP] [.uc] s (custClear s) := by
  rw [custClear_clean h]
  exact frame_setNum (frame_setUc (.refl ..) _ (by simp)) _ (.inl (by simp))

theorem microWord_custClear (h : s.uc.bad = []) (a : Nat) :
    microWord (custClear s) a = if customerAddr a then 0 else microWord s a := by
  rw [custClear_clean h, ← microWord_customerErased]
  rfl

/-! ### A customer image -/

theorem aFind_aDel_absent {m : Assoc Nat} {b : Nat} (hb : aFind m b = none) (j : Nat) : aFind (aDel m b) j = aFind m j := by
  induction m with
  | nil => rfl
  | cons p r ih =>
    obtain ⟨k, x⟩ := p
    have hne : b ≠ k := by rintro rfl; simp [aFind] at hb
    simp only [aFind, if_neg hne] at hb
    simp [aDel, aFind, hne, ih hb]

/-- A word written at an address that held none is found there, unless it is 0, and the others are found as before. -/
theorem aFind_wordStored {m : Assoc Nat} {b : Nat} (hb : aFind m b = none) (w j : Nat) :
    aFind (if w = 0 then aDel m b else aPut m b w) j =
      if j = b then (if w = 0 then none else some w) else aFind m j := by
  by_cases hw : w = 0
  · rw [if_pos hw, if_pos hw, aFind_aDel_absent hb]
    split <;> simp_all
  · rw [if_neg hw, if_neg hw, aFind_aPut]

/-- Words written where none stood read as written, and every other address as before. -/
theorem aFind_storeWords (ws : List Nat) {m : Assoc Nat} {b : Nat}
    (hm : ∀ x, b ≤ x → x < b + ws.length → aFind m x = none) (a : Nat) :
    (aFind (storeWords m b ws) a).getD 0 =
      if b ≤ a ∧ a < b + ws.length then (ws[a - b]?).getD 0 else (aFind m a).getD 0 := by
  induction ws generalizing m b with
  | nil => rw [if_neg (by simp)]; rfl
  | cons w r ih =>
    have hstored := aFind_wordStored (hm b (Nat.le_refl b) (by simp)) w
    rw [storeWords, ih fun x h1 h2 => ?_]
    · rw [hstored]
      rcases Nat.lt_trichotomy a b with hlt | rfl | hgt
      · rw [if_neg (by omega), if_neg (by omega), if_neg (by omega)]
      · have hout : ¬(a + 1 ≤ a ∧ a < a + 1 + r.length) := by omega
        rw [if_neg hout]
        by_cases hw : w = 0 <;> simp [hw]
      · obtain ⟨i, rfl⟩ : ∃ i, a = b + 1 + i := ⟨a - (b + 1), by omega⟩
        rw [if_neg (c := b + 1 + i = b) (by omega), show b + 1 + i - (b + 1) = i by omega,
          show b + 1 + i - b = i + 1 by omega]
        have hin : (b + 1 ≤ b + 1 + i ∧ b + 1 + i < b + 1 + r.length) ↔
            (b ≤ b + 1 + i ∧ b + 1 + i < b + (w :: r).length) := by simp; omega
        simp only [hin, List.getElem?_cons_succ]
    · rw [hstored, if_neg (by omega)]
      exact hm x (by omega) (by simp; omega)

/-- An image that is loaded has passed every check (R264). -/
theorem custCheck_of_loaded (h : (custLoad s).1 = true) : (custCheck s (s.blob K.CUST_IMAGE)).1 = 0 := by
  by_contra hne
  simp [custLoad, hne] at h

/-- The base and the number of words of an image that passes its checks lie in the customer region (R264). -/
theorem range_of_custCheck {d : Bytes} (h : (custCheck s d).1 = 0) :
    0x1800 ≤ fieldAt d 8 2 ∧ fieldAt d 8 2 + (imageWords d).length ≤ 0x2000 := by
  have hr : custRangeOk d = true := by
    by_contra hr
    rw [Bool.not_eq_true] at hr
    simp only [custCheck, hr, Bool.not_false, if_true] at h
    split at h <;> exact absurd h (by simp)
  simp only [custRangeOk, Bool.and_eq_true, decide_eq_true_eq] at hr
  obtain ⟨⟨⟨⟨-, -⟩, hbase⟩, hend⟩, -⟩ := hr
  exact ⟨hbase, by simpa [imageWords] using hend⟩

/-- What an image that passes leaves: CUST_STATUS 0, the customer region its words and UENTRY_MAP its entries (R264). -/
def imageStored (s : State) : State :=
  let d := s.blob K.CUST_IMAGE
  let c := custClear (s.setNum K.CUST_STATUS 0)
  (c.setUc { c.uc with store := storeWords c.uc.store (fieldAt d 8 2) (imageWords d) }).setNum K.UENTRY_MAP (fieldAt d 12 4)

theorem custLoad_passed (h : (custCheck s (s.blob K.CUST_IMAGE)).1 = 0) : (custLoad s).2 = imageStored s := by
  simp [custLoad, imageStored, h]

theorem frame_imageStored (h : s.uc.bad = []) : Frame [K.UENTRY_MAP, K.CUST_STATUS] [.uc] s (imageStored s) := by
  have h1 : Frame [K.UENTRY_MAP, K.CUST_STATUS] [.uc] s (s.setNum K.CUST_STATUS 0) := frame_setNum (.refl ..) _ (.inl (by simp))
  have h2 := h1.trans ((frame_custClear (s := s.setNum K.CUST_STATUS 0) h).mono (by simp) fun _ p => p)
  exact frame_setNum (frame_setUc h2 _ (by simp)) _ (.inl (by simp))

theorem num_custStatus_imageStored (h : s.uc.bad = []) : (imageStored s).num K.CUST_STATUS = 0 := by
  simp [imageStored, custClear_clean (s := s.setNum K.CUST_STATUS 0) h, customerErased]

theorem num_uentry_imageStored : (imageStored s).num K.UENTRY_MAP = fieldAt (s.blob K.CUST_IMAGE) 12 4 := by
  simp [imageStored]

theorem microWord_imageStored (h : s.uc.bad = []) (hc : (custCheck s (s.blob K.CUST_IMAGE)).1 = 0) (a : Nat) :
    microWord (imageStored s) a =
      if !customerAddr a then microWord s a
      else if a < fieldAt (s.blob K.CUST_IMAGE) 8 2 then 0
      else ((imageWords (s.blob K.CUST_IMAGE))[a - fieldAt (s.blob K.CUST_IMAGE) 8 2]?).getD 0 := by
  obtain ⟨hbase, hend⟩ := range_of_custCheck hc
  have hstore : (imageStored s).uc.store = storeWords (customerErased s).uc.store (fieldAt (s.blob K.CUST_IMAGE) 8 2)
      (imageWords (s.blob K.CUST_IMAGE)) := by
    simp [imageStored, custClear_clean (s := s.setNum K.CUST_STATUS 0) h, customerErased]
  have hfree : ∀ x, fieldAt (s.blob K.CUST_IMAGE) 8 2 ≤ x →
      x < fieldAt (s.blob K.CUST_IMAGE) 8 2 + (imageWords (s.blob K.CUST_IMAGE)).length →
      aFind (customerErased s).uc.store x = none := fun x h1 h2 => by
    rw [aFind_customerErased, if_pos]
    simp only [customerAddr, Bool.and_eq_true, decide_eq_true_eq]
    omega
  have hfind := aFind_storeWords _ hfree a
  rw [← hstore, aFind_customerErased] at hfind
  generalize fieldAt (s.blob K.CUST_IMAGE) 8 2 = b at *
  generalize imageWords (s.blob K.CUST_IMAGE) = ws at *
  cases hcust : customerAddr a with
  | false =>
    have hout : ¬(b ≤ a ∧ a < b + ws.length) := fun ⟨h1, h2⟩ => by
      simp [customerAddr] at hcust
      omega
    unfold microWord
    rw [hfind, if_neg hout, hcust]
    rfl
  | true =>
    rw [microWord_customer hcust, hfind, hcust]
    simp only [Bool.not_true, Bool.false_eq_true, if_false, if_true, Option.getD_none]
    rcases Nat.lt_or_ge a b with hlt | hge
    · rw [if_neg (by omega), if_pos hlt]
    · rw [if_neg (c := a < b) (by omega)]
      split
      · rfl
      · rw [List.getElem?_eq_none (by omega)]
        rfl

end

/-! ### Writes of UC_CMD and UC_ENFORCE -/

section
variable {s : State} {q : Asker} {fr : Bool} {off n : Nat} {d : Bytes}

theorem row_ucCmd : rowOf 0x2300 5 = ⟨5, 5, .u8, .cmdLck, 0, false, 7, 0, .any, 0⟩ := by decide

theorem row_ucEnforce : rowOf 0x2300 0x0C = ⟨0x0C, 0x0C, .bool, .keyLck, 1, true, 0xff, 0, .any, 0⟩ := by decide

theorem commit_ucCmd : commit s q fr 0x2300 5 off d = ucCmd s (leNat d &&& 7) := by
  simp [commit, row_ucCmd, Ty.isBlob, commitUnit, commitModule, objKey, baseIndex, K.LINE_CFG0]

theorem commit_patchInstall : commit s q fr 0x2300 5 0 (leBytes 1 1) = patchInstall s := commit_ucCmd

theorem commit_custLoad : commit s q fr 0x2300 5 0 (leBytes 1 2) = (custLoad s).2 := commit_ucCmd

theorem commit_custClear : commit s q fr 0x2300 5 0 (leBytes 1 4) = custClear s := commit_ucCmd

theorem commit_ucEnforce (hn : n < 2) : commit s q fr 0x2300 0x0C off (leBytes 1 n) = ucEnforce s n := by
  have hv : leNat (leBytes 1 n) &&& 0xff = n := by
    rw [leNat_leBytes, Nat.pow_one, Nat.mod_eq_of_lt (by omega)]
    exact and_mask (k := 8) (by omega)
  simp [commit, row_ucEnforce, Ty.isBlob, commitUnit, commitModule, objKey, baseIndex, K.LINE_CFG0, hv]

/-- A CUST_LOAD that is accepted has an image that passes every check (R264). -/
theorem custCheck_of_accepted {v : Via} (h : AcceptedKey s v K.UC_CMD 2) : (custCheck s (s.blob K.CUST_IMAGE)).1 = 0 := by
  obtain ⟨-, -, hl⟩ := h
  have hl : lateCode (keySpent s 0x2300 5) (viaFrame v) 0x2300 5 0 (leBytes 1 2) = 0 := hl
  have hc := moduleCode_of_lateCode hl (by decide)
  rw [keySpent_of_notKey (by rw [row_ucCmd]; rfl)] at hc
  have hcode : ucCode s 2 = 0 := hc
  refine custCheck_of_loaded ?_
  by_contra hno
  rw [Bool.not_eq_true] at hno
  have hb : bit 2 0 = false ∧ bit 2 1 = true := by decide
  simp only [ucCode, hb.1, hb.2, hno, Bool.false_and, Bool.true_or, Bool.true_and, Bool.false_eq_true, if_false, if_true] at hcode
  split at hcode <;> exact absurd hcode (by simp)

end

/-- A write to UC_CMD that is accepted leaves what its command does (R264, R265, R286). -/
theorem took_ucCmd {s u : State} {v : Via} {n : Nat} {ks : List Nat} {ps : List Part} (h : AcceptedKey s v K.UC_CMD n)
    (hu : commit s (askerVia s v) (viaFrame v) 0x2300 5 0 (leBytes 1 n) = u) (hf : Frame ks ps s u) (hp : Part.pwr ∉ ps) :
    ∃ t, took s (fun s => writeKey s v K.UC_CMD n) = .next t ∧ Frame [] answered (sigTouched u) t ∧
      Frame (ks ++ [K.SIG_CURRENT]) (ps ++ answered) s t :=
  took_commit (i := 0x2300) (sub := 5) (d := leBytes 1 n) rfl h (by decide) (by rw [row_ucCmd]; rfl) hu hf hp

/-- A write of UC_ENFORCE that is accepted consumes the pending unlock and leaves what the write does (R108, R266). -/
theorem took_ucEnforce {s : State} {v : Via} {n : Nat} (hn : n < 2) (h : AcceptedKey s v K.UC_ENFORCE n)
    (hf : Frame [K.UC_ENFORCE, K.UENTRY_MAP] [.uc] (s.setNum K.UNLOCK_STATE 0) (ucEnforce (s.setNum K.UNLOCK_STATE 0) n)) :
    ∃ t, took s (fun s => writeKey s v K.UC_ENFORCE n) = .next t ∧
      Frame [] answered (sigTouched (ucEnforce (s.setNum K.UNLOCK_STATE 0) n)) t ∧
      Frame [K.UC_ENFORCE, K.UENTRY_MAP, K.SIG_CURRENT, K.UNLOCK_STATE] (.uc :: answered) s t := by
  have hspent : keySpent s 0x2300 0x0C = s.setNum K.UNLOCK_STATE 0 := by simp [keySpent, row_ucEnforce, Acc.isKey]
  have hcommit : commit (keySpent s 0x2300 0x0C) (askerVia s v) (viaFrame v) 0x2300 0x0C 0 (leBytes 1 n) =
      ucEnforce (s.setNum K.UNLOCK_STATE 0) n := by rw [hspent, commit_ucEnforce hn]
  have hwide := (frame_setNum_one (s := s) K.UNLOCK_STATE 0).mono
    (ks' := [K.UC_ENFORCE, K.UENTRY_MAP, K.SIG_CURRENT, K.UNLOCK_STATE]) (ps' := .uc :: answered) (by simp) (by simp)
  have hsoft : (ucEnforce (s.setNum K.UNLOCK_STATE 0) n).pwr.softReset = false := by
    rw [hf.pwr (by simp)]
    exact softReset_of_reaches (s := s) h.1
  obtain ⟨t, ht, g⟩ := took_writeKey h (fun e => absurd e.1 (by decide)) (hcommit ▸ hsoft)
  have g : Frame [] answered (sigTouched (commit (keySpent s 0x2300 0x0C) (askerVia s v) (viaFrame v) 0x2300 0x0C 0
    (leBytes 1 n))) t := g
  rw [hcommit] at g
  exact ⟨t, ht, g, (frame_sigTouched (hwide.trans (hf.mono (by simp) (by simp))) (by simp) (by simp [answered])).trans
    (g.mono (by simp) fun _ => List.mem_cons_of_mem _)⟩

/-! ### The end of a patch install -/

/-- What the end of a PATCH_INSTALL makes of the patch store (R286). -/
theorem patchInstallDone_eq {s : State} {d : Bytes} (h : s.trust.patchJob = some d) (bad : Nat) :
    patchInstallDone s bad = ((s.setTrust { (if (patchCheck s d).1 = 0 then patchPut s bad d else s.trust) with
      patchJob := none }).setNum K.INSTALL_STATUS
        (if (patchCheck s d).1 = 0 ∧ slotBad bad (patchTarget s bad) = true then 8 else (patchCheck s d).1)).setFlag
        K.UC_CMD 0 false := by
  simp only [patchInstallDone, h]

/-! ### What UC_ENFORCE and PATCH_INSTALL do -/

section
variable {s : State}

theorem ucEnforce_clears (h0 : s.num K.UC_ENFORCE = 0) : ucEnforce s 1 = (custClear s).setNum K.UC_ENFORCE 1 := by
  simp [ucEnforce, h0]

theorem ucEnforce_stores {n : Nat} (h : ¬(s.num K.UC_ENFORCE = 0 ∧ n = 1)) : ucEnforce s n = s.setNum K.UC_ENFORCE n := by
  rw [ucEnforce, if_neg fun e => h e.symm]

theorem frame_ucEnforce (hb : s.uc.bad = []) (n : Nat) : Frame [K.UC_ENFORCE, K.UENTRY_MAP] [.uc] s (ucEnforce s n) :=
  frame_setNum (((frame_custClear hb).mono (by simp) fun _ p => p).ite (.refl ..)) _ (.inl (by simp))

theorem frame_patchInstall : Frame [K.UC_CMD] [.trust] s (patchInstall s) :=
  frame_setTrust (frame_setFlag (.refl ..) _ _ (.inl (by simp))) _ (by simp)

end

/-- Settles O41: the scrubber's step by its outcome, the end of an install, and the commits of UC_CMD and UC_ENFORCE. -/
theorem controlStoreCommands : Obligations.ControlStoreCommands := by
  refine ⟨fun s hs => ⟨fun n hoff => ?_, fun hon hb => ⟨?_, ?_, ?_⟩, fun bad d hjob => ?_⟩,
    fun s v hb => ⟨fun h => ?_, fun h => ?_, fun h => ?_, fun n hn h => ?_⟩⟩
  · obtain ⟨t, ht, g⟩ := took_next (fun s => scrubRead s n) hs
    rw [scrubRead_off hoff] at g
    exact ⟨t, ht, g [] []⟩
  · obtain ⟨t, ht, g⟩ := took_next (fun s => scrubRead s 0) hs
    rw [scrubRead_clean hon hb] at g
    exact ⟨t, ht, (g [] []).uc (by simp), (frame_scrubbed _).trans (g ..)⟩
  · obtain ⟨t, ht, g⟩ := took_next (fun s => scrubRead s 1) hs
    rw [scrubRead_corrected hon] at g
    exact ⟨t, ht, by simp [(g [] []).num_all, scrubbed], (g [] []).uc (by simp),
      (frame_inc (frame_scrubbed _) (.inl (by simp))).trans (g ..)⟩
  · obtain ⟨t, ht, g⟩ := took_next (fun s => scrubRead s 2) hs
    rw [scrubRead_uncorrectable hon hb] at g
    have hn := (g [] []).num_all
    refine ⟨t, ht, by simp [hn, ucBad, scrubbed], by simp [hn, ucBad], by simp [State.flag, hn, putBit_get], ?_, ?_,
      frame_scrubRead_uncorrectable.trans (g ..)⟩
    · rw [(g [] []).flt (by simp)]; rfl
    · rw [(g [] []).uc (by simp)]; rfl
  · obtain ⟨t, ht, g⟩ := took_next (fun s => patchInstallDone s bad) hs
    rw [patchInstallDone_eq hjob] at g
    have hn := (g [] []).num_all
    refine ⟨t, ht, by simp [State.flag, hn, putBit_get], by simp [hn], ?_,
      (frame_setFlag (frame_setNum (frame_setTrust (.refl ..) _ (by simp)) _ (.inl (by simp))) _ _ (.inl (by simp))).trans (g ..)⟩
    rw [(g [] []).trust (by simp)]
    unfold patchPut
    by_cases hc : (patchCheck s d).1 = 0 <;> cases patchTarget s bad <;> simp [hc]
  · obtain ⟨t, ht, g, hf⟩ := took_ucCmd h commit_custClear (frame_custClear hb) (by simp)
    refine ⟨t, ht, by simp [num_touched g, custClear_clean hb], fun a => ?_, hf⟩
    rw [← microWord_custClear hb]
    exact microWord_congr (congrArg Micro.store (g.uc (by simp [answered]))) a
  · have hc := custCheck_of_accepted h
    obtain ⟨t, ht, g, hf⟩ := took_ucCmd h (commit_custLoad.trans (custLoad_passed hc)) (frame_imageStored hb) (by simp)
    refine ⟨t, ht, ?_, ?_, fun a => ?_, hf⟩
    · rw [num_touched g, if_neg (by decide), num_custStatus_imageStored hb]
    · rw [num_touched g, if_neg (by decide), num_uentry_imageStored]
    · dsimp only
      rw [← microWord_imageStored hb hc]
      exact microWord_congr (congrArg Micro.store (g.uc (by simp [answered]))) a
  · obtain ⟨t, ht, g, hf⟩ := took_ucCmd h commit_patchInstall frame_patchInstall (by simp)
    exact ⟨t, ht, by simp [State.flag, num_touched g, patchInstall, putBit_get], g.trust (by simp [answered]), hf⟩
  · have hspent : (s.setNum K.UNLOCK_STATE 0).uc.bad = [] := hb
    obtain ⟨t, ht, g, hf⟩ := took_ucEnforce hn h (frame_ucEnforce hspent n)
    have huc : t.uc = (ucEnforce (s.setNum K.UNLOCK_STATE 0) n).uc := g.uc (by simp [answered])
    refine ⟨t, ht, by simp [num_touched g, ucEnforce], fun h0 h1 => ?_, fun hno => ?_, hf⟩
    · subst h1
      rw [ucEnforce_clears (by simpa using h0)] at g huc
      refine ⟨by simp [num_touched g, custClear_clean hspent], fun a => ?_⟩
      exact (microWord_congr (congrArg Micro.store huc) a).trans (microWord_custClear hspent a)
    · rw [ucEnforce_stores (by simpa using hno)] at g huc
      exact ⟨by simp [num_touched g], huc⟩

end Sys2Proof.Machine

/-! PROOFS. Microwords of the stream context (O32): what a word does beside its granule's play (R248–R253), where control goes
after it (R252), and the ways to it: a user opcode, a shadow granule and an overwritten dispatch entry (R256–R260). -/

namespace Sys2Proof.Machine

/-! ### What a word does before its granule plays -/

/-- The objects a word changes itself, beside those of tiles and channels (R248). -/
def actKeys : List Nat :=
  [K.R_POINT, K.R_STATE, K.R_STRAY, K.RING_CAUSE, K.DROPS, K.SEQ_FLAGS] ++ chKeys [K.TS_BUF, K.HIST] (List.range 96)

/-- From `a` to `s` a word has acted, in the cycle of granule `g`: the sequencer goes on as it did, but for what pins change. -/
structure Acts (g : Granule) (a s : State) : Prop where
  frame : Frame actKeys wordParts a s
  seq : (s.seq.withPins a.seq).played g = a.seq.played g
  operand : s.uc.operand = a.uc.operand

theorem Acts.refl (g : Granule) (a : State) : Acts g a a := ⟨.refl .., rfl, rfl⟩

section
variable {g : Granule} {a s t : State} (h : Acts g a s)
include h

theorem Acts.plays (p : Plays s t) : Acts g a t where
  frame := h.frame.trans (p.frame.mono (by simp) (by decide))
  seq := (congrArg (fun q => (Seq.withPins q a.seq).played g) p.seq).trans h.seq
  operand := (congrArg Micro.operand p.uc).trans h.operand

theorem Acts.last (x : Option Granule) : Acts g a (s.setSeq { s.seq with last := x }) :=
  ⟨frame_setSeq h.frame _ (by decide), h.seq, h.operand⟩

/-- An action that leaves the sequencer and the micro-registers. -/
theorem Acts.then {ks : List Nat} {ps : List Part} (f : Frame ks ps s t) (hk : ∀ k ∈ ks, k ∈ actKeys)
    (hp : ∀ p ∈ ps, p ∈ wordParts) (hq : Part.seq ∉ ps) (hu : Part.uc ∉ ps) : Acts g a t where
  frame := h.frame.trans (f.mono hk hp)
  seq := by rw [f.seq hq]; exact h.seq
  operand := by rw [f.uc hu]; exact h.operand

theorem Acts.ite {c : Prop} [Decidable c] (k : Acts g a t) : Acts g a (if c then s else t) := by
  split <;> assumption

theorem Acts.setUc (u : Micro) (hu : u.operand = s.uc.operand) : Acts g a (s.setUc u) :=
  ⟨frame_setUc h.frame _ (by decide), h.seq, hu.trans h.operand⟩

theorem acts_tileCmdStep (w : Nat) : Acts g a (tileCmdStep s w) := by
  unfold tileCmdStep
  refine (h.then (frame_tsetAction ..) (by simp) (by decide) (by decide) (by decide)).ite (Acts.ite ?_ (Acts.ite ?_ h))
  · exact h.then frame_markAction (fun _ => List.mem_append_right _) (by decide) (by decide) (by decide)
  · exact h.then frame_eyeAction (by simp [rasterKeys, actKeys]) (by decide) (by decide) (by decide)

theorem acts_ringOpStep (w : Nat) : Acts g a (ringOpStep s w) :=
  (h.then (frame_ringMark ..) (by simp [actKeys]) (by decide) (by decide) (by decide)).ite h

theorem acts_flagOpStep (w : Nat) : Acts g a (flagOpStep s w) := by
  have hset (i : Nat) : Acts g a (s.setFlag K.SEQ_FLAGS i true) :=
    h.then (frame_setFlag (ks := [K.SEQ_FLAGS]) (ps := []) (.refl ..) _ _ (.inl (by simp))) (by simp [actKeys]) (by simp) (by simp)
      (by simp)
  exact (hset 0).ite ((hset 1).ite h)

theorem acts_setUreg (j v : Nat) : Acts g a (setUreg s j v) := h.setUc _ rfl

theorem acts_fresh (n : Nat) : Acts g a (s.fresh n).2 :=
  h.then (frame_fresh (ks := []) (ps := [.drawn]) (.refl ..) _ (by simp)) (by simp) (by decide) (by decide) (by decide)

theorem acts_linkStep (pc w : Nat) : Acts g a (linkStep s pc w) := (acts_setUreg h _ _).ite h

theorem acts_microConsume (w : Nat) (trap : Bool) : Acts g a (microConsume s w trap) :=
  (h.plays (plays_consume (.refl s) _)).ite h

theorem acts_aluStep (w : Nat) : Acts g a (aluStep s w) := by
  unfold aluStep
  dsimp only
  refine h.ite (Acts.setUc ?_ _ rfl)
  have hres : Acts g a (if field w 30 27 = 9 then s else setUreg s (field w 42 39)
      (alu (field w 30 27) (operandA s w) (operandB s w)).1) := h.ite (acts_setUreg h _ _)
  split
  · exact acts_fresh hres 1
  · exact hres

end

/-! ### A word that stays in its routine or ends it -/

/-- What the word has done before its granule plays. -/
@[irreducible] def wordActed (s : State) (g : Granule) (pc : Nat) : State :=
  let w := microWord s pc
  let b := (cycleBegin s).1
  let s := microConsume (b.setSeq { b.seq with last := some g }) w false
  linkStep (aluStep (flagOpStep (ringOpStep (tileCmdStep s w) w) w) w) pc w

/-- The granule has played after what the word has done. -/
@[irreducible] def wordPlayed (s : State) (io : Io) (g : Granule) (pc : Nat) : State :=
  cyclePlay (wordActed s g pc) (cycleBegin s).2 g io.pins

/-- What the word leaves in the stream context (R258, R273, R280). -/
def wordContext (s : State) (m : Micro) (g : Granule) (pc : Nat) : Micro :=
  let w := microWord s pc
  let b := (cycleBegin s).1
  let next := nextUpc (b.setSeq { b.seq with last := some g }) pc w (microCond b w false (atLast b))
  { m with
    routine := if bit w 24 then none else some (if customerAddr pc then next else next % 0x2000), lastUpc := pc,
    inRoutine := !bit w 24, deferred := deferNext m.deferred w }

/-- The word has run and its granule has played; control has still to go on. -/
def wordRun (s : State) (io : Io) (g : Granule) (pc : Nat) : State :=
  (wordPlayed s io g pc).setUc (wordContext s (wordPlayed s io g pc).uc g pc)

theorem acts_wordActed (s : State) (g : Granule) (pc : Nat) : Acts g s (wordActed s g pc) := by
  unfold wordActed
  have hbegin : Acts g s (cycleBegin s).1 := (Acts.refl g s).plays (plays_cycleBegin (.refl s))
  exact acts_linkStep (acts_aluStep (acts_flagOpStep (acts_ringOpStep (acts_tileCmdStep (acts_microConsume (hbegin.last _) _ _)
    _) _) _) _) _ _

/-- A word that neither ends the burst nor branches, and either ends its routine or names a next word in the customer region,
runs, and control goes on, or with ISSUE SAME the granule issues again (R252, R261). -/
theorem streamWord_run {s : State} {io : Io} {g : Granule} {pc u : Nat} (hw : microWord s pc = u) (hflag : field u 111 108 ≠ 3)
    (hiss : field u 23 22 ≠ 2) (hin : bit u 24 = true ∨ field u 15 13 = 0 ∧ customerAddr (pc + 1) = true) :
    streamWord s io g pc = if field u 23 22 = 1 then goAgain (wordRun s io g pc) else goNext (wordRun s io g pc) := by
  subst hw
  have herr : ∀ target cond, targetError s (microWord s pc) target cond = none := fun _ _ => by simp [targetError, hiss]
  have hstay : (!bit (microWord s pc) 24 && customerAddr pc && !customerAddr (nextUpc
      ((cycleBegin s).1.setSeq { (cycleBegin s).1.seq with last := some g }) pc (microWord s pc)
      (microCond (cycleBegin s).1 (microWord s pc) false (atLast (cycleBegin s).1)))) = false := by
    rcases hin with h | ⟨h, hc⟩
    · simp [h]
    · simp [nextUpc, h, hc]
  unfold wordRun wordContext wordPlayed wordActed
  simp only [streamWord, herr, hflag, hiss, hstay, streamNext, if_false, false_and, Bool.false_eq_true,
    beq_false_of_ne hiss, Bool.false_and, Bool.not_false, Bool.true_and]

/-! ### What such a word leaves -/

/-- The word due in `s` has run in `u` with its granule `g`, where control has still to go on. -/
structure WordRuns (g : Granule) (s u : State) : Prop where
  frame : Frame (K.UC_CORRECTED :: playKeys ++ actKeys) wordParts s u
  seq : u.seq.withPins s.seq = s.seq.played g
  issues : u.num K.ISSUES = (s.num K.ISSUES + 1) % 2 ^ 64

section
variable {g : Granule} {s u : State} (r : WordRuns g s u)
include r

theorem WordRuns.num_landing {k : Nat} (hk : k ∈ landKeys) : u.num k = s.num k := by
  refine r.frame.num k ?_ fun _ => not_played ?_ <;> revert k <;> decide

theorem WordRuns.jump : u.seq.jump = s.seq.jump.map fun j => { j with d := j.d + 1 } := congrArg Seq.jump r.seq

/-- What of the sequencer neither pins nor the count of an issue change stands. -/
theorem WordRuns.kept {α : Type} (f : Seq → α) (hw : ∀ q r : Seq, f (q.withPins r) = f q)
    (hg : ∀ q : Seq, f (q.played g) = f q) : f u.seq = f s.seq :=
  (hw ..).symm.trans ((congrArg f r.seq).trans (hg _))

theorem WordRuns.seg : u.seq.seg = s.seq.seg := r.kept Seq.seg (fun _ _ => rfl) fun _ => rfl
theorem WordRuns.segs : u.seq.segs = s.seq.segs := r.kept Seq.segs (fun _ _ => rfl) fun _ => rfl

/-- A request that has counted 7 issues lands at the end of this one (R173, R174). -/
theorem WordRuns.course : Course 7 s u where
  seg := r.seg
  off := r.kept Seq.off (fun _ _ => rfl) fun _ => rfl
  entry := r.kept Seq.entry (fun _ _ => rfl) fun _ => rfl
  segs := r.segs
  table := r.kept Seq.jumpTable (fun _ _ => rfl) fun _ => rfl
  jump := by rw [r.jump]; cases s.seq.jump <;> rfl
  lands := by
    simp only [Machine.lands, landsAt, r.jump, Seq.segAt, r.seg, r.segs]
    cases s.seq.jump <;> simp
  landed := r.num_landing (by simp [landKeys])
  restarts := r.num_landing (by simp [landKeys])

end

/-- The frame of a word's own changes, the count of its issue and the control after it lies within the word's. -/
theorem frame_word {s u t : State} {ps : List Part} (h : Frame (K.UC_CORRECTED :: playKeys ++ actKeys) wordParts s u)
    (c : Frame landKeys ps u t) (hp : ∀ p ∈ ps, p ∈ wordParts) : Frame wordKeys wordParts s t := by
  have hissue : ∀ k ∈ issueKeys, k ∈ wordKeys := fun k hk => List.mem_append_right _ (List.mem_append_right _ hk)
  have hplay : ∀ k ∈ K.UC_CORRECTED :: playKeys, k ∈ issueKeys := by decide
  have hland : ∀ k ∈ landKeys, k ∈ issueKeys := by decide
  have hact : ∀ k ∈ actKeys, k ∈ wordKeys := fun k hk => by
    simp only [wordKeys, markKeys, ← List.append_assoc]
    exact List.mem_append_left _ hk
  exact (h.mono (fun k hk => (List.mem_append.1 hk).elim (hissue k ∘ hplay k) (hact k)) fun _ p => p).trans
    (c.mono (fun k hk => hissue k (hland k hk)) hp)

/-- What the statement says of a granule whose word has run. -/
theorem WordRuns.goes_on {g : Granule} {s u t : State} (r : WordRuns g s u) (ht : Frame [] [] (goNext u) t) :
    t.num K.ISSUES = (s.num K.ISSUES + 1) % 2 ^ 64 ∧ t.seq.last = some g ∧ Frame wordKeys wordParts s t ∧ GoesOn 7 s t := by
  have c : Steers landKeys u (goNext u) := steers_goNext (.refl ..) (by simp [landKeys]) (by simp [landKeys])
  have hloops : u.seq.loops = s.seq.loops := r.kept Seq.loops (fun _ _ => rfl) fun _ => rfl
  have hgo := r.course.goesOnWith_goNext (r.kept Seq.calls (fun _ _ => rfl) fun _ => rfl)
  rw [hloops] at hgo
  refine ⟨?_, ?_, frame_word r.frame (c.frame.trans (ht.mono (by simp) (by simp))) (by decide), hgo.seen ht⟩
  · rw [ht.num_all, c.frame.num _ (by decide) fun _ => not_played (by decide), r.issues]
  · rw [ht.seq_all, c.last]
    exact congrArg Seq.last r.seq

theorem WordRuns.again {g : Granule} {s u t : State} (r : WordRuns g s u) (hw : s.seq.wait = .none)
    (ht : Frame [] [] (goAgain u) t) :
    t.num K.ISSUES = (s.num K.ISSUES + 1) % 2 ^ 64 ∧ t.seq.last = some g ∧ Frame wordKeys wordParts s t ∧ IssuesAgain s t := by
  have hagain : Frame landKeys [.seq] u (goAgain u) := frame_setSeq (.refl ..) _ (by simp)
  have hmade : u.seq.made = s.seq.made := r.kept Seq.made (fun _ _ => rfl) fun _ => rfl
  have hwait : u.seq.wait = s.seq.wait := r.kept Seq.wait (fun _ _ => rfl) fun _ => rfl
  refine ⟨?_, ?_, frame_word r.frame (hagain.trans (ht.mono (by simp) (by simp))) (by decide), ?_⟩
  · rw [ht.num_all, ← r.issues]; rfl
  · rw [ht.seq_all]; exact congrArg Seq.last r.seq
  · unfold IssuesAgain
    rw [ht.seq_all]
    simp [goAgain, r.course.seg, r.course.off, r.course.entry, hmade, hwait, hw]

/-! ### A word runs -/

/-- What the reading of a word leaves: the read noted, and of the micro-registers the operand and the frame's notes set. -/
structure WordRead (o : Nat) (s a : State) : Prop where
  frame : Frame [K.UC_CORRECTED] [.uc] s a
  words : ∀ pc, microWord a pc = microWord s pc
  operand : a.uc.operand = o

theorem granulePlays_wordPlayed (s : State) (io : Io) (g : Granule) (pc : Nat) :
    GranulePlays g (wordActed s g pc) (wordPlayed s io g pc) := by
  unfold wordPlayed
  exact granulePlays_cyclePlay (.refl _) ..

theorem wordPlayed_runs {s a : State} {o : Nat} (h : WordRead o s a) (io : Io) (g : Granule) (pc : Nat) :
    WordRuns g s (wordPlayed a io g pc) := by
  have hact := acts_wordActed a g pc
  have hplay := granulePlays_wordPlayed a io g pc
  have hkeep {k : Nat} (hk : k ≠ K.UC_CORRECTED) (ha : k ∉ actKeys) (hl : k < 0x300000) :
      (wordActed a g pc).num k = s.num k :=
    (hact.frame.num k ha fun _ => not_played hl).trans (h.frame.num k (by simpa using hk) fun _ => not_played hl)
  have hseq : (wordPlayed a io g pc).seq.withPins a.seq = a.seq.played g :=
    (congrArg (Seq.withPins · a.seq) hplay.seq).trans hact.seq
  refine ⟨?_, h.frame.seq (by simp) ▸ hseq, hplay.issues.trans ?_⟩
  · refine (h.frame.mono (by simp) (by decide)).trans ((hact.frame.mono (fun _ => List.mem_append_right _) fun _ p => p).trans
      (hplay.frame.mono (fun _ hk => ?_) (by decide)))
    exact List.mem_append_left _ (List.mem_cons_of_mem _ hk)
  · rw [hkeep (by decide) (by decide) (by decide)]

theorem WordRuns.setUc {g : Granule} {s u : State} (r : WordRuns g s u) (m : Micro) : WordRuns g s (u.setUc m) :=
  ⟨frame_setUc r.frame _ (by decide), r.seq, r.issues⟩

theorem operand_wordRun {s a : State} {o : Nat} (h : WordRead o s a) (io : Io) (g : Granule) (pc : Nat) :
    (wordRun a io g pc).uc.operand = o := by
  have huc : (wordPlayed a io g pc).uc = (wordActed a g pc).uc := (granulePlays_wordPlayed a io g pc).frame.uc (by decide)
  calc (wordRun a io g pc).uc.operand = (wordPlayed a io g pc).uc.operand := rfl
    _ = (wordActed a g pc).uc.operand := by rw [huc]
    _ = a.uc.operand := (acts_wordActed a g pc).operand
    _ = o := h.operand

/-- The granule `g` has issued and run a word without ending the burst or branching. -/
def WordIssued (u : Nat) (g : Granule) (s t : State) : Prop :=
  t.num K.ISSUES = (s.num K.ISSUES + 1) % 2 ^ 64 ∧ t.seq.last = some g ∧ Frame wordKeys wordParts s t ∧
  (field u 23 22 ≠ 1 → GoesOn 7 s t) ∧ (field u 23 22 = 1 → IssuesAgain s t)

theorem WordRuns.issued {g : Granule} {s v t : State} {n : Nat} (r : WordRuns g s v) (hwait : s.seq.wait = .none)
    (ht : Frame [] [] (if field n 23 22 = 1 then goAgain v else goNext v) t) : t.uc = v.uc ∧ WordIssued n g s t := by
  by_cases h1 : field n 23 22 = 1
  · rw [if_pos h1] at ht
    obtain ⟨hi, hl, hf, hg⟩ := r.again hwait ht
    exact ⟨ht.uc (by simp), hi, hl, hf, absurd h1, fun _ => hg⟩
  · rw [if_neg h1] at ht
    obtain ⟨hi, hl, hf, hg⟩ := r.goes_on ht
    have hsteer : Steers landKeys v (goNext v) := steers_goNext (.refl ..) (by simp [landKeys]) (by simp [landKeys])
    exact ⟨(ht.uc (by simp)).trans (hsteer.frame.uc (by simp)), hi, hl, hf, fun _ => hg, fun e => absurd e h1⟩

/-- A word that stays in its routine or ends it runs in the cycle of its granule. -/
theorem streamWord_issues {s a t : State} {io : Io} {g : Granule} {o pc u : Nat} (h : WordRead o s a)
    (hwait : s.seq.wait = .none) (hw : microWord s pc = u) (hflag : field u 111 108 ≠ 3) (hiss : field u 23 22 ≠ 2)
    (hin : bit u 24 = true ∨ field u 15 13 = 0 ∧ customerAddr (pc + 1) = true)
    (ht : Frame [] [] (streamWord a io g pc) t) :
    t.uc = (wordRun a io g pc).uc ∧ t.uc.operand = o ∧ WordIssued u g s t := by
  rw [streamWord_run ((h.words pc).trans hw) hflag hiss hin] at ht
  have r : WordRuns g s (wordRun a io g pc) := (wordPlayed_runs h io g pc).setUc _
  obtain ⟨huc, hi⟩ := r.issued hwait ht
  exact ⟨huc, by rw [huc, operand_wordRun h], hi⟩

section
variable {s a t : State} {io : Io} {g : Granule} {o pc u : Nat} (h : WordRead o s a) (hwait : s.seq.wait = .none)
  (hw : microWord s pc = u) (hflag : field u 111 108 ≠ 3) (hiss : field u 23 22 ≠ 2)
  (ht : Frame [] [] (streamWord a io g pc) t)
include h hwait hw hflag hiss ht

/-- A word with END set leaves no routine in progress (R258). -/
theorem streamWord_ends (hend : bit u 24 = true) : t.uc.routine = none ∧ t.uc.operand = o ∧ WordIssued u g s t := by
  obtain ⟨huc, ho, hi⟩ := streamWord_issues h hwait hw hflag hiss (.inl hend) ht
  refine ⟨?_, ho, hi⟩
  rw [huc]
  simp [wordRun, wordContext, h.words, hw, hend]

/-- A word of a sequential step without END leaves the next micro-address, in the customer region (R258, R261). -/
theorem streamWord_steps (hend : bit u 24 = false) (hop : field u 15 13 = 0) (hlo : 0x1800 ≤ pc) (hhi : pc + 1 ≤ 0x1FFF) :
    t.uc.routine = some (pc + 1) ∧ t.uc.operand = o ∧ WordIssued u g s t := by
  have hpc : customerAddr pc = true := by simp [customerAddr]; omega
  have hnext : customerAddr (pc + 1) = true := by simp [customerAddr]; omega
  obtain ⟨huc, ho, hi⟩ := streamWord_issues h hwait hw hflag hiss (.inr ⟨hop, hnext⟩) ht
  refine ⟨?_, ho, hi⟩
  rw [huc]
  simp [wordRun, wordContext, h.words, hw, hend, hpc, nextUpc, hop]

end

/-! ### The ways to a word -/

theorem uc_ucRead (s : State) (n : Nat) : (ucRead s n).uc = s.uc := by unfold ucRead; split <;> rfl

theorem frame_ucRead (s : State) (n : Nat) : Frame [K.UC_CORRECTED] [.uc] s (ucRead s n) :=
  (frame_inc (.refl ..) (.inl (by simp))).ite (.refl ..)

/-- A shadow granule reads the routine's next word (R259). -/
theorem wordRead_shadow (s : State) (n : Nat) : WordRead s.uc.operand s (ucRead s n) :=
  ⟨frame_ucRead s n, fun pc => microWord_congr (by rw [uc_ucRead]) pc, by rw [uc_ucRead]⟩

/-- An overwritten dispatch entry passes its instruction as OPERAND (R256). -/
theorem wordRead_patched (s : State) (n w : Nat) :
    WordRead (w >>> 8) s ((ucRead s n).setUc { (ucRead s n).uc with operand := w >>> 8 }) :=
  ⟨frame_setUc (frame_ucRead s n) _ (by simp), fun pc => microWord_congr (congrArg Micro.store (uc_ucRead s n)) pc, rfl⟩

/-- A user opcode passes its instruction as OPERAND (R257). -/
theorem wordRead_user (s : State) (io : Io) (w : Nat) :
    WordRead (w >>> 8) s ((prepared s io w).setUc { (prepared s io w).uc with operand := w >>> 8 }) :=
  ⟨frame_setUc (frame_prepared s io w) _ (by simp),
    fun pc => microWord_congr (congrArg Micro.store (uc_ucRead s io.uc)) pc, rfl⟩

/-- An opcode whose dispatch entry a patch has overwritten runs the word there, whatever its own row does (R256, R257). -/
theorem issueRow_patched {s : State} {io : Io} {w : Nat} {g : Granule} (h : GranuleIssues s io w g) {cls : Nat → Bool}
    (hc : cls w = true) (hd : (aFind s.uc.dispatch (w % 256)).isSome = true) (body : State → Nat → Granule → State) :
    issueRow s io cls body = streamWord ((ucRead s io.uc).setUc { (ucRead s io.uc).uc with operand := w >>> 8 }) io g
      (dispatchEntry s (w % 256)) := by
  obtain ⟨-, hrun, hwait, hroutine, hdefer, hword, hgran, hprog, hread⟩ := h
  unfold issueRow
  simp [hrun, hwait, hroutine, hdefer, hword, hc, hprog, hgran, hread, uc_ucRead, hd]

/-- At the last granule of a segment the routine is cut (R260). -/
theorem shadowGranule_cut {s : State} {io : Io} {pc : Nat} (hrun : running s = true) (hwait : s.seq.wait = .none)
    (hdefer : deferDue s = false) (hroutine : s.uc.routine = some pc) (hlast : atLast s = true) :
    shadowGranule s io = (s.inc K.UR_CUT).setUc { s.uc with routine := none, deferred := none } := by
  simp [shadowGranule, hrun, hwait, hdefer, hroutine, hlast]

/-- A shadow granule that is there with its word runs it (R259). -/
theorem shadowGranule_runs {s : State} {io : Io} {pc : Nat} {g : Granule} (hrun : running s = true) (hwait : s.seq.wait = .none)
    (hdefer : deferDue s = false) (hroutine : s.uc.routine = some pc) (hlast : atLast s = false) (hg : dueGranule s = some g)
    (hread : io.uc ≠ 2) : shadowGranule s io = streamWord (ucRead s io.uc) io g pc := by
  simp [shadowGranule, hrun, hwait, hdefer, hroutine, hlast, hg, hread]

/-- The command `c` is a row of the instructions whose class the word `w` meets (R143, R144). -/
def IsRow (s : State) (io : Io) (w : Nat) (c : Instr) : Prop :=
  ∃ (cls : State → Nat → Bool) (body : State → Nat → Granule → State), cls s w = true ∧
    exec c s = took s fun s => issueRow s io (cls s) body

section
variable {s : State} {io : Io} {w : Nat}

theorem isRow_of {c : Instr} (cls : State → Nat → Bool) {body : State → Nat → Granule → State}
    (he : exec c s = took s fun s => issueRow s io (cls s) body) (hc : cls s w = true) : IsRow s io w c := ⟨cls, body, hc, he⟩

theorem IsRow.ite {p : Prop} [Decidable p] {c d : Instr} (h : p → IsRow s io w c) (k : ¬p → IsRow s io w d) :
    IsRow s io w (if p then c else d) := by
  split
  · exact h ‹_›
  · exact k ‹_›

/-- A row of one opcode. -/
theorem isRow_op (k : Nat) {c : Instr} {body : State → Nat → Granule → State}
    (he : exec c s = took s fun s => issueRow s io (opIs k) body) (h : w % 256 = k) : IsRow s io w c :=
  isRow_of (fun _ => opIs k) he (by simp [opIs, h])

/-- An EYE whose action is none of the three is taken as VEC (R143). -/
theorem isRow_eye (hv : vecClass w ≠ true) (h : w % 256 = 0x0E) : IsRow s io w
    (if field w 9 8 = 0 then .eyeStart io else if field w 9 8 = 1 then .eyeAdvance io else .eyeStop io) := by
  have hstop : field w 9 8 ≠ 0 → field w 9 8 ≠ 1 → field w 9 8 = 2 := fun h0 h1 => by
    have h3 : field w 9 8 ≠ 3 := by simpa [vecClass, h] using hv
    have h4 : field w 9 8 < 4 := Nat.mod_lt _ (by decide)
    omega
  refine IsRow.ite (fun h0 => ?_) fun h0 => IsRow.ite (fun h1 => ?_) fun h1 => ?_
  · exact isRow_of (fun _ w => opIs 0x0E w && field w 9 8 == 0) rfl (by simp [opIs, h, h0])
  · exact isRow_of (fun _ w => opIs 0x0E w && field w 9 8 == 1) rfl (by simp [opIs, h, h1])
  · exact isRow_of (fun _ w => opIs 0x0E w && field w 9 8 == 2) rfl (by simp [opIs, h, hstop h0 h1])

/-- An opcode that has no row of its own, and is not taken as VEC, is a user opcode (R143, R167). -/
theorem isRow_user (hv : vecClass w ≠ true) (h : ∀ k ∈ List.range 16, k ≠ 0 → w % 256 ≠ k) : IsRow s io w (.userOpcode io) := by
  refine isRow_of (fun _ w => decide (0xE0 ≤ w % 256)) rfl (decide_eq_true ?_)
  simp only [ne_eq, vecClass, Bool.or_eq_true, Bool.and_eq_true, decide_eq_true_eq, beq_iff_eq, not_or, not_and] at hv
  obtain ⟨⟨h0, hlow⟩, -⟩ := hv
  by_contra hlt
  exact h (w % 256) (List.mem_range.2 (by omega)) h0 rfl

/-- Each instruction's command is a row whose class its word meets. -/
theorem isRow_issueCmd (hhold : w % 256 = 9 → holdOver s = false) : IsRow s io w (issueCmd io w) := by
  unfold issueCmd
  refine IsRow.ite (isRow_of (fun _ => vecClass) rfl) fun hv => ?_
  refine IsRow.ite (isRow_op 1 rfl) fun h1 => IsRow.ite (isRow_op 2 rfl) fun h2 => IsRow.ite (isRow_op 3 rfl) fun h3 => ?_
  refine IsRow.ite (isRow_op 4 rfl) fun h4 => IsRow.ite (isRow_op 5 rfl) fun h5 => IsRow.ite (isRow_op 6 rfl) fun h6 => ?_
  refine IsRow.ite (isRow_op 7 rfl) fun h7 => IsRow.ite (isRow_op 8 rfl) fun h8 => IsRow.ite (fun h => ?_) fun h9 => ?_
  · exact isRow_of (fun s w => opIs 9 w && !holdOver s) rfl (by simp [opIs, h, hhold h])
  refine IsRow.ite (isRow_op 0x0A rfl) fun hA => IsRow.ite (isRow_op 0x0B rfl) fun hB => IsRow.ite (isRow_op 0x0C rfl) fun hC => ?_
  refine IsRow.ite (isRow_op 0x0D rfl) fun hD => IsRow.ite (isRow_eye hv) fun hE => IsRow.ite (isRow_op 0x0F rfl) fun hF => ?_
  exact isRow_user hv (by simp [List.range, List.range.loop, *])

end

/-- Settles O32: each way to a word reads it and passes its operand, and the word's run and the control after it are the same
for all of them. -/
theorem userOpcodesAndShadowGranules : Obligations.UserOpcodesAndShadowGranules := by
  intro s io u hflag hiss Runs
  refine ⟨fun w g h huser => ?_, fun w g h hhold hd hw hend => ?_, fun pc hs hrun hwait hdefer hroutine =>
    ⟨fun hlast => ?_, fun g hlast hg hread hw => ?_⟩⟩
  · intro pc hw
    obtain ⟨t, ht, hf⟩ := exec_row (c := .userOpcode io) (cls := fun w => decide (0xE0 ≤ w % 256)) rfl h (by simpa using huser)
    have hop : w % 256 < 256 := Nat.mod_lt _ (by decide)
    have hread := wordRead_user s io w
    refine ⟨fun hend => ⟨t, ht, streamWord_ends hread h.wait hw hflag hiss hf hend⟩, fun hend hseq => ⟨t, ht, ?_⟩⟩
    exact streamWord_steps hread h.wait hw hflag hiss hf hend hseq (by omega) (by omega)
  · obtain ⟨cls, body, hc, he⟩ := isRow_issueCmd (io := io) hhold
    obtain ⟨t, ht, hf⟩ := took_next (fun s => issueRow s io (cls s) body) h.1
    rw [issueRow_patched h hc hd] at hf
    have hwait : s.seq.wait = .none := h.2.2.1
    exact ⟨t, he.trans ht, streamWord_ends (wordRead_patched s io.uc w) hwait hw hflag hiss (hf [] []) hend⟩
  · obtain ⟨t, ht, hf⟩ := took_next (fun s => shadowGranule s io) hs
    rw [shadowGranule_cut hrun hwait hdefer hroutine hlast] at hf
    refine ⟨t, ht, by simp [(hf [] []).num_all], (hf [] []).uc (by simp), ?_⟩
    exact (frame_setUc (frame_inc (.refl ..) (.inl (by simp))) _ (by simp)).trans (hf ..)
  · obtain ⟨t, ht, hf⟩ := took_next (fun s => shadowGranule s io) hs
    rw [shadowGranule_runs hrun hwait hdefer hroutine hlast hg hread] at hf
    have hword := wordRead_shadow s io.uc
    refine ⟨fun hend => ⟨t, ht, ?_⟩, fun hend hseq hlo hhi => ⟨t, ht, ?_⟩⟩
    · obtain ⟨hr, -, hi⟩ := streamWord_ends hword hwait hw hflag hiss (hf [] []) hend
      exact ⟨hr, hi⟩
    · obtain ⟨hr, -, hi⟩ := streamWord_steps hword hwait hw hflag hiss (hf [] []) hend hseq hlo hhi
      exact ⟨hr, hi⟩

end Sys2Proof.Machine

/-! PROOFS. Micro-traps (O39): a halt latched during a SNAP handler ends the burst once the handler has run (R277), and as in O31
that end fences the units that wait, whatever they are. -/

namespace Sys2Proof.Machine

/-! ### A cycle of the SNAP handler -/

/-- The hold granule has been replayed and the cycle counted, before the trap context makes its step (R271, R272). -/
@[irreducible] def replayed (s : State) (io : Io) (g : Granule) : State :=
  let k := s.seq.replays + 1
  let p := playAll (capOpen (cycleBegin s).1 g k) ⟨s.seq.cycle, s.num K.ISSUES - 1, k, g, true, true⟩ io.pins
  (capPrune (p.setSeq { p.seq with cycle := p.seq.cycle + 1, replays := k })).add 64 K.TRAP_CYCLES 1

theorem trapCycle_eq (s : State) (io : Io) (g : Granule) (t : Trap) :
    trapCycle s io g t = trapHalt (countersCycle (trapStep (replayed s io g) io.uc t) false (cycleBegin s).2) := by
  unfold trapCycle replayed
  rfl

/-- The objects that the cycles of a SNAP handler change (R271, R278). -/
def snapKeys : List Nat := [K.TRAP_CYCLES, K.SNAPSHOT, K.TRAP_CMD]

/-- The parts that they change. -/
def snapParts : List Part := .uc :: playParts

theorem frame_replayed (s : State) (io : Io) (g : Granule) : Frame snapKeys playParts s (replayed s io g) := by
  have hopen := plays_capOpen (plays_cycleBegin (.refl s)) g (s.seq.replays + 1)
  have hplay := plays_playAll hopen ⟨s.seq.cycle, s.num K.ISSUES - 1, s.seq.replays + 1, g, true, true⟩ io.pins
  have hframe : Frame snapKeys playParts s _ := hplay.frame.mono (by simp) fun _ p => p
  unfold replayed
  exact frame_add (frame_setCis (frame_setSeq hframe _ (by decide)) _ (by decide)) _ _ (.inl (by decide))

theorem last_replayed (s : State) (io : Io) (g : Granule) : (replayed s io g).seq.last = s.seq.last := by
  have hopen := plays_capOpen (plays_cycleBegin (.refl s)) g (s.seq.replays + 1)
  have hplay := plays_playAll hopen ⟨s.seq.cycle, s.num K.ISSUES - 1, s.seq.replays + 1, g, true, true⟩ io.pins
  unfold replayed
  exact (congrArg Seq.last hplay.seq :)

/-- The SNAP handler runs, and a halt has been latched with a cause (R269, R277). -/
structure SnapRuns (c : Nat) (t : Trap) (s : State) : Prop where
  trap : s.uc.trap = some t
  gone : t.gone = 2
  todo : t.todo = [2]
  overran : t.overran = false
  last : s.seq.last.isSome = true
  halt : s.uc.haltAfter = some c

theorem frame_countersCycle {ks : List Nat} {ps : List Part} {a s : State} (h : Frame ks ps a s) (b : Bool) (up : List Nat)
    (hp : Part.seq ∈ ps) : Frame ks ps a (countersCycle s b up) := frame_setSeq h _ hp

section
variable {c : Nat} {t : Trap} {s : State} (h : SnapRuns c t s)
include h

/-- The trap context makes one step of the handler (R271). -/
theorem SnapRuns.trapStep_eq (p : State) : trapStep p 0 t = vendorWord p t 2 := by
  simp [trapStep, h.gone, h.todo, trapRead, ucRead]

omit h in
theorem handlerLen_replayed (io : Io) (g : Granule) : handlerLen (replayed s io g) 2 = handlerLen s 2 := by
  unfold handlerLen
  rw [(frame_replayed s io g).num K.TRAPS (by decide) fun _ => not_played (by decide)]

/-- A word that is not the handler's last one leaves the handler at the next (R271). -/
theorem SnapRuns.next (hr : t.ran + 1 < handlerLen s 2) (g : Granule) :
    SnapRuns c { t with ran := t.ran + 1 } (trapCycle s ⟨[], 0⟩ g t) ∧ Frame snapKeys snapParts s (trapCycle s ⟨[], 0⟩ g t) := by
  have hf := frame_replayed s ⟨[], 0⟩ g
  have hlast := last_replayed s ⟨[], 0⟩ g
  have huc : (replayed s ⟨[], 0⟩ g).uc = s.uc := hf.uc (by decide)
  rw [trapCycle_eq, h.trapStep_eq, vendorWord, handlerLen_replayed, if_pos hr]
  generalize replayed s ⟨[], 0⟩ g = p at *
  have hstay : trapHalt (countersCycle (setTrap p { t with ran := t.ran + 1 }) false (cycleBegin s).2) =
      countersCycle (setTrap p { t with ran := t.ran + 1 }) false (cycleBegin s).2 := by
    simp [trapHalt, countersCycle, setTrap, huc, h.halt, trapServed, h.todo]
  rw [hstay]
  refine ⟨⟨rfl, h.gone, h.todo, h.overran, ?_, ?_⟩, ?_⟩
  · rw [← h.last, ← hlast]; rfl
  · rw [← h.halt, ← huc]; rfl
  · exact frame_countersCycle (frame_setUc (hf.mono (fun _ k => k) fun _ => List.mem_cons_of_mem _) _ (by decide)) _ _ (by decide)

/-- With the handler's last word the burst ends (R277). -/
theorem SnapRuns.ends (hr : ¬ t.ran + 1 < handlerLen s 2) (g : Granule) :
    ∃ u, trapCycle s ⟨[], 0⟩ g t = endBurst u c ∧ Frame snapKeys snapParts s u := by
  have hf := frame_replayed s ⟨[], 0⟩ g
  have huc : (replayed s ⟨[], 0⟩ g).uc = s.uc := hf.uc (by decide)
  rw [trapCycle_eq, h.trapStep_eq, vendorWord, handlerLen_replayed, if_neg hr]
  generalize replayed s ⟨[], 0⟩ g = p at *
  refine ⟨countersCycle (handlerDone (vendorEffect p 2) t) false (cycleBegin s).2, ?_, ?_⟩
  · simp [trapHalt, countersCycle, handlerDone, setTrap, vendorEffect, huc, h.halt, trapServed, h.todo, h.gone]
  · refine frame_countersCycle (frame_setUc ?_ _ (by decide)) _ _ (by decide)
    exact frame_setFlag (frame_setBlob (hf.mono (fun _ k => k) fun _ => List.mem_cons_of_mem _) _ (by decide)) _ _
      (.inl (by decide))

end

theorem trapRun_idle {s : State} (h : s.uc.trap = none) (n : Nat) (ios : List Io) : trapRun n ios s = s := by
  cases n with
  | zero => rfl
  | succ n => simp [trapRun, h]

/-- With clean reads the trap's cycles lead to the end of the burst, if they are as many as the handler's words still to run. -/
theorem SnapRuns.run {c n : Nat} {t : Trap} {s : State} (h : SnapRuns c t s) (hn : handlerLen s 2 ≤ t.ran + n) (h1 : 1 ≤ n) :
    ∃ u m, trapRun n [] s = trapRun m [] (endBurst u c) ∧ Frame snapKeys snapParts s u := by
  induction n generalizing t s with
  | zero => omega
  | succ n ih =>
    obtain ⟨g, hg⟩ := Option.isSome_iff_exists.1 h.last
    have hrun : trapRun (n + 1) [] s = trapRun n [] (trapCycle s ⟨[], 0⟩ g t) := by
      simp [trapRun, h.trap, hg, h.overran]
    by_cases hr : t.ran + 1 < handlerLen s 2
    · obtain ⟨hnext, hf⟩ := h.next hr g
      have hlen : handlerLen (trapCycle s ⟨[], 0⟩ g t) 2 = handlerLen s 2 := by
        unfold handlerLen
        rw [hf.num K.TRAPS (by decide) fun _ => not_played (by decide)]
      obtain ⟨u, m, he, hu⟩ := ih hnext (by rw [hlen]; simp only; omega) (by omega)
      exact ⟨u, m, hrun.trans he, hf.trans hu⟩
    · obtain ⟨u, he, hu⟩ := h.ends hr g
      exact ⟨u, n, by rw [hrun, he], hu⟩

theorem handlerLen_snap_le (s : State) : handlerLen s 2 ≤ 24 := by
  have := Nat.mod_lt (Config.handlerLength 2 (s.num K.TRAPS)) (show 0 < 24 by decide)
  simp only [handlerLen]
  norm_num
  omega

/-! ### The end of the burst -/

/-- The objects that the end of a burst changes before it fences the units that wait (R177, R278, R405). -/
def tailKeys : List Nat :=
  queueKeys ++ [K.R_STATE, K.JUMPS_REPLACED, K.SEQ_FLAGS, K.SNAPSHOT, K.TIME_SNAP, K.FAULT_ISSUE, K.FAULT_SEGMENT,
    K.TRAP_PENDING, K.TRAP_CMD]

theorem frame_discardJump {a s : State} (h : Frame tailKeys snapParts a s) : Frame tailKeys snapParts a (discardJump s) :=
  Frame.ite (frame_setFlag (frame_inc (frame_setSeq h _ (by decide)) (.inl (by decide))) _ _ (.inl (by decide))) h

theorem frame_pointsWrite {a s : State} (h : Frame tailKeys snapParts a s) (w : Nat) :
    Frame tailKeys snapParts a (pointsWrite s w) :=
  (frame_setCis h _ (by decide)).foldl _ fun _ _ _ g => frame_pointWrite g _ (by decide) (by decide)

theorem not_played_of_range {k : Nat} (h : k < 0x300000 ∨ 0x500000 ≤ k) : ¬ Played k := fun hp => by
  obtain ⟨h1, h2⟩ := hp
  omega

/-- The end of a burst serves what is open, and then fences the units that waited (R559). -/
theorem burstTail_fences (u : State) :
    ∃ v, burstTail u = fenceWaited (v.setFlt { v.flt with fenceWait := [], fenceNext := [] }) (v.flt.fenceNext ++ v.flt.fenceWait) ∧
      Frame tailKeys snapParts u v ∧ v.uc.trap = none := by
  unfold burstTail
  extract_lets s1 s2 s3 s4 pend s5 s6 s7 s8 m s9 r q s10 l f
  refine ⟨s10, rfl, ?_, rfl⟩
  have h1 : Frame tailKeys snapParts u s1 :=
    ((Plays.refl u).foldl_range fun s c hc g => plays_settleLater g _ c hc).frame.mono (by simp) fun _ =>
      List.mem_cons_of_mem _
  have h2 : Frame tailKeys snapParts u s2 := Frame.ite (frame_setNum (frame_setCis h1 _ (by decide)) _ (.inl (by decide))) h1
  have h4 : Frame tailKeys snapParts u s4 := frame_discardJump (frame_pointsWrite h2 _)
  have h5 : Frame tailKeys snapParts u s5 := Frame.ite (frame_setBlob h4 _ (by decide)) h4
  have h6 : Frame tailKeys snapParts u s6 := Frame.ite (frame_setBlob h5 _ (by decide)) h5
  have h7 : Frame tailKeys snapParts u s7 := Frame.ite (frame_setNums h6 _ (by simp [tailKeys])) h6
  exact frame_setSeq (frame_setUc (frame_setNums h7 _ (by simp [tailKeys])) _ (by decide)) _ (by decide)

/-- After the fences the burst's pins park and its state is noted (R296, R391). -/
theorem frame_endBurst (u : State) (c : Nat) : Frame [K.SEQ_STATE, K.END_CAUSE] playParts (burstTail u) (endBurst u c) := by
  have hpark : Frame [K.SEQ_STATE, K.END_CAUSE] playParts (burstTail u) (parkAll (burstTail u)) :=
    (plays_parkAll (.refl _)).frame.mono (by simp) fun _ p => p
  have hvec : Frame [K.SEQ_STATE, K.END_CAUSE] playParts (burstTail u) (vectorsEnd (parkAll (burstTail u))) :=
    hpark.foldl _ fun _ _ _ g => Frame.ite g (frame_setChan g _ _ (by decide))
  exact frame_setNums (frame_setCis (frame_setCis hvec _ (by decide)) _ (by decide)) _ (by simp)

/-! ### A unit that the module does not have -/

theorem uc_foldl {α : Type} {f : State → α → State} (l : List α) (hf : ∀ s x, (f s x).uc = s.uc) (s : State) :
    (l.foldl f s).uc = s.uc := by
  induction l generalizing s with
  | nil => rfl
  | cons x r ih => exact (ih _).trans (hf s x)

theorem uc_ite {p : Prop} [Decidable p] {s t : State} : (if p then s else t).uc = if p then s.uc else t.uc := by
  split <;> rfl

theorem uc_edgeChange (s : State) (c : Nat) (t : Int) (d : Drive) : (edgeChange s c t d).uc = s.uc := by
  unfold edgeChange
  dsimp only
  split
  · rfl
  · split
    · split
      · split <;> rfl
      · rfl
    · rfl

theorem uc_pinTo (s : State) (c : Nat) (d : Drive) : (pinTo s c d).uc = s.uc := by
  unfold pinTo
  extract_lets t s1 s2 x
  have h1 : s1.uc = s.uc := by
    simp only [s1, uc_ite, uc_edgeChange, ite_self]
  have h2 : s2.uc = s1.uc := by
    simp only [s2]
    split
    · split <;> rfl
    · rfl
  exact h2.trans h1

theorem uc_setNums (s : State) (l : List (Nat × Nat)) : (s.setNums l).uc = s.uc :=
  uc_foldl (f := fun (s : State) (p : Nat × Nat) => s.setNum p.1 p.2) l (fun _ _ => rfl) s

theorem frame_calFinish (s : State) : Frame [K.CAL_STATE, K.CAL_CMD, K.SELF_RUNS, K.ATTN_EVENTS] [] s (calFinish s) :=
  Frame.ite (frame_evCal (frame_inc (frame_setNums (.refl ..) _ (by simp)) (.inl (by simp))) (by simp)) (.refl ..)

/-- A tile whose domain turns off reads OFF, or FENCED where it is fenced, and the stream context stands (R362, R437). -/
theorem tileDown_reads {t : Nat} (s : State) (hk : atTile K.TILE_STATE t ∉ [K.CAL_STATE, K.CAL_CMD, K.SELF_RUNS, K.ATTN_EVENTS]) :
    (tileDown s t).num (atTile K.TILE_STATE t) ≠ 1 ∧ (tileDown s t).uc = s.uc := by
  unfold tileDown
  extract_lets x s1 y s2 s3
  have h1 : s1.uc = s.uc := by
    refine uc_foldl _ (fun s j => ?_) s
    extract_lets c s1 s2 s3
    have hs2 : s2.uc = s.uc := by simp only [s2, s1, uc_ite, uc_setNums, ite_self]
    have hs3 : s3.uc = s2.uc := uc_pinTo ..
    exact hs3.trans hs2
  clear_value s1
  have h3 : s3.uc = s.uc := (uc_setNums ..).trans h1
  clear_value s3
  have hf := frame_calFinish ((s3.setFlag (atTile K.CONV_FLAGS t) 1 false).setNum (atTile K.TILE_STATE t)
    (if tileFenced s3 t then 5 else 0))
  refine ⟨?_, (hf.uc (by simp)).trans h3⟩
  rw [hf.num_eq hk (by simp), num_setNum, if_pos rfl]
  split <;> decide

/-- Fault source 0x470 stands for no channel, tile or stack: as a unit to be fenced it is taken for a stack 1028, whose domain
1036 is that of a tile 1024. -/
def strayUnit : Nat := 0x470

/-- The object that would be TILE_STATE of that tile. -/
def strayKey : Nat := atTile K.TILE_STATE 1024

theorem domDown_tile {s : State} {d : Nat} (h : domState s d ≠ 0) (hd : 12 ≤ d) :
    domDown s d = tileDown (clearReady (setDom s d 0) (domReady d)) (d - 12) := by
  rw [domDown, if_neg h]
  exact if_pos hd

theorem uc_clearReady (s : State) (l : List Nat) : (clearReady s l).uc = s.uc :=
  uc_foldl (f := fun (s : State) (b : Nat) => s.setFlag K.READY b false) l (fun _ _ => rfl) s

theorem uc_setDom (s : State) (d v : Nat) : (setDom s d v).uc = s.uc := rfl

/-- A unit beyond those of channels and tiles is taken for a stack, whose domain turns off (R568, R569). -/
theorem fenceUnit_stack {s : State} {u : Nat} (h : 0x6C ≤ u) (hf : s.flag K.FENCE_STACK (u - 0x6C) = false) :
    ∃ v, fenceUnit s u = domDown v (8 + (u - 0x6C)) ∧ v.num K.DOM_STATE = s.num K.DOM_STATE ∧ v.uc = s.uc := by
  have h1 : ¬ u < 0x60 := by omega
  have h2 : ¬ u < 0x6C := by omega
  have hfree : ¬ unitFenced s u = true := by simp [unitFenced, h1, h2, hf]
  exact ⟨_, (if_neg hfree).trans ((if_neg h1).trans (if_neg h2)), by simp, rfl⟩

theorem fenceUnit_stray {s : State} (hf : s.flag K.FENCE_STACK 1028 = false) (hd : domState s 1036 ≠ 0) :
    (fenceUnit s strayUnit).num strayKey ≠ 1 ∧ (fenceUnit s strayUnit).uc = s.uc := by
  obtain ⟨v, he, hdom, huc⟩ := fenceUnit_stack (u := strayUnit) (by decide) hf
  have hon : domState v 1036 ≠ 0 := by
    unfold domState at hd ⊢
    rwa [hdom]
  rw [he, show 8 + (strayUnit - 0x6C) = 1036 from rfl, domDown_tile hon (by decide), show 1036 - 12 = 1024 from rfl]
  obtain ⟨h1, h2⟩ := tileDown_reads (clearReady (setDom v 1036 0) (domReady 1036)) (t := 1024) (by decide)
  exact ⟨h1, h2.trans ((uc_clearReady ..).trans ((uc_setDom ..).trans huc))⟩

/-- What the fence of one unit has left stands when FENCE_CMD.SET completes (R561). -/
theorem fenceWaited_reads (s : State) (u : Nat) {k : Nat} (hk : k ≠ K.FENCE_CMD) :
    (fenceWaited s [u]).num k = (fenceUnit s u).num k ∧ (fenceWaited s [u]).uc = (fenceUnit s u).uc := by
  unfold fenceWaited fenceUnits
  simp only [List.foldl_cons, List.foldl_nil]
  by_cases he : (fenceUnit s u).flt.fenceWait.isEmpty = true <;> simp [he, hk]

/-! ### The refutation -/

/-- The burst ends with the unit waiting: the object is moved, and no trap is in progress any more. -/
theorem endBurst_stray {u : State} (c : Nat) (hn : u.flt.fenceNext = []) (hw : u.flt.fenceWait = [strayUnit])
    (hf : u.flag K.FENCE_STACK 1028 = false) (hd : domState u 1036 ≠ 0) :
    (endBurst u c).num strayKey ≠ 1 ∧ (endBurst u c).uc.trap = none := by
  obtain ⟨v, he, hv, htrap⟩ := burstTail_fences u
  have hflt : v.flt = u.flt.withArrived v.flt := hv.flt (by decide)
  have hl : v.flt.fenceNext ++ v.flt.fenceWait = [strayUnit] := by
    rw [hflt]
    simp [Faults.withArrived, hn, hw]
  have hnum {k : Nat} (hk : k ∉ tailKeys) (h3 : k < 0x300000 ∨ 0x500000 ≤ k) : v.num k = u.num k :=
    hv.num k hk fun _ => not_played_of_range h3
  obtain ⟨h1, h2⟩ := fenceUnit_stray (s := v.setFlt { v.flt with fenceWait := [], fenceNext := [] })
    (by rw [← hf]; exact congrArg (bit · 1028) (hnum (k := K.FENCE_STACK) (by decide) (by decide)))
    (by
      have hdom : v.num K.DOM_STATE = u.num K.DOM_STATE := hnum (by decide) (by decide)
      unfold domState at hd ⊢
      rwa [num_setFlt, hdom])
  have htail : (burstTail u).num strayKey ≠ 1 ∧ (burstTail u).uc.trap = none := by
    rw [he, hl]
    obtain ⟨hk, huc⟩ := fenceWaited_reads (v.setFlt { v.flt with fenceWait := [], fenceNext := [] }) strayUnit
      (k := strayKey) (by decide)
    rw [hk, huc]
    exact ⟨h1, (congrArg Micro.trap h2).trans htrap⟩
  have hend := frame_endBurst u c
  exact ⟨by rw [hend.num strayKey (by decide) fun _ hp => absurd hp.2 (by decide)]; exact htail.1,
    by rw [hend.uc (by decide)]; exact htail.2⟩

/-- The trap of the witness: the SNAP handler has run no word yet (R271). -/
def snapTrap : Trap := ⟨4, 2, [2], 0, 0, 0, false, [], false, false, false⟩

/-- A trap with a SNAP cause has saved its frame, and a halt with cause 0x21 is latched, while fault source `0x470` waits to be
fenced. -/
def snapWithFence : State :=
  let s := State.reset.setNums [(K.DOM_STATE, 4 ^ 1036), (strayKey, 1)]
  let s := s.setFlt { s.flt with fenceWait := [strayUnit] }
  let s := s.setUc { s.uc with trap := some snapTrap, haltAfter := some 0x21 }
  s.setSeq { s.seq with last := some ⟨0, 0, 0, 0, [], 0x80, [], false⟩ }

theorem num_snapWithFence (k : Nat) :
    snapWithFence.num k = if k = strayKey then 1 else if k = K.DOM_STATE then 4 ^ 1036 else State.reset.num k := by
  show ((State.reset.setNum K.DOM_STATE (4 ^ 1036)).setNum strayKey 1).num k = _
  rw [num_setNum, num_setNum]

theorem snapRuns_snapWithFence : SnapRuns 0x21 snapTrap snapWithFence := ⟨rfl, rfl, rfl, rfl, rfl, rfl⟩

/-- With clean reads the trap's cycles end the burst, whose fence moves the object. -/
theorem trapResume_snapWithFence : (trapResume snapWithFence []).num strayKey ≠ 1 := by
  have hlen := handlerLen_snap_le snapWithFence
  obtain ⟨u, m, he, hu⟩ := snapRuns_snapWithFence.run (n := 338) (by omega) (by omega)
  have hnum {k : Nat} (hk : k ∉ snapKeys) (h3 : k < 0x300000 ∨ 0x500000 ≤ k) : u.num k = snapWithFence.num k :=
    hu.num k hk fun _ => not_played_of_range h3
  have hflt : u.flt = snapWithFence.flt.withArrived u.flt := hu.flt (by decide)
  have hfenced : snapWithFence.flag K.FENCE_STACK 1028 = false := by
    unfold State.flag
    rw [num_snapWithFence, if_neg (by decide), if_neg (by decide), show State.reset.num K.FENCE_STACK = 0 by decide +kernel]
    exact Nat.zero_testBit _
  have hon : domState snapWithFence 1036 ≠ 0 := by
    unfold domState
    rw [num_snapWithFence, if_neg (by decide), if_pos rfl, Nat.div_self (Nat.pow_pos (by decide))]
    decide
  obtain ⟨h1, h2⟩ := endBurst_stray (u := u) 0x21 (by rw [hflt]; rfl) (by rw [hflt]; rfl)
    (by unfold State.flag at *; rwa [hnum (by decide) (by decide)])
    (by unfold domState at *; rwa [hnum (by decide) (by decide)])
  unfold trapResume
  rwa [he, trapRun_idle h2]

/-- Refutes O39: a halt latched in a SNAP handler ends the burst, whose end fences the waiting unit and moves an object that the
module does not have and the frame of the statement leaves alone. -/
theorem not_microTraps : ¬ Obligations.MicroTraps := by
  rintro ⟨-, hresume, -⟩
  obtain ⟨-, hhalt⟩ := hresume snapWithFence [] snapTrap ⟨0, 0, 0, 0, [], 0x80, [], false⟩ rfl rfl rfl rfl rfl rfl rfl rfl rfl
    (fun _ h => nomatch h)
  obtain ⟨t, ht, -, -, -, hframe⟩ := hhalt 0x21 rfl
  obtain ⟨t', ht', hnote⟩ := took_next (s := snapWithFence) (fun s => trapResume s []) rfl
  obtain rfl : t' = t := by
    have h := ht'.symm.trans ht
    injection h
  have hstand : t'.num strayKey = 1 :=
    (hframe.num strayKey (by decide) fun _ hp => absurd hp.2 (by decide)).trans
      ((num_snapWithFence _).trans (if_pos rfl))
  have hmoved : t'.num strayKey = (trapResume snapWithFence []).num strayKey :=
    (hnote [] []).num_eq (by simp) (by simp)
  exact trapResume_snapWithFence (hmoved.symm.trans hstand)

end Sys2Proof.Machine

/-! PROOFS. The tick and the deskew (O42): domains that come up, the conversion of a channel's deskew (R317), a tick lock with what
follows it (R290), and the writes of TICK_MULT (R28, R289) and of the deskew (R316). -/

namespace Sys2Proof.Machine

/-! ### The keys of channels and tiles -/

theorem atCh_not_mem_chKeys {ks cs : List Nat} {k c : Nat} (hks : ∀ j ∈ ks, ChannelKey j) (hk : ChannelKey k)
    (h : k ∉ ks ∨ c ∉ cs) : atCh k c ∉ chKeys ks cs := by
  intro hm
  obtain ⟨d, hd, hm⟩ := List.mem_flatMap.1 hm
  obtain ⟨j, hj, e⟩ := List.mem_map.1 hm
  obtain ⟨rfl, rfl⟩ := atCh_inj (hks j hj) hk e
  exact h.elim (fun h => h hj) fun h => h hd

/-- Objects of tiles lie between those of the module and those of channels. -/
theorem tileKeys_range {ks ts : List Nat} {j : Nat} (hks : ∀ k ∈ ks, 0x300000 ≤ k ∧ k < 0x301000) (hts : ∀ t ∈ ts, t < 12)
    (h : j ∈ tileKeys ks ts) : 0x300000 ≤ j ∧ j < 0x400000 := by
  obtain ⟨t, ht, hm⟩ := List.mem_flatMap.1 h
  obtain ⟨k, hk, rfl⟩ := List.mem_map.1 hm
  have h1 := hks k hk
  have h2 := hts t ht
  unfold atTile
  omega

/-! ### Domains and READY bits -/

/-- DOM_STATE holds each domain's state by itself (R651). -/
theorem domState_setDom (s : State) (d e : Nat) {v : Nat} (hv : v < 4) :
    domState (setDom s d v) e = if e = d then v else domState s e := by
  have hsplit (n w : Nat) (hw : w < 4) : n - n / 4 ^ d % 4 * 4 ^ d + w * 4 ^ d = n % 4 ^ d + 4 ^ d * (w + 4 * (n / 4 ^ d / 4)) := by
    have h1 := Nat.div_add_mod n (4 ^ d)
    have h2 := Nat.div_add_mod (n / 4 ^ d) 4
    have h3 : n = n % 4 ^ d + 4 ^ d * (n / 4 ^ d % 4) + 4 ^ d * (4 * (n / 4 ^ d / 4)) := by
      rw [Nat.add_assoc, ← Nat.mul_add, Nat.add_comm (n / 4 ^ d % 4), h2, Nat.add_comm, h1]
    have h4 := Nat.mul_comm (n / 4 ^ d % 4) (4 ^ d)
    have h5 := Nat.mul_comm w (4 ^ d)
    rw [Nat.mul_add]
    omega
  have hpos : 0 < 4 ^ d := Nat.pow_pos (by decide)
  unfold setDom
  unfold domState
  rw [num_setNum, if_pos rfl, hsplit _ _ hv]
  generalize s.num K.DOM_STATE = n
  have hdiv : (n % 4 ^ d + 4 ^ d * (v + 4 * (n / 4 ^ d / 4))) / 4 ^ d = v + 4 * (n / 4 ^ d / 4) := by
    rw [Nat.add_mul_div_left _ _ hpos, Nat.div_eq_of_lt (Nat.mod_lt _ hpos), Nat.zero_add]
  rcases Nat.lt_trichotomy e d with h | rfl | h
  · obtain ⟨r, rfl⟩ := Nat.exists_eq_add_of_lt h
    have hlow (m x : Nat) : (m % 4 ^ (e + r + 1) + 4 ^ (e + r + 1) * x) / 4 ^ e % 4 = m / 4 ^ e % 4 := by
      have hdvd : 4 ^ e * 4 ∣ 4 ^ (e + r + 1) := ⟨4 ^ r, by rw [← Nat.pow_succ, ← Nat.pow_add]; congr 1; omega⟩
      rw [← Nat.mod_mul_right_div_self, ← Nat.mod_mul_right_div_self, Nat.add_mod,
        Nat.mod_mod_of_dvd _ hdvd, Nat.mod_eq_zero_of_dvd (hdvd.mul_right x), Nat.add_zero, Nat.mod_mod]
    rw [if_neg (by omega), hlow]
  · rw [if_pos rfl, hdiv]
    omega
  · obtain ⟨r, rfl⟩ := Nat.exists_eq_add_of_lt h
    have hhigh : 4 ^ (d + r + 1) = 4 ^ d * (4 * 4 ^ r) := by
      rw [← Nat.pow_add_one', ← Nat.pow_add, Nat.add_assoc]
    rw [if_neg (by omega), hhigh, ← Nat.div_div_eq_div_mul, hdiv, ← Nat.div_div_eq_div_mul, ← Nat.div_div_eq_div_mul,
      ← Nat.div_div_eq_div_mul]
    congr 2
    omega

theorem frame_setDom {ks : List Nat} {ps : List Part} {a s : State} (h : Frame ks ps a s) (d v : Nat) (hk : K.DOM_STATE ∈ ks) :
    Frame ks ps a (setDom s d v) := frame_setNum h _ (.inl hk)

theorem frame_setReady {ks : List Nat} {ps : List Part} {a s : State} (h : Frame ks ps a s) (b : Nat) (hr : K.READY ∈ ks)
    (ht : K.READY_TIMES ∈ ks) : Frame ks ps a (setReady s b) := by
  unfold setReady
  exact frame_setFlag ((frame_setBlob h _ ht).ite h) _ _ (.inl hr)

theorem flag_setReady (s : State) (b : Nat) : (setReady s b).flag K.READY b = true := by
  simp [setReady, State.flag, putBit_get]

theorem clearReady_singleton (s : State) (b : Nat) : clearReady s [b] = s.setFlag K.READY b false := rfl

/-! ### Domains that come up -/

/-- The objects that switching on a domain other than TICK's may change (R517, R629, R633). -/
def upKeys : List Nat :=
  [K.DOM_STATE, K.RING_STATE] ++ (tileKeys [K.TILE_STATE, K.TILE_UPS, K.CONV_FLAGS] (List.range 12) ++
    chKeys [K.CAL_STATUS, K.CH_STALE, K.CAL_FAIL_BITS, K.RES_FLAGS] (List.range 96))

theorem module_not_mem_upKeys {k : Nat} (h : k ∉ [K.DOM_STATE, K.RING_STATE]) (hk : k < 0x300000) : k ∉ upKeys := by
  simp only [upKeys, List.mem_append, not_or]
  refine ⟨h, fun hm => ?_, not_mem_chKeys (by decide) (by omega)⟩
  have := tileKeys_range (by decide) (fun t => List.mem_range.1) hm
  omega

theorem channel_not_mem_upKeys {k c : Nat} (hk : ChannelKey k)
    (h : k ∉ [K.CAL_STATUS, K.CH_STALE, K.CAL_FAIL_BITS, K.RES_FLAGS]) : atCh k c ∉ upKeys := by
  have hr : 0x400000 ≤ atCh k c := by unfold atCh; omega
  simp only [upKeys, List.mem_append, not_or]
  refine ⟨fun hm => ?_, fun hm => ?_, atCh_not_mem_chKeys (by decide) hk (.inl h)⟩
  · have := (by decide : ∀ j ∈ [K.DOM_STATE, K.RING_STATE], j < 0x400000) _ hm
    omega
  · have := tileKeys_range (by decide) (fun t => List.mem_range.1) hm
    omega

theorem upKeys_subset_startKeys : ∀ k ∈ upKeys, k ∈ startKeys := by
  intro k hk
  simp only [upKeys, startKeys, List.mem_append, List.mem_cons] at hk ⊢
  tauto

/-- From `s` to `t` domains other than TICK's have come up: neither the tick nor a PLL has changed. -/
structure Starts (s t : State) : Prop where
  frame : Frame upKeys startParts s t
  tb : t.tb = { s.tb with tmus := t.tb.tmus }
  locks : t.slow.locks = s.slow.locks
  dom : domState t 2 = domState s 2

theorem Starts.refl (s : State) : Starts s s := ⟨.refl .., rfl, rfl, rfl⟩

theorem Starts.of_frame {s t : State} (h : Frame [] [] s t) : Starts s t where
  frame := h.mono (by simp) (by simp)
  tb := by rw [h.tb (by simp)]
  locks := by rw [h.slow (by simp)]
  dom := by unfold domState; rw [h.num_eq (by simp) (by simp)]

section
variable {a s : State} (h : Starts a s)
include h

theorem Starts.trans {t : State} (g : Starts s t) : Starts a t where
  frame := h.frame.trans g.frame
  tb := g.tb.trans (congrArg (fun b : TimeBase => { b with tmus := t.tb.tmus }) h.tb)
  locks := g.locks.trans h.locks
  dom := g.dom.trans h.dom

theorem Starts.ite {c : Prop} [Decidable c] {t : State} (g : Starts a t) : Starts a (if c then s else t) := by
  split <;> assumption

theorem Starts.foldl {α : Type} {f : State → α → State} (l : List α) (hf : ∀ s x, x ∈ l → Starts a s → Starts a (f s x)) :
    Starts a (l.foldl f s) := by
  induction l generalizing s with
  | nil => exact h
  | cons x r ih => exact ih (hf s x List.mem_cons_self h) fun s y hy => hf s y (List.mem_cons_of_mem _ hy)

theorem starts_setNum {k : Nat} (v : Nat) (hk : k ∈ upKeys) (hd : k ≠ K.DOM_STATE) : Starts a (s.setNum k v) :=
  h.trans ⟨frame_setNum (.refl ..) v (.inl hk), rfl, rfl, by unfold domState; rw [num_setNum, if_neg hd.symm]⟩

theorem starts_tile {k t : Nat} (v : Nat) (hk : k ∈ [K.TILE_STATE, K.TILE_UPS, K.CONV_FLAGS]) (ht : t < 12) :
    Starts a (s.setNum (atTile k t) v) := by
  have hm := mem_tileKeys hk (List.mem_range.2 ht)
  have hr := tileKeys_range (by decide) (fun t => List.mem_range.1) hm
  exact starts_setNum h v (List.mem_append_right _ (List.mem_append_left _ hm)) (by simp only [K.DOM_STATE]; omega)

theorem starts_channel {k c : Nat} (v : Nat) (hk : k ∈ [K.CAL_STATUS, K.CH_STALE, K.CAL_FAIL_BITS, K.RES_FLAGS]) (hc : c < 96) :
    Starts a (s.setNum (atCh k c) v) := by
  have hm := mem_chKeys hk (List.mem_range.2 hc)
  exact starts_setNum h v (List.mem_append_right _ (List.mem_append_right _ hm)) fun e =>
    not_mem_chKeys (by decide) (by decide) (e ▸ hm)

theorem starts_setDom {d v : Nat} (hd : d ≠ 2) (hv : v < 4) : Starts a (setDom s d v) :=
  h.trans ⟨frame_setDom (.refl ..) d v (by simp [upKeys]), rfl, rfl, by rw [domState_setDom _ _ _ hv, if_neg hd.symm]⟩

theorem starts_setCal (x : Cal) : Starts a (s.setCal x) :=
  h.trans ⟨frame_setCal (.refl ..) x (by simp [startParts]), rfl, rfl, rfl⟩

theorem starts_setChan (c : Nat) (x : Chan) : Starts a (s.setChan c x) :=
  h.trans ⟨frame_setChan (.refl ..) c x (by simp [startParts]), rfl, rfl, rfl⟩

theorem starts_setTmu (c : Nat) (x : Tmu) : Starts a (s.setTmu c x) :=
  h.trans ⟨frame_setTmu (.refl ..) c x (by simp [startParts]), rfl, rfl, rfl⟩

theorem starts_setSnap (x : Assoc Nat) : Starts a (s.setSlow { s.slow with snap := x }) :=
  h.trans ⟨frame_setSlow (.refl ..) _ (by simp [startParts]), rfl, rfl, rfl⟩

theorem starts_tmuHold {c : Nat} (hc : c < 96) : Starts a (tmuHold s c) :=
  starts_channel (starts_setTmu h _ _) _ (by simp) hc

theorem starts_calBegin {c : Nat} (hc : c < 96) : Starts a (calBegin s c) := by
  have ht : tileOf c < 12 := by unfold tileOf; omega
  unfold calBegin
  simp only [setNums_cons, setNums_nil]
  refine starts_tmuHold (starts_setChan (starts_tile ?_ _ (by simp) ht) _ _) hc
  exact starts_channel (starts_channel (starts_channel (starts_setSnap h _) _ (by simp) hc) _ (by simp) hc) _ (by simp) hc

theorem starts_calNext : Starts a (calNext s) := by
  unfold calNext
  refine h.foldl _ fun s t ht g => g.ite ?_
  cases hf : s.cal.todo.find? (fun c => tileOf c == t) with
  | none => exact g
  | some c =>
    have hc : tileOf c = t := by simpa using List.find?_some hf
    have ht := List.mem_range.1 ht
    exact starts_calBegin g (by unfold tileOf at hc; omega)

theorem starts_domUp {d : Nat} (h2 : d ≠ 2) (hd : d < 24) : Starts a (domUp s d) := by
  have hs : Starts a (setDom s d (if d = 6 ∨ d = 7 then 2 else 1)) := starts_setDom h h2 (by split <;> decide)
  unfold domUp
  by_cases ht : 12 ≤ d
  · rw [if_pos ht]
    have hu : d - 12 < 12 := by omega
    exact starts_calNext (starts_setCal (starts_tile (starts_tile hs _ (by simp) hu) _ (by simp) hu) _)
  · rw [if_neg ht, if_neg h2]
    exact (starts_setNum hs _ (by simp [upKeys]) (by decide)).ite hs

end

/-- Every domain that may be switched on now is, in the order of their numbers (R629). -/
def domainsStarted (s : State) : State :=
  (List.range 23).foldl (fun s i => if domMayStart s (i + 1) then domUp s (i + 1) else s) s

theorem domAdvance_eq (s : State) : domAdvance s = domainsStarted (tickTry s) := rfl

/-- TICK's domain is not switched on where it is on already. -/
theorem starts_domainsStarted {s : State} (h2 : domState s 2 ≠ 0) : Starts s (domainsStarted s) := by
  unfold domainsStarted
  refine (Starts.refl s).foldl _ fun u i hi g => ?_
  have hi := List.mem_range.1 hi
  split
  case isFalse => exact g
  case isTrue hm =>
    have hoff : domState u (i + 1) = 0 := by
      simp only [domMayStart, Bool.and_eq_true, beq_iff_eq] at hm
      exact hm.1.1.1.1.1.1
    exact starts_domUp g (fun e => h2 (g.dom ▸ e ▸ hoff)) (by omega)

/-! ### The deskew of a channel -/

/-- The values of a channel's deskew, by their keys at channel 0 (R316). -/
def deskewValues : List Nat := [K.DESKEW_DRV, K.DESKEW_CMP, K.STRB_ADJ]

/-- The objects that the conversion of a channel's deskew reads and sets (R317). -/
def deskewUses : List Nat := deskewValues ++ deskewKeys

theorem channelKey_deskewUses {k : Nat} (hk : k ∈ deskewUses) : ChannelKey k := by
  revert k
  decide

theorem deskewValues_key {k : Nat} (hk : k ∈ deskewValues) : ChannelKey k ∧ k ∉ deskewKeys := by
  revert k
  decide

theorem atCh_not_mem_deskewKeys {k c : Nat} (cs : List Nat) (hk : k ∈ deskewValues) : atCh k c ∉ chKeys deskewKeys cs :=
  atCh_not_mem_chKeys (by decide) (deskewValues_key hk).1 (.inl (deskewValues_key hk).2)

theorem frame_deskewApply (s : State) (c : Nat) : Frame (chKeys deskewKeys [c]) [] s (deskewApply s c) := by
  unfold deskewApply
  exact frame_setNums (.refl ..) _ (by simp [chKeys, deskewKeys])

section
variable {s t : State} (h : t.num K.TICK_MULT = s.num K.TICK_MULT)
include h

theorem fine_congr (fs : Int) : t.fine fs = s.fine fs := by unfold State.fine State.mult; rw [h]

theorem earlyOf_congr (d : Int) : t.earlyOf d = s.earlyOf d := by unfold State.earlyOf State.mult; rw [h]

end

/-- The conversion stands where the channel's values and results and the tick rate stand. -/
theorem DeskewConverted.congr {s t : State} {c : Nat} (h : DeskewConverted s c) (hm : t.num K.TICK_MULT = s.num K.TICK_MULT)
    (hn : ∀ k ∈ deskewUses, t.num (atCh k c) = s.num (atCh k c)) : DeskewConverted t c := by
  simp only [deskewUses, deskewValues, deskewKeys, List.cons_append, List.nil_append, List.forall_mem_cons] at hn
  obtain ⟨h1, h2, h3, h4, h5, h6, h7, -⟩ := hn
  unfold DeskewConverted State.int32 at h ⊢
  simpa only [fine_congr hm, earlyOf_congr hm, h1, h2, h3, h4, h5, h6, h7] using h

theorem deskewConverted_deskewApply (s : State) (c : Nat) : DeskewConverted (deskewApply s c) c := by
  have hm : (deskewApply s c).num K.TICK_MULT = s.num K.TICK_MULT :=
    (frame_deskewApply s c).num_eq (not_mem_chKeys (by decide) (by decide)) (by simp)
  have hv {k : Nat} (hk : k ∈ deskewValues) : (deskewApply s c).int32 (atCh k c) = s.int32 (atCh k c) :=
    congrArg (signed 32) ((frame_deskewApply s c).num_eq (atCh_not_mem_deskewKeys _ hk) (by simp))
  unfold DeskewConverted
  simp only [fine_congr hm, earlyOf_congr hm, hv (k := K.DESKEW_DRV) (by decide), hv (k := K.DESKEW_CMP) (by decide),
    hv (k := K.STRB_ADJ) (by decide)]
  simp [deskewApply, setNums_cons, setNums_nil, atCh]

theorem frame_deskewApply_fold {l : List Nat} (hl : ∀ c ∈ l, c < 96) (s : State) :
    Frame (chKeys deskewKeys (List.range 96)) [] s (l.foldl deskewApply s) := by
  refine (Frame.refl ..).foldl _ fun u c hc g => g.trans ((frame_deskewApply u c).mono (fun k hk => ?_) fun _ p => p)
  obtain ⟨d, hd, hk⟩ := List.mem_flatMap.1 hk
  obtain rfl := List.mem_singleton.1 hd
  exact List.mem_flatMap.2 ⟨d, List.mem_range.2 (hl d hc), hk⟩

/-- The conversion of another channel leaves this one's. -/
theorem DeskewConverted.deskewApply {s : State} {c d : Nat} (h : DeskewConverted s c) (hd : c ≠ d) :
    DeskewConverted (deskewApply s d) c :=
  h.congr ((frame_deskewApply s d).num_eq (not_mem_chKeys (by decide) (by decide)) (by simp)) fun k hk =>
    (frame_deskewApply s d).num_eq (atCh_not_mem_chKeys (by decide) (channelKey_deskewUses hk) (.inr (by simpa using hd)))
      (by simp)

theorem deskewConverted_fold {l : List Nat} {s : State} {c : Nat} (h : c ∈ l ∨ DeskewConverted s c) :
    DeskewConverted (l.foldl deskewApply s) c := by
  induction l generalizing s with
  | nil => exact h.resolve_left List.not_mem_nil
  | cons d r ih =>
    refine ih ?_
    by_cases hd : c = d
    · exact .inr (hd ▸ deskewConverted_deskewApply s c)
    · exact h.imp (fun h => (List.mem_cons.1 h).resolve_left hd) fun h => h.deskewApply hd

theorem deskewConverted_deskewAll (s : State) {c : Nat} (hc : c < 96) : DeskewConverted (deskewAll s) c :=
  deskewConverted_fold (.inl (List.mem_range.2 hc))

theorem frame_deskewAll (s : State) : Frame (chKeys deskewKeys (List.range 96)) [] s (deskewAll s) :=
  frame_deskewApply_fold (fun _ => List.mem_range.1) s

/-- Domains that come up leave the conversions. -/
theorem DeskewConverted.starts {s t : State} {c : Nat} (h : DeskewConverted s c) (g : Starts s t) : DeskewConverted t c :=
  h.congr (g.frame.num_eq (module_not_mem_upKeys (by decide) (by decide)) (by decide)) fun k hk =>
    g.frame.num_eq (channel_not_mem_upKeys (channelKey_deskewUses hk) (by revert k; decide)) (by decide)

/-! ### A tick lock -/

section
variable {s t u : State}

theorem pllPowered_congr {w : Nat} (h : tileState t w = tileState s w) : pllPowered t w = pllPowered s w := by
  simp only [pllPowered, tileReady, h]

/-- Which tiles have a PLL to lock depends on no object of the module. -/
theorem pllPowered_frame {ks : List Nat} {ps : List Part} (h : Frame ks ps s t) (hu : Part.units ∉ ps)
    (hk : ∀ k ∈ ks, k < 0x300000 ∨ 0x400000 ≤ k ∧ k % 0x1000 ≠ 1) (w : Nat) : pllPowered t w = pllPowered s w :=
  pllPowered_congr (h.num_eq (fun hm => by have := hk _ hm; unfold atTile K.TILE_STATE at this; omega) hu)

theorem pllTiles_congr (h : ∀ w, pllPowered t w = pllPowered s w) : pllTiles t = pllTiles s :=
  List.filter_congr fun w _ => h w

/-- TICK stays locked as domains come up. -/
theorem TickLocked.starts (h : TickLocked s t) (g : Starts t u) : TickLocked s u := by
  obtain ⟨hstate, hready, hplls, horigin, hlocks, hdeskew, hframe⟩ := h
  have hnum {k : Nat} (hk : k ∉ [K.DOM_STATE, K.RING_STATE]) (hm : k < 0x300000) : u.num k = t.num k :=
    g.frame.num_eq (module_not_mem_upKeys hk hm) (by decide)
  have hadv : ∀ k ∈ upKeys, k ∈ advanceKeys := fun k hk => by
    simp only [advanceKeys, List.mem_cons, List.mem_append]
    exact .inr (.inr (.inr (upKeys_subset_startKeys k hk)))
  refine ⟨(hnum (by decide) (by decide)).trans hstate, ?_, ?_, ?_, g.locks.trans hlocks, fun c hc => (hdeskew c hc).starts g,
    hframe.trans (g.frame.mono hadv fun _ p => p)⟩
  · rwa [State.flag, hnum (by decide) (by decide)]
  · rw [g.tb]; exact hplls
  · rw [g.tb]; exact horigin

end

section
variable {s t u : State}

theorem mem_advanceKeys {k : Nat} : k ∈ advanceKeys ↔
    k = K.READY ∨ k = K.READY_TIMES ∨ k ∈ chKeys deskewKeys (List.range 96) ∨ k ∈ startKeys := by
  simp only [advanceKeys, List.mem_cons, List.mem_append]

theorem mem_startKeys {k : Nat} (hk : k ∈ [K.DOM_STATE, K.TICK_STATE, K.RING_STATE]) : k ∈ startKeys :=
  List.mem_append_left _ (List.mem_append_left _ hk)

theorem pllTiles_setTb (x : TimeBase) : pllTiles (s.setTb x) = pllTiles s := pllTiles_congr fun _ => rfl

/-- A lock counts for the state before the PLLs reported it. -/
theorem TickLocked.of_reported (hf : Frame [K.TICK_STATE] [.tb] s u) (h : TickLocked u t) : TickLocked s t := by
  obtain ⟨hstate, hready, hplls, horigin, hlocks, hdeskew, hframe⟩ := h
  have htb : u.num K.TB_NOW = s.num K.TB_NOW := hf.num_eq (by decide) (by decide)
  have hpll := pllTiles_congr (pllPowered_frame hf (by decide) (by decide))
  refine ⟨hstate, hready, hplls, ?_, ?_, hdeskew, (hf.mono (fun k hk => ?_) (by decide)).trans hframe⟩
  · rw [horigin, now16, now16, htb]
  · rw [hlocks, hf.slow (by decide), hpll]
  · exact mem_advanceKeys.2 (.inr (.inr (.inr (mem_startKeys (by rw [List.mem_singleton.1 hk]; simp)))))

/-- What a tick lock leaves before D02 and its function are ready. -/
def tickCounted (s : State) : State :=
  let u := deskewAll (s.setNum K.TICK_STATE 2)
  let u := u.setTb { u.tb with plls := [], origin := now16 u }
  u.setSlow { u.slow with locks := pllsLocked u.slow.locks (pllTiles u) }

theorem tickLocked_eq (s : State) : tickLocked s =
    setReady (if domState (tickCounted s) 2 = 1 then setDom (tickCounted s) 2 2 else tickCounted s) 2 := rfl

theorem frame_tickCounted_deskew (s : State) :
    Frame [] [.tb, .slow] (deskewAll (s.setNum K.TICK_STATE 2)) (tickCounted s) :=
  frame_setSlow (frame_setTb (.refl ..) _ (by simp)) _ (by simp)

theorem frame_tickCounted (s : State) :
    Frame (K.TICK_STATE :: chKeys deskewKeys (List.range 96)) [.tb, .slow] s (tickCounted s) :=
  (frame_setNum (.refl ..) _ (.inl (by simp))).trans
    (((frame_deskewAll _).mono (fun _ k => List.mem_cons_of_mem _ k) (by simp)).trans
      ((frame_tickCounted_deskew s).mono (by simp) fun _ p => p))

/-- The function of TICK becomes ready, and its domain ON (R629). -/
theorem frame_tickReady (u : State) :
    Frame [K.DOM_STATE, K.READY, K.READY_TIMES] [] u (setReady (if domState u 2 = 1 then setDom u 2 2 else u) 2) :=
  frame_setReady ((frame_setDom (.refl ..) 2 2 (by simp)).ite (.refl ..)) 2 (by simp) (by simp)

theorem num_tickLocked_deskew {k : Nat} (hk : k ∉ [K.DOM_STATE, K.READY, K.READY_TIMES]) :
    (tickLocked s).num k = (deskewAll (s.setNum K.TICK_STATE 2)).num k := by
  rw [tickLocked_eq, (frame_tickReady _).num_eq hk (by simp), (frame_tickCounted_deskew s).num_eq (by simp) (by simp)]

theorem num_tickLocked {k : Nat} (h : k < 0x300000) (hk : k ∉ [K.DOM_STATE, K.READY, K.READY_TIMES]) :
    (tickLocked s).num k = if k = K.TICK_STATE then 2 else s.num k := by
  rw [num_tickLocked_deskew hk, (frame_deskewAll _).num_eq (not_mem_chKeys (by decide) (by omega)) (by simp), num_setNum]

/-- The lock sets what R290 and R629 list, and leaves TICK's domain on. -/
theorem tickLocked_locks (s : State) : TickLocked s (tickLocked s) := by
  have hdeskew := frame_deskewAll (s.setNum K.TICK_STATE 2)
  have hready := frame_tickReady (tickCounted s)
  have hnow : now16 (deskewAll (s.setNum K.TICK_STATE 2)) = now16 s := by
    unfold now16
    rw [hdeskew.num_eq (not_mem_chKeys (by decide) (by decide)) (by simp), num_setNum, if_neg (by decide)]
  have hpll : pllTiles (deskewAll (s.setNum K.TICK_STATE 2)) = pllTiles s := by
    have hpows := pllPowered_frame (frame_setNum_one (s := s) K.TICK_STATE 2) (by simp) (by decide)
    have hpowd := pllPowered_frame hdeskew (by simp) fun k hk => ?_
    · exact pllTiles_congr fun w => (hpowd w).trans (hpows w)
    · obtain ⟨c, -, hk⟩ := List.mem_flatMap.1 hk
      obtain ⟨j, hj, rfl⟩ := List.mem_map.1 hk
      have := (by decide : ∀ j ∈ deskewKeys, 0x400000 ≤ j ∧ 2 ≤ j % 0x1000) j hj
      unfold atCh
      omega
  have htb : (tickLocked s).tb = (tickCounted s).tb := hready.tb (by simp)
  refine ⟨?_, flag_setReady _ 2, ?_, ?_, ?_, fun c hc => ?_, ?_⟩
  · rw [num_tickLocked (by decide) (by decide), if_pos rfl]
  · rw [htb]; rfl
  · rw [htb]; exact hnow
  · rw [tickLocked_eq, hready.slow (by simp), tickCounted, slow_setSlow, pllTiles_setTb, slow_setTb, hdeskew.slow (by simp),
      hpll, slow_setNum]
  · refine (deskewConverted_deskewAll (s.setNum K.TICK_STATE 2) hc).congr (num_tickLocked_deskew (by decide)) fun k hk =>
      num_tickLocked_deskew fun hm => ?_
    have h1 := channelKey_deskewUses hk
    have h2 := (by decide : ∀ j ∈ [K.DOM_STATE, K.READY, K.READY_TIMES], j < 0x400000) _ hm
    unfold atCh at h2
    omega
  · refine ((frame_tickCounted s).mono (fun k hk => ?_) (by decide)).trans (hready.mono (fun k hk => ?_) (by simp))
    · refine mem_advanceKeys.2 (.inr (.inr ((List.mem_cons.1 hk).symm.imp_right fun hk => mem_startKeys ?_)))
      simp [hk]
    · simp only [List.mem_cons, List.not_mem_nil, or_false] at hk
      rcases hk with hk | hk | hk
      · exact mem_advanceKeys.2 (.inr (.inr (.inr (mem_startKeys (by simp [hk])))))
      · exact mem_advanceKeys.2 (.inl hk)
      · exact mem_advanceKeys.2 (.inr (.inl hk))

theorem domState_tickLocked (h : domState s 2 ≠ 0) : domState (tickLocked s) 2 ≠ 0 := by
  have hset (u : State) (b : Nat) : domState (setReady u b) 2 = domState u 2 := by
    unfold domState
    rw [(frame_setReady (ks := [K.READY, K.READY_TIMES]) (.refl _ [] u) b (by simp) (by simp)).num_eq (by decide) (by simp)]
  have hcount : domState (tickCounted s) 2 = domState s 2 := by
    unfold domState
    have hk : K.DOM_STATE ∉ K.TICK_STATE :: chKeys deskewKeys (List.range 96) :=
      List.not_mem_cons_of_ne_of_not_mem (by decide) (not_mem_chKeys (by decide) (by decide))
    rw [(frame_tickCounted s).num_eq hk (by decide)]
  rw [tickLocked_eq, hset]
  by_cases h1 : domState (tickCounted s) 2 = 1
  · simp [h1, domState_setDom]
  · rw [if_neg h1, hcount]
    exact h

theorem tickTry_of_state (h : s.num K.TICK_STATE ≠ 1) : tickTry s = s := if_neg fun g => h g.1

/-- A lock, and the domains that waited for it (R290, R629). -/
theorem tickLocked_domAdvance (h : domState s 2 ≠ 0) : TickLocked s (domAdvance (tickLocked s)) := by
  have hl := tickLocked_locks s
  rw [domAdvance_eq, tickTry_of_state (by rw [hl.1]; decide)]
  exact hl.starts (starts_domainsStarted (domState_tickLocked h))

section
variable (hf : Frame [K.TICK_STATE] [.tb] s u)
include hf

/-- With the synthesiser locked and no PLL left to wait for, TICK is locked (R290). -/
theorem tickTry_locks (h1 : u.num K.TICK_STATE = 1) (hs : u.tb.synth = true) (h2 : domState s 2 ≠ 0)
    (hp : ∀ w ∈ u.tb.plls, pllPowered s w = false) :
    TickLocked s (domAdvance (tickTry u)) := by
  have hall : u.tb.plls.all (fun w => !pllPowered u w) = true := List.all_eq_true.2 fun w hw => by
    rw [pllPowered_frame hf (by decide) (by decide), hp w hw]
    rfl
  have hdom : domState u 2 ≠ 0 := by
    unfold domState at h2 ⊢
    rwa [hf.num_eq (by decide) (by decide)]
  rw [tickTry, if_pos ⟨h1, hs, hall⟩]
  exact (tickLocked_domAdvance hdom).of_reported hf

/-- With a powered tile's PLL unlocked TICK waits on (R290). -/
theorem tickTry_waits (h2 : domState s 2 ≠ 0) (hp : ∃ w ∈ u.tb.plls, pllPowered s w = true) :
    Starts u (domAdvance (tickTry u)) := by
  obtain ⟨w, hw, hpow⟩ := hp
  have hall : ¬u.tb.plls.all (fun w => !pllPowered u w) = true := fun h => by
    have := List.all_eq_true.1 h w hw
    rw [pllPowered_frame hf (by decide) (by decide), hpow] at this
    exact absurd this (by decide)
  have hdom : domState u 2 ≠ 0 := by
    unfold domState at h2 ⊢
    rwa [hf.num_eq (by decide) (by decide)]
  have htry : tickTry u = u := if_neg fun g => hall g.2.2
  rw [htry, domAdvance_eq, htry]
  exact starts_domainsStarted hdom

end

/-- A command after which only PLLs are waited for: with none left TICK is locked, and otherwise nothing but domains that come up
changes (R290). -/
theorem took_tick {f : State → State} (hst : s.pwr.stopped = false) (hu : f s = domAdvance (tickTry u))
    (hf : Frame [K.TICK_STATE] [.tb] s u) (h1 : u.num K.TICK_STATE = 1) (hs : u.tb.synth = true) (h2 : domState s 2 ≠ 0) :
    ∃ t, took s f = .next t ∧ ((∀ w ∈ u.tb.plls, pllPowered s w = false) → TickLocked s t) ∧
      ((∃ w ∈ u.tb.plls, pllPowered s w = true) → t.num K.TICK_STATE = 1 ∧ t.tb.synth = true ∧ t.tb.plls = u.tb.plls ∧
        Frame startKeys startParts s t) := by
  obtain ⟨t, ht, g⟩ := took_next f hst
  rw [hu] at g
  refine ⟨t, ht, fun hp => (tickTry_locks hf h1 hs h2 hp).starts (.of_frame (g ..)), fun hp => ?_⟩
  have hw := (tickTry_waits hf h2 hp).trans (.of_frame (g ..))
  refine ⟨?_, by rw [hw.tb]; exact hs, by rw [hw.tb], ?_⟩
  · rw [hw.frame.num_eq (module_not_mem_upKeys (by decide) (by decide)) (by decide), h1]
  · exact (hf.mono (fun _ hk => mem_startKeys (by rw [List.mem_singleton.1 hk]; simp)) (by decide)).trans
      (hw.frame.mono upKeys_subset_startKeys fun _ p => p)

end

/-! ### The commands of a lock -/

/-- The synthesiser has locked: its part of the lock is done (R290). -/
def synthOn (s : State) : State := (s.setTb { s.tb with synth := true }).setNum K.TICK_STATE 1

/-- A tile's PLL has locked. -/
def pllOut (s : State) (w : Nat) : State := s.setTb { s.tb with plls := s.tb.plls.filter (· != w) }

section
variable {s : State}

theorem frame_synthOn : Frame [K.TICK_STATE] [.tb] s (synthOn s) :=
  frame_setNum (frame_setTb (.refl ..) _ (by simp)) _ (.inl (by simp))

theorem frame_pllOut (w : Nat) : Frame [K.TICK_STATE] [.tb] s (pllOut s w) := frame_setTb (.refl ..) _ (by simp)

theorem synthLock_on (h2 : domState s 2 ≠ 0) (hs : s.num K.TICK_STATE < 2) : synthLock s = tickTry (synthOn s) :=
  if_neg (by omega)

theorem pllLock_waiting {w : Nat} (h1 : s.num K.TICK_STATE = 1) (hs : s.tb.synth = true) (hw : w ∈ s.tb.plls) :
    pllLock s w = tickTry (pllOut s w) := if_pos ⟨h1, hs, by simpa using hw⟩

theorem mem_pllOut {v w : Nat} : v ∈ (pllOut s w).tb.plls ↔ v ∈ s.tb.plls ∧ v ≠ w := by simp [pllOut]

end

/-! ### Writes of TICK_MULT -/

section
variable {s : State} {q : Asker} {fr : Bool} {off m : Nat} {d : Bytes}

theorem row_tickMult : rowOf 0x2200 0x20 =
    ⟨0x20, 0x20, .u64, .rw, 4810363371520, true, 2 ^ 64 - 1, 0, .nat 601295421440 4810363371520, 0⟩ := by decide

theorem commit_tickMult (hm : m < 2 ^ 64) : commit s q fr 0x2200 0x20 off (leBytes 8 m) = tickWrite s m := by
  have hv : leNat (leBytes 8 m) &&& (2 ^ 64 - 1) = m := by
    rw [leNat_leBytes, show 256 ^ 8 = 2 ^ 64 from rfl, Nat.mod_eq_of_lt hm]
    exact and_mask hm
  simp only [commit, row_tickMult, hv]
  simp [Ty.isBlob, commitUnit, commitModule, objKey, baseIndex, K.LINE_CFG0]

/-- A write of another multiplier, held (R28). -/
def multHeld (s : State) (m : Nat) : State := (s.setNum K.TICK_MULT m).setNum K.TICK_NOM (tickNom m)

/-- A relock has been started, which every powered tile's PLL has to join (R290). -/
def relocking (s : State) : State :=
  let u := (s.setNum K.TICK_STATE 1).inc K.TICK_RELOCKS
  (u.setTb { u.tb with synth := false, plls := pllTiles u }).setFlag K.READY 2 false

theorem tickWrite_same (h : m = s.num K.TICK_MULT) : tickWrite s m = s := if_pos h

theorem num_multHeld (k : Nat) : (multHeld s m).num k =
    if k = K.TICK_NOM then tickNom m else if k = K.TICK_MULT then m else s.num k := by
  simp [multHeld]

theorem domState_multHeld : domState (multHeld s m) 2 = domState s 2 := by
  unfold domState
  rw [num_multHeld, if_neg (by decide), if_neg (by decide)]

theorem tickWrite_off (h : m ≠ s.num K.TICK_MULT) (h2 : domState s 2 = 0) : tickWrite s m = multHeld s m :=
  (if_neg h).trans (if_pos (domState_multHeld.trans h2))

theorem tickWrite_on (h : m ≠ s.num K.TICK_MULT) (h2 : domState s 2 ≠ 0) : tickWrite s m = relocking (multHeld s m) :=
  (if_neg h).trans (if_neg (domState_multHeld.trans_ne h2))

theorem frame_multHeld : Frame [K.TICK_MULT, K.TICK_NOM] [] s (multHeld s m) :=
  frame_setNum (frame_setNum (.refl ..) _ (.inl (by simp))) _ (.inl (by simp))

theorem frame_relocking : Frame [K.TICK_STATE, K.TICK_RELOCKS, K.READY] [.tb] s (relocking s) :=
  frame_setFlag (frame_setTb (frame_inc (frame_setNum (.refl ..) _ (.inl (by simp))) (.inl (by simp))) _ (by simp)) _ _
    (.inl (by simp))

theorem tb_relocking : (relocking s).tb = { s.tb with synth := false, plls := pllTiles s } := by
  have hp : pllTiles ((s.setNum K.TICK_STATE 1).inc K.TICK_RELOCKS) = pllTiles s :=
    pllTiles_congr (pllPowered_frame (ks := [K.TICK_STATE, K.TICK_RELOCKS]) (ps := [])
      (frame_inc (frame_setNum (.refl ..) _ (.inl (by simp))) (.inl (by simp))) (by simp) (by decide))
  simp only [relocking, tb_setFlag, tb_setTb, tb_inc, tb_setNum, hp]

theorem num_relocking (k : Nat) : (relocking s).num k = if k = K.READY then putBit (s.num K.READY) 2 false
    else if k = K.TICK_RELOCKS then inc32 (s.num K.TICK_RELOCKS) else if k = K.TICK_STATE then 1 else s.num k := by
  simp [relocking]

/-- A write to TICK_MULT that is accepted leaves what its commit does (R28, R289). -/
theorem took_tickMult {u : State} {v : Via} {ks : List Nat} {ps : List Part} (hm : m < 2 ^ 64) (h : AcceptedKey s v K.TICK_MULT m)
    (hu : tickWrite s m = u) (hf : Frame ks ps s u) (hp : Part.pwr ∉ ps) :
    ∃ t, exec (.tickMult v m) s = .next t ∧ Frame [] answered (sigTouched u) t ∧
      Frame (ks ++ [K.SIG_CURRENT]) (ps ++ answered) s t :=
  took_commit (f := fun s => writeKey s v K.TICK_MULT m) (i := 0x2200) (sub := 0x20) (d := leBytes 8 m) rfl h (by decide)
    (by rw [row_tickMult]; rfl) ((commit_tickMult hm).trans hu) hf hp

end

/-! ### Writes of the deskew -/

section
variable {s : State} {q : Asker} {fr : Bool} {off c k : Nat} {d : Bytes} (hk : k ∈ deskewValues) (hc : c < 96)
include hk hc

theorem row_deskew : ∃ lo hi sig, rowOf (atCh k c / 256) (atCh k c % 256) =
    ⟨k % 256, k % 256, .i32, .lck, 0, sig, 2 ^ 32 - 1, 0, .sint lo hi 1, 0⟩ := by
  have hbase : baseIndex (k / 256) = k / 256 := by revert k; decide
  rw [rowOf_base (atCh_index (deskewValues_key hk).1 hc).1 hbase, atCh_mod]
  simp only [deskewValues, List.mem_cons, List.not_mem_nil, or_false] at hk
  rcases hk with rfl | rfl | rfl <;> exact ⟨_, _, _, rfl⟩

theorem commit_deskew : commit s q fr (atCh k c / 256) (atCh k c % 256) off d =
    deskewApply (s.setNum (atCh k c) (leNat d % 2 ^ 32)) c := by
  obtain ⟨hb, hu⟩ := atCh_index (deskewValues_key hk).1 hc
  obtain ⟨lo, hi, sig, hr⟩ := row_deskew hk hc
  have hobj : objKey (atCh k c / 256) (atCh k c % 256) = atCh k c := by unfold objKey; omega
  have hunit : objKey (k / 256) (atCh k c % 256) = k := by rw [atCh_mod]; unfold objKey; omega
  simp only [commit, hr, hb, hu, hobj, hunit, Nat.and_two_pow_sub_one_eq_mod]
  simp only [deskewValues, List.mem_cons, List.not_mem_nil, or_false] at hk
  rcases hk with rfl | rfl | rfl <;> simp [Ty.isBlob, commitUnit]

/-- A deskew write that is accepted leaves its value stored and its channel's deskew converted (R316, R317). -/
theorem took_deskew {f : State → State} {v : Via} {value : Int} (hf : f s = writeKey s v (atCh k c) (raw 32 value))
    (h : AcceptedKey s v (atCh k c) (raw 32 value)) :
    ∃ t, took s f = .next t ∧ t.num (atCh k c) = raw 32 value ∧ DeskewConverted t c ∧
      Frame (atCh k c :: K.SIG_CURRENT :: chKeys deskewKeys [c]) answered s t := by
  obtain ⟨hkey, -⟩ := deskewValues_key hk
  obtain ⟨lo, hi, sig, hr⟩ := row_deskew hk hc
  have hne {j : Nat} (h : ChannelKey j) : atCh j c ≠ K.SIG_CURRENT := (module_ne_channel (by decide) h).symm
  have hobj : objKey (atCh k c / 256) (atCh k c % 256) = atCh k c := by unfold objKey; omega
  have hv : leNat (bytesOf (atCh k c) (raw 32 value)) % 2 ^ 32 = raw 32 value := by
    have hlt : raw 32 value < 2 ^ 32 := by unfold raw; omega
    rw [bytesOf, hr, leNat_leBytes, show 256 ^ Ty.i32.size = 2 ^ 32 from rfl, Nat.mod_mod, Nat.mod_eq_of_lt hlt]
  have hu : commit s (askerVia s v) (viaFrame v) (atCh k c / 256) (atCh k c % 256) 0 (bytesOf (atCh k c) (raw 32 value)) =
      deskewApply (s.setNum (atCh k c) (raw 32 value)) c := by rw [commit_deskew hk hc, hv]
  have hframe : Frame (atCh k c :: chKeys deskewKeys [c]) [] s (deskewApply (s.setNum (atCh k c) (raw 32 value)) c) :=
    (frame_setNum (.refl ..) _ (.inl (by simp))).trans ((frame_deskewApply _ c).mono (fun _ => List.mem_cons_of_mem _) (by simp))
  obtain ⟨t, ht, g, hall⟩ := took_commit hf h (by rw [hobj]; exact (module_ne_channel (by decide) hkey).symm)
    (by rw [hr]; rfl) hu hframe (by simp)
  refine ⟨t, ht, ?_, ?_, hall.mono (fun j hj => ?_) fun _ p => p⟩
  · rw [num_touched g, if_neg (hne hkey), (frame_deskewApply _ c).num_eq (atCh_not_mem_deskewKeys _ hk) (by simp), num_setNum,
      if_pos rfl]
  · refine (deskewConverted_deskewApply (s.setNum (atCh k c) (raw 32 value)) c).congr ?_ fun j hj => ?_
    · rw [num_touched g, if_neg (by decide)]
    · rw [num_touched g, if_neg (hne (channelKey_deskewUses hj))]
  · simp only [List.mem_append, List.mem_cons, List.not_mem_nil, or_false] at hj ⊢
    tauto

end

/-- Settles O42: a lock comes before the domains that it lets start, which touch neither the tick nor a deskew; the writes are
their commits. -/
theorem tickAndDeskew : Obligations.TickAndDeskew := by
  refine ⟨fun s v m hm h => ⟨fun heq => ?_, fun hne h2 => ?_, fun hne h2 => ?_⟩,
    fun s hs => ⟨fun h2 hlt => ?_, fun w hw h1 hsyn hmem h2 => ?_, fun h3 hq h2 => ?_, fun h2 => ?_⟩,
    fun s v c which value hc hw h => ?_⟩
  · obtain ⟨t, ht, -, hf⟩ := took_tickMult hm h (tickWrite_same heq) (.refl [] [] s) (by simp)
    exact ⟨t, ht, hf⟩
  · obtain ⟨t, ht, g, hf⟩ := took_tickMult hm h (tickWrite_off hne h2) frame_multHeld (by simp)
    exact ⟨t, ht, by simp [num_touched g, num_multHeld], by simp [num_touched g, num_multHeld], hf⟩
  · obtain ⟨t, ht, g, hf⟩ := took_tickMult hm h (tickWrite_on hne h2)
      ((frame_multHeld.mono (ks' := [K.TICK_MULT, K.TICK_NOM, K.TICK_STATE, K.TICK_RELOCKS, K.READY]) (ps' := [.tb]) (by simp)
        (by simp)).trans (frame_relocking.mono (by simp) (by simp))) (by simp)
    have htb : t.tb = (relocking (multHeld s m)).tb := g.tb (by decide)
    have hpll : pllTiles (multHeld s m) = pllTiles s :=
      pllTiles_congr (pllPowered_frame (frame_multHeld (s := s) (m := m)) (by simp) (by decide))
    refine ⟨t, ht, ?_, ?_, ?_, ?_, ?_, ?_, hf⟩
    · simp [num_touched g, num_relocking, num_multHeld]
    · simp [num_touched g, num_relocking, num_multHeld]
    · simp [num_touched g, num_relocking]
    · simp [num_touched g, num_relocking, num_multHeld]
    · simp [State.flag, num_touched g, num_relocking, putBit_get]
    · rw [htb, tb_relocking, hpll]; rfl
  · obtain ⟨t, ht, hlock, hwait⟩ := took_tick (f := fun s => domAdvance (synthLock s)) hs (by rw [synthLock_on h2 hlt])
      frame_synthOn (by simp [synthOn]) rfl h2
    exact ⟨fun hp => ⟨t, ht, hlock hp⟩, fun hp => ⟨t, ht, hwait hp⟩⟩
  · obtain ⟨t, ht, hlock, hwait⟩ := took_tick (f := fun s => onTile s w fun s => domAdvance (pllLock s w)) hs
      (by rw [onTile, if_pos hw, pllLock_waiting h1 hsyn hmem]) (frame_pllOut w) h1 hsyn h2
    refine ⟨fun hp => ⟨t, ht, hlock fun x hx => ?_⟩, fun ⟨x, hx, hne, hpow⟩ => ⟨t, ht, ?_⟩⟩
    · obtain ⟨hx, hne⟩ := mem_pllOut.1 hx
      exact hp x hx hne
    · obtain ⟨ht1, -, ht3, hf⟩ := hwait ⟨x, mem_pllOut.2 ⟨hx, hne⟩, hpow⟩
      exact ⟨ht1, ht3, hf⟩
  · have hlock : holdoverRelock s = tickLocked s := if_pos ⟨h3, hq⟩
    obtain ⟨t, ht, g⟩ := took_next (fun s => domAdvance (holdoverRelock s)) hs
    rw [hlock] at g
    exact ⟨t, ht, (tickLocked_domAdvance h2).starts (.of_frame (g ..))⟩
  · have hhold : tickHoldover s = clearReady (((s.setNum K.TICK_STATE 3).inc K.TICK_UNLOCKS).raise 0x77) [2] := if_pos h2
    obtain ⟨t, ht, g⟩ := took_next (fun s => tickHoldover s) hs
    rw [hhold, clearReady_singleton] at g
    have hnum (k : Nat) := (g [] []).num_eq (k := k) (by simp) (by simp)
    have hflt := (g [] []).flt (by simp)
    refine ⟨t, ht, by simp [hnum], by simp [hnum], by simp [State.flag, hnum, putBit_get], by simp [hflt], ?_⟩
    refine Frame.trans ?_ (g ..)
    exact frame_setFlag (frame_raise (frame_inc (frame_setNum (.refl ..) _ (.inl (by simp))) (.inl (by simp))) _ (by simp)) _ _
      (.inl (by simp))
  · have hk : K.DESKEW_DRV + which ∈ deskewValues := by interval_cases which <;> decide
    exact took_deskew hk hc
      (f := fun s => onCh s c fun s => writeKey s v (atCh (K.DESKEW_DRV + which % 3) c) (raw 32 value))
      (by rw [onCh, if_pos hc, Nat.mod_eq_of_lt hw]) h

end Sys2Proof.Machine

/-! PROOFS. Events at the pins (O44): checkers that lock and lose lock (R326, R327), attention events and the TMUs that they reach
(R347, R359), a driver's current limit (R549) and the failure of a tile (R312, R563). -/

namespace Sys2Proof.Machine

/-! ### What a capture edge changes -/

/-- From `a` to `s` the unit of channel `c` alone has worked: its own objects, its measurement and free values. -/
abbrev TmuFrame (c : Nat) (a s : State) : Prop := Frame (chKeys tmuKeys [c]) [.tb, .drawn] a s

section
variable {c : Nat} {a s : State} (h : TmuFrame c a s)
include h

theorem tmuFrame_num {k : Nat} (v : Nat) (hk : k ∈ tmuKeys) : TmuFrame c a (s.setNum (atCh k c) v) :=
  frame_setNum h v (.inl (mem_chKeys hk (List.mem_singleton.2 rfl)))

theorem tmuFrame_nums {l : List (Nat × Nat)} (hl : ∀ p ∈ l, p.1 ∈ tmuKeys) :
    TmuFrame c a (s.setNums (l.map fun p => (atCh p.1 c, p.2))) :=
  frame_setNums h _ fun q hq => .inl (by
    obtain ⟨p, hp, rfl⟩ := List.mem_map.1 hq
    exact mem_chKeys (hl p hp) (List.mem_singleton.2 rfl))

theorem tmuFrame_blob {k : Nat} (v : Bytes) (hk : k ∈ tmuKeys) : TmuFrame c a (s.setBlob (atCh k c) v) :=
  frame_setBlob h v (mem_chKeys hk (List.mem_singleton.2 rfl))

theorem tmuFrame_tmu (x : Tmu) : TmuFrame c a (s.setTmu c x) := frame_setTmu h _ _ (by simp)

theorem tmuFrame_enter (m : Int) (b : Bool) : TmuFrame c a (tmuEnter s c m b) := by
  unfold tmuEnter
  refine tmuFrame_num (tmuFrame_tmu ?_ _) _ (by decide)
  split
  · exact frame_fresh h 3 (by simp)
  · exact h

theorem tmuFrame_expire : TmuFrame c a (tmuExpire s c) := by
  have hx := tmuFrame_tmu h tmuInit
  unfold tmuExpire
  refine (tmuFrame_num hx _ (by decide)).ite ?_
  exact tmuFrame_num (tmuFrame_num (tmuFrame_num hx _ (by decide)) _ (by decide)) _ (by decide)

theorem tmuFrame_rearmed (o : Option Int) (t : Int) :
    TmuFrame c a (match o with | some r => if 0 ≤ span r t then tmuEnter s c r true else s | none => s) := by
  cases o with
  | none => exact h
  | some r => exact (tmuFrame_enter h r true).ite h

theorem tmuFrame_catchUp (t : Int) : TmuFrame c a (tmuCatchUp s c t) := by
  have hr := tmuFrame_rearmed h (tmuRearmAt s c) t
  unfold tmuCatchUp
  dsimp only
  split
  · exact (tmuFrame_expire hr).ite hr
  · exact hr

theorem tmuFrame_accumulate (r : Int) : TmuFrame c a (tmuAccumulate s c r) := by
  have hf : TmuFrame c a (s.setFlag (atCh K.RES_FLAGS c) 7 true) := tmuFrame_num h _ (by decide)
  unfold tmuAccumulate
  exact tmuFrame_nums (l := [(K.ACC_N, _), (K.ACC_SUM, _), (K.ACC_MIN, _), (K.ACC_MAX, _)]) (h.ite hf) (by simp [tmuKeys])

theorem tmuFrame_complete (x y e : Int) (n : Nat) : TmuFrame c a (tmuComplete s c x y e n) := by
  unfold tmuComplete
  extract_lets d coin r x fl s1 s2 s3 s4
  have h1 : TmuFrame c a s1 := tmuFrame_num h _ (by decide)
  have h2 : TmuFrame c a s2 := tmuFrame_nums
    (l := [(K.RESULT, _), (K.RES_COUNT, _), (K.START_TS, _), (K.END_TS, _), (K.TMU_STATE, _)]) h1 (by simp [tmuKeys])
  have h3 : TmuFrame c a s3 := (tmuFrame_num h2 _ (by decide)).ite h2
  exact tmuFrame_tmu (tmuFrame_accumulate (tmuFrame_num h3 _ (by decide)) _) _

theorem tmuFrame_start (t : Int) (b : Bool) : TmuFrame c a (tmuStart s c t b) :=
  tmuFrame_num (tmuFrame_tmu h _) _ (by decide)

theorem tmuFrame_orphan : TmuFrame c a (s.inc (atCh K.ORPHAN_STOP c)) := tmuFrame_num h _ (by decide)

theorem tmuFrame_stop (x t : Int) : TmuFrame c a (tmuStop s c x t) := (tmuFrame_complete h ..).ite (tmuFrame_orphan h)

theorem tmuFrame_interval (t : Int) (st sp : Bool) : TmuFrame c a (tmuInterval s c t st sp) := by
  have hstart := tmuFrame_start h t false
  unfold tmuInterval
  dsimp only
  refine Frame.ite (Frame.ite ?_ (Frame.ite ?_ h)) ?_
  · cases (s.tmu c).stop with
    | none => exact hstart
    | some b => exact tmuFrame_complete h t b t 1
  · cases (s.tmu c).start with
    | none => exact tmuFrame_num (tmuFrame_tmu h _) _ (by decide)
    | some b => exact tmuFrame_complete h b t t 1
  · cases (s.tmu c).start with
    | none => exact hstart.ite ((tmuFrame_orphan h).ite h)
    | some b => exact (tmuFrame_stop h b t).ite h

theorem tmuFrame_counted (t : Int) : TmuFrame c a (tmuCounted s c t) := by
  unfold tmuCounted
  dsimp only
  cases (s.tmu c).start with
  | none => exact tmuFrame_start h t false
  | some b => exact (tmuFrame_complete h ..).ite (tmuFrame_tmu h _)

theorem tmuFrame_prescaled (t : Int) : TmuFrame c a (tmuPrescaled s c t) := by
  have hx := tmuFrame_tmu h { s.tmu c with presc := ((s.tmu c).presc + 1) % 8 }
  unfold tmuPrescaled
  exact ((tmuFrame_counted hx t).ite hx).ite (tmuFrame_counted h t)

theorem tmuFrame_width (e : Nat) (t : Int) : TmuFrame c a (tmuWidth s c e t) := by
  unfold tmuWidth
  dsimp only
  cases (s.tmu c).start with
  | none => exact (tmuFrame_start h ..).ite ((tmuFrame_orphan h).ite h)
  | some b => exact (tmuFrame_stop h b t).ite h

theorem tmuFrame_collect (t : Int) (b : Bool) (x : Nat) : TmuFrame c a (tmuCollect s c t b x) := by
  have hdead := tmuFrame_tmu h { s.tmu c with deadTo := some (t + 57344) }
  unfold tmuCollect
  dsimp only
  refine Frame.ite (tmuFrame_num h _ (by decide)) (Frame.ite ?_ (Frame.ite ?_ ?_))
  · exact tmuFrame_num (tmuFrame_blob hdead _ (by decide)) _ (by decide)
  · exact tmuFrame_num hdead _ (by decide)
  · exact tmuFrame_blob (Frame.ite (tmuFrame_num hdead _ (by decide)) hdead) _ (by decide)

theorem tmuFrame_take (e : Nat) (t : Int) (x : Nat) : TmuFrame c a (tmuTake s c e t x) := by
  unfold tmuTake
  dsimp only
  refine (tmuFrame_interval h ..).ite ((tmuFrame_width h ..).ite (h.ite ?_))
  exact (tmuFrame_counted h t).ite ((tmuFrame_prescaled h t).ite ((tmuFrame_collect h ..).ite h))

theorem tmuFrame_capture (e : Nat) (t : Int) : TmuFrame c a (tmuCapture e t s c) := by
  have hu := tmuFrame_catchUp h (tmuStamp s c t)
  unfold tmuCapture
  exact h.ite ((tmuFrame_take hu ..).ite hu)

end

/-- A capture edge changes nothing but the units it reaches. -/
theorem frame_tmuCaptureAll (e : Nat) (t : Int) (l : List Nat) (s : State) :
    Frame (chKeys tmuKeys l) [.tb, .drawn] s (tmuCaptureAll e t l s) := by
  refine (Frame.refl ..).foldl _ fun u c hc g => g.trans ((tmuFrame_capture (.refl ..) e t).mono (fun k hk => ?_) fun _ p => p)
  obtain ⟨d, hd, hk⟩ := List.mem_flatMap.1 hk
  exact List.mem_flatMap.2 ⟨c, hc, List.mem_singleton.1 hd ▸ hk⟩

/-! ### Attention events -/

theorem putBit_true_ne_zero (v i : Nat) : putBit v i true ≠ 0 := fun h => by
  have := putBit_get v i true
  rw [h, bit, Nat.zero_testBit] at this
  exact absurd this (by decide)

/-- From `s` to `t` the selected edges `l` of channel `c` have been recorded and counted, and the first one raised its source
where ATTN_SEEN was 0 (R359). -/
structure Attended (c : Nat) (l : List Nat) (s t : State) : Prop where
  seen : t.num (atCh K.ATTN_SEEN c) = l.foldl (fun m e => putBit m e true) (s.num (atCh K.ATTN_SEEN c))
  count : t.num (atCh K.ATTN_COUNT c) =
    if l = [] then s.num (atCh K.ATTN_COUNT c) else (s.num (atCh K.ATTN_COUNT c) + l.length) % 2 ^ 32
  arrived : t.flt.arrived = s.flt.arrived ++ if s.num (atCh K.ATTN_SEEN c) = 0 ∧ l ≠ [] then [(c, false)] else []
  frame : Frame [atCh K.ATTN_SEEN c, atCh K.ATTN_COUNT c] [.arrived] s t

section
variable {c e : Nat} {s t u : State}

theorem Attended.nil (c : Nat) (s : State) : Attended c [] s s := ⟨rfl, by simp, by simp, .refl ..⟩

theorem attnRecord_unselected (h : s.flag (atCh K.ATTN_EN c) e = false) : attnRecord c s e = s := by simp [attnRecord, h]

theorem attnRecord_selected (h : s.flag (atCh K.ATTN_EN c) e = true) : attnRecord c s e =
    let u := (s.setFlag (atCh K.ATTN_SEEN c) e true).inc (atCh K.ATTN_COUNT c)
    if s.num (atCh K.ATTN_SEEN c) = 0 then u.raise c else u := by simp [attnRecord, h]

theorem attended_selected (h : s.flag (atCh K.ATTN_EN c) e = true) : Attended c [e] s (attnRecord c s e) := by
  have hne : atCh K.ATTN_SEEN c ≠ atCh K.ATTN_COUNT c := fun e => absurd (atCh_inj (by decide) (by decide) e).1 (by decide)
  have hf : Frame [atCh K.ATTN_SEEN c, atCh K.ATTN_COUNT c] [.arrived] s
      ((s.setFlag (atCh K.ATTN_SEEN c) e true).inc (atCh K.ATTN_COUNT c)) :=
    frame_inc (frame_setFlag (.refl ..) _ _ (.inl (by simp))) (.inl (by simp))
  rw [attnRecord_selected h]
  by_cases h0 : s.num (atCh K.ATTN_SEEN c) = 0
  · simp only [h0, if_true]
    exact ⟨by simp [hne, h0], by simp [hne.symm, inc32], by simp [h0], frame_raise hf c (.inr (by simp))⟩
  · simp only [h0, if_false]
    exact ⟨by simp [hne], by simp [hne.symm, inc32], by simp [h0], hf⟩

/-- One selected edge, and then others. -/
theorem Attended.cons {l : List Nat} (h : Attended c [e] s u) (g : Attended c l u t) : Attended c (e :: l) s t := by
  have hseen : u.num (atCh K.ATTN_SEEN c) ≠ 0 := by rw [h.seen]; exact putBit_true_ne_zero _ e
  refine ⟨by rw [g.seen, h.seen]; rfl, ?_, ?_, h.frame.trans g.frame⟩
  · rw [g.count, h.count, if_neg (List.cons_ne_nil e []), if_neg (List.cons_ne_nil e l)]
    split
    · subst_vars; rfl
    · simp only [List.length_cons, List.length_nil]
      omega
  · rw [g.arrived, h.arrived]
    simp [hseen]

theorem flag_attnEn_of_attended {l : List Nat} (h : Attended c l s t) (i : Nat) :
    t.flag (atCh K.ATTN_EN c) i = s.flag (atCh K.ATTN_EN c) i := by
  unfold State.flag
  rw [h.frame.num_eq (by unfold atCh; simp) (by simp)]

/-- Of the edges of a change, those that ATTN_EN selects are recorded (R359). -/
theorem attended_fold (l : List Nat) (s : State) :
    Attended c (l.filter (s.flag (atCh K.ATTN_EN c))) s (l.foldl (attnRecord c) s) := by
  induction l generalizing s with
  | nil => exact .nil c s
  | cons e r ih =>
    rw [List.foldl_cons]
    cases he : s.flag (atCh K.ATTN_EN c) e with
    | false =>
      rw [List.filter_cons_of_neg (by simp [he]), attnRecord_unselected he]
      exact ih s
    | true =>
      have h1 := attended_selected he
      have h2 := ih (attnRecord c s e)
      rw [List.filter_congr fun i _ => flag_attnEn_of_attended h1 i] at h2
      rw [List.filter_cons_of_pos he]
      exact h1.cons h2

/-- A channel's electronics stand where no channel's change. -/
theorem Frame.chan_eq {ks : List Nat} {ps : List Part} (h : Frame ks ps s t) (hp : Part.chans ∉ ps) (d : Nat) :
    t.chan d = s.chan d := by
  unfold State.chan
  rw [h.chans hp]

/-- The fault collector stands where not even its arrivals change. -/
theorem Frame.flt_eq {ks : List Nat} {ps : List Part} (h : Frame ks ps s t) (hf : Part.flt ∉ ps) (ha : Part.arrived ∉ ps) :
    t.flt = s.flt := (h.flt hf).trans (if_neg ha)

/-- The electronics of a valid channel whose pads are at `v` (R347). -/
theorem chan_senseVs_valid (h : pinValid s c = true) (v : Pad) : (senseVs s c v).chan c = { s.chan c with
    pad := v,
    cmpH := if aboveBand s c K.THR_HI v then true else if belowBand s c K.THR_HI v then false else (s.chan c).cmpH,
    cmpL := if aboveBand s c K.THR_LO v then true else if belowBand s c K.THR_LO v then false else (s.chan c).cmpL } := by
  obtain ⟨hH, hL⟩ : (s.chan c).validH = true ∧ (s.chan c).validL = true := by simpa [pinValid] using h
  simp [senseVs, hH, hL]

/-- The pads of a lane that produces edges move: its outputs follow, the selected edges are recorded, and the edges reach the
TMUs of its tile (R347, R359, R428). -/
theorem laneMoves_attends (h : producesEdges s c = true) (v : Pad) (p : Int) :
    ∃ u, Attended c ((outputEdges (s.chan c) ((senseVs s c v).chan c)).filter (s.flag (atCh K.ATTN_EN c))) (senseVs s c v) u ∧
      Frame (chKeys tmuKeys (lanesOf (tileOf c))) [.tb, .drawn] u (laneMoves s c v p) := by
  refine ⟨senseEdge s c v, ?_, ?_⟩
  · rw [senseEdge, if_pos h]
    exact attended_fold _ (senseVs s c v)
  · rw [laneMoves, if_pos h]
    exact (Frame.refl ..).foldl _ fun x e _ g => g.trans (frame_tmuCaptureAll ..)

end

/-! ### Pins that park -/

section
variable {s : State} {c : Nat}

theorem frame_edgeChange (s : State) (c : Nat) (p : Int) (new : Drive) :
    Frame [atCh K.PULSE_DROPS c] [.chans, .out] s (edgeChange s c p new) := by
  have hs (u : State) (x : Chan) : Frame [atCh K.PULSE_DROPS c] [.chans, .out] u (u.setChan c x) :=
    frame_setChan (.refl ..) c x (by simp)
  unfold edgeChange
  dsimp only
  split
  · exact .refl ..
  · split
    · split
      · have hi : Frame [atCh K.PULSE_DROPS c] [.chans, .out] s (s.inc (atCh K.PULSE_DROPS c)) :=
          frame_inc (.refl ..) (.inl (by simp))
        exact (hi.trans (hs ..)).ite (hi.trans (hs ..))
      · exact frame_emit (hs ..) _ (by simp)
    · exact hs ..

/-- A change of level changes nothing of the channels but one's drive and its short change. -/
theorem chan_edgeChange (s : State) (c : Nat) (p : Int) (new : Drive) :
    ∃ x y, ∀ d, (edgeChange s c p new).chan d = if d = c then { s.chan c with drive := x, short := y } else s.chan d := by
  unfold edgeChange
  dsimp only
  split
  · exact ⟨(s.chan c).drive, (s.chan c).short, fun d => by split <;> simp_all⟩
  · split
    · split
      · split
        · exact ⟨_, _, fun d => by simp; rfl⟩
        · exact ⟨_, _, fun d => by simp; rfl⟩
      · exact ⟨_, _, fun d => by simp; rfl⟩
    · exact ⟨_, _, fun d => by simp; rfl⟩

/-- A channel whose pin drives `new` outside its program: nothing of the program waits any more (R312). -/
def Chan.driven (x : Chan) (new : Drive) : Chan :=
  { x with drive := new, vec := none, short := none, fed := [], hold := none, alt := none, skipCmp := 0 }

/-- The pin changes once the change of level that waited has taken place or is suppressed (R312). -/
theorem pinTo_eq (s : State) (c : Nat) (new : Drive) : ∃ u, pinTo s c new = u.setChan c ((u.chan c).driven new) ∧
    Frame [atCh K.PULSE_DROPS c] [.chans, .out] s u ∧
    ∃ x y, ∀ d, u.chan d = if d = c then { s.chan c with drive := x, short := y } else s.chan d := by
  unfold pinTo
  extract_lets p s1 s2 x
  refine ⟨s2, rfl, ?_, ?_⟩
  · have h1 : Frame [atCh K.PULSE_DROPS c] [.chans, .out] s s1 := (Frame.refl ..).ite (frame_edgeChange ..)
    simp only [s2]
    split
    · exact (frame_emit h1 _ (by simp)).ite h1
    · exact h1
  · have h2 (d : Nat) : s2.chan d = s1.chan d := by
      simp only [s2]
      split
      · split <;> rfl
      · rfl
    have h1 : ∃ x y, ∀ d, s1.chan d = if d = c then { s.chan c with drive := x, short := y } else s.chan d := by
      by_cases hn : (s.chan c).short.isNone = true
      · exact ⟨(s.chan c).drive, (s.chan c).short, fun d => by
          simp only [s1, if_pos hn]
          split
          · exact congrArg s.chan ‹d = c›
          · rfl⟩
      · simp only [s1, if_neg hn]
        exact chan_edgeChange s c p new
    simpa only [h2] using h1

theorem frame_parkPin (s : State) (c : Nat) : Frame [atCh K.PULSE_DROPS c] [.chans, .out] s (parkPin s c) := by
  obtain ⟨u, he, hf, -⟩ := pinTo_eq s c (parkDrive s c)
  rw [parkPin, he]
  exact frame_setChan hf _ _ (by simp)

theorem chan_parkPin (s : State) (c d : Nat) :
    (parkPin s c).chan d = if d = c then (s.chan c).driven (parkDrive s c) else s.chan d := by
  obtain ⟨u, he, -, x, y, hu⟩ := pinTo_eq s c (parkDrive s c)
  rw [parkPin, he, chan_setChan, hu, hu, if_pos rfl]
  split <;> rfl

/-- What a parked pin drives depends on the settings of its channel alone (R295). -/
theorem parkDrive_congr {t : State} (h : ∀ k ∈ [K.PARK, K.ROLE, K.PRBS_CTRL], t.num (atCh k c) = s.num (atCh k c)) :
    parkDrive t c = parkDrive s c := by
  simp only [List.forall_mem_cons] at h
  obtain ⟨h1, h2, h3, -⟩ := h
  unfold parkDrive roleOf prbsPam4 State.flag
  rw [h1, h2, h3]

theorem parkDrive_parkPin (s : State) (c d : Nat) : parkDrive (parkPin s c) d = parkDrive s d :=
  parkDrive_congr fun k hk => by
    have hkey : ChannelKey k ∧ k ≠ K.PULSE_DROPS := by revert k; decide
    exact (frame_parkPin s c).num_eq
      (fun hm => hkey.2 (atCh_inj hkey.1 (by decide) (List.mem_singleton.1 hm)).1) (by simp)

/-- Of several channels each parks, and no other changes. -/
theorem chan_parkPins {l : List Nat} (hl : l.Nodup) (s : State) (d : Nat) :
    (l.foldl parkPin s).chan d = if d ∈ l then (s.chan d).driven (parkDrive s d) else s.chan d := by
  induction l generalizing s with
  | nil => rfl
  | cons c r ih =>
    obtain ⟨hc, hr⟩ := List.nodup_cons.1 hl
    rw [List.foldl_cons, ih hr, parkDrive_parkPin, chan_parkPin]
    by_cases hd : d = c
    · subst hd
      simp [hc]
    · simp [hd]

theorem frame_parkPins (l : List Nat) (s : State) :
    Frame (chKeys [K.PULSE_DROPS] l) [.chans, .out] s (l.foldl parkPin s) :=
  (Frame.refl ..).foldl _ fun u c hc g => g.trans ((frame_parkPin u c).mono
    (fun k hk => by rw [List.mem_singleton.1 hk]; exact mem_chKeys (by simp) hc) fun _ p => p)

end

/-! ### A tile fails -/

/-- A tile leaves READY with a cause, and its source is raised (R563). -/
def tileLeaves (s : State) (u cause : Nat) : State :=
  ((((setDom s (12 + u) 1).setNum (atTile K.TILE_STATE u) 1).setFlag K.READY (16 + u) false).setFlag (atTile K.TILE_CAUSE u)
    cause true).raise (0x60 + u)

section
variable {s : State} {u cause : Nat}

theorem lanesOf_nodup (u : Nat) : (lanesOf u).Nodup :=
  List.nodup_range.map fun _ _ h => Nat.add_left_cancel h

theorem tileFailure_ready (h : tileReady s u = true) (link : Bool) :
    tileFailure s u link = tileLeaves ((lanesOf u).foldl parkPin s) u (if link then 2 else 1) := by
  have hne : ¬(!tileReady s u) = true := by simp [h]
  rw [lanesOf, List.foldl_map]
  exact if_neg hne

theorem frame_tileLeaves : Frame (K.DOM_STATE :: K.READY :: tileKeys [K.TILE_STATE, K.TILE_CAUSE] [u]) [.arrived] s
    (tileLeaves s u cause) := by
  have hm {k : Nat} (hk : k ∈ [K.TILE_STATE, K.TILE_CAUSE]) :
      atTile k u ∈ K.DOM_STATE :: K.READY :: tileKeys [K.TILE_STATE, K.TILE_CAUSE] [u] :=
    List.mem_cons_of_mem _ (List.mem_cons_of_mem _ (mem_tileKeys hk (by simp)))
  unfold tileLeaves
  refine frame_raise (frame_setFlag (frame_setFlag (frame_setNum (frame_setDom (.refl ..) _ _ (by simp)) _ (.inl ?_)) _ _
    (.inl (by simp))) _ _ (.inl ?_)) _ (.inr (by simp)) <;> exact hm (by simp)

/-- An object of a tile is none of the module's. -/
theorem atTile_ne_module {j k : Nat} (hk : 0x300000 ≤ k) (hj : j < 0x300000) : atTile k u ≠ j := by
  unfold atTile
  omega

theorem tileLeaves_reads : (tileLeaves s u cause).num (atTile K.TILE_STATE u) = 1 ∧
    (tileLeaves s u cause).flag K.READY (16 + u) = false ∧ domState (tileLeaves s u cause) (12 + u) = 1 ∧
    (tileLeaves s u cause).flag (atTile K.TILE_CAUSE u) cause = true ∧
    (tileLeaves s u cause).flt.arrived = s.flt.arrived ++ [(0x60 + u, false)] := by
  have hsc : atTile K.TILE_STATE u ≠ atTile K.TILE_CAUSE u := fun e => absurd (Nat.add_right_cancel e) (by decide)
  have hs {j : Nat} (hj : j < 0x300000) : atTile K.TILE_STATE u ≠ j := atTile_ne_module (by decide) hj
  have hc {j : Nat} (hj : j < 0x300000) : atTile K.TILE_CAUSE u ≠ j := atTile_ne_module (by decide) hj
  have hdom : (tileLeaves s u cause).num K.DOM_STATE = (setDom s (12 + u) 1).num K.DOM_STATE := by
    simp [tileLeaves, (hs (j := K.DOM_STATE) (by decide)).symm, (hc (j := K.DOM_STATE) (by decide)).symm]
  refine ⟨?_, ?_, ?_, ?_, rfl⟩
  · simp [tileLeaves, hsc, hs (j := K.READY) (by decide)]
  · simp [tileLeaves, State.flag, (hc (j := K.READY) (by decide)).symm, putBit_get]
  · have := domState_setDom s (12 + u) (12 + u) (v := 1) (by decide)
    rw [if_pos rfl] at this
    unfold domState at this ⊢
    rwa [hdom]
  · simp [tileLeaves, State.flag, putBit_get]

end

/-! ### The checker -/

section
variable {s : State} {c : Nat}

theorem checkerLock_locks (h4 : s.num K.SEQ_STATE = 4) (hr : liveRole s c = 6) (h1 : (s.chan c).chk = 1)
    (hrun : s.num (atCh K.LOCK_RUN c) ≤ (s.chan c).chkRun) :
    checkerLock s c = s.setChan c { s.chan c with chk := 2, blkN := 0, blkFails := 0 } := if_pos ⟨h4, hr, h1, hrun⟩

theorem checkerRelock_acquires (h4 : s.num K.SEQ_STATE = 4) (hr : liveRole s c = 6) (h2 : (s.chan c).chk = 2)
    (hf : s.num (atCh K.LOSS_ERRS c) ≤ (s.chan c).blkFails) : checkerRelock s c =
    (s.setChan c { s.chan c with chk := 1, chkRun := 0, blkN := 0, blkFails := 0 }).inc (atCh K.RELOCKS c) :=
  if_pos ⟨h4, hr, h2, hf⟩

/-- A command on a channel takes effect. -/
theorem took_onCh (f : State → State) (hs : s.pwr.stopped = false) (hc : c < 96) :
    ∃ t, took s (fun s => onCh s c f) = .next t ∧ ∀ ks ps, Frame ks ps (f s) t := by
  obtain ⟨t, ht, g⟩ := took_next (fun s => onCh s c f) hs
  rw [onCh, if_pos hc] at g
  exact ⟨t, ht, g⟩

end

/-- An attention event of a channel that produces edges, its record and the TMUs that it reaches (R347, R359, R428). -/
theorem took_attention {s : State} {c : Nat} (hs : s.pwr.stopped = false) (hc : c < 96) (h : producesEdges s c = true)
    (v : Pad) : ∃ t u, exec (.attentionEvent c v) s = .next t ∧
      Attended c ((outputEdges (s.chan c) ((senseVs s c v).chan c)).filter (s.flag (atCh K.ATTN_EN c))) (senseVs s c v) u ∧
      Frame (chKeys tmuKeys (lanesOf (tileOf c))) [.tb, .drawn] u t := by
  have hready : tileReady s (tileOf c) = true := by
    simp only [producesEdges, Bool.and_eq_true] at h
    exact h.1.1.1.1.1
  obtain ⟨t, ht, g⟩ := took_onCh (fun s => attentionEvent s c v) hs hc
  obtain ⟨u, hu, hf⟩ := laneMoves_attends h v (now16 s)
  have hmove : attentionEvent s c v = laneMoves s c v (now16 s) := if_pos hready
  rw [hmove] at g
  exact ⟨t, u, ht, hu, hf.trans (g ..)⟩

/-- A ready tile that fails parks its pins and leaves READY (R312, R563). -/
theorem took_tileFailure {s : State} {u : Nat} (hs : s.pwr.stopped = false) (hu : u < 12) (h : tileReady s u = true)
    (link : Bool) : ∃ t, exec (.tileFailure u link) s = .next t ∧
      ∀ ks ps, Frame ks ps (tileLeaves ((lanesOf u).foldl parkPin s) u (if link then 2 else 1)) t := by
  obtain ⟨t, ht, g⟩ := took_next (fun s => onTile s u fun s => tileFailure s u link) hs
  rw [onTile, if_pos hu, tileFailure_ready h] at g
  exact ⟨t, ht, g⟩

/-- Settles O44: each event is one update of the pins, and what follows it, the TMUs of an attention event or the tile's leaving
READY, touches no pin. -/
theorem pinEvents : Obligations.PinEvents := by
  refine ⟨fun s c hs hc => ⟨fun h4 hr => ⟨fun h1 hrun => ?_, fun h2 hl => ?_⟩, fun v hp => ?_, fun hready => ?_⟩,
    fun s u link hs hu hready => ?_⟩
  · obtain ⟨t, ht, g⟩ := took_onCh (fun s => checkerLock s c) hs hc
    rw [checkerLock_locks h4 hr h1 hrun] at g
    have hchan (d : Nat) := (g [] []).chan_eq (by simp) d
    exact ⟨t, ht, by simp [hchan], fun d hd => by simp [hchan, hd], (frame_setChan (.refl ..) _ _ (by simp)).trans (g ..)⟩
  · obtain ⟨t, ht, g⟩ := took_onCh (fun s => checkerRelock s c) hs hc
    rw [checkerRelock_acquires h4 hr h2 hl] at g
    have hchan (d : Nat) := (g [] []).chan_eq (by simp) d
    exact ⟨t, ht, by simp [hchan], fun d hd => by simp [hchan, hd],
      by simp [(g [] []).num_eq (k := atCh K.RELOCKS c) (by simp) (by simp)],
      (frame_inc (frame_setChan (.refl ..) _ _ (by simp)) (.inl (by simp))).trans (g ..)⟩
  · obtain ⟨t, u, ht, hatt, hf⟩ := took_attention hs hc hp v
    have hvalid : pinValid s c = true := by
      simp only [producesEdges, Bool.and_eq_true] at hp
      exact hp.2
    have hchan (d : Nat) : t.chan d = (senseVs s c v).chan d :=
      (hf.chan_eq (by simp) d).trans (hatt.frame.chan_eq (by simp) d)
    have hnum {k : Nat} (hk : ChannelKey k) (hm : k ∉ tmuKeys) : t.num (atCh k c) = u.num (atCh k c) :=
      hf.num_eq (atCh_not_mem_chKeys (by decide) hk (.inl hm)) (by simp)
    have hsense : Frame [] [.chans] s (senseVs s c v) := frame_setChan (.refl ..) _ _ (by simp)
    refine ⟨t, ht, ?_⟩
    dsimp only
    rw [hchan c]
    refine ⟨chan_senseVs_valid hvalid v, fun d hd => ?_, ?_, ?_, ?_, ?_⟩
    · rw [hchan, senseVs, chan_setChan, if_neg hd]
    · exact (hnum (by decide) (by decide)).trans hatt.seen
    · exact (hnum (by decide) (by decide)).trans hatt.count
    · rw [hf.flt_eq (by simp) (by simp)]
      exact hatt.arrived
    · refine (hsense.mono (by simp) (by simp)).trans ((hatt.frame.mono ?_ (by simp)).trans (hf.mono ?_ (by simp)))
      · simp
      · exact fun k hk => List.mem_cons_of_mem _ (List.mem_cons_of_mem _ hk)
  · obtain ⟨t, ht, g⟩ := took_onCh (fun s => currentLimit s c) hs hc
    have hraise : currentLimit s c = s.raise c := if_pos ⟨hc, hready⟩
    rw [hraise] at g
    exact ⟨t, ht, by rw [(g [] []).flt_eq (by simp) (by simp)]; rfl, (frame_raise (.refl ..) _ (.inr (by simp))).trans (g ..)⟩
  · obtain ⟨t, ht, g⟩ := took_tileFailure hs hu hready link
    have hpark := frame_parkPins (lanesOf u) s
    have hleave := frame_tileLeaves (s := (lanesOf u).foldl parkPin s) (u := u) (cause := if link then 2 else 1)
    have hnum (k : Nat) := (g [] []).num_eq (k := k) (by simp) (by simp)
    have hchan (d : Nat) : t.chan d = if d ∈ lanesOf u then (s.chan d).driven (parkDrive s d) else s.chan d := by
      rw [(g [] []).chan_eq (by simp), hleave.chan_eq (by simp), chan_parkPins (lanesOf_nodup u)]
    obtain ⟨h1, h2, h3, h4, h5⟩ := tileLeaves_reads (s := (lanesOf u).foldl parkPin s) (u := u)
      (cause := if link then 2 else 1)
    refine ⟨t, ht, (hnum _).trans h1, ?_, ?_, ?_, ?_, fun c hm => ?_, fun c hm => ?_, ?_⟩
    · rw [State.flag, hnum]
      exact h2
    · rw [domState, hnum]
      exact h3
    · rw [State.flag, hnum]
      exact h4
    · rw [(g [] []).flt_eq (by simp) (by simp), h5, hpark.flt_eq (by simp) (by simp)]
    · rw [hchan, if_pos hm]
      rfl
    · rw [hchan, if_neg hm]
    · refine (hpark.mono (fun k hk => ?_) (by simp)).trans ((hleave.mono (fun k hk => ?_) (by simp)).trans (g ..))
      · simp only [List.mem_cons, List.mem_append]
        exact .inr (.inr (.inr hk))
      · simp only [List.mem_cons, List.mem_append] at hk ⊢
        exact hk.imp_right fun hk => hk.imp_right .inl

end Sys2Proof.Machine

/-! PROOFS. Comparators outside a burst (O43): the bands that a channel's input is compared with (R335, R346, R347, R352), pads that
move (R347, R355, R356) and comparators that are enabled (R354, R355). -/

namespace Sys2Proof.Machine

/-! ### The bands -/

/-- The objects of the module that a channel's bands depend on (R346, R352, R567). -/
def bandModule : List Nat :=
  [K.CAP_MODE, K.R_STATE, K.R_PINS_LO, K.R_PINS_HI, K.FENCE_CH_LO, K.FENCE_CH_HI, K.FENCE_TILE, K.Y_START, K.Y_STEP, K.X_COUNT,
   K.Y_COUNT, K.R_ORDER, K.R_POINT]

/-- The objects of the channel itself that its bands depend on, by their keys at channel 0. -/
def bandChannel : List Nat := [K.SC_MODE, K.SC_TIE, K.CMP_SRC, K.HYST, K.THR_HI, K.THR_LO, K.ROLE]

/-- From `s` to `t` nothing has changed that the bands of channel `c` depend on. -/
structure SameBands (c : Nat) (s t : State) : Prop where
  module : ∀ k ∈ bandModule, t.num k = s.num k
  channel : ∀ k ∈ bandChannel, t.num (atCh k c) = s.num (atCh k c)

/-- An object that no channel's bands depend on. -/
abbrev NoBand (k : Nat) : Prop := k ∉ bandModule ∧ ∀ j ∈ bandChannel, ∀ c, k ≠ atCh j c

section
variable {s t : State} {c : Nat}

theorem SameBands.of_frame {ks : List Nat} {ps : List Part} (h : Frame ks ps s t) (hp : Part.units ∉ ps)
    (hk : ∀ k ∈ ks, NoBand k) : SameBands c s t where
  module k hm := h.num_eq (fun g => (hk k g).1 hm) hp
  channel k hm := h.num_eq (fun g => (hk _ g).2 k hm c rfl) hp

theorem noBand_of_module {k : Nat} (hk : k < 0x400000) (hm : k ∉ bandModule) : NoBand k :=
  ⟨hm, fun _ hj _ => module_ne_channel hk ((by decide : ∀ j ∈ bandChannel, ChannelKey j) _ hj)⟩

/-- The count of comparators enabled inside their band is read by no band. -/
theorem noBand_bandPresets (d : Nat) : NoBand (atCh K.BAND_PRESETS d) := by
  refine ⟨fun h => ?_, fun j hj c e => ?_⟩
  · have := (by decide : ∀ j ∈ bandModule, j % 0x2000 ≠ 0x405) _ h
    unfold atCh K.BAND_PRESETS at this
    omega
  · obtain ⟨rfl, -⟩ := atCh_inj (by decide) ((by decide : ∀ j ∈ bandChannel, ChannelKey j) _ hj) e
    exact absurd hj (by decide)

theorem SameBands.sensed (h : SameBands c s t) (v : Pad) : sensed t c v = sensed s c v := by
  unfold Machine.sensed padVs
  rw [h.channel K.SC_MODE (by decide), h.channel K.SC_TIE (by decide), h.channel K.CMP_SRC (by decide)]

theorem SameBands.halfBand (h : SameBands c s t) : halfBand t c = halfBand s c := by
  unfold Machine.halfBand
  rw [h.channel K.HYST (by decide)]

theorem SameBands.rasterCode (h : SameBands c s t) : rasterCode t c = rasterCode s c := by
  have hm {k : Nat} (hk : k ∈ bandModule) := h.module k hk
  unfold Machine.rasterCode rasterOn covered liveRole chFenced tileFenced roleOf thrOffset pointXY State.int32 State.flag
  rw [h.channel K.ROLE (by decide), hm (k := K.CAP_MODE) (by decide), hm (k := K.R_STATE) (by decide),
    hm (k := K.R_PINS_LO) (by decide), hm (k := K.R_PINS_HI) (by decide), hm (k := K.FENCE_CH_LO) (by decide),
    hm (k := K.FENCE_CH_HI) (by decide), hm (k := K.FENCE_TILE) (by decide), hm (k := K.Y_START) (by decide),
    hm (k := K.Y_STEP) (by decide), hm (k := K.X_COUNT) (by decide), hm (k := K.Y_COUNT) (by decide),
    hm (k := K.R_ORDER) (by decide), hm (k := K.R_POINT) (by decide)]

theorem SameBands.aboveBand (h : SameBands c s t) {k : Nat} (hk : k ∈ bandChannel) (v : Pad) :
    aboveBand t c k v = aboveBand s c k v := by
  unfold Machine.aboveBand
  rw [h.sensed, h.halfBand, h.rasterCode, h.channel k hk]

theorem SameBands.belowBand (h : SameBands c s t) {k : Nat} (hk : k ∈ bandChannel) (v : Pad) :
    belowBand t c k v = belowBand s c k v := by
  unfold Machine.belowBand
  rw [h.sensed, h.halfBand, h.rasterCode, h.channel k hk]

/-- An input below the band is not above it (R347). -/
theorem aboveBand_of_belowBand {k : Nat} {v : Pad} (h : belowBand s c k v = true) : aboveBand s c k v = false := by
  have hwidth : 0 ≤ halfBand s c := by unfold halfBand; positivity
  unfold belowBand at h
  unfold aboveBand
  simp only [decide_eq_true_eq, decide_eq_false_iff_not] at h ⊢
  omega

/-! ### Comparators that are enabled -/

/-- A comparator that is enabled is valid at once: its input lies outside its band, or the band has no width (R355). -/
def validAtOnce (s : State) (c k : Nat) : Bool :=
  aboveBand s c k (s.chan c).pad || belowBand s c k (s.chan c).pad || s.num (atCh K.HYST c) == 0

/-- A channel whose comparators have been enabled (R355). -/
def chanEnabled (s : State) (c : Nat) : Chan := { s.chan c with
  cmpH := aboveBand s c K.THR_HI (s.chan c).pad, validH := validAtOnce s c K.THR_HI,
  cmpL := aboveBand s c K.THR_LO (s.chan c).pad, validL := validAtOnce s c K.THR_LO, powered := true }

theorem frame_enableOne (high : Bool) : Frame [atCh K.BAND_PRESETS c] [.chans] s (enableOne s c high) := by
  unfold enableOne
  exact frame_setChan (Frame.ite (.refl ..) (frame_inc (.refl ..) (.inl (by simp)))) _ _ (by simp)

theorem frame_enableCmp : Frame [atCh K.BAND_PRESETS c] [.chans] s (enableCmp s c) :=
  (frame_enableOne true).trans (frame_enableOne false)

theorem chan_ite_inc {b : Bool} {k : Nat} (d : Nat) : (if b then s else s.inc k).chan d = s.chan d := by cases b <;> rfl

theorem chan_enableOne_high (d : Nat) : (enableOne s c true).chan d = if d = c then { s.chan c with
    cmpH := aboveBand s c K.THR_HI (s.chan c).pad, validH := validAtOnce s c K.THR_HI, powered := true } else s.chan d := by
  simp only [enableOne, validAtOnce, chan_setChan, chan_ite_inc, if_true]

theorem chan_enableOne_low (d : Nat) : (enableOne s c false).chan d = if d = c then { s.chan c with
    cmpL := aboveBand s c K.THR_LO (s.chan c).pad, validL := validAtOnce s c K.THR_LO, powered := true } else s.chan d := by
  simp only [enableOne, validAtOnce, chan_setChan, chan_ite_inc, Bool.false_eq_true, if_false]

theorem chan_enableCmp (d : Nat) : (enableCmp s c).chan d = if d = c then chanEnabled s c else s.chan d := by
  have hb : SameBands c s (enableOne s c true) := .of_frame (frame_enableOne true) (by simp) fun k hk => by
    rw [List.mem_singleton.1 hk]
    exact noBand_bandPresets c
  have hlo : K.THR_LO ∈ bandChannel := by decide
  rw [enableCmp, chan_enableOne_low]
  simp only [validAtOnce, chan_enableOne_high, if_true, hb.aboveBand hlo, hb.belowBand hlo, hb.channel K.HYST (by decide)]
  split <;> rfl

/-! ### Pads that move -/

theorem padSet_powered (h : cmpPowered s c = true) (v : Pad) : padSet s c v = senseVs s c v := if_pos h

theorem padSet_unpowered (h : cmpPowered s c = false) (v : Pad) :
    padSet s c v = s.setChan c { s.chan c with pad := v } := if_neg (by simp [h])

theorem frame_padSet (v : Pad) : Frame [] [.chans] s (padSet s c v) :=
  Frame.ite (frame_setChan (.refl ..) _ _ (by simp)) (frame_setChan (.refl ..) _ _ (by simp))

theorem chan_padSet_other {d : Nat} (h : d ≠ c) (v : Pad) : (padSet s c v).chan d = s.chan d := by
  cases hp : cmpPowered s c with
  | true => rw [padSet_powered hp, senseVs, chan_setChan, if_neg h]
  | false => rw [padSet_unpowered hp, chan_setChan, if_neg h]

/-- Only a valid pin that has power can wake its tile (R357, R367). -/
theorem wakes_of_not_valid {y : Chan} (h : (s.chan c).powered = true → pinValid s c = false) : wakes s c y = false := by
  unfold wakes
  cases aFind s.slow.wake c with
  | none => rfl
  | some w =>
    cases hp : (s.chan c).powered with
    | false => simp [hp]
    | true =>
      have hv : ((s.chan c).validH && (s.chan c).validL) = false := h hp
      simp only [Bool.and_assoc _ (s.chan c).validH, hv, Bool.and_false, Bool.false_and]

/-- In listen state the pads of a lane that can wake nothing are set. -/
theorem wakeEvent_of_not_wakes (h3 : tileState s (tileOf c) = 3) (v : Pad) (hw : ∀ y, wakes s c y = false) :
    wakeEvent s (tileOf c) [(c % 8, v)] = padSet s c v := by
  have hc : 8 * tileOf c + c % 8 = c := by unfold tileOf; omega
  simp [wakeEvent, hc, hw, h3]

/-- Where no pin is valid and powered the pads that move make no edge: the comparators alone follow (R356). -/
theorem comparatorValid_eq_padSet (h : cmpPowered s c = true → pinValid s c = false) (v : Pad) :
    comparatorValid s c v = padSet s c v := by
  have hpow (hp : (s.chan c).powered = true) : cmpPowered s c = true := by simp [cmpPowered, hp]
  unfold comparatorValid padMoves
  split
  next hr =>
    have hp : cmpPowered s c = true := by simp [cmpPowered, hr]
    have hno : producesEdges s c = false := by simp [producesEdges, h hp]
    simp only [laneMoves, senseEdge, hno, Bool.false_eq_true, if_false, padSet_powered hp]
  next =>
    split
    next h3 => exact wakeEvent_of_not_wakes h3 v fun _ => wakes_of_not_valid fun hp => h (hpow hp)
    next => rfl

end

/-- COMPARATOR_VALID on a channel whose pin is not valid, or has no power. -/
theorem took_comparatorValid {s : State} {c : Nat} (hs : s.pwr.stopped = false) (hc : c < 96)
    (h : cmpPowered s c = true → pinValid s c = false) (v : Pad) : ∃ t, exec (.comparatorValid c v) s = .next t ∧
      (∀ d, t.chan d = (padSet s c v).chan d) ∧ Frame [] [.chans] s t := by
  obtain ⟨t, ht, g⟩ := took_onCh (fun s => comparatorValid s c v) hs hc
  rw [comparatorValid_eq_padSet h] at g
  exact ⟨t, ht, (g [] []).chan_eq (by simp), (frame_padSet v).trans (g ..)⟩

/-- Settles O43: whatever state the tile is in, a pin that is not valid or has no power makes no edge, and its pads are set. -/
theorem comparatorBecomesValid : Obligations.ComparatorBecomesValid := by
  refine fun s c v hs hc => ⟨fun hp hv => ?_, fun hp => ?_⟩
  · have hinv : pinValid s c = false := by rcases hv with hv | hv <;> simp [pinValid, hv]
    obtain ⟨t, ht, hchan, hf⟩ := took_comparatorValid hs hc (fun _ => hinv) v
    have hown : t.chan c = (senseVs s c v).chan c := by rw [hchan, padSet_powered hp]
    refine ⟨t, ht, ?_, ?_, ?_, ?_, ?_, ?_, ?_, fun d hd => (hchan d).trans (chan_padSet_other hd v), hf⟩
    all_goals simp only [hown, senseVs, chan_setChan, if_true]
    · exact fun ha => by simp [ha]
    · exact fun hb => by simp [hb, aboveBand_of_belowBand hb]
    · exact fun ha hb => by simp [ha, hb]
    · exact fun ha => by simp [ha]
    · exact fun hb => by simp [hb, aboveBand_of_belowBand hb]
    · exact fun ha hb => by simp [ha, hb]
  · obtain ⟨t, ht, hchan, hf⟩ := took_comparatorValid hs hc (fun h => absurd h (by simp [hp])) v
    refine ⟨t, ht, ?_, fun d hd => (hchan d).trans (chan_padSet_other hd v), hf⟩
    rw [hchan, padSet_unpowered hp, chan_setChan, if_pos rfl]

end Sys2Proof.Machine

/-! PROOFS. The built-in test and the converter (O46): commands written to units (R8), the pad check and the bits of SC_RESULT
(R372, R375), the end of a test (R373) and the mean of the conversions (R376, R377). -/

namespace Sys2Proof.Machine

/-! ### Commands written to tiles and channels -/

/-- `k` is an object of units of fixed size, by its key at unit 0, and no KEY object, and `n` is a value that a write leaves as it
is. -/
abbrev UnitCommand (k n : Nat) : Prop :=
  baseIndex (k / 256) = k / 256 ∧ (rowOf (k / 256) (k % 256)).ty.isBlob = false ∧
  (rowOf (k / 256) (k % 256)).acc.isKey = false ∧
  leNat (leBytes (rowOf (k / 256) (k % 256)).ty.size n) &&& (rowOf (k / 256) (k % 256)).mask = n

/-- Bit `i` of object `k` once its unit's commit is done and its reply has left. -/
theorem flag_touched {w t : State} (g : Frame [] answered (sigTouched w) t) {k : Nat} (hk : k ≠ K.SIG_CURRENT) (i : Nat) :
    t.flag k i = w.flag k i := by
  rw [State.flag, num_touched g, if_neg hk, State.flag]

section
variable {s w : State} {v : Via} {k u n : Nat} {ks : List Nat} {ps : List Part} (hcmd : UnitCommand k n)
  (hs : Frame ks ps s w) (hp : Part.pwr ∉ ps)
include hcmd hs hp

/-- An accepted write of a unit's command leaves the module as the unit's commit does, SIG_CURRENT 0 and a scan running, but for
its reply (R85, R114). -/
theorem took_unitCommand {f : State → State} {key : Nat} (hkey : baseIndex (key / 256) = k / 256 ∧ unitOf (key / 256) = u)
    (hmod : key % 256 = k % 256) (hsig : key ≠ K.SIG_COMMIT) (hf : f s = writeKey s v key n) (h : AcceptedKey s v key n)
    (hc : ∀ q, commitUnit s q key k u n = some w) :
    ∃ t, took s f = .next t ∧ Frame [] answered (sigTouched w) t ∧ Frame (ks ++ [K.SIG_CURRENT]) (ps ++ answered) s t := by
  obtain ⟨hbase, hblob, hnokey, hval⟩ := hcmd
  have hrow : rowOf (key / 256) (key % 256) = rowOf (k / 256) (k % 256) := by rw [rowOf_base hkey.1 hbase, hmod]
  have hobj : objKey (key / 256) (key % 256) = key := by unfold objKey; omega
  have hunit : objKey (k / 256) (key % 256) = k := by rw [hmod]; unfold objKey; omega
  have hu : commit s (askerVia s v) (viaFrame v) (key / 256) (key % 256) 0 (bytesOf key n) = w := by
    simp only [commit, bytesOf, hrow, hobj, hkey.1, hkey.2, hunit, hblob, hval, hc, Bool.false_eq_true, if_false]
  exact took_commit hf h (by rwa [hobj]) (by rwa [hrow]) hu hs hp

/-- A command written to an object of a tile. -/
theorem took_tileCommand (hk : 0x300000 ≤ k ∧ k < 0x301000) (hu : u < 12) (h : AcceptedKey s v (atTile k u) n)
    (hc : ∀ q, commitUnit s q (atTile k u) k u n = some w) :
    ∃ t, took s (fun s => onTile s u fun s => writeKey s v (atTile k u) n) = .next t ∧
      Frame [] answered (sigTouched w) t ∧ Frame (ks ++ [K.SIG_CURRENT]) (ps ++ answered) s t :=
  took_unitCommand hcmd hs hp (atTile_index hk hu) (atTile_mod k u) (by unfold atTile K.SIG_COMMIT; omega) (if_pos hu) h hc

/-- A command written to an object of a channel. -/
theorem took_channelCommand (hk : ChannelKey k) (hu : u < 96) (h : AcceptedKey s v (atCh k u) n)
    (hc : ∀ q, commitUnit s q (atCh k u) k u n = some w) :
    ∃ t, took s (fun s => onCh s u fun s => writeKey s v (atCh k u) n) = .next t ∧
      Frame [] answered (sigTouched w) t ∧ Frame (ks ++ [K.SIG_CURRENT]) (ps ++ answered) s t :=
  took_unitCommand hcmd hs hp (atCh_index hk hu) (atCh_mod k u) (by unfold atCh K.SIG_COMMIT; omega) (if_pos hu) h hc

end

/-- A command on a tile takes effect. -/
theorem took_onTile {s : State} {u : Nat} (f : State → State) (hs : s.pwr.stopped = false) (hu : u < 12) :
    ∃ t, took s (fun s => onTile s u f) = .next t ∧ ∀ ks ps, Frame ks ps (f s) t := by
  obtain ⟨t, ht, g⟩ := took_next (fun s => onTile s u f) hs
  rw [onTile, if_pos hu] at g
  exact ⟨t, ht, g⟩

theorem atTile_eq_iff {k j u : Nat} : atTile k u = atTile j u ↔ k = j := Nat.add_right_cancel_iff

theorem atCh_eq_iff {k j c : Nat} : atCh k c = atCh j c ↔ k = j := Nat.add_right_cancel_iff

/-! ### Bits -/

theorem bit_sum_two_pow {l : List Nat} (h : l.Pairwise (· < ·)) (j : Nat) :
    bit (l.map fun i => 2 ^ i).sum j = decide (j ∈ l) := by
  rw [bit, Bool.eq_iff_iff, decide_eq_true_iff, ← Nat.mem_bitIndices, Nat.bitIndices_sum_map_two_pow h.sortedLT]

/-- Setting a higher bit leaves bit 0. -/
theorem bit_zero_putBit_succ (v i : Nat) (b : Bool) : bit (putBit v (i + 1) b) 0 = bit v 0 := by
  have heven : 2 ^ (i + 1) = 2 * 2 ^ i := Nat.pow_succ'
  unfold putBit
  split
  next => rfl
  next h =>
    rw [bit, bit, Nat.testBit_zero, Nat.testBit_zero, decide_eq_decide]
    cases b with
    | true => rw [if_pos rfl]; omega
    | false =>
      have hle : 2 ^ (i + 1) ≤ v := Nat.ge_two_pow_of_testBit (eq_true_of_ne_false h)
      rw [if_neg Bool.false_ne_true]
      omega

section
variable {α β : Type}

/-- The numbers of the elements that fail. -/
def failing (l : List α) (bad : α → Bool) : List Nat := (l.zipIdx.filter fun p => bad p.1).map Prod.snd

theorem failing_sorted (l : List α) (bad : α → Bool) : (failing l bad).Pairwise (· < ·) := by
  have hs : (failing l bad).Sublist (List.range l.length) := by
    have := (List.filter_sublist (l := l.zipIdx) (p := fun p => bad p.1)).map Prod.snd
    rwa [List.zipIdx_map_snd, ← List.range_eq_range'] at this
  exact List.pairwise_lt_range.sublist hs

theorem mem_failing {l : List α} {bad : α → Bool} {i : Nat} : i ∈ failing l bad ↔ (l[i]?).any bad = true := by
  simp [failing, List.mem_zipIdx_iff_getElem?, Option.any_eq_true, and_comm]

theorem failBits_eq_sum (l : List α) (bad : α → Bool) : failBits l 0 bad = ((failing l bad).map fun i => 2 ^ i).sum := by
  unfold failBits failing
  induction l.zipIdx with
  | nil => rfl
  | cons p r ih =>
    cases hb : bad p.1 <;> simp_all

theorem bit_failBits (l : List α) (bad : α → Bool) (i : Nat) : bit (failBits l 0 bad) i = (l[i]?).any bad := by
  rw [failBits_eq_sum, bit_sum_two_pow (failing_sorted l bad), Bool.eq_iff_iff, decide_eq_true_iff, mem_failing]

theorem failBits_lt (l : List α) (bad : α → Bool) : failBits l 0 bad < 2 ^ l.length := by
  refine Nat.lt_pow_two_of_testBit _ fun i hi => ?_
  have := bit_failBits l bad i
  rwa [List.getElem?_eq_none hi] at this

theorem failBits_append (l r : List α) (lo : Nat) (bad : α → Bool) :
    failBits (l ++ r) lo bad = failBits l lo bad + failBits r (lo + l.length) bad := by
  have hr : r.zipIdx l.length = r.zipIdx.map fun p => (p.1, l.length + p.2) := List.zipIdx_eq_map_add
  simp only [failBits, List.zipIdx_append, List.map_append, List.sum_append, Nat.zero_add, hr, List.map_map,
    Function.comp_def, Nat.add_assoc]

theorem failBits_map (l : List α) (f : α → β) (lo : Nat) (bad : β → Bool) :
    failBits (l.map f) lo bad = failBits l lo fun x => bad (f x) := by
  simp [failBits, List.zipIdx_map, Function.comp_def]

end

/-! ### The built-in test -/

/-- What a test brings of each comparator and DAC (R372). -/
structure MeasuresAll (m : SelfTest) : Prop where
  above : m.above.length = 5
  below : m.below.length = 5
  trips : m.trips.length = 5
  dacs : m.dacs.length = 12

theorem getElem?_append_add {α : Type} {l r : List α} {n : Nat} (h : l.length = n) (i : Nat) : (l ++ r)[n + i]? = r[i]? := by
  rw [List.getElem?_append_right (by omega), h, Nat.add_sub_cancel_left]

section
variable {s : State} {c : Nat} {m : SelfTest}

/-- What failed of the comparators tied above and below, of their trips and of the DACs, in the order of SC_RESULT's bits
(R375). -/
def testFails (s : State) (c : Nat) (m : SelfTest) : List Bool :=
  m.above.map not ++ (m.below ++ (m.trips.map swapBad ++ ((dacVolts s c).zip m.dacs).map fun p => dacBad p.1 p.2))

theorem length_dacVolts : (dacVolts s c).length = 12 := by
  unfold dacVolts
  dsimp only
  split <;> rfl

theorem padBusy_iff : padBusy m = true ↔ 20000 < m.moved.1 ∨ 20000 < m.moved.2 ∨ m.changed = true := by
  simp [padBusy, or_assoc]

theorem scResult_busy (h : padBusy m = true) : scResult s c m = 2 ^ 27 := if_pos h

section
variable (hm : MeasuresAll m)
include hm

theorem length_testFails : (testFails s c m).length = 27 := by
  simp [testFails, hm.above, hm.below, hm.trips, hm.dacs, length_dacVolts]

theorem testFails_above {i : Nat} (hi : i < 5) : ((testFails s c m)[i]?).getD false = !(m.above[i]?).getD false := by
  have ha : i < m.above.length := hm.above.symm ▸ hi
  rw [testFails, List.getElem?_append_left (by rwa [List.length_map])]
  simp [ha]

theorem testFails_below {i : Nat} (hi : i < 5) : ((testFails s c m)[5 + i]?).getD false = (m.below[i]?).getD false := by
  rw [testFails, getElem?_append_add ((List.length_map _).trans hm.above), List.getElem?_append_left (hm.below.symm ▸ hi)]

theorem testFails_trips {i : Nat} (hi : i < 5) :
    ((testFails s c m)[10 + i]?).getD false = swapBad ((m.trips[i]?).getD (0, 0)) := by
  have ht : i < m.trips.length := hm.trips.symm ▸ hi
  rw [testFails, show 10 + i = 5 + (5 + i) by omega, getElem?_append_add ((List.length_map _).trans hm.above),
    getElem?_append_add hm.below, List.getElem?_append_left (by rwa [List.length_map])]
  simp [ht]

theorem testFails_dacs {i : Nat} (hi : i < 12) :
    ((testFails s c m)[15 + i]?).getD false = dacBad (((dacVolts s c)[i]?).getD 0) ((m.dacs[i]?).getD 0) := by
  have hp : i < (dacVolts s c).length := length_dacVolts.symm ▸ hi
  have hr : i < m.dacs.length := hm.dacs.symm ▸ hi
  rw [testFails, show 15 + i = 5 + (5 + (5 + i)) by omega, getElem?_append_add ((List.length_map _).trans hm.above),
    getElem?_append_add hm.below, getElem?_append_add ((List.length_map _).trans hm.trips)]
  simp [hp, hr]

variable (h : padBusy m = false)
include h

theorem scResult_eq_failBits : scResult s c m = failBits (testFails s c m) 0 fun b => b := by
  unfold scResult
  rw [if_neg (by simp [h]), List.take_of_length_le hm.above.le, List.take_of_length_le hm.below.le,
    List.take_of_length_le hm.trips.le]
  simp only [testFails, failBits_append, failBits_map, List.length_map, hm.above, hm.below, hm.trips, Nat.add_assoc]

/-- A bit of SC_RESULT says whether its comparator or DAC failed. -/
theorem bit_scResult (i : Nat) : bit (scResult s c m) i = ((testFails s c m)[i]?).getD false := by
  rw [scResult_eq_failBits hm h, bit_failBits]
  cases (testFails s c m)[i]? <;> rfl

theorem scResult_lt : scResult s c m < 2 ^ 27 := by
  rw [scResult_eq_failBits hm h, ← length_testFails (s := s) (c := c) hm]
  exact failBits_lt ..

end

/-- SC_STATE at the end of a test: aborted, passed or failed (R372). -/
def testState (s : State) (c : Nat) (m : SelfTest) : Nat := if padBusy m then 4 else if scResult s c m = 0 then 2 else 3

theorem frame_selfCheckStart :
    Frame (chKeys [K.SC_STATE, K.SC_CMD, K.SC_RESULT] [c]) [.chans, .slow] s (selfCheckStart s c) :=
  frame_setChan (frame_setNums (frame_setSlow (.refl ..) _ (by simp)) _ fun p hp => .inl (by
    simp only [List.mem_cons, List.not_mem_nil, or_false] at hp
    rcases hp with rfl | rfl | rfl <;> exact mem_chKeys (by simp) (by simp))) _ _ (by simp)

theorem num_selfCheckStart : (selfCheckStart s c).num (atCh K.SC_STATE c) = 1 ∧
    (selfCheckStart s c).num (atCh K.SC_CMD c) = 1 ∧ (selfCheckStart s c).num (atCh K.SC_RESULT c) = 0 := by
  simp [selfCheckStart, setNums_cons, setNums_nil, atCh_eq_iff]

theorem chan_selfCheckStart (d : Nat) :
    (selfCheckStart s c).chan d = if d = c then { s.chan c with drive := .off } else s.chan d := chan_setChan ..

/-- The objects of a channel that the end of its test may change (R355, R373, R375). -/
def testKeys : List Nat := [K.SC_STATE, K.SC_CMD, K.SC_RESULT, K.SC_MODE, K.SC_TIE, K.BAND_PRESETS]

/-- A test has reported, SC_MODE and SC_TIE are as they were at its start, and its pin parks (R295, R373, R375). -/
def testReported (s : State) (c : Nat) (m : SelfTest) (held : Nat × Nat) : State :=
  ((s.setSlow { s.slow with saved := aDel s.slow.saved c }).setNums [(atCh K.SC_RESULT c, scResult s c m),
    (atCh K.SC_STATE c, testState s c m), (atCh K.SC_CMD c, 0), (atCh K.SC_MODE c, held.1), (atCh K.SC_TIE c, held.2)]).setChan c
    { s.chan c with drive := parkDrive s c }

section
variable (held : Nat × Nat)

theorem frame_testReported : Frame (chKeys testKeys [c]) [.chans, .slow] s (testReported s c m held) :=
  frame_setChan (frame_setNums (frame_setSlow (.refl ..) _ (by simp)) _ fun p hp => .inl (by
    simp only [List.mem_cons, List.not_mem_nil, or_false] at hp
    rcases hp with rfl | rfl | rfl | rfl | rfl <;> exact mem_chKeys (by simp [testKeys]) (by simp))) _ _ (by simp)

theorem frame_test : Frame (chKeys testKeys [c]) [.chans, .slow] s (enableCmp (testReported s c m held) c) :=
  (frame_testReported held).trans (frame_enableCmp.mono (fun k hk => by
    rw [List.mem_singleton.1 hk]
    exact mem_chKeys (by simp [testKeys]) (by simp)) (by simp))

theorem num_test : let t := enableCmp (testReported s c m held) c
    t.num (atCh K.SC_RESULT c) = scResult s c m ∧ t.num (atCh K.SC_STATE c) = testState s c m ∧
    t.num (atCh K.SC_CMD c) = 0 ∧ t.num (atCh K.SC_MODE c) = held.1 ∧ t.num (atCh K.SC_TIE c) = held.2 := by
  have hnum {k : Nat} (hk : k ≠ K.BAND_PRESETS) : (enableCmp (testReported s c m held) c).num (atCh k c) =
      (testReported s c m held).num (atCh k c) := frame_enableCmp.num_eq (by simpa [atCh_eq_iff] using hk) (by simp)
  dsimp only
  rw [hnum (by decide), hnum (by decide), hnum (by decide), hnum (by decide), hnum (by decide)]
  simp [testReported, setNums_cons, setNums_nil, atCh_eq_iff]

theorem chan_test (d : Nat) : (enableCmp (testReported s c m held) c).chan d =
    if d = c then chanEnabled (testReported s c m held) c else s.chan d := by
  rw [chan_enableCmp]
  split
  · rfl
  · rw [testReported, chan_setChan, if_neg ‹_›]
    rfl

end

/-- The test has reported, and its comparators are enabled (R373). -/
theorem selfCheckDone_eq {held : Nat × Nat} (h1 : s.num (atCh K.SC_STATE c) = 1) (hs : aFind s.slow.saved c = some held) :
    selfCheckDone s c m = enableCmp (testReported s c m held) c := by
  have hpark : parkDrive (testReported s c m held) c = parkDrive s c := parkDrive_congr fun k hk =>
    (frame_testReported held).num_eq (atCh_not_mem_chKeys (by decide) (by revert k; decide) (.inl (by revert k; decide)))
      (by simp)
  have hgo : ¬s.num (atCh K.SC_STATE c) ≠ 1 := not_not.2 h1
  rw [testReported, ← hpark, selfCheckDone, if_neg hgo, hs]
  rfl

end

/-! ### The converter -/

section
variable {s : State} {u node avg : Nat} {vs : List Int}

/-- The mean of some conversions in µV, as CONV_RESULT holds it (R376, R377). -/
def convMean (vs : List Int) : Nat :=
  raw 32 (roundDiv ((vs.map fun x => convCode x * 4000000 - 1250000 * 262144).sum) (vs.length * 262144))

theorem map_vsAt_range {α : Type} (vs : List α) (last : α) : (List.range vs.length).map (vsAt vs last) = vs := by
  refine List.ext_getElem (by simp) fun i h1 h2 => ?_
  simp [vsAt, h2]

/-- The objects of a tile that the end of its conversions sets (R377). -/
def convKeys : List Nat := [K.CONV_RESULT, K.CONV_CMD, K.CONV_FLAGS]

/-- The conversions have reported their mean, and whether one lay beyond the converter's range (R376, R377). -/
def convReported (s : State) (u : Nat) (vs : List Int) : State :=
  (((s.setSlow { s.slow with conv := aDel s.slow.conv u }).setNums
    [(atTile K.CONV_RESULT u, convMean vs), (atTile K.CONV_CMD u, 0)]).setFlag (atTile K.CONV_FLAGS u) 0 true).setFlag
      (atTile K.CONV_FLAGS u) 2 (vs.any fun v => decide (v < -1250000) || decide (2750000 < v))

theorem convDone_eq (h : aFind s.slow.conv u = some (node, avg)) (hl : vs.length = 2 ^ avg) :
    convDone s u vs = convReported s u vs := by
  have hall : (List.range (2 ^ avg)).map (fun i => vsAt vs (nodeVolt s u node) i) = vs := hl ▸ map_vsAt_range vs _
  simp only [convDone, h, hall, convReported, convMean, hl]

theorem frame_convReported : Frame (tileKeys convKeys [u]) [.slow] s (convReported s u vs) := by
  have hmem {k : Nat} (hk : k ∈ convKeys) : atTile k u ∈ tileKeys convKeys [u] := mem_tileKeys hk (by simp)
  refine frame_setFlag (frame_setFlag (frame_setNums (frame_setSlow (.refl ..) _ (by simp)) _ fun p hp => .inl ?_) _ _
    (.inl (hmem (by simp [convKeys])))) _ _ (.inl (hmem (by simp [convKeys])))
  simp only [List.mem_cons, List.not_mem_nil, or_false] at hp
  rcases hp with rfl | rfl <;> exact hmem (by simp [convKeys])

theorem frame_convStart : Frame (tileKeys [K.CONV_CMD, K.CONV_FLAGS] [u]) [.slow] s (convStart s u) :=
  frame_setNum (frame_setFlag (frame_setSlow (.refl ..) _ (by simp)) _ _ (.inl (mem_tileKeys (by simp) (by simp)))) _
    (.inl (mem_tileKeys (by simp) (by simp)))

end

/-- CONV_CMD.START, accepted (R377). -/
theorem took_convStart {s : State} {v : Via} {u : Nat} (hu : u < 12) (h : AcceptedKey s v (atTile K.CONV_CMD u) 1) :
    ∃ t, exec (.convStart v u) s = .next t ∧ Frame [] answered (sigTouched (convStart s u)) t ∧
      Frame (tileKeys [K.CONV_CMD, K.CONV_FLAGS] [u] ++ [K.SIG_CURRENT]) ([.slow] ++ answered) s t :=
  took_tileCommand (by decide) frame_convStart (by simp) (by decide) hu h fun _ => rfl

/-- SC_CMD.RUN, accepted (R372, R373). -/
theorem took_selfCheckRun {s : State} {v : Via} {c : Nat} (hc : c < 96) (h : AcceptedKey s v (atCh K.SC_CMD c) 1) :
    ∃ t, exec (.selfCheckRun v c) s = .next t ∧ Frame [] answered (sigTouched (selfCheckStart s c)) t ∧
      Frame (chKeys [K.SC_STATE, K.SC_CMD, K.SC_RESULT] [c] ++ [K.SIG_CURRENT]) ([.chans, .slow] ++ answered) s t :=
  took_channelCommand (by decide) frame_selfCheckStart (by simp) (by decide) hc h fun _ => rfl

/-- Settles O46: the commands start the test and the conversions, whose ends report what was measured; each bit of SC_RESULT is one
element of what the test brings. -/
theorem selfCheckAndConverter : Obligations.SelfCheckAndConverter := by
  refine ⟨fun s v c hc h => ?_, fun s c mode tie m hs hc h1 hheld ha hb htr hd => ?_, fun s v u hu h => ?_,
    fun s u node avg vs hs hu hconv hl => ?_⟩
  · obtain ⟨t, ht, g, hall⟩ := took_selfCheckRun hc h
    have hnum {k : Nat} (hk : ChannelKey k) : t.num (atCh k c) = (selfCheckStart s c).num (atCh k c) := by
      rw [num_touched g, if_neg (module_ne_channel (by decide) hk).symm]
    have hchan (d : Nat) : t.chan d = (selfCheckStart s c).chan d := g.chan_eq (by decide) d
    obtain ⟨hst, hcmd, hres⟩ := num_selfCheckStart (s := s) (c := c)
    refine ⟨t, ht, (hnum (by decide)).trans hst, (hnum (by decide)).trans hcmd, (hnum (by decide)).trans hres, ?_,
      fun d hd => ?_, ?_, hall.mono (by simp [or_comm]) fun _ p => p⟩
    · rw [hchan, chan_selfCheckStart, if_pos rfl]
    · rw [hchan, chan_selfCheckStart, if_neg hd]
    · rw [g.slow (by decide)]
      simp [sigTouched, selfCheckStart, setNums_cons, setNums_nil]
  · have hm : MeasuresAll m := ⟨ha, hb, htr, hd⟩
    obtain ⟨t, ht, g⟩ := took_onCh (fun s => selfCheckDone s c m) hs hc
    rw [selfCheckDone_eq h1 hheld] at g
    have hnum (k : Nat) := (g [] []).num_eq (k := k) (by simp) (by simp)
    have hchan (d : Nat) := ((g [] []).chan_eq (by simp) d).trans (chan_test (mode, tie) d)
    obtain ⟨hres, hst, hcmd, hmode, htie⟩ := num_test (s := s) (c := c) (m := m) (mode, tie)
    refine ⟨t, ht, fun hbusy => ?_, fun h2 h3 h4 => ?_, (hnum _).trans hcmd, (hnum _).trans hmode, (hnum _).trans htie, ?_, ?_,
      fun d hd => ?_, (frame_test (mode, tie)).trans (g ..)⟩
    · have hbusy := padBusy_iff.2 hbusy
      exact ⟨by rw [hnum, hres, scResult_busy hbusy], by rw [hnum, hst, testState, if_pos hbusy]⟩
    · have hquiet : padBusy m = false := by simp [padBusy, h2, h3, h4]
      simp only [hnum, hres, hst, bit_scResult hm hquiet]
      exact ⟨fun i hi => ⟨testFails_above hm hi, testFails_below hm hi, testFails_trips hm hi⟩,
        fun i hi => testFails_dacs hm hi, scResult_lt hm hquiet, if_neg (by simp [hquiet])⟩
    · simp [hchan, chanEnabled, testReported]
    · simp [hchan, chanEnabled]
    · rw [hchan, if_neg hd]
  · obtain ⟨t, ht, g, hall⟩ := took_convStart hu h
    have hkey {k : Nat} (hk : 0x300000 ≤ k) : atTile k u ≠ K.SIG_CURRENT := atTile_ne_module hk (by decide)
    refine ⟨t, ht, ?_, ?_, ?_, hall.mono (by simp [or_comm]) fun _ p => p⟩
    · simp [num_touched g, hkey (k := K.CONV_CMD) (by decide), convStart]
    · rw [flag_touched g (hkey (by decide))]
      simp [convStart, State.flag, atTile_eq_iff, putBit_get]
    · rw [g.slow (by decide)]
      simp [sigTouched, convStart]
  · obtain ⟨t, ht, g⟩ := took_onTile (fun s => convDone s u vs) hs hu
    rw [convDone_eq hconv hl] at g
    have hnum (k : Nat) := (g [] []).num_eq (k := k) (by simp) (by simp)
    refine ⟨t, ht, ?_, ?_, ?_, ?_, (g [] []).slow (by simp), frame_convReported.trans (g ..)⟩
    · rw [hnum]
      simp [convReported, setNums_cons, setNums_nil, atTile_eq_iff, convMean, hl]
    · rw [hnum]
      simp [convReported, setNums_cons, setNums_nil, atTile_eq_iff]
    · simp [State.flag, hnum, convReported, bit_zero_putBit_succ, putBit_get]
    · simp [State.flag, hnum, convReported, putBit_get]

end Sys2Proof.Machine

/-! PROOFS. Listen state and wake (O45): operations on the lanes of a tile one after another, a tile that enters listen state (R363,
R364, R437), one that wakes (R366–R368) and one that is ready again (R31, R369). -/

namespace Sys2Proof.Machine

/-! ### One unit after another -/

section
variable {α β : Type} {f : State → β → State} {key : β → Nat} {obs : State → Nat → α} {own : State → β → α}
  (hother : ∀ s b d, d ≠ key b → obs (f s b) d = obs s d)
include hother

/-- What is observed of a unit that no operation is for stands. -/
theorem foldl_obs_not_mem {l : List β} {d : Nat} (h : d ∉ l.map key) (s : State) : obs (l.foldl f s) d = obs s d := by
  induction l generalizing s with
  | nil => rfl
  | cons b r ih =>
    obtain ⟨hb, hr⟩ := not_or.1 (List.mem_cons.not.1 h)
    rw [List.foldl_cons, ih hr, hother s b d hb]

/-- Of operations on different units each leaves of its own unit what it would have left alone. -/
theorem foldl_obs_mem (hown : ∀ s b, obs (f s b) (key b) = own s b)
    (hsame : ∀ s b e, key e ≠ key b → own (f s b) e = own s e)
    {l : List β} (hl : (l.map key).Nodup) {b : β} (hb : b ∈ l) (s : State) : obs (l.foldl f s) (key b) = own s b := by
  induction l generalizing s with
  | nil => exact nomatch hb
  | cons e r ih =>
    obtain ⟨he, hr⟩ := List.nodup_cons.1 hl
    rw [List.foldl_cons]
    rcases List.mem_cons.1 hb with rfl | hb
    · rw [foldl_obs_not_mem hother he, hown]
    · rw [ih hr hb, hsame s e b fun h => he (h ▸ List.mem_map_of_mem hb)]

end

section
variable {α : Type} {f : State → Nat → State} {obs own : State → Nat → α}
  (hown : ∀ s c d, obs (f s c) d = if d = c then own s c else obs s d)
include hown

/-- What is observed of the channels of a tile after an operation on each of its lanes. -/
theorem foldl_lanes (hsame : ∀ s c d, d ≠ c → own (f s c) d = own s d) (u d : Nat) (s : State) :
    obs ((lanesOf u).foldl f s) d = if d ∈ lanesOf u then own s d else obs s d := by
  have hother (s : State) (c d : Nat) (h : d ≠ id c) : obs (f s c) d = obs s d := (hown s c d).trans (if_neg h)
  split
  next h =>
    exact foldl_obs_mem (key := id) hother (fun s c => (hown s c c).trans (if_pos rfl)) (fun s c d => hsame s c d)
      ((List.map_id _).symm ▸ lanesOf_nodup u) h s
  next h => exact foldl_obs_not_mem (key := id) hother ((List.map_id _).symm ▸ h) s

end

theorem module_ne_atTile {j k u : Nat} (hk : 0x300000 ≤ k) (hj : j < 0x300000) : j ≠ atTile k u := (atTile_ne_module hk hj).symm

theorem atTile_range {k u : Nat} (hk : 0x300000 ≤ k ∧ k < 0x301000) (hu : u < 12) :
    0x300000 ≤ atTile k u ∧ atTile k u < 0x400000 := by
  unfold atTile
  omega

theorem tileKeys_mono {ks js us : List Nat} (h : ∀ k ∈ ks, k ∈ js) {k : Nat} (hk : k ∈ tileKeys ks us) :
    k ∈ tileKeys js us := by
  obtain ⟨u, hu, hk⟩ := List.mem_flatMap.1 hk
  obtain ⟨j, hj, rfl⟩ := List.mem_map.1 hk
  exact mem_tileKeys (h j hj) hu

theorem chKeys_mono {ks cs ds : List Nat} (h : ∀ c ∈ cs, c ∈ ds) {k : Nat} (hk : k ∈ chKeys ks cs) :
    k ∈ chKeys ks ds := by
  obtain ⟨c, hc, hk⟩ := List.mem_flatMap.1 hk
  exact List.mem_flatMap.2 ⟨c, h c hc, hk⟩

theorem atTile_ne_atCh {k j u c : Nat} (hk : k < 0x301000) (hu : u < 12) (hj : ChannelKey j) : atTile k u ≠ atCh j c := by
  unfold atTile atCh
  omega

theorem Frame.flag_eq {ks : List Nat} {ps : List Part} {s t : State} (h : Frame ks ps s t) {k : Nat} (hk : k ∉ ks)
    (hp : Part.units ∉ ps) (i : Nat) : t.flag k i = s.flag k i := congrArg (bit · i) (h.num_eq hk hp)

theorem domState_setDom_self {s : State} {d v : Nat} (hv : v < 4) : domState (setDom s d v) d = v := by
  rw [domState_setDom s d d hv, if_pos rfl]

theorem domState_of_num {s t : State} {d v : Nat} (h : t.num K.DOM_STATE = s.num K.DOM_STATE) (hv : domState s d = v) :
    domState t d = v := by
  rw [← hv, domState, domState, h]

/-! ### A tile enters listen state -/

section
variable {s : State} {c u : Nat}

/-- A channel whose tile has entered listen state (R364). -/
def chanListens (s : State) (c : Nat) : Chan :=
  if s.num (atCh K.WAKE_EN c) = 1 then { s.chan c with drive := .off, vec := none, short := none, powered := true }
  else { s.chan c with drive := .off, vec := none, short := none, powered := false,
                       cmpH := false, cmpL := false, validH := false, validL := false }

/-- The wake settings of a channel (R366). -/
def wakeHeld (s : State) (c : Nat) : Nat × Nat × Nat :=
  (s.num (atCh K.WAKE_EN c), s.num (atCh K.WAKE_CMP c), s.num (atCh K.WAKE_SLOPE c))

/-- TMU_STATE of a unit with nothing in progress (R433, R437). -/
def tmuRest (s : State) (c : Nat) : Nat := if s.num (atCh K.TMU_MODE c) = 0 then 0 else 1

theorem chan_chanListen (d : Nat) : (chanListen s c).chan d = if d = c then chanListens s c else s.chan d := by
  simp only [chanListen, tmuIdle, chan_setNum, chan_setTmu, chan_setSlow, chan_setChan, chanListens]

theorem wake_chanListen (d : Nat) :
    aFind (chanListen s c).slow.wake d = if d = c then some (wakeHeld s c) else aFind s.slow.wake d := aFind_aPut ..

theorem num_chanListen (k : Nat) : (chanListen s c).num k = if k = atCh K.TMU_STATE c then tmuRest s c else s.num k := by
  simp only [chanListen, tmuIdle, num_setNum]
  rfl

theorem frame_chanListen : Frame [atCh K.TMU_STATE c] [.chans, .slow, .tb] s (chanListen s c) := by
  unfold chanListen tmuIdle
  exact frame_setNum (frame_setTmu (frame_setSlow (frame_setChan (.refl ..) _ _ (by simp)) _ (by simp)) _ _ (by simp)) _
    (.inl (by simp))

theorem num_chanListen_setting {k : Nat} (hk : ChannelKey k) (h : k ≠ K.TMU_STATE) (d : Nat) :
    (chanListen s c).num (atCh k d) = s.num (atCh k d) := by
  rw [num_chanListen, if_neg fun e => h (atCh_inj hk (by decide) e).1]

/-- The lanes of a tile that enters listen state. -/
def lanesListen (s : State) (u : Nat) : State := (lanesOf u).foldl chanListen s

theorem chan_lanesListen (d : Nat) : (lanesListen s u).chan d = if d ∈ lanesOf u then chanListens s d else s.chan d :=
  foldl_lanes (obs := State.chan) (own := chanListens) (fun _ _ d => chan_chanListen d) (fun s c d hd => by
    rw [chanListens, num_chanListen_setting (by decide) (by decide), chan_chanListen, if_neg hd]
    rfl) u d s

theorem wake_lanesListen (d : Nat) :
    aFind (lanesListen s u).slow.wake d = if d ∈ lanesOf u then some (wakeHeld s d) else aFind s.slow.wake d :=
  foldl_lanes (obs := fun s d => aFind s.slow.wake d) (own := fun s d => some (wakeHeld s d)) (fun _ _ d => wake_chanListen d)
    (fun s c d _ => by
      rw [wakeHeld, num_chanListen_setting (by decide) (by decide), num_chanListen_setting (by decide) (by decide),
        num_chanListen_setting (by decide) (by decide)]
      rfl) u d s

theorem tmuState_lanesListen (d : Nat) : (lanesListen s u).num (atCh K.TMU_STATE d) =
    if d ∈ lanesOf u then tmuRest s d else s.num (atCh K.TMU_STATE d) :=
  foldl_lanes (obs := fun s d => s.num (atCh K.TMU_STATE d)) (own := tmuRest)
    (fun s c d => by
      rw [num_chanListen]
      exact if_congr ⟨fun e => (atCh_inj (by decide) (by decide) e).2, fun e => e ▸ rfl⟩ rfl rfl)
    (fun s c d _ => by rw [tmuRest, num_chanListen_setting (by decide) (by decide)]; rfl) u d s

theorem frame_lanesListen : Frame (chKeys [K.TMU_STATE] (lanesOf u)) [.chans, .slow, .tb] s (lanesListen s u) :=
  (Frame.refl ..).foldl _ fun x c hc g => g.trans (frame_chanListen.mono
    (fun k hk => by rw [List.mem_singleton.1 hk]; exact mem_chKeys (by simp) hc) fun _ p => p)

/-- A tile whose lanes have entered listen state enters it (R364, R645). -/
def tileListens (s : State) (u : Nat) : State :=
  (setDom (((s.setSlow { s.slow with conv := aDel s.slow.conv u }).setNums
    [(atTile K.TILE_STATE u, 3), (atTile K.CONV_CMD u, 0)]).setFlag (atTile K.TILE_CMD u) 0 false) (12 + u) 3).setFlag
      K.READY (16 + u) false

/-- The objects of the module and of a tile that entering listen state changes. -/
def listenKeys (u : Nat) : List Nat := K.DOM_STATE :: K.READY :: tileKeys [K.TILE_STATE, K.TILE_CMD, K.CONV_CMD] [u]

theorem listenEntered_eq (hr : tileReady s u = true) (hc : s.flag (atTile K.TILE_CMD u) 0 = true) :
    listenEntered s u = tileListens (lanesListen s u) u := by
  have hgo : (tileReady s u && s.flag (atTile K.TILE_CMD u) 0) = true := by rw [hr, hc]; rfl
  rw [lanesListen, lanesOf, List.foldl_map]
  exact if_pos hgo

theorem frame_tileListens : Frame (listenKeys u) [.slow] s (tileListens s u) := by
  have hm {k : Nat} (hk : k ∈ [K.TILE_STATE, K.TILE_CMD, K.CONV_CMD]) : atTile k u ∈ listenKeys u :=
    List.mem_cons_of_mem _ (List.mem_cons_of_mem _ (mem_tileKeys hk (by simp)))
  refine frame_setFlag (frame_setDom (frame_setFlag (frame_setNums (frame_setSlow (.refl ..) _ (by simp)) _ fun p hp =>
    .inl ?_) _ _ (.inl (hm (by simp)))) _ _ (by simp [listenKeys])) _ _ (.inl (by simp [listenKeys]))
  simp only [List.mem_cons, List.not_mem_nil, or_false] at hp
  rcases hp with rfl | rfl <;> exact hm (by simp)

theorem num_tileListens_channel (hu : u < 12) {k : Nat} (hk : ChannelKey k) (d : Nat) :
    (tileListens s u).num (atCh k d) = s.num (atCh k d) := by
  refine frame_tileListens.num_eq (fun hm => ?_) (by simp)
  simp only [listenKeys, List.mem_cons] at hm
  rcases hm with e | e | hm
  · exact module_ne_channel (by decide) hk e.symm
  · exact module_ne_channel (by decide) hk e.symm
  · have := tileKeys_range (by decide) (by simpa using hu) hm
    unfold atCh at this
    omega

theorem wake_tileListens : (tileListens s u).slow.wake = s.slow.wake := rfl

theorem tileListens_reads : tileState (tileListens s u) u = 3 ∧ (tileListens s u).flag (atTile K.TILE_CMD u) 0 = false ∧
    (tileListens s u).num (atTile K.CONV_CMD u) = 0 ∧ domState (tileListens s u) (12 + u) = 3 ∧
    (tileListens s u).flag K.READY (16 + u) = false := by
  refine ⟨?_, ?_, ?_, domState_of_num (s := setDom _ (12 + u) 3) (num_setFlag ..) (domState_setDom_self (by decide)), ?_⟩ <;>
    simp (disch := decide) [tileListens, tileState, State.flag, setDom, setNums_cons, setNums_nil, atTile_eq_iff,
      atTile_ne_module, module_ne_atTile, putBit_get]

/-- From `s` to `t` the lanes of a tile have entered listen state (R364, R366, R437). -/
structure LanesListened (u : Nat) (s t : State) : Prop where
  chan (d : Nat) : t.chan d = if d ∈ lanesOf u then chanListens s d else s.chan d
  tmu (d : Nat) (hd : d ∈ lanesOf u) : t.num (atCh K.TMU_STATE d) = tmuRest s d
  wake (d : Nat) (hd : d ∈ lanesOf u) : aFind t.slow.wake d = some (wakeHeld s d)
  frame : Frame (K.DOM_STATE :: K.READY :: (tileKeys [K.TILE_STATE, K.TILE_CMD, K.CONV_CMD] [u] ++
    chKeys [K.TMU_STATE] (lanesOf u))) [.chans, .slow, .tb] s t

theorem lanesListened (hu : u < 12) : LanesListened u s (tileListens (lanesListen s u) u) := by
  refine ⟨fun d => ?_, fun d hd => ?_, fun d hd => ?_, ?_⟩
  · rw [frame_tileListens.chan_eq (by simp), chan_lanesListen]
  · rw [num_tileListens_channel hu (by decide), tmuState_lanesListen, if_pos hd]
  · rw [wake_tileListens, wake_lanesListen, if_pos hd]
  · refine (frame_lanesListen.mono (fun k hk => ?_) (by simp)).trans (frame_tileListens.mono (fun k hk => ?_) (by simp))
    · simp only [List.mem_cons, List.mem_append]
      exact .inr (.inr (.inr hk))
    · simp only [listenKeys, List.mem_cons, List.mem_append] at hk ⊢
      exact hk.imp_right fun hk => hk.imp_right .inl

end

/-! ### A tile wakes -/

section
variable {s : State} {u : Nat} {lanes : List Nat}

/-- The wakes of some lanes of a tile are counted (R367). -/
def wakesCounted (s : State) (u : Nat) (lanes : List Nat) : State := lanes.foldl (fun s j => s.inc (atCh K.WAKES (8 * u + j))) s

theorem frame_wakesCounted : Frame (chKeys [K.WAKES] (lanes.map (8 * u + ·))) [] s (wakesCounted s u lanes) :=
  (Frame.refl ..).foldl _ fun x j hj g => frame_inc g (.inl (mem_chKeys (by simp) (List.mem_map_of_mem hj)))

theorem wakes_wakesCounted (hl : lanes.Nodup) (j : Nat) : (wakesCounted s u lanes).num (atCh K.WAKES (8 * u + j)) =
    if j ∈ lanes then inc32 (s.num (atCh K.WAKES (8 * u + j))) else s.num (atCh K.WAKES (8 * u + j)) := by
  have hinj : Function.Injective fun j => 8 * u + j := fun _ _ h => Nat.add_left_cancel h
  have hother (s : State) (j d : Nat) (h : d ≠ 8 * u + j) :
      (s.inc (atCh K.WAKES (8 * u + j))).num (atCh K.WAKES d) = s.num (atCh K.WAKES d) := by
    rw [num_inc, if_neg fun e => h (atCh_inj (by decide) (by decide) e).2]
  split
  next h =>
    exact foldl_obs_mem (obs := fun s d => s.num (atCh K.WAKES d)) (key := fun j => 8 * u + j)
      (own := fun s j => inc32 (s.num (atCh K.WAKES (8 * u + j)))) hother (fun s j => by rw [num_inc, if_pos rfl])
      (fun s j e he => by rw [hother s j _ he]) (hl.map hinj) h s
  next h =>
    exact foldl_obs_not_mem (obs := fun s d => s.num (atCh K.WAKES d)) (key := fun j => 8 * u + j) hother
      (fun hm => h ((List.mem_map_of_injective hinj).1 hm)) s

/-- A tile begins to wake on some lanes (R367, R368). -/
def tileWaking (s : State) (u : Nat) (lanes : List Nat) : State :=
  (setDom ((s.setNum (atTile K.TILE_STATE u) 4).setNum (atTile K.WAKE_LANES u) (lanes.map fun j => 2 ^ j).sum) (12 + u) 1).inc
    (atTile K.TILE_WAKES u)

theorem domState_tileWaking : domState (tileWaking s u lanes) (12 + u) = 1 :=
  domState_of_num ((num_inc ..).trans (if_neg (module_ne_atTile (by decide) (by decide)))) (domState_setDom_self (by decide))

theorem wakeTile_eq : wakeTile s u lanes =
    ((wakesCounted (tileWaking s u lanes) u lanes).setFlag (atTile K.TILE_CAUSE u) 0 true).raise (0x60 + u) := rfl

/-- The objects that a tile's wake on some lanes changes. -/
def wakeKeys (u : Nat) (lanes : List Nat) : List Nat :=
  K.DOM_STATE :: (tileKeys [K.TILE_STATE, K.WAKE_LANES, K.TILE_WAKES, K.TILE_CAUSE] [u] ++
    chKeys [K.WAKES] (lanes.map (8 * u + ·)))

/-- From `s` to `t` the tile `u` has woken on some lanes (R367, R368). -/
structure TileWoken (u : Nat) (lanes : List Nat) (s t : State) : Prop where
  state : tileState t u = 4
  dom : domState t (12 + u) = 1
  mask : t.num (atTile K.WAKE_LANES u) = (lanes.map fun j => 2 ^ j).sum
  wakes : t.num (atTile K.TILE_WAKES u) = inc32 (s.num (atTile K.TILE_WAKES u))
  cause : t.flag (atTile K.TILE_CAUSE u) 0 = true
  counts (j : Nat) : t.num (atCh K.WAKES (8 * u + j)) =
    if j ∈ lanes then inc32 (s.num (atCh K.WAKES (8 * u + j))) else s.num (atCh K.WAKES (8 * u + j))
  arrived : t.flt.arrived = s.flt.arrived ++ [(0x60 + u, false)]

/-- A wake depends on the state before it by objects and arrivals alone, and stands where only TILE_CMD and the signature
change. -/
theorem TileWoken.congr {s' t t' : State} (h : TileWoken u lanes s t) (hu : u < 12) (hs : ∀ k, s'.num k = s.num k)
    (hsf : s'.flt = s.flt) (ht : ∀ k, k ∉ [K.SIG_CURRENT, atTile K.TILE_CMD u] → t'.num k = t.num k) (htf : t'.flt = t.flt) :
    TileWoken u lanes s' t' := by
  have htile {k : Nat} (hk : 0x300000 ≤ k) (hne : k ≠ K.TILE_CMD) : t'.num (atTile k u) = t.num (atTile k u) :=
    ht _ (by simpa [atTile_eq_iff, hne] using atTile_ne_module hk (by decide))
  have hch {k c : Nat} (hk : ChannelKey k) : t'.num (atCh k c) = t.num (atCh k c) := by
    refine ht _ fun hm => ?_
    simp only [List.mem_cons, List.not_mem_nil, or_false] at hm
    exact hm.elim (module_ne_channel (by decide) hk).symm (atTile_ne_atCh (by decide) hu hk).symm
  refine ⟨(htile (by decide) (by decide)).trans h.state, domState_of_num (ht _ ?_) h.dom,
    (htile (by decide) (by decide)).trans h.mask, by rw [htile (by decide) (by decide), h.wakes, hs], ?_,
    fun j => by rw [hch (by decide), h.counts, hs], by rw [htf, hsf, h.arrived]⟩
  · simpa using module_ne_atTile (k := K.TILE_CMD) (by decide) (by decide)
  · rw [State.flag, htile (by decide) (by decide)]
    exact h.cause

theorem frame_wakeTile : Frame (wakeKeys u lanes) [.arrived] s (wakeTile s u lanes) := by
  have hm {k : Nat} (hk : k ∈ [K.TILE_STATE, K.WAKE_LANES, K.TILE_WAKES, K.TILE_CAUSE]) : atTile k u ∈ wakeKeys u lanes :=
    List.mem_cons_of_mem _ (List.mem_append_left _ (mem_tileKeys hk (by simp)))
  have hw : Frame (wakeKeys u lanes) [.arrived] s (tileWaking s u lanes) :=
    frame_inc (frame_setDom (frame_setNum (frame_setNum (.refl ..) _ (.inl (hm (by simp)))) _ (.inl (hm (by simp)))) _ _
      (by simp [wakeKeys])) (.inl (hm (by simp)))
  have hc := hw.trans (frame_wakesCounted.mono (fun _ k => List.mem_cons_of_mem _ (List.mem_append_right _ k)) (by simp))
  exact frame_raise (frame_setFlag hc _ _ (.inl (hm (by simp)))) _ (by simp)

theorem wakeTile_woken (hu : u < 12) (hl : lanes.Nodup) : TileWoken u lanes s (wakeTile s u lanes) := by
  have hw {k : Nat} (hk : k < 0x400000) : (wakesCounted (tileWaking s u lanes) u lanes).num k = (tileWaking s u lanes).num k :=
    frame_wakesCounted.num_eq (not_mem_chKeys (by decide) hk) (by simp)
  have htile {k : Nat} (hk : k < 0x301000) (hne : k ≠ K.TILE_CAUSE) :
      (wakeTile s u lanes).num (atTile k u) = (tileWaking s u lanes).num (atTile k u) := by
    rw [wakeTile_eq, num_raise, num_setFlag, if_neg (by rwa [atTile_eq_iff]), hw (by unfold atTile; omega)]
  have hdom : (wakeTile s u lanes).num K.DOM_STATE = (tileWaking s u lanes).num K.DOM_STATE := by
    rw [wakeTile_eq, num_raise, num_setFlag, if_neg (module_ne_atTile (by decide) (by decide)), hw (by decide)]
  have hch {k c : Nat} (hk : ChannelKey k) : (tileWaking s u lanes).num (atCh k c) = s.num (atCh k c) := by
    have ht {j : Nat} (hj : j < 0x301000) : atCh k c ≠ atTile j u := (atTile_ne_atCh hj hu hk).symm
    simp (disch := decide) [tileWaking, setDom, ht, (module_ne_channel (j := K.DOM_STATE) (by decide) hk).symm]
  refine ⟨(htile (by decide) (by decide)).trans ?_, domState_of_num hdom domState_tileWaking,
    (htile (by decide) (by decide)).trans ?_, (htile (by decide) (by decide)).trans ?_, ?_, fun j => ?_, ?_⟩
  · simp (disch := decide) [tileWaking, setDom, atTile_eq_iff, atTile_ne_module]
  · simp (disch := decide) [tileWaking, setDom, atTile_eq_iff, atTile_ne_module]
  · simp (disch := decide) [tileWaking, setDom, atTile_eq_iff, atTile_ne_module]
  · rw [wakeTile_eq, State.flag, num_raise, num_setFlag, if_pos rfl, putBit_get]
  · rw [wakeTile_eq, num_raise, num_setFlag, if_neg (atTile_ne_atCh (by decide) hu (by decide)).symm, wakes_wakesCounted hl,
      hch (by decide)]
  · rw [wakeTile_eq]
    exact congrArg (fun x : Faults => x.arrived ++ [(0x60 + u, false)]) (frame_wakesCounted.flt_eq (by simp) (by simp))

/-! ### Pads of a tile in listen state -/

/-- The pads of a channel do as they would have, where only other channels have changed. -/
theorem chan_padSet_congr {t : State} {c : Nat} (h : Frame [] [.chans] s t) (hc : t.chan c = s.chan c) (v : Pad) :
    (padSet t c v).chan c = (padSet s c v).chan c := by
  have hb : SameBands c s t := .of_frame h (by simp) (by simp)
  have hp : cmpPowered t c = cmpPowered s c := by
    rw [cmpPowered, cmpPowered, tileReady, tileReady, tileState, tileState, h.num_eq (by simp) (by simp), hc]
  have hhi : K.THR_HI ∈ bandChannel := by decide
  have hlo : K.THR_LO ∈ bandChannel := by decide
  cases hs : cmpPowered s c with
  | true =>
    rw [padSet_powered hs, padSet_powered (hp.trans hs)]
    simp only [senseVs, chan_setChan, hc, hb.aboveBand hhi, hb.belowBand hhi, hb.aboveBand hlo, hb.belowBand hlo]
  | false => rw [padSet_unpowered hs, padSet_unpowered (hp.trans hs), chan_setChan, chan_setChan, hc]

theorem wakes_congr {t : State} {c : Nat} (h : Frame [] [.chans] s t) (hc : t.chan c = s.chan c) (y : Chan) :
    wakes t c y = wakes s c y := by
  have hnum (k : Nat) : t.num k = s.num k := h.num_eq (by simp) (by simp)
  simp only [wakes, chFenced, State.flag, hnum, hc, h.slow (by simp)]

/-- The pads of lanes of a tile are set one after another. -/
def padsSet (s : State) (u : Nat) (inputs : List (Nat × Pad)) : State :=
  inputs.foldl (fun s p => padSet s (8 * u + p.1) p.2) s

/-- The pads of a lane move so that its channel makes a selected edge (R367). -/
def padsWake (s : State) (u : Nat) (p : Nat × Pad) : Bool :=
  wakes s (8 * u + p.1) ((padSet s (8 * u + p.1) p.2).chan (8 * u + p.1))

theorem frame_padsSet (inputs : List (Nat × Pad)) : Frame [] [.chans] s (padsSet s u inputs) :=
  (Frame.refl ..).foldl _ fun _ p _ g => g.trans (frame_padSet p.2)

theorem chan_padsSet_other {inputs : List (Nat × Pad)} {c : Nat} (h : ∀ p ∈ inputs, c ≠ 8 * u + p.1) :
    (padsSet s u inputs).chan c = s.chan c :=
  foldl_obs_not_mem (obs := State.chan) (key := fun p : Nat × Pad => 8 * u + p.1) (fun _ p _ hd => chan_padSet_other hd p.2)
    (fun hm => by
      obtain ⟨p, hp, e⟩ := List.mem_map.1 hm
      exact h p hp e.symm) s

theorem chan_padsSet {inputs : List (Nat × Pad)} (hn : (inputs.map Prod.fst).Nodup) {p : Nat × Pad} (hp : p ∈ inputs) :
    (padsSet s u inputs).chan (8 * u + p.1) = (padSet s (8 * u + p.1) p.2).chan (8 * u + p.1) := by
  have hinj : Function.Injective fun j => 8 * u + j := fun _ _ h => Nat.add_left_cancel h
  refine foldl_obs_mem (obs := State.chan) (key := fun p : Nat × Pad => 8 * u + p.1)
    (own := fun s p => (padSet s (8 * u + p.1) p.2).chan (8 * u + p.1)) (fun _ p _ hd => chan_padSet_other hd p.2) (fun _ _ => rfl)
    (fun s p e he => chan_padSet_congr (frame_padSet p.2) (chan_padSet_other he p.2) e.2) ?_ hp s
  have := hn.map hinj
  rwa [List.map_map] at this

theorem padsWake_congr {t : State} {p : Nat × Pad} (h : Frame [] [.chans] s t)
    (hc : t.chan (8 * u + p.1) = s.chan (8 * u + p.1)) : padsWake t u p = padsWake s u p := by
  rw [padsWake, chan_padSet_congr h hc, wakes_congr h hc, padsWake]

/-- One lane's pads move: its tile's state, and the lanes that have woken it. -/
def wakeStep (u : Nat) (acc : State × List Nat) (p : Nat × Pad) : State × List Nat :=
  let c := 8 * u + p.1 % 8
  let s := padSet acc.1 c p.2
  (s, if wakes acc.1 c (s.chan c) then p.1 % 8 :: acc.2 else acc.2)

theorem wakeStep_lane {p : Nat × Pad} (hp : p.1 < 8) (l : List Nat) :
    wakeStep u (s, l) p = (padSet s (8 * u + p.1) p.2, if padsWake s u p then p.1 :: l else l) := by
  simp only [wakeStep, Nat.mod_eq_of_lt hp]
  rfl

/-- As lanes' pads move one after another, those lanes wake their tile that would have alone. -/
theorem foldl_wakeStep {inputs : List (Nat × Pad)} (hb : ∀ p ∈ inputs, p.1 < 8) (hn : (inputs.map Prod.fst).Nodup)
    (s : State) (l : List Nat) : (inputs.foldl (wakeStep u) (s, l)).1 = padsSet s u inputs ∧
      ∀ j, j ∈ (inputs.foldl (wakeStep u) (s, l)).2 ↔ j ∈ l ∨ ∃ p ∈ inputs, p.1 = j ∧ padsWake s u p = true := by
  induction inputs generalizing s l with
  | nil => simp [padsSet]
  | cons p r ih =>
    obtain ⟨hnp, hnr⟩ := List.nodup_cons.1 hn
    have hrest (q : Nat × Pad) (hq : q ∈ r) : padsWake (padSet s (8 * u + p.1) p.2) u q = padsWake s u q :=
      padsWake_congr (frame_padSet p.2) (chan_padSet_other (fun e => hnp (List.mem_map.2 ⟨q, hq, by omega⟩)) p.2)
    have hj (j : Nat) : (∃ q ∈ r, q.1 = j ∧ padsWake (padSet s (8 * u + p.1) p.2) u q = true) ↔
        ∃ q ∈ r, q.1 = j ∧ padsWake s u q = true :=
      exists_congr fun q => and_congr_right fun hq => by rw [hrest q hq]
    rw [List.foldl_cons, wakeStep_lane (hb p List.mem_cons_self)]
    obtain ⟨h1, h2⟩ := ih (fun q hq => hb q (List.mem_cons_of_mem _ hq)) hnr (padSet s (8 * u + p.1) p.2)
      (if padsWake s u p then p.1 :: l else l)
    refine ⟨h1, fun j => (h2 j).trans ?_⟩
    rw [hj, List.exists_mem_cons_iff]
    cases padsWake s u p with
    | true => simp only [if_true, List.mem_cons, and_true, eq_comm (a := j), or_assoc, or_left_comm]
    | false => simp

/-- Lane `j` is among those that wake the tile. -/
def laneWakes (s : State) (u : Nat) (inputs : List (Nat × Pad)) (j : Nat) : Bool :=
  inputs.any fun p => p.1 == j && padsWake s u p

/-- The lanes that wake the tile. -/
def wokenLanes (s : State) (u : Nat) (inputs : List (Nat × Pad)) : List Nat := (List.range 8).filter (laneWakes s u inputs)

theorem wokenLanes_sorted (inputs : List (Nat × Pad)) : (wokenLanes s u inputs).Pairwise (· < ·) :=
  List.pairwise_lt_range.filter _

theorem mem_wokenLanes {inputs : List (Nat × Pad)} {j : Nat} :
    j ∈ wokenLanes s u inputs ↔ j < 8 ∧ laneWakes s u inputs j = true := by
  rw [wokenLanes, List.mem_filter, List.mem_range]

/-- In listen state the pads are set, and the tile wakes on the lanes that make a selected edge, if any does (R367). -/
theorem wakeEvent_eq {inputs : List (Nat × Pad)} (hb : ∀ p ∈ inputs, p.1 < 8) (hn : (inputs.map Prod.fst).Nodup)
    (h3 : tileState s u = 3) : wakeEvent s u inputs =
      if wokenLanes s u inputs = [] then padsSet s u inputs
      else wakeTile (padsSet s u inputs) u (wokenLanes s u inputs) := by
  obtain ⟨h1, h2⟩ := foldl_wakeStep (u := u) hb hn s []
  have hdef : wakeEvent s u inputs = if tileState s u ≠ 3 then s
      else if (inputs.foldl (wakeStep u) (s, [])).2.isEmpty then (inputs.foldl (wakeStep u) (s, [])).1
      else wakeTile (inputs.foldl (wakeStep u) (s, [])).1 u
        ((List.range 8).filter ((inputs.foldl (wakeStep u) (s, [])).2.contains ·)) := rfl
  have hmem (j : Nat) : j ∈ (inputs.foldl (wakeStep u) (s, [])).2 ↔ laneWakes s u inputs j = true := by simp [h2, laneWakes]
  have hlane {j : Nat} (h : laneWakes s u inputs j = true) : j < 8 := by
    obtain ⟨p, hp, hj⟩ := List.any_eq_true.1 h
    rw [Bool.and_eq_true, beq_iff_eq] at hj
    exact hj.1 ▸ hb p hp
  have hwoken : (List.range 8).filter ((inputs.foldl (wakeStep u) (s, [])).2.contains ·) = wokenLanes s u inputs :=
    List.filter_congr fun j _ => by rw [Bool.eq_iff_iff, List.contains_iff_mem, hmem]
  have hempty : (inputs.foldl (wakeStep u) (s, [])).2.isEmpty = true ↔ wokenLanes s u inputs = [] := by
    rw [List.isEmpty_iff, List.eq_nil_iff_forall_not_mem, List.eq_nil_iff_forall_not_mem]
    exact forall_congr' fun j => not_congr ((hmem j).trans (mem_wokenLanes.trans (and_iff_right_of_imp hlane)).symm)
  rw [hdef, if_neg (not_not.2 h3), h1, hwoken]
  exact if_congr hempty rfl rfl

end

/-! ### A tile is ready again -/

section
variable {s : State} {c u : Nat}

/-- A channel of a tile that has become ready (R296, R354, R369). -/
def chanBack (s : State) (c : Nat) : Chan :=
  if (s.chan c).powered then { s.chan c with drive := parkDrive s c } else { chanEnabled s c with drive := parkDrive s c }

theorem chan_chanReady (d : Nat) : (chanReady s c).chan d = if d = c then chanBack s c else s.chan d := by
  unfold chanReady chanBack
  dsimp only
  split
  · exact chan_setChan ..
  · rw [chan_enableCmp, chan_setChan]
    split
    next h =>
      unfold chanEnabled validAtOnce
      rw [chan_setChan, if_pos rfl]
      rfl
    next => rfl

theorem frame_chanReady : Frame [atCh K.BAND_PRESETS c] [.chans] s (chanReady s c) := by
  have hs : Frame [atCh K.BAND_PRESETS c] [.chans] s (s.setChan c { s.chan c with drive := parkDrive s c }) :=
    frame_setChan (.refl ..) _ _ (by simp)
  exact hs.ite (hs.trans frame_enableCmp)

/-- A channel would become ready as it would have, where only other objects and channels have changed. -/
theorem chanBack_congr {t : State} (hb : SameBands c s t) (hc : t.chan c = s.chan c)
    (hp : ∀ k ∈ [K.PARK, K.ROLE, K.PRBS_CTRL], t.num (atCh k c) = s.num (atCh k c)) : chanBack t c = chanBack s c := by
  have hhi : K.THR_HI ∈ bandChannel := by decide
  have hlo : K.THR_LO ∈ bandChannel := by decide
  simp only [chanBack, chanEnabled, validAtOnce, hc, parkDrive_congr hp, hb.aboveBand hhi, hb.belowBand hhi, hb.aboveBand hlo,
    hb.belowBand hlo, hb.channel K.HYST (by decide)]

/-- The lanes of a tile that becomes ready. -/
def lanesBack (s : State) (u : Nat) : State := (lanesOf u).foldl chanReady s

theorem chan_lanesBack (d : Nat) : (lanesBack s u).chan d = if d ∈ lanesOf u then chanBack s d else s.chan d := by
  refine foldl_lanes (obs := State.chan) (own := chanBack) (fun _ _ d => chan_chanReady d) (fun s c d hd => ?_) u d s
  refine chanBack_congr (.of_frame frame_chanReady (by simp) fun k hk => ?_) ((chan_chanReady d).trans (if_neg hd))
    fun k hk => ?_
  · rw [List.mem_singleton.1 hk]
    exact noBand_bandPresets c
  · refine frame_chanReady.num_eq (fun hm => ?_) (by simp)
    obtain ⟨hkey, hne⟩ := (by decide : ∀ k ∈ [K.PARK, K.ROLE, K.PRBS_CTRL], ChannelKey k ∧ k ≠ K.BAND_PRESETS) k hk
    exact hne (atCh_inj hkey (by decide) (List.mem_singleton.1 hm)).1

theorem frame_lanesBack : Frame (chKeys [K.BAND_PRESETS] (lanesOf u)) [.chans] s (lanesBack s u) :=
  (Frame.refl ..).foldl _ fun x c hc g => g.trans (frame_chanReady.mono
    (fun k hk => by rw [List.mem_singleton.1 hk]; exact mem_chKeys (by simp) hc) fun _ p => p)

/-- A tile's domain is on, and its PLL has locked once more (R31, R369). -/
def tileOn (s : State) (u : Nat) : State :=
  ((setDom s (12 + u) 2).setNum (atTile K.TILE_STATE u) 2).setSlow
    { s.slow with locks := aPut s.slow.locks u ((aFind s.slow.locks u).getD 0 + 1) }

/-- A tile that was waking is ready (R369). -/
def tileBack (s : State) (u : Nat) : State :=
  (setReady (lanesBack (tileOn s u) u) (16 + u)).setFlag (atTile K.TILE_CMD u) 1 false

theorem tileAwake_waking (h4 : tileState s u = 4) (hr : tickRuns s = true) : tileAwake s u = tileBack s u := by
  rw [tileBack, lanesBack, lanesOf, List.foldl_map]
  exact if_pos ⟨h4, hr⟩

theorem tileAwake_waits (hr : tickRuns s = false) : tileAwake s u = s := if_neg (by simp [hr])

theorem frame_tileOn : Frame [K.DOM_STATE, atTile K.TILE_STATE u] [.slow] s (tileOn s u) :=
  frame_setSlow (frame_setNum (frame_setDom (.refl ..) _ _ (by simp)) _ (.inl (by simp))) _ (by simp)

/-- The objects that a tile that becomes ready again changes. -/
def backKeys (u : Nat) : List Nat :=
  K.DOM_STATE :: K.READY :: K.READY_TIMES :: (tileKeys [K.TILE_STATE, K.TILE_CMD] [u] ++ chKeys [K.BAND_PRESETS] (lanesOf u))

theorem frame_tileBack : Frame (backKeys u) [.chans, .slow] s (tileBack s u) := by
  have hm {k : Nat} (hk : k ∈ [K.TILE_STATE, K.TILE_CMD]) : atTile k u ∈ backKeys u := by
    simp only [backKeys, List.mem_cons, List.mem_append]
    exact .inr (.inr (.inr (.inl (mem_tileKeys hk (by simp)))))
  have hon : Frame (backKeys u) [.chans, .slow] s (tileOn s u) := frame_tileOn.mono (fun k hk => by
    simp only [List.mem_cons, List.not_mem_nil, or_false] at hk
    rcases hk with rfl | rfl
    · simp [backKeys]
    · exact hm (by simp)) (by simp)
  have hlanes := hon.trans (frame_lanesBack.mono (fun k hk => by
    simp only [backKeys, List.mem_cons, List.mem_append]
    exact .inr (.inr (.inr (.inr hk)))) (by simp))
  exact frame_setFlag (frame_setReady hlanes _ (by simp [backKeys]) (by simp [backKeys])) _ _ (.inl (hm (by simp)))

theorem chan_tileBack (hu : u < 12) (d : Nat) : (tileBack s u).chan d = if d ∈ lanesOf u then chanBack s d else s.chan d := by
  have hready (x : State) (b : Nat) : (setReady x b).chan d = x.chan d :=
    (frame_setReady (ks := [K.READY, K.READY_TIMES]) (ps := []) (.refl ..) b (by simp) (by simp)).chan_eq (by simp) d
  have hon : chanBack (tileOn s u) d = chanBack s d := by
    refine chanBack_congr (.of_frame frame_tileOn (by simp) fun k hk => ?_) rfl fun k hk => ?_
    · simp only [List.mem_cons, List.not_mem_nil, or_false] at hk
      rcases hk with rfl | rfl
      · exact noBand_of_module (by decide) (by decide)
      · have hr := atTile_range (k := K.TILE_STATE) (by decide) hu
        refine noBand_of_module hr.2 fun hm => ?_
        have := (by decide : ∀ j ∈ bandModule, j < 0x300000 ∨ 0x400000 ≤ j) _ hm
        omega
    · have hkey := (by decide : ∀ k ∈ [K.PARK, K.ROLE, K.PRBS_CTRL], ChannelKey k) k hk
      refine frame_tileOn.num_eq (fun hm => ?_) (by simp)
      simp only [List.mem_cons, List.not_mem_nil, or_false] at hm
      exact hm.elim (module_ne_channel (by decide) hkey).symm (atTile_ne_atCh (by decide) hu hkey).symm
  rw [tileBack, chan_setFlag, hready, chan_lanesBack, hon]
  rfl

theorem slow_tileBack : (tileBack s u).slow =
    { s.slow with locks := aPut s.slow.locks u ((aFind s.slow.locks u).getD 0 + 1) } := by
  have hready (x : State) (b : Nat) : (setReady x b).slow = x.slow :=
    (frame_setReady (ks := [K.READY, K.READY_TIMES]) (ps := []) (.refl ..) b (by simp) (by simp)).slow (by simp)
  rw [tileBack, slow_setFlag, hready, frame_lanesBack.slow (by simp)]
  rfl

theorem tileBack_reads (hu : u < 12) : tileState (tileBack s u) u = 2 ∧ domState (tileBack s u) (12 + u) = 2 ∧
    (tileBack s u).flag K.READY (16 + u) = true ∧ (tileBack s u).flag (atTile K.TILE_CMD u) 1 = false := by
  have hready {x : State} {k : Nat} (hk : k ∉ [K.READY, K.READY_TIMES]) : (setReady x (16 + u)).num k = x.num k :=
    (frame_setReady (ks := [K.READY, K.READY_TIMES]) (ps := []) (.refl ..) _ (by simp) (by simp)).num_eq hk (by simp)
  have hnum {k : Nat} (hk : k < 0x400000) (hne : k ∉ [K.READY, K.READY_TIMES]) (hcmd : k ≠ atTile K.TILE_CMD u) :
      (tileBack s u).num k = (tileOn s u).num k := by
    rw [tileBack, num_setFlag, if_neg hcmd, hready hne, frame_lanesBack.num_eq (not_mem_chKeys (by decide) hk)
      (by simp)]
  refine ⟨?_, domState_of_num (s := setDom s (12 + u) 2) ?_ (domState_setDom_self (by decide)), ?_, ?_⟩
  · have hr := atTile_range (k := K.TILE_STATE) (by decide) hu
    rw [tileState, hnum hr.2 (by simp (disch := decide) [atTile_ne_module]) (by simp [atTile_eq_iff]), tileOn, num_setSlow,
      num_setNum, if_pos rfl]
  · rw [hnum (by decide) (by decide) (module_ne_atTile (by decide) (by decide))]
    exact (num_setNum ..).trans (if_neg (module_ne_atTile (by decide) (by decide)))
  · rw [tileBack, State.flag, num_setFlag, if_neg (module_ne_atTile (by decide) (by decide))]
    exact flag_setReady _ _
  · rw [tileBack, State.flag, num_setFlag, if_pos rfl, putBit_get]

end

/-! ### The commands of TILE_CMD -/

section
variable {s : State} {v : Via} {u : Nat}

theorem frame_listenStart : Frame [atTile K.TILE_CMD u] [] s (listenStart s u) := frame_setFlag (.refl ..) _ _ (.inl (by simp))

/-- LISTEN, accepted (R363). -/
theorem took_listen (hu : u < 12) (h : AcceptedKey s v (atTile K.TILE_CMD u) 1) :
    ∃ t, exec (.listen v u) s = .next t ∧ Frame [] answered (sigTouched (listenStart s u)) t ∧
      Frame [atTile K.TILE_CMD u, K.SIG_CURRENT] answered s t :=
  took_tileCommand (by decide) frame_listenStart (by simp) (by decide) hu h fun _ => rfl

theorem wakeCmd_listening (h3 : tileState s u = 3) :
    wakeCmd s u = (wakeTile s u []).setFlag (atTile K.TILE_CMD u) 1 true := if_pos h3

theorem wakeCmd_other (h : tileState s u ≠ 3) : wakeCmd s u = s := if_neg h

/-- WAKE, accepted (R368). -/
theorem took_wake {ks : List Nat} {ps : List Part} (hu : u < 12) (h : AcceptedKey s v (atTile K.TILE_CMD u) 2)
    (hf : Frame ks ps s (wakeCmd s u)) (hp : Part.pwr ∉ ps) :
    ∃ t, exec (.wake v u) s = .next t ∧ Frame [] answered (sigTouched (wakeCmd s u)) t ∧
      Frame (ks ++ [K.SIG_CURRENT]) (ps ++ answered) s t :=
  took_tileCommand (by decide) hf hp (by decide) hu h fun _ => rfl

end

/-- WAKE, accepted in listen state: the tile wakes on no lane (R368). -/
theorem took_wake_listening {s : State} {v : Via} {u : Nat} (hu : u < 12) (h : AcceptedKey s v (atTile K.TILE_CMD u) 2)
    (h3 : tileState s u = 3) : ∃ t, exec (.wake v u) s = .next t ∧ TileWoken u [] s t ∧
      t.flag (atTile K.TILE_CMD u) 1 = true ∧ Frame (K.DOM_STATE :: K.SIG_CURRENT ::
        tileKeys [K.TILE_STATE, K.WAKE_LANES, K.TILE_WAKES, K.TILE_CMD, K.TILE_CAUSE] [u]) (.arrived :: answered) s t := by
  have hframe : Frame (K.DOM_STATE :: tileKeys [K.TILE_STATE, K.WAKE_LANES, K.TILE_WAKES, K.TILE_CMD, K.TILE_CAUSE] [u])
      [.arrived] s (wakeCmd s u) := by
    rw [wakeCmd_listening h3]
    refine frame_setFlag (frame_wakeTile.mono (fun k hk => ?_) fun _ p => p) _ _
      (.inl (List.mem_cons_of_mem _ (mem_tileKeys (by simp) (by simp))))
    rw [wakeKeys, List.map_nil, chKeys, List.flatMap_nil, List.append_nil] at hk
    exact List.mem_cons.2 ((List.mem_cons.1 hk).imp_right (tileKeys_mono (by simp)))
  obtain ⟨t, ht, g, hf⟩ := took_wake hu h hframe (by simp)
  rw [wakeCmd_listening h3] at g
  refine ⟨t, ht, (wakeTile_woken hu List.nodup_nil).congr hu (fun _ => rfl) rfl (fun k hk => ?_) ?_, ?_,
    hf.mono ?_ fun _ p => p⟩
  · simp only [List.mem_cons, List.not_mem_nil, or_false, not_or] at hk
    rw [num_touched g, if_neg hk.1, num_setFlag, if_neg hk.2]
  · exact g.flt_eq (by decide) (by decide)
  · rw [flag_touched g (atTile_ne_module (by decide) (by decide)), State.flag, num_setFlag, if_pos rfl, putBit_get]
  · simp only [List.mem_append, List.mem_cons, List.not_mem_nil, or_false]
    tauto

/-- Pads of lanes of a tile in listen state move: they are set, and the tile wakes on the lanes that make a selected edge
(R367). -/
theorem took_wakeEvent {s : State} {u : Nat} {inputs : List (Nat × Pad)} (hs : s.pwr.stopped = false) (hu : u < 12)
    (h3 : tileState s u = 3) (hb : ∀ p ∈ inputs, p.1 < 8) (hn : (inputs.map Prod.fst).Nodup) :
    ∃ t, exec (.wakeEvent u inputs) s = .next t ∧ (∀ d, t.chan d = (padsSet s u inputs).chan d) ∧
      (wokenLanes s u inputs = [] → Frame [] [.chans] s t) ∧
      (wokenLanes s u inputs ≠ [] → TileWoken u (wokenLanes s u inputs) s t ∧
        Frame (wakeKeys u (wokenLanes s u inputs)) [.chans, .arrived] s t) := by
  obtain ⟨t, ht, g⟩ := took_onTile (fun s => wakeEvent s u inputs) hs hu
  have hpads : Frame [] [.chans] s (padsSet s u inputs) := frame_padsSet inputs
  rw [wakeEvent_eq hb hn h3] at g
  by_cases hw : wokenLanes s u inputs = []
  · simp only [if_pos hw] at g
    exact ⟨t, ht, (g [] []).chan_eq (by simp), fun _ => hpads.trans (g ..), fun h => absurd hw h⟩
  · simp only [if_neg hw] at g
    have hwoken := wakeTile_woken (s := padsSet s u inputs) hu ((wokenLanes_sorted (s := s) (u := u) inputs).imp Nat.ne_of_lt)
    refine ⟨t, ht, fun d => ?_, fun h => absurd h hw, fun _ => ⟨hwoken.congr hu (fun k => ?_) ?_ (fun k _ => ?_) ?_, ?_⟩⟩
    · rw [(g [] []).chan_eq (by simp), frame_wakeTile.chan_eq (by simp)]
    · exact (hpads.num_eq (by simp) (by simp)).symm
    · exact (hpads.flt_eq (by simp) (by simp)).symm
    · exact (g [] []).num_eq (by simp) (by simp)
    · exact (g [] []).flt_eq (by simp) (by simp)
    · exact (hpads.mono (by simp) (by simp)).trans ((frame_wakeTile.mono (fun _ k => k) (by simp)).trans (g ..))

/-- Settles O45: LISTEN and WAKE are their commits, and each operation on a tile's lanes leaves of every lane what it would have
left alone. -/
theorem listenAndWake : Obligations.ListenAndWake := by
  refine ⟨fun s v u hu => ⟨fun h => ?_, fun h => ⟨fun h3 => ?_, fun h3 => ?_⟩⟩,
    fun s u hs hu => ⟨fun hr hcmd => ?_, fun inputs h3 hb hn => ?_, fun h4 => ⟨fun hrun => ?_, fun hrun => ?_⟩⟩⟩
  · obtain ⟨t, ht, g, hf⟩ := took_listen hu h
    refine ⟨t, ht, ?_, hf⟩
    rw [flag_touched g (atTile_ne_module (by decide) (by decide))]
    simp [listenStart, State.flag, putBit_get]
  · obtain ⟨t, ht, hw, hcmd, hf⟩ := took_wake_listening hu h h3
    exact ⟨t, ht, hw.state, hw.mask, hw.wakes, hcmd, hw.cause, hw.dom, hw.arrived, hf⟩
  · obtain ⟨t, ht, -, hf⟩ := took_wake hu h (ks := []) (ps := []) (by rw [wakeCmd_other h3]; exact .refl ..) (by simp)
    exact ⟨t, ht, hf⟩
  · obtain ⟨t, ht, g⟩ := took_onTile (fun s => listenEntered s u) hs hu
    rw [listenEntered_eq hr hcmd] at g
    have hl : LanesListened u s (tileListens (lanesListen s u) u) := lanesListened hu
    have hnum (k : Nat) := (g [] []).num_eq (k := k) (by simp) (by simp)
    have hflag (k i : Nat) := (g [] []).flag_eq (k := k) (by simp) (by simp) i
    have hchan (d : Nat) := ((g [] []).chan_eq (by simp) d).trans (hl.chan d)
    obtain ⟨hstate, hpend, hconv, hdom, hready⟩ := tileListens_reads (s := lanesListen s u) (u := u)
    refine ⟨t, ht, (hnum _).trans hstate, (hflag ..).trans hpend, (hnum _).trans hconv, domState_of_num (hnum _) hdom,
      (hflag ..).trans hready, fun c hc => ⟨(hchan c).trans (if_pos hc), (hnum _).trans (hl.tmu c hc), ?_⟩,
      fun c hc => (hchan c).trans (if_neg hc), hl.frame.trans (g ..)⟩
    rw [(g [] []).slow (by simp)]
    exact hl.wake c hc
  · obtain ⟨t, ht, hchan, hquiet, hwoken⟩ := took_wakeEvent hs hu h3 hb hn
    refine ⟨t, ht, fun p hp => (hchan _).trans (chan_padsSet hn hp), fun c hc => (hchan c).trans (chan_padsSet_other hc),
      fun hno => hquiet ?_, fun ⟨j, hj, hit⟩ => ?_⟩
    · exact List.filter_eq_nil_iff.2 fun j hj => Bool.eq_false_iff.1 (hno j (List.mem_range.1 hj))
    · obtain ⟨hw, hf⟩ := hwoken (List.ne_nil_of_mem (mem_wokenLanes.2 ⟨hj, hit⟩))
      have hmem {i : Nat} (hi : i < 8) : i ∈ wokenLanes s u inputs ↔ laneWakes s u inputs i = true :=
        mem_wokenLanes.trans (and_iff_right hi)
      refine ⟨hw.state, hw.dom, hw.wakes, fun i hi => ⟨?_, (hw.counts i).trans (if_congr (hmem hi) rfl rfl)⟩, hw.cause,
        hw.arrived, hf.mono (fun k hk => ?_) fun _ p => p⟩
      · rw [hw.mask, bit_sum_two_pow (wokenLanes_sorted inputs), Bool.eq_iff_iff, decide_eq_true_iff]
        exact hmem hi
      · simp only [wakeKeys, List.mem_cons, List.mem_append] at hk ⊢
        refine hk.imp_right fun hk => hk.imp_right (chKeys_mono fun c hc => ?_)
        obtain ⟨i, hi, rfl⟩ := List.mem_map.1 hc
        exact List.mem_map_of_mem (List.mem_filter.1 hi).1
  · obtain ⟨t, ht, g⟩ := took_onTile (fun s => tileAwake s u) hs hu
    rw [tileAwake_waking h4 hrun] at g
    have hnum (k : Nat) := (g [] []).num_eq (k := k) (by simp) (by simp)
    have hchan (d : Nat) := ((g [] []).chan_eq (by simp) d).trans (chan_tileBack hu d)
    have hflag (k i : Nat) := (g [] []).flag_eq (k := k) (by simp) (by simp) i
    obtain ⟨hstate, hdom, hready, hcmd⟩ := tileBack_reads (s := s) hu
    refine ⟨t, ht, (hnum _).trans hstate, domState_of_num (hnum _) hdom, (hflag ..).trans hready, (hflag ..).trans hcmd,
      fun c hc => ?_, fun c hc => (hchan c).trans (if_neg hc), ((g [] []).slow (by simp)).trans slow_tileBack,
      frame_tileBack.trans (g ..)⟩
    rw [hchan, if_pos hc, chanBack]
    cases hp : (s.chan c).powered <;> simp [chanEnabled, hp]
  · obtain ⟨t, ht, g⟩ := took_onTile (fun s => tileAwake s u) hs hu
    rw [tileAwake_waits hrun] at g
    exact ⟨t, ht, g ..⟩

end Sys2Proof.Machine

/-! PROOFS. A fail record on its way into memory (O47). The statement asks nothing of the store that holds memory's bytes, so a
store that lists one address twice is among its states. -/

namespace Sys2Proof.Machine

/-- A FAILFLAG record (R395) of issue 5, which failed on channel 0: the bytes above the lowest of its ISSUE field are 0. -/
def waitingRecord : Bytes := recordBytes ⟨5, 3, 0, 0, [(0, ⟨1, 2⟩)], 0, some 1⟩ 1 1

/-- The record waits to be written at offset 4,096 of a cistern region of 1 MiB, whose stack is mapped, while the store of
memory lists the address of the record's second byte twice, so that it is not rising (see `Mem.Canon`). -/
def recordOverTwins : State :=
  let s := State.reset.setNum K.STACK_STATE 1
  let s := s.setMem { s.mem with
    cisMask := 1, cisMib := 1, cells := [(winCis + 4097, 1#8), (winCis + 4097, 1#8)], lost := [] }
  s.setCis { s.cis with queue := [⟨32, [(4096, waitingRecord)], some (4096, waitingRecord.length)⟩] }

theorem waitingRecord_second : waitingRecord[1]? = some 0#8 := by decide +kernel

/-- The record's second byte is what an unlisted address reads as, so its write takes an entry out of the store: the first of
the two, and the second is read from then on. -/
theorem exec_recordOverTwins :
    (match exec .recordInMemory recordOverTwins with | .next t => memByte t.mem (winCis + 4097) | _ => 0#8) = 1#8 := by
  decide +kernel

/-- Refutes O47: the record is written to mapped memory without a bad block and counts, and its second byte reads as 1. -/
theorem not_recordsAndSummary : ¬ Obligations.RecordsAndSummary := by
  rintro ⟨-, -, hwritten, -⟩
  obtain ⟨t, ht, -, -, -, hbytes, -⟩ := hwritten recordOverTwins _ _ (by decide +kernel) rfl
  obtain ⟨hread, -⟩ := hbytes 4096 waitingRecord rfl rfl (by decide +kernel) (by decide +kernel) (by decide +kernel)
  have hlen : 1 < waitingRecord.length := by decide +kernel
  have hzero : memByte t.mem (winCis + 4097) = 0#8 := by
    have h := waitingRecord_second
    rw [← hread] at h
    simpa [memRead, hlen] using h
  have hone := exec_recordOverTwins
  rw [ht] at hone
  exact absurd (hone.symm.trans hzero) (by decide)

end Sys2Proof.Machine

/-! PROOFS. A refused command to a TMU (O48). The statement asks nothing of the frame that carries the command, so a frame whose
TAG does not fit its field (R48) is among its ways. -/

namespace Sys2Proof.Machine

/-- A version 2 frame on PF0 whose TAG is beyond the 16 bits of its field. -/
def wideTag : Arrival := ⟨.pf0, 2, 65536, 0, 0, false, 0, none⟩

/-- The management core serves PCIe, and every TMU is OFF. -/
def tmusOff : State := State.reset.setNum K.READY 0x41

theorem passesGate_wideTag : PassesGate tmusOff (.frame wideTag) (atCh K.TMU_CMD 0) 1 := by decide +kernel

theorem mode_tmusOff : tmusOff.num (atCh K.TMU_MODE 0) = 0 := by decide +kernel

/-- The TAG of a version 2 reply is a value of two bytes (R49), so no bytes reply to this frame. -/
theorem not_repliedWith_wideTag (f : Bytes) (code : Nat) : ¬ RepliedWith wideTag f code := by
  rintro ⟨-, htag, -⟩
  have hlt : replyTag 2 f < 256 ^ 2 := fieldAt_lt f 2 2
  exact absurd (htag ▸ hlt) (by decide)

/-- Refutes O48: an ARM refused with TMU_MODE OFF, in a frame whose TAG is 65,536, has no reply with that TAG. -/
theorem not_tmuArmAndClear : ¬ Obligations.TmuArmAndClear := by
  intro h
  obtain ⟨-, -, hrefused, -⟩ := h tmusOff (.frame wideTag) 0 (by decide)
  obtain ⟨t, -, -, hreply⟩ := (hrefused passesGate_wideTag).1 mode_tmusOff
  obtain ⟨f, -, hf⟩ := hreply (by decide) (.inl rfl)
  exact not_repliedWith_wideTag f 8 hf

end Sys2Proof.Machine

/-! PROOFS. The time base (O50): bits of an object, REF B and the active reference (R453–R455), holdover and the stage's lock
(R427, R456), and the oven (R458, R459). -/

namespace Sys2Proof.Machine

/-! ### Bits of an object -/

/-- Adding a bit that is 0 leaves the others. -/
theorem bit_add_two_pow {w i j : Nat} (h : bit w i = false) (hj : j ≠ i) : bit (w + 2 ^ i) j = bit w j := by
  unfold bit at *
  rcases Nat.lt_or_gt_of_ne hj with hlt | hgt
  · have hmod := congrArg (Nat.testBit · j) (Nat.add_mod_right w (2 ^ i))
    simpa only [Nat.testBit_mod_two_pow, hlt, decide_true, Bool.true_and] using hmod
  · obtain ⟨d, rfl⟩ := Nat.exists_eq_add_of_lt hgt
    have hbit : w / 2 ^ i % 2 = 0 := by
      have := decide_eq_false_iff_not.1 (Nat.testBit_eq_decide_div_mod_eq ▸ h)
      omega
    have hdiv : (w + 2 ^ i) / 2 ^ (i + 1) = w / 2 ^ (i + 1) := by
      rw [Nat.pow_succ, ← Nat.div_div_eq_div_mul, ← Nat.div_div_eq_div_mul, Nat.add_div_right _ (Nat.two_pow_pos i)]
      omega
    rw [show i + d + 1 = d + (i + 1) by omega, Nat.testBit_add, Nat.testBit_add, hdiv]

/-- A write of one bit leaves the others. -/
theorem bit_putBit_ne {i j : Nat} (v : Nat) (b : Bool) (hj : j ≠ i) : bit (putBit v i b) j = bit v j := by
  unfold putBit
  split
  next => rfl
  next hne =>
    cases b with
    | true => exact bit_add_two_pow (eq_false_of_ne_true hne) hj
    | false =>
      have hle : 2 ^ i ≤ v := Nat.ge_two_pow_of_testBit (eq_true_of_ne_false hne)
      have hclear : bit (v - 2 ^ i) i = false := by simpa [putBit, hne] using putBit_get v i false
      have hset := bit_add_two_pow hclear hj
      rwa [Nat.sub_add_cancel hle, eq_comm] at hset

section
variable (s : State) (k i j : Nat)

@[simp] theorem flag_setFlag (b : Bool) : (s.setFlag k i b).flag k j = if j = i then b else s.flag k j := by
  rw [State.flag, num_setFlag, if_pos rfl, State.flag]
  split
  next h => rw [h, putBit_get]
  next h => rw [bit_putBit_ne _ _ h]

theorem flag_setFlag_other {l : Nat} (b : Bool) (h : l ≠ k) : (s.setFlag k i b).flag l j = s.flag l j := by
  rw [State.flag, num_setFlag, if_neg h, State.flag]

theorem flag_setNum_other {l : Nat} (v : Nat) (h : l ≠ k) : (s.setNum k v).flag l j = s.flag l j := by
  rw [State.flag, num_setNum, if_neg h, State.flag]

@[simp] theorem flag_raise (n : Nat) : (s.raise n).flag k i = s.flag k i := rfl

end

/-! ### Conditions noted at the armed units -/

theorem frame_tmuNote (s : State) (more : Nat) : Frame [] [.tb] s (tmuNote s more) :=
  (Frame.refl ..).foldl _ fun _ _ _ h => (frame_setTmu h _ _ (by simp)).ite h

theorem epoch_tmuNote (s : State) (more : Nat) : (tmuNote s more).tb.epoch = s.tb.epoch := by
  unfold tmuNote
  induction List.range 96 generalizing s with
  | nil => rfl
  | cons c r ih =>
    rw [List.foldl_cons, ih]
    split <;> rfl

/-! ### Events that take effect -/

section
variable {s : State} {f : State → State}

/-- A command that finds nothing to do has no effect. -/
theorem took_stands (hs : s.pwr.stopped = false) (hf : f s = s) : ∃ t, took s f = .next t ∧ Frame [] [] s t := by
  obtain ⟨t, ht, g⟩ := took_next f hs
  rw [hf] at g
  exact ⟨t, ht, g ..⟩

/-- A command leaves what its event does. -/
theorem took_event {u : State} {ks : List Nat} {ps : List Part} (hs : s.pwr.stopped = false) (hf : f s = u)
    (hu : Frame ks ps s u) : ∃ t, took s f = .next t ∧ Frame [] [] u t ∧ Frame ks ps s t := by
  obtain ⟨t, ht, g⟩ := took_next f hs
  rw [hf] at g
  exact ⟨t, ht, g .., hu.trans (g ..)⟩

end

section
variable {u t : State} (g : Frame [] [] u t)
include g

theorem Frame.flag_all (k i : Nat) : t.flag k i = u.flag k i := g.flag_eq (by simp) (by simp) i

theorem Frame.arrived_all : t.flt.arrived = u.flt.arrived := by rw [g.flt_eq (by simp) (by simp)]

end

/-! ### The active reference -/

/-- The reference that REF_SEL and the qualification of REF B ask for (R453). -/
def refWanted (s : State) : Nat := if s.num K.REF_SEL = 1 ∧ s.flag K.TB_FLAGS 3 then 1 else 0

/-- The active reference is the one asked for, and a change of it counts and slews (R453, R455). -/
structure RefFollows (s t : State) : Prop where
  active : t.num K.REF_ACTIVE = refWanted s
  switched : refWanted s ≠ s.num K.REF_ACTIVE →
    t.num K.REF_SWITCHES = inc32 (s.num K.REF_SWITCHES) ∧ t.flag K.TB_FLAGS 5 = true
  stood : refWanted s = s.num K.REF_ACTIVE → t.num K.REF_SWITCHES = s.num K.REF_SWITCHES
  flags : ∀ i, i ≠ 5 → t.flag K.TB_FLAGS i = s.flag K.TB_FLAGS i
  frame : Frame [K.TB_FLAGS, K.REF_ACTIVE, K.REF_SWITCHES] [.tb] s t

section
variable {s t : State}

theorem refFollows_refUpdate (s : State) : RefFollows s (refUpdate s) := by
  by_cases h : refWanted s = s.num K.REF_ACTIVE
  · have hu : refUpdate s = s := if_pos h
    rw [hu]
    exact ⟨h.symm, fun hn => absurd h hn, fun _ => rfl, fun _ _ => rfl, .refl ..⟩
  · let u := ((s.setNum K.REF_ACTIVE (refWanted s)).inc K.REF_SWITCHES).setFlag K.TB_FLAGS 5 true
    have hu : refUpdate s = tmuNote u 32 := if_neg h
    have hn := frame_tmuNote u 32
    have hf : Frame [K.TB_FLAGS, K.REF_ACTIVE, K.REF_SWITCHES] [.tb] s u :=
      frame_setFlag (frame_inc (frame_setNum (.refl ..) _ (.inl (by simp))) (.inl (by simp))) _ _ (.inl (by simp))
    have hnum (k : Nat) : (tmuNote u 32).num k = u.num k := hn.num_eq (by simp) (by simp)
    have hflag (i : Nat) : (tmuNote u 32).flag K.TB_FLAGS i = u.flag K.TB_FLAGS i := hn.flag_eq (by simp) (by simp) i
    rw [hu]
    refine ⟨by simp [hnum, u], fun _ => ⟨by simp [hnum, u], by simp [hflag, u]⟩, fun he => absurd he h, fun i hi => ?_,
      hf.trans (hn.mono (by simp) (by simp))⟩
    simp only [hflag, u, flag_setFlag, hi, if_false]
    simp [State.flag]

/-- What is seen of a command is what it leaves. -/
theorem RefFollows.seen {u : State} (h : RefFollows s u) (g : Frame [] [] u t) : RefFollows s t where
  active := (g.num_all _).trans h.active
  switched hw := ⟨(g.num_all _).trans (h.switched hw).1, (g.flag_all ..).trans (h.switched hw).2⟩
  stood hw := (g.num_all _).trans (h.stood hw)
  flags i hi := (g.flag_all ..).trans (h.flags i hi)
  frame := h.frame.trans (g.mono (by simp) (by simp))

end

section
variable {s : State}

/-- REF B becomes qualified (R454). -/
def refinNoted (s : State) (ppb : Int) : State :=
  ((s.setNum K.REFIN_PPB (raw 32 ppb)).setFlag K.TB_FLAGS 2 true).setFlag K.TB_FLAGS 3 true

theorem refinNear_iff {ppb : Int} : refinNear ppb = true ↔ -20000000 ≤ ppb ∧ ppb ≤ 20000000 := by simp [refinNear]

theorem refinNear_eq_false {ppb : Int} (h : ppb < -20000000 ∨ 20000000 < ppb) : refinNear ppb = false :=
  eq_false_of_ne_true fun hn => by have := refinNear_iff.1 hn; omega

theorem refinQualified_near {ppb : Int} (hd : domState s 2 ≠ 0) (hn : refinNear ppb = true) :
    refinQualified s ppb = refUpdate (refinNoted s ppb) := if_neg (by simp [hd, hn])

theorem refinQualified_stands {ppb : Int} (h : domState s 2 = 0 ∨ ppb < -20000000 ∨ 20000000 < ppb) :
    refinQualified s ppb = s := if_pos (h.imp_right fun h => by simp [refinNear_eq_false h])

theorem frame_refinNoted (ppb : Int) : Frame [K.REFIN_PPB, K.TB_FLAGS] [] s (refinNoted s ppb) :=
  frame_setFlag (frame_setFlag (frame_setNum (.refl ..) _ (.inl (by simp))) _ _ (.inl (by simp))) _ _ (.inl (by simp))

/-- REF B has lost its qualification (R454). -/
def refinLost (s : State) (present : Bool) (ppb : Int) : State :=
  ((((if present then s.setNum K.REFIN_PPB (raw 32 ppb) else s).setFlag K.TB_FLAGS 2 present).setFlag K.TB_FLAGS 3 false).inc
    K.REFIN_LOSSES).raise 0x77

theorem refinLoss_qualified {present : Bool} {ppb : Int} (hq : s.flag K.TB_FLAGS 3 = true)
    (hl : present = false ∨ ppb < -20000000 ∨ 20000000 < ppb) :
    refinLoss s present ppb = refUpdate (refinLost s present ppb) := by
  have hnear : ¬(present = true ∧ refinNear ppb = true) := fun ⟨hp, hn⟩ => by
    rcases hl with hl | hl
    · rw [hl] at hp; exact absurd hp (by decide)
    · rw [refinNear_eq_false hl] at hn; exact absurd hn (by decide)
  simp only [refinLoss, if_neg hnear, hq, Bool.not_true, Bool.false_eq_true, if_false]
  rfl

theorem refinLoss_present {ppb : Int} (h : s.flag K.TB_FLAGS 3 = false ∨ -20000000 ≤ ppb ∧ ppb ≤ 20000000) :
    refinLoss s true ppb = s := by
  rcases h with hq | hn
  · simp [refinLoss, hq]
  · simp [refinLoss, refinNear_iff.2 hn]

theorem refinLoss_absent (hq : s.flag K.TB_FLAGS 3 = false) (ppb : Int) :
    refinLoss s false ppb = s.setFlag K.TB_FLAGS 2 false := by
  simp [refinLoss, hq]

theorem frame_refinLost (present : Bool) (ppb : Int) :
    Frame [K.REFIN_PPB, K.REFIN_LOSSES, K.TB_FLAGS] [.arrived] s (refinLost s present ppb) := by
  have hp : Frame [K.REFIN_PPB, K.REFIN_LOSSES, K.TB_FLAGS] [.arrived] s
      (if present then s.setNum K.REFIN_PPB (raw 32 ppb) else s) := (frame_setNum (.refl ..) _ (.inl (by simp))).ite (.refl ..)
  exact frame_raise (frame_inc (frame_setFlag (frame_setFlag hp _ _ (.inl (by simp))) _ _ (.inl (by simp))) (.inl (by simp))) _
    (.inr (by simp))

theorem num_refinLost (present : Bool) (ppb : Int) {k : Nat} (hk : k ≠ K.TB_FLAGS) : (refinLost s present ppb).num k =
    if k = K.REFIN_LOSSES then inc32 (s.num K.REFIN_LOSSES)
    else if k = K.REFIN_PPB ∧ present = true then raw 32 ppb else s.num k := by
  cases present <;> simp [refinLost, hk]

theorem flag_refinLost (present : Bool) (ppb : Int) (i : Nat) : (refinLost s present ppb).flag K.TB_FLAGS i =
    if i = 3 then false else if i = 2 then present else s.flag K.TB_FLAGS i := by
  rw [refinLost, flag_raise, State.inc, flag_setNum_other _ _ _ _ (by decide), flag_setFlag, flag_setFlag]
  cases present with
  | false => rfl
  | true => rw [if_pos rfl, flag_setNum_other _ _ _ _ (by decide)]

/-! ### Holdover and the stage's lock -/

/-- The stage holds over (R456). -/
def heldOver (s : State) : State := ((s.setFlag K.TB_FLAGS 4 true).setFlag K.TB_FLAGS 0 false).raise 0x77

theorem refHoldover_holds (h : tbHoldover s = false) (hd : domState s 2 ≠ 0) : refHoldover s = tmuNote (heldOver s) 64 :=
  if_neg (by simp [h, hd])

theorem frame_heldOver : Frame [K.TB_FLAGS] [.tb, .arrived] s (tmuNote (heldOver s) 64) :=
  (frame_raise (frame_setFlag (frame_setFlag (.refl ..) _ _ (.inl (by simp))) _ _ (.inl (by simp))) _ (.inr (by simp))).trans
    ((frame_tmuNote ..).mono (by simp) (by simp))

/-- The stage has locked; after holdover it slews (R456). -/
def stageLocked (s : State) : State :=
  let u := (s.setFlag K.TB_FLAGS 4 false).setFlag K.TB_FLAGS 0 true
  if tbHoldover s then tmuNote (u.setFlag K.TB_FLAGS 5 true) 32 else u

/-- The epoch is fixed at the first lock (R427). -/
def epochFixed (s : State) : State :=
  if s.tb.epoch then s else tbStep (s.setTb { s.tb with epoch := true }) (-(s.num K.TB_NOW : Int))

theorem refLock_locks (hd : domState s 2 ≠ 0) : refLock s = epochFixed (stageLocked s) := if_neg hd

theorem frame_stageLocked : Frame [K.TB_FLAGS] [.tb] s (stageLocked s) := by
  have hu : Frame [K.TB_FLAGS] [.tb] s ((s.setFlag K.TB_FLAGS 4 false).setFlag K.TB_FLAGS 0 true) :=
    frame_setFlag (frame_setFlag (.refl ..) _ _ (.inl (by simp))) _ _ (.inl (by simp))
  exact ((frame_setFlag hu _ _ (.inl (by simp))).trans ((frame_tmuNote ..).mono (by simp) (by simp))).ite hu

theorem epoch_stageLocked : (stageLocked s).tb.epoch = s.tb.epoch := by
  unfold stageLocked
  dsimp only
  split
  · exact epoch_tmuNote ..
  · rfl

theorem flag_stageLocked (i : Nat) : (stageLocked s).flag K.TB_FLAGS i =
    if i = 5 ∧ tbHoldover s = true then true else if i = 0 then true else if i = 4 then false else s.flag K.TB_FLAGS i := by
  unfold stageLocked
  cases tbHoldover s with
  | false => simp
  | true =>
    rw [if_pos rfl, (frame_tmuNote ..).flag_eq (by simp) (by simp)]
    simp

theorem num_epochFixed (k : Nat) : (epochFixed s).num k = if k = K.TB_NOW ∧ s.tb.epoch = false then 0 else s.num k := by
  unfold epochFixed
  cases s.tb.epoch with
  | true => simp
  | false =>
    have hz : raw 64 0 = 0 := by decide
    by_cases hk : k = K.TB_NOW <;> simp [tbStep, hk, State.setTb, hz]

theorem epoch_epochFixed : (epochFixed s).tb.epoch = true := by
  unfold epochFixed
  split
  · assumption
  · rfl

theorem frame_epochFixed : Frame [K.TB_NOW] [.tb] s (epochFixed s) :=
  Frame.ite (.refl ..) (frame_setNum (frame_setTb (frame_setTb (.refl ..) _ (by simp)) _ (by simp)) _ (.inl (by simp)))

/-! ### The oven -/

/-- TB_WARM sets (R458). -/
def warmed (s : State) : State := setReady ((s.setTb { s.tb with wasWarm := true }).setFlag K.TB_FLAGS 1 true) 28

theorem warmSecond_counts (hd : domState s 1 ≠ 0) (h : inc32 (s.num K.WARM_SECONDS) < 60 ∨ tbWarm s = true) :
    warmSecond s = s.inc K.WARM_SECONDS := by
  have hw : tbWarm (s.inc K.WARM_SECONDS) = tbWarm s := flag_setNum_other _ _ _ _ (by decide)
  simp only [warmSecond, if_neg hd, num_inc, if_true, hw]
  exact if_neg fun ⟨h1, h2⟩ => by
    rcases h with h | h
    · omega
    · rw [h] at h2; exact absurd h2 (by decide)

theorem warmSecond_warms (hd : domState s 1 ≠ 0) (h : 60 ≤ inc32 (s.num K.WARM_SECONDS)) (hw : tbWarm s = false) :
    warmSecond s = warmed (s.inc K.WARM_SECONDS) := by
  have hw' : tbWarm (s.inc K.WARM_SECONDS) = false := (flag_setNum_other _ _ _ _ (by decide)).trans hw
  simp only [warmSecond, if_neg hd, num_inc, if_true, hw']
  exact if_pos ⟨h, rfl⟩

theorem frame_warmed : Frame [K.TB_FLAGS, K.READY, K.READY_TIMES] [.tb] s (warmed s) :=
  frame_setReady (frame_setFlag (frame_setTb (.refl ..) _ (by simp)) _ _ (.inl (by simp))) _ (by simp) (by simp)

theorem tbWarm_warmed : tbWarm (warmed s) = true := by
  unfold warmed setReady
  dsimp only
  rw [tbWarm, flag_setFlag_other _ _ _ _ _ (by decide)]
  split <;> exact (flag_setFlag (s.setTb _) K.TB_FLAGS 1 1 true).trans (if_pos rfl)

/-- A difference in m°C from the setpoint lies outside a limit (R458, R459). -/
def ovenOut (d lim : Int) : Bool := decide (d < -lim) || decide (lim < d)

theorem ovenOut_iff {d lim : Int} : ovenOut d lim = true ↔ d < -lim ∨ lim < d := by simp [ovenOut]

theorem ovenOut_eq_false {d lim : Int} (h1 : -lim ≤ d) (h2 : d ≤ lim) : ovenOut d lim = false :=
  eq_false_of_ne_true fun h => by have := ovenOut_iff.1 h; omega

/-- The oven's temperature is noted, and outside ±0.05 °C the seconds in range restart (R458). -/
def ovenNoted (s : State) (temp : Int) : State :=
  let u := s.setNum K.OVEN_TEMP (raw 32 temp)
  if ovenOut (temp - s.int32 K.OVEN_SETPOINT) 50 then u.setNum K.WARM_SECONDS 0 else u

/-- TB_WARM clears (R459). -/
def warmthLost (s : State) : State := tmuNote (((s.setFlag K.TB_FLAGS 1 false).raise 0x78).setFlag K.READY 28 false) 0

theorem num_ovenNoted (temp : Int) (k : Nat) : (ovenNoted s temp).num k =
    if k = K.WARM_SECONDS ∧ ovenOut (temp - s.int32 K.OVEN_SETPOINT) 50 = true then 0
    else if k = K.OVEN_TEMP then raw 32 temp else s.num k := by
  unfold ovenNoted
  cases ovenOut (temp - s.int32 K.OVEN_SETPOINT) 50 <;> simp

theorem tbWarm_ovenNoted (temp : Int) : tbWarm (ovenNoted s temp) = tbWarm s := by
  simp [tbWarm, State.flag, num_ovenNoted]

theorem frame_ovenNoted (temp : Int) : Frame [K.OVEN_TEMP, K.WARM_SECONDS] [] s (ovenNoted s temp) :=
  have hu : Frame [K.OVEN_TEMP, K.WARM_SECONDS] [] s (s.setNum K.OVEN_TEMP (raw 32 temp)) :=
    frame_setNum (.refl ..) _ (.inl (by simp))
  (frame_setNum hu _ (.inl (by simp))).ite hu

theorem ovenLeaves_eq (temp : Int) : ovenLeaves s temp =
    if (ovenOut (temp - s.int32 K.OVEN_SETPOINT) 200 && tbWarm s) = true then warmthLost (ovenNoted s temp)
    else ovenNoted s temp := by
  have hset : (s.setNum K.OVEN_TEMP (raw 32 temp)).int32 K.OVEN_SETPOINT = s.int32 K.OVEN_SETPOINT := by simp [State.int32]
  rw [← tbWarm_ovenNoted temp]
  simp only [ovenLeaves, hset]
  rfl

theorem frame_warmthLost : Frame [K.TB_FLAGS, K.READY] [.tb, .arrived] s (warmthLost s) :=
  (frame_setFlag (frame_raise (frame_setFlag (.refl ..) _ _ (.inl (by simp))) _ (.inr (by simp))) _ _ (.inl (by simp))).trans
    ((frame_tmuNote ..).mono (by simp) (by simp))

theorem tbWarm_warmthLost : tbWarm (warmthLost s) = false := by
  rw [tbWarm, warmthLost, (frame_tmuNote ..).flag_eq (by simp) (by simp), flag_setFlag_other _ _ _ _ _ (by decide), flag_raise,
    flag_setFlag, if_pos rfl]

theorem ready_warmthLost : (warmthLost s).flag K.READY 28 = false := by
  rw [warmthLost, (frame_tmuNote ..).flag_eq (by simp) (by simp), flag_setFlag, if_pos rfl]

theorem arrived_warmthLost : (warmthLost s).flt.arrived = s.flt.arrived ++ [(0x78, false)] := by
  rw [warmthLost, (frame_tmuNote ..).flt_eq (by simp) (by simp)]
  rfl

theorem num_warmthLost {k : Nat} (h1 : k ≠ K.TB_FLAGS) (h2 : k ≠ K.READY) : (warmthLost s).num k = s.num k :=
  frame_warmthLost.num_eq (by simp [h1, h2]) (by simp)

end

/-! ### The events of the time base -/

section
variable {s : State}

theorem refHoldover_stands (h : tbHoldover s = true ∨ domState s 2 = 0) : refHoldover s = s := if_pos h

theorem refLock_off (hd : domState s 2 = 0) : refLock s = s := if_pos hd

theorem warmSecond_off (hd : domState s 1 = 0) : warmSecond s = s := if_pos hd

theorem ovenTimeout_raises (hd : domState s 1 ≠ 0) (hw : s.tb.wasWarm = false) : ovenTimeout s = s.raise 0x78 :=
  if_pos (by simp [hd, hw])

theorem ovenTimeout_stands (h : domState s 1 = 0 ∨ s.tb.wasWarm = true) : ovenTimeout s = s :=
  if_neg (by rcases h with h | h <;> simp [h])

variable (hs : s.pwr.stopped = false)
include hs

/-- A REF B that qualifies sets its flags and its offset, and the active reference follows (R453, R454). -/
theorem took_refinQualified {ppb : Int} (hd : domState s 2 ≠ 0) (hn : refinNear ppb = true) :
    ∃ t, exec (.refinQualified ppb) s = .next t ∧ RefFollows (refinNoted s ppb) t ∧
      Frame [K.REFIN_PPB, K.TB_FLAGS, K.REF_ACTIVE, K.REF_SWITCHES] [.tb] s t := by
  have hr := refFollows_refUpdate (refinNoted s ppb)
  have hf := (frame_refinNoted (s := s) ppb).mono (ks' := [K.REFIN_PPB, K.TB_FLAGS, K.REF_ACTIVE, K.REF_SWITCHES])
    (ps' := [.tb]) (by simp) (by simp)
  obtain ⟨t, ht, g, hst⟩ := took_event (f := fun s => refinQualified s ppb) hs (refinQualified_near hd hn)
    (hf.trans (hr.frame.mono (by simp) (by simp)))
  exact ⟨t, ht, hr.seen g, hst⟩

/-- A qualified REF B that is lost counts and is raised, and the active reference follows (R453, R454). -/
theorem took_refinLoss {present : Bool} {ppb : Int} (hq : s.flag K.TB_FLAGS 3 = true)
    (hl : present = false ∨ ppb < -20000000 ∨ 20000000 < ppb) :
    ∃ t, exec (.refinLoss present ppb) s = .next t ∧ RefFollows (refinLost s present ppb) t ∧
      Frame [K.REFIN_PPB, K.REFIN_LOSSES, K.TB_FLAGS, K.REF_ACTIVE, K.REF_SWITCHES] [.tb, .arrived] s t := by
  have hr := refFollows_refUpdate (refinLost s present ppb)
  have hf := (frame_refinLost (s := s) present ppb).mono
    (ks' := [K.REFIN_PPB, K.REFIN_LOSSES, K.TB_FLAGS, K.REF_ACTIVE, K.REF_SWITCHES]) (ps' := [.tb, .arrived])
    (by simp) (by simp)
  obtain ⟨t, ht, g, hst⟩ := took_event (f := fun s => refinLoss s present ppb) hs (refinLoss_qualified hq hl)
    (hf.trans (hr.frame.mono (by simp) (by simp)))
  exact ⟨t, ht, hr.seen g, hst⟩

theorem took_referenceHoldover (hh : tbHoldover s = false) (hd : domState s 2 ≠ 0) :
    ∃ t, exec .referenceHoldover s = .next t ∧ tbHoldover t = true ∧ tbLocked t = false ∧
      t.flt.arrived = s.flt.arrived ++ [(0x77, false)] ∧ Frame [K.TB_FLAGS] [.tb, .arrived] s t := by
  obtain ⟨t, ht, g, hst⟩ := took_event hs (refHoldover_holds hh hd) frame_heldOver
  have hn := (frame_tmuNote (heldOver s) 64).trans (g.mono (by simp) (by simp))
  have hflag (i : Nat) : t.flag K.TB_FLAGS i = (heldOver s).flag K.TB_FLAGS i := hn.flag_eq (by simp) (by simp) i
  refine ⟨t, ht, (hflag 4).trans ?_, (hflag 0).trans ?_, ?_, hst⟩
  · simp [heldOver]
  · simp [heldOver]
  · rw [hn.flt_eq (by simp) (by simp)]
    rfl

theorem took_referenceStageLock (hd : domState s 2 ≠ 0) :
    ∃ t, exec .referenceStageLock s = .next t ∧ tbHoldover t = false ∧ tbLocked t = true ∧
      (tbHoldover s = true → t.flag K.TB_FLAGS 5 = true) ∧ t.tb.epoch = true ∧
      t.num K.TB_NOW = (if s.tb.epoch then s.num K.TB_NOW else 0) ∧ Frame [K.TB_FLAGS, K.TB_NOW] [.tb] s t := by
  obtain ⟨t, ht, g, hst⟩ := took_event hs (refLock_locks hd) ((frame_stageLocked.mono (ks' := [K.TB_FLAGS, K.TB_NOW])
    (by simp) fun _ p => p).trans (frame_epochFixed.mono (by simp) fun _ p => p))
  have hflag (i : Nat) : t.flag K.TB_FLAGS i = (stageLocked s).flag K.TB_FLAGS i :=
    (g.flag_all ..).trans (frame_epochFixed.flag_eq (by simp) (by simp) i)
  refine ⟨t, ht, ?_, ?_, fun hh => ?_, ?_, ?_, hst⟩
  · exact (hflag 4).trans (by simp [flag_stageLocked])
  · exact (hflag 0).trans (by simp [flag_stageLocked])
  · exact (hflag 5).trans (by simp [flag_stageLocked, hh])
  · rw [g.tb (by simp)]
    exact epoch_epochFixed
  · rw [g.num_all, num_epochFixed, epoch_stageLocked, frame_stageLocked.num_eq (by simp) (by simp)]
    cases s.tb.epoch <;> simp

theorem took_warmSecond (hd : domState s 1 ≠ 0) :
    ∃ t, exec .warmSecond s = .next t ∧ t.num K.WARM_SECONDS = inc32 (s.num K.WARM_SECONDS) ∧
      (60 ≤ t.num K.WARM_SECONDS → tbWarm t = true ∧ (tbWarm s = false → t.flag K.READY 28 = true)) ∧
      (t.num K.WARM_SECONDS < 60 → tbWarm t = tbWarm s) ∧
      Frame [K.WARM_SECONDS, K.TB_FLAGS, K.READY, K.READY_TIMES] [.tb] s t := by
  have hc : Frame [K.WARM_SECONDS, K.TB_FLAGS, K.READY, K.READY_TIMES] [.tb] s (s.inc K.WARM_SECONDS) :=
    frame_inc (.refl ..) (.inl (by simp))
  by_cases h : inc32 (s.num K.WARM_SECONDS) < 60 ∨ tbWarm s = true
  · obtain ⟨t, ht, g, hst⟩ := took_event hs (warmSecond_counts hd h) hc
    have hwarm : tbWarm t = tbWarm s := (g.flag_all ..).trans (flag_setNum_other _ _ _ _ (by decide))
    have hsec : t.num K.WARM_SECONDS = inc32 (s.num K.WARM_SECONDS) := by simp [g.num_all]
    refine ⟨t, ht, hsec, fun h60 => ?_, fun _ => hwarm, hst⟩
    have hw := h.resolve_left (by omega)
    exact ⟨hwarm.trans hw, fun hf => Bool.noConfusion (hw.symm.trans hf)⟩
  · obtain ⟨h60, hw⟩ := not_or.1 h
    obtain ⟨t, ht, g, hst⟩ := took_event hs (warmSecond_warms hd (Nat.not_lt.1 h60) (eq_false_of_ne_true hw))
      (hc.trans (frame_warmed.mono (by simp) fun _ p => p))
    have hsec : t.num K.WARM_SECONDS = inc32 (s.num K.WARM_SECONDS) := by
      rw [g.num_all, frame_warmed.num_eq (by simp) (by simp), num_inc, if_pos rfl]
    exact ⟨t, ht, hsec, fun _ => ⟨(g.flag_all ..).trans tbWarm_warmed, fun _ => (g.flag_all ..).trans (flag_setReady ..)⟩,
      fun hlt => absurd (hsec ▸ hlt) h60, hst⟩

/-- The oven's temperature is noted, and far from the setpoint TB_WARM clears (R458, R459). -/
theorem took_ovenOutOfRange (temp : Int) :
    let d := temp - s.int32 K.OVEN_SETPOINT
    ∃ t, exec (.ovenOutOfRange temp) s = .next t ∧ t.num K.OVEN_TEMP = raw 32 temp ∧
      (d < -50 ∨ 50 < d → t.num K.WARM_SECONDS = 0) ∧ (d < -200 ∨ 200 < d → tbWarm t = false) ∧
      (d < -200 ∨ 200 < d → tbWarm s = true → t.flag K.READY 28 = false ∧
        t.flt.arrived = s.flt.arrived ++ [(0x78, false)]) ∧
      (-50 ≤ d → d ≤ 50 → Frame [K.OVEN_TEMP] [] s t) ∧
      (-200 ≤ d → d ≤ 200 → Frame [K.OVEN_TEMP, K.WARM_SECONDS] [] s t) ∧
      Frame [K.OVEN_TEMP, K.WARM_SECONDS, K.TB_FLAGS, K.READY] [.tb, .arrived] s t := by
  intro d
  have hn : Frame [K.OVEN_TEMP, K.WARM_SECONDS, K.TB_FLAGS, K.READY] [.tb, .arrived] s (ovenNoted s temp) :=
    (frame_ovenNoted temp).mono (by simp) (by simp)
  have hin : -50 ≤ d → d ≤ 50 → ovenNoted s temp = s.setNum K.OVEN_TEMP (raw 32 temp) := fun h1 h2 =>
    if_neg (ne_true_of_eq_false (ovenOut_eq_false h1 h2))
  by_cases h : ovenOut d 200 = true ∧ tbWarm s = true
  · obtain ⟨t, ht, g, hst⟩ := took_event (f := fun s => ovenLeaves s temp) hs
      ((ovenLeaves_eq temp).trans (if_pos (by simpa using h))) (hn.trans (frame_warmthLost.mono (by simp) (by simp)))
    have hout := ovenOut_iff.1 h.1
    have hnum {k : Nat} (h1 : k ≠ K.TB_FLAGS) (h2 : k ≠ K.READY) : t.num k = (ovenNoted s temp).num k :=
      (g.num_all k).trans (num_warmthLost h1 h2)
    refine ⟨t, ht, ?_, fun h50 => ?_, fun _ => (g.flag_all ..).trans tbWarm_warmthLost,
      fun _ _ => ⟨(g.flag_all ..).trans ready_warmthLost, ?_⟩, fun _ _ => by omega, fun _ _ => by omega, hst⟩
    · rw [hnum (by decide) (by decide)]
      simp [num_ovenNoted]
    · rw [hnum (by decide) (by decide), num_ovenNoted, if_pos ⟨rfl, ovenOut_iff.2 h50⟩]
    · rw [g.arrived_all, arrived_warmthLost, (frame_ovenNoted temp).flt_eq (by simp) (by simp)]
  · obtain ⟨t, ht, g, hst⟩ := took_event (f := fun s => ovenLeaves s temp) hs
      ((ovenLeaves_eq temp).trans (if_neg (by simpa using h))) hn
    have hwarm : tbWarm t = tbWarm s := (g.flag_all ..).trans (tbWarm_ovenNoted temp)
    refine ⟨t, ht, ?_, fun h50 => ?_, fun h200 => ?_, fun h200 hw => absurd ⟨ovenOut_iff.2 h200, hw⟩ h, fun h1 h2 => ?_,
      fun _ _ => (frame_ovenNoted temp).trans (g.mono (by simp) (by simp)), hst⟩
    · simp [g.num_all, num_ovenNoted]
    · rw [g.num_all, num_ovenNoted, if_pos ⟨rfl, ovenOut_iff.2 h50⟩]
    · rw [hwarm]
      exact eq_false_of_ne_true fun hw => h ⟨ovenOut_iff.2 h200, hw⟩
    · rw [hin h1 h2] at g
      exact (frame_setNum_one ..).trans (g.mono (by simp) (by simp))

end

/-- Settles O50: each event is a few objects' updates, or none, with the conditions noted at the armed units and the active
reference following. -/
theorem timeBaseEvents : Obligations.TimeBaseEvents := by
  intro s hs
  refine ⟨fun ppb hd hlo hhi => ?_, fun ppb h => took_stands (f := fun s => refinQualified s ppb) hs (refinQualified_stands h),
    fun present ppb hq hl => ?_,
    fun present ppb hp h => took_stands (f := fun s => refinLoss s present ppb) hs (by rw [hp, refinLoss_present h]),
    fun hq ppb => ?_, ?_, took_referenceHoldover hs, fun h => took_stands (f := refHoldover) hs (refHoldover_stands h),
    took_referenceStageLock hs, fun hd => took_stands (f := refLock) hs (refLock_off hd), took_warmSecond hs,
    fun hd => took_stands (f := warmSecond) hs (warmSecond_off hd), took_ovenOutOfRange hs, fun hd hw => ?_,
    fun h => took_stands (f := ovenTimeout) hs (ovenTimeout_stands h), ?_, fun h => if_pos (.inl h),
    fun hr hd hh => ?_, fun hr hd hh => ?_⟩
  · obtain ⟨t, ht, hr, hst⟩ := took_refinQualified hs hd (refinNear_iff.2 ⟨hlo, hhi⟩)
    have hw : refWanted (refinNoted s ppb) = if s.num K.REF_SEL = 1 then 1 else 0 := by simp [refWanted, refinNoted]
    have hnum {k : Nat} (hk : k ∉ [K.REFIN_PPB, K.TB_FLAGS]) : (refinNoted s ppb).num k = s.num k :=
      (frame_refinNoted ppb).num_eq hk (by simp)
    refine ⟨t, ht, ?_, ?_, ?_, hr.active.trans hw, ?_, ?_, hst⟩
    · rw [hr.frame.num_eq (by simp) (by simp)]
      simp [refinNoted]
    · rw [hr.flags 2 (by decide)]
      simp [refinNoted]
    · rw [hr.flags 3 (by decide)]
      simp [refinNoted]
    · rw [hr.active, ← hnum (k := K.REF_ACTIVE) (by decide), ← hnum (k := K.REF_SWITCHES) (by decide)]
      exact hr.switched
    · rw [hr.active, ← hnum (k := K.REF_ACTIVE) (by decide), ← hnum (k := K.REF_SWITCHES) (by decide)]
      exact hr.stood
  · obtain ⟨t, ht, hr, hst⟩ := took_refinLoss hs hq hl
    have hw : refWanted (refinLost s present ppb) = 0 := by simp [refWanted, flag_refinLost]
    have hact : (refinLost s present ppb).num K.REF_ACTIVE = s.num K.REF_ACTIVE := by simp [num_refinLost]
    have hsw : (refinLost s present ppb).num K.REF_SWITCHES = s.num K.REF_SWITCHES := by simp [num_refinLost]
    refine ⟨t, ht, ?_, ?_, ?_, hr.active.trans hw, ?_, fun hne => ?_, fun he => ?_, ?_, hst⟩
    · rw [hr.flags 2 (by decide), flag_refinLost, if_neg (by decide), if_pos rfl]
    · rw [hr.flags 3 (by decide), flag_refinLost, if_pos rfl]
    · rw [hr.frame.num_eq (by simp) (by simp)]
      simp [num_refinLost]
    · rw [hr.frame.num_eq (by simp) (by simp)]
      simp [num_refinLost]
    · rw [← hsw]
      exact hr.switched (by rw [hw, hact]; exact hne.symm)
    · rw [← hsw]
      exact hr.stood (by rw [hw, hact]; exact he.symm)
    · rw [hr.frame.flt_eq (by simp) (by simp)]
      cases present <;> rfl
  · obtain ⟨t, ht, g, hst⟩ := took_event (f := fun s => refinLoss s false ppb) (ks := [K.TB_FLAGS]) (ps := []) hs
      (refinLoss_absent hq ppb) (frame_setFlag (.refl ..) 2 false (.inl (by simp)))
    exact ⟨t, ht, by simp [g.num_all], hst⟩
  · obtain ⟨t, ht, g, hst⟩ := took_event (f := slewEnd) (ks := [K.TB_FLAGS]) (ps := []) hs rfl
      (frame_setFlag (.refl ..) 5 false (.inl (by simp)))
    exact ⟨t, ht, by simp [g.num_all, slewEnd], hst⟩
  · obtain ⟨t, ht, g, hst⟩ := took_event (ks := []) (ps := [.arrived]) hs (ovenTimeout_raises hd hw)
      (frame_raise (.refl ..) 0x78 (.inr (by simp)))
    exact ⟨t, ht, g.arrived_all, hst⟩
  · obtain ⟨t, ht, g, hst⟩ := took_event (f := heaterFault) (ks := []) (ps := [.arrived]) hs rfl
      (frame_raise (.refl ..) 0x78 (.inr (by simp)))
    exact ⟨t, ht, g.arrived_all, hst⟩
  · simp [refout, hr, hd, hh]
  · simp [refout, hr, hd, hh]

end Sys2Proof.Machine

/-! PROOFS. An edge on its way to a time-measurement unit (O49): what a unit reads of the state, which no other unit's work changes,
which edges it sees (R434, R436, R438), and what a start, a count and a result leave of it (R436, R440, R442, R461–R468). -/

namespace Sys2Proof.Machine

/-! ### The origin of tick 0, which no capture moves -/

/-- The origin of tick 0 (R298, R450). -/
def originOf (s : State) : Int := s.tb.origin

section
variable {s : State} {c : Nat}

theorem originOf_ite {p : Prop} [Decidable p] {t : State} :
    originOf (if p then s else t) = if p then originOf s else originOf t := apply_ite originOf p s t

@[simp] theorem originOf_setNum (k v : Nat) : originOf (s.setNum k v) = originOf s := rfl
@[simp] theorem originOf_setFlag (k i : Nat) (b : Bool) : originOf (s.setFlag k i b) = originOf s := rfl
@[simp] theorem originOf_inc (k : Nat) : originOf (s.inc k) = originOf s := rfl
@[simp] theorem originOf_add (n k d : Nat) : originOf (s.add n k d) = originOf s := rfl
@[simp] theorem originOf_setBlob (k : Nat) (v : Bytes) : originOf (s.setBlob k v) = originOf s := rfl
@[simp] theorem originOf_setTmu (x : Tmu) : originOf (s.setTmu c x) = originOf s := rfl

@[simp] theorem originOf_tmuEnter (m : Int) (b : Bool) : originOf (tmuEnter s c m b) = originOf s := by
  unfold tmuEnter
  cases s.flag (atCh K.TMU_CTRL c) 1 <;> rfl

@[simp] theorem originOf_tmuExpire : originOf (tmuExpire s c) = originOf s := by
  unfold tmuExpire
  dsimp only
  split <;> rfl

@[simp] theorem originOf_tmuCatchUp (t : Int) : originOf (tmuCatchUp s c t) = originOf s := by
  have hr (o : Option Int) : originOf
      (match o with | some r => if 0 ≤ span r t then tmuEnter s c r true else s | none => s) = originOf s := by
    cases o <;> simp [originOf_ite]
  unfold tmuCatchUp
  dsimp only
  split
  · rw [originOf_ite, originOf_tmuExpire, ite_self]
    exact hr _
  · exact hr _

@[simp] theorem originOf_tmuComplete (a b e : Int) (n : Nat) : originOf (tmuComplete s c a b e n) = originOf s := by
  simp [tmuComplete, tmuAccumulate, setNums_cons, setNums_nil, originOf_ite]

@[simp] theorem originOf_tmuStart (t : Int) (b : Bool) : originOf (tmuStart s c t b) = originOf s := rfl

@[simp] theorem originOf_tmuStop (a t : Int) : originOf (tmuStop s c a t) = originOf s := by simp [tmuStop, originOf_ite]

@[simp] theorem originOf_tmuInterval (t : Int) (st sp : Bool) : originOf (tmuInterval s c t st sp) = originOf s := by
  unfold tmuInterval
  dsimp only
  cases (s.tmu c).start <;> cases (s.tmu c).stop <;> simp [originOf_ite]

@[simp] theorem originOf_tmuCounted (t : Int) : originOf (tmuCounted s c t) = originOf s := by
  unfold tmuCounted
  dsimp only
  cases (s.tmu c).start <;> simp [originOf_ite]

@[simp] theorem originOf_tmuPrescaled (t : Int) : originOf (tmuPrescaled s c t) = originOf s := by
  simp [tmuPrescaled, originOf_ite]

@[simp] theorem originOf_tmuWidth (e : Nat) (t : Int) : originOf (tmuWidth s c e t) = originOf s := by
  unfold tmuWidth
  dsimp only
  cases (s.tmu c).start <;> simp [originOf_ite]

@[simp] theorem originOf_tmuCollect (t : Int) (b : Bool) (x : Nat) : originOf (tmuCollect s c t b x) = originOf s := by
  simp [tmuCollect, originOf_ite]

@[simp] theorem originOf_tmuTake (e : Nat) (t : Int) (x : Nat) : originOf (tmuTake s c e t x) = originOf s := by
  simp [tmuTake, originOf_ite]

@[simp] theorem originOf_tmuCapture (e : Nat) (t : Int) : originOf (tmuCapture e t s c) = originOf s := by
  simp [tmuCapture, originOf_ite]

end

/-! ### What a unit reads -/

/-- A channel object that is not of the attention record, by its key at channel 0. -/
abbrev UnitKey (k : Nat) : Prop := ChannelKey k ∧ k ≠ K.ATTN_SEEN ∧ k ≠ K.ATTN_COUNT

theorem unitKey_of_tmuKeys : ∀ k ∈ tmuKeys, UnitKey k := by decide

/-- All that the unit of channel `c` reads is in `t` as in `s`: the objects of its channel but for the attention record, those of
the module and the tiles, its results' buffers, its measurement, and the origin of tick 0. -/
structure SameUnit (c : Nat) (s t : State) : Prop where
  own : ∀ k, UnitKey k → t.num (atCh k c) = s.num (atCh k c)
  module : ∀ k, k < 0x400000 → t.num k = s.num k
  blob : ∀ k ∈ tmuKeys, t.blob (atCh k c) = s.blob (atCh k c)
  tmu : t.tmu c = s.tmu c
  origin : originOf t = originOf s

theorem SameUnit.trans {c : Nat} {s t u : State} (h : SameUnit c s t) (g : SameUnit c t u) : SameUnit c s u where
  own k hk := (g.own k hk).trans (h.own k hk)
  module k hk := (g.module k hk).trans (h.module k hk)
  blob k hk := (g.blob k hk).trans (h.blob k hk)
  tmu := g.tmu.trans h.tmu
  origin := g.origin.trans h.origin

/-- A command that changes the attention record of one channel and no time of the units leaves what they read. -/
theorem sameUnit_of_attn {c l : Nat} {ps : List Part} {s t : State} (h : Frame [atCh K.ATTN_SEEN l, atCh K.ATTN_COUNT l] ps s t)
    (hu : Part.units ∉ ps) (hp : Part.tb ∉ ps) : SameUnit c s t := by
  have hkey {k : Nat} (hk : UnitKey k) : atCh k c ∉ [atCh K.ATTN_SEEN l, atCh K.ATTN_COUNT l] := by
    obtain ⟨hch, hseen, hcount⟩ := hk
    simp only [List.mem_cons, List.not_mem_nil, or_false, not_or]
    exact ⟨fun e => hseen (atCh_inj hch (by decide) e).1, fun e => hcount (atCh_inj hch (by decide) e).1⟩
  refine ⟨fun k hk => h.num_eq (hkey hk) hu, fun k hk => h.num_eq ?_ hu, 
    fun k hk => h.blob _ (hkey (unitKey_of_tmuKeys k hk)), ?_, ?_⟩
  · simp only [List.mem_cons, List.not_mem_nil, or_false, not_or]
    exact ⟨module_ne_channel hk (by decide), module_ne_channel hk (by decide)⟩
  · rw [State.tmu, h.tb hp, State.tmu]
  · rw [originOf, h.tb hp, originOf]

/-- A unit's work leaves what another unit reads. -/
theorem sameUnit_of_other {c d : Nat} {s t : State} (h : TmuFrame d s t) (hm : ∀ x ≠ d, t.tmu x = s.tmu x)
    (ho : originOf t = originOf s) (hcd : c ≠ d) : SameUnit c s t := by
  have hkey {k : Nat} (hk : ChannelKey k) : atCh k c ∉ chKeys tmuKeys [d] :=
    atCh_not_mem_chKeys (fun k hk => (unitKey_of_tmuKeys k hk).1) hk (.inr (by simpa using hcd))
  exact ⟨fun k hk => h.num_eq (hkey hk.1) (by simp),
    fun k hk => h.num_eq (not_mem_chKeys (fun k hk => (unitKey_of_tmuKeys k hk).1.1) hk) (by simp),
    fun k hk => h.blob _ (hkey (unitKey_of_tmuKeys k hk).1), hm c hcd, ho⟩

theorem sameUnit_tmuCapture {c d : Nat} (hd : d < 96) (hcd : c ≠ d) (e : Nat) (t : Int) (s : State) :
    SameUnit c s (tmuCapture e t s d) :=
  sameUnit_of_other (tmuFrame_capture (.refl ..) e t) (measures_tmuCapture (.refl d s) hd e t).tmu (originOf_tmuCapture e t) hcd

theorem SameUnit.refl (c : Nat) (s : State) : SameUnit c s s := ⟨fun _ _ => rfl, fun _ _ => rfl, fun _ _ => rfl, rfl, rfl⟩

theorem sameUnit_tmuCaptureAll {c : Nat} {l : List Nat} (hl : ∀ d ∈ l, d < 96) (hc : c ∉ l) (e : Nat) (t : Int) (s : State) :
    SameUnit c s (tmuCaptureAll e t l s) := by
  unfold tmuCaptureAll
  induction l generalizing s with
  | nil => exact .refl c s
  | cons d r ih =>
    obtain ⟨hcd, hr⟩ := not_or.1 (List.mem_cons.not.1 hc)
    exact (sameUnit_tmuCapture (hl d List.mem_cons_self) hcd e t s).trans
      (ih (fun x hx => hl x (List.mem_cons_of_mem _ hx)) hr _)

/-- An edge reaches one unit of several once, and the others' work is none of its own. -/
theorem tmuCaptureAll_one {c : Nat} {l : List Nat} (hl : ∀ d ∈ l, d < 96) (hn : l.Nodup) (hc : c ∈ l) (e : Nat) (t : Int)
    (s : State) : ∃ u, SameUnit c s u ∧ SameUnit c (tmuCapture e t u c) (tmuCaptureAll e t l s) := by
  obtain ⟨l1, l2, rfl⟩ := List.append_of_mem hc
  obtain ⟨-, h2, h12⟩ := List.nodup_append.1 hn
  refine ⟨tmuCaptureAll e t l1 s, sameUnit_tmuCaptureAll (fun d hd => hl d (by simp [hd]))
    (fun h => h12 c h c (by simp) rfl) e t s, ?_⟩
  have hrest := sameUnit_tmuCaptureAll (fun d hd => hl d (by simp [hd])) (List.nodup_cons.1 h2).1 e t
    (tmuCapture e t (tmuCaptureAll e t l1 s) c)
  simpa only [tmuCaptureAll, List.foldl_append, List.foldl_cons] using hrest

theorem mem_lanesOf {c : Nat} : c ∈ lanesOf (tileOf c) := by
  refine List.mem_map.2 ⟨c % 8, List.mem_range.2 (Nat.mod_lt _ (by decide)), ?_⟩
  unfold tileOf
  omega

theorem lanesOf_lt {c d : Nat} (hc : c < 96) (hd : d ∈ lanesOf (tileOf c)) : d < 96 := by
  obtain ⟨j, hj, rfl⟩ := List.mem_map.1 hd
  have := List.mem_range.1 hj
  unfold tileOf
  omega

/-! ### An edge comes -/

/-- The pads of a lane make one edge: the lane's outputs and its attention record change, and the edge reaches each unit of the
tile (R347, R359, R428, R429). -/
theorem took_tmuEdge {s : State} {c e : Nat} {v : Pad} (hs : s.pwr.stopped = false) (hc : c < 96) (h : EdgeComes s c e v)
    (dt : Nat) :
    let l := 8 * tileOf c + e % 8
    ∃ t u, exec (.tmuEdge c e dt v) s = .next t ∧ (∀ d, t.chan d = (senseVs s l v).chan d) ∧
      Frame (atCh K.ATTN_SEEN l :: atCh K.ATTN_COUNT l :: chKeys tmuKeys (lanesOf (tileOf c)))
        [.chans, .arrived, .tb, .drawn] s t ∧
      SameUnit c s u ∧ SameUnit c (tmuCapture e (now16 s + dt) u c) t := by
  intro l
  obtain ⟨he, hprod, hedge⟩ := h
  have htile : tileOf l = tileOf c := by unfold l tileOf; omega
  have hcode : 16 * ((2 * (e / 8 % 2) + e / 16) % 2) + 8 * ((2 * (e / 8 % 2) + e / 16) / 2) + l % 8 = e := by
    have hlow : l % 8 = e % 8 := by unfold l; omega
    have hslope : (2 * (e / 8 % 2) + e / 16) % 2 = e / 16 := by omega
    have hcmp : (2 * (e / 8 % 2) + e / 16) / 2 = e / 8 % 2 := by omega
    omega
  have hready : tileReady s (tileOf l) = true := by
    simp only [producesEdges, Bool.and_eq_true] at hprod
    exact hprod.1.1.1.1.1
  have hatt : Frame [atCh K.ATTN_SEEN l, atCh K.ATTN_COUNT l] [.arrived] (senseVs s l v) (senseEdge s l v) := by
    rw [senseEdge, if_pos hprod]
    exact (attended_fold ..).frame
  have hsense : Frame [] [.chans] s (senseVs s l v) := frame_setChan (.refl ..) _ _ (by simp)
  have hpads := (hsense.mono (ks' := [atCh K.ATTN_SEEN l, atCh K.ATTN_COUNT l]) (ps' := [.chans, .arrived]) (by simp)
    (by simp)).trans (hatt.mono (fun _ k => k) (by simp))
  have hall := frame_tmuCaptureAll e (now16 s + dt) (lanesOf (tileOf c)) (senseEdge s l v)
  have hmove : tmuEdge s c e dt v = tmuCaptureAll e (now16 s + dt) (lanesOf (tileOf c)) (senseEdge s l v) := by
    have hchan : outputEdges (s.chan l) ((senseEdge s l v).chan l) = [2 * (e / 8 % 2) + e / 16] := by
      rw [hatt.chan_eq (by simp)]
      exact hedge
    have hlane : tmuEdge s c e dt v = laneMoves s l v (now16 s + dt) := (if_pos he).trans (if_pos hready)
    rw [hlane, laneMoves, if_pos hprod, hchan, List.foldl_cons, List.foldl_nil, hcode, htile]
  obtain ⟨t, ht, g⟩ := took_onCh (fun s => tmuEdge s c e dt v) hs hc
  rw [hmove] at g
  obtain ⟨u, hu, hut⟩ := tmuCaptureAll_one (fun d hd => lanesOf_lt hc hd) (lanesOf_nodup (tileOf c)) mem_lanesOf e
    (now16 s + dt) (senseEdge s l v)
  refine ⟨t, u, ht, fun d => ?_, ?_, (sameUnit_of_attn hpads (by simp) (by simp)).trans hu, hut.trans ?_⟩
  · rw [(g [] []).chan_eq (by simp), hall.chan_eq (by simp), hatt.chan_eq (by simp)]
  · exact ((hpads.mono (by simp) (by simp)).trans (hall.mono (fun k hk => by simp [hk]) (by simp))).trans (g ..)
  · exact sameUnit_of_attn (l := 0) (g _ []) (by simp) (by simp)

/-! ### A unit decides alike where it reads alike -/

section
variable {c : Nat} {s u : State} (h : SameUnit c s u)
include h

theorem SameUnit.flag {k : Nat} (hk : UnitKey k) (i : Nat) : u.flag (atCh k c) i = s.flag (atCh k c) i :=
  congrArg (bit · i) (h.own k hk)

theorem SameUnit.armed : tmuArmed u c = tmuArmed s c := by
  rw [tmuArmed, h.own K.TMU_STATE (by decide), tmuArmed]

theorem SameUnit.runs (hc : c < 96) : tmuRuns u c = tmuRuns s c := by
  have htile : atTile K.TILE_STATE (tileOf c) < 0x400000 := by unfold atTile tileOf K.TILE_STATE; omega
  rw [tmuRuns, tileReady, tileState, h.module _ htile, h.module K.TICK_STATE (by decide), calibrating,
    h.own K.CAL_STATUS (by decide)]
  rfl

theorem SameUnit.stamp (t : Int) : tmuStamp u c t = tmuStamp s c t := by
  have hm : u.mult = s.mult := h.module K.TICK_MULT (by decide)
  rw [tmuStamp, hm, tmuStamp]

theorem SameUnit.tickPos (t : Int) : tickPos u t = tickPos s t := by
  have hm : u.mult = s.mult := h.module K.TICK_MULT (by decide)
  have ho : u.tb.origin = s.tb.origin := h.origin
  rw [Machine.tickPos, hm, ho, Machine.tickPos]

theorem SameUnit.rearmAt : tmuRearmAt u c = tmuRearmAt s c := by
  rw [tmuRearmAt, h.own K.TMU_STATE (by decide), h.flag (k := K.TMU_CTRL) (by decide), h.tmu, tmuRearmAt]

theorem SameUnit.expiry : tmuExpiry u c = tmuExpiry s c := by
  rw [tmuExpiry, h.own K.TMU_TMO (by decide), h.armed, h.tmu, tmuExpiry]

theorem SameUnit.sees (p : Int) : tmuSees u c p = tmuSees s c p := by
  rw [tmuSees, h.armed, h.tmu, tmuSees]

theorem SameUnit.seesEdge (hc : c < 96) {p : Int} (hs : TmuSeesEdge s c p) : TmuSeesEdge u c p := by
  obtain ⟨hr, hsees, hx⟩ := hs
  exact ⟨(h.runs hc).trans hr, (h.sees p).trans hsees, fun x e => hx x (h.expiry ▸ e)⟩

theorem SameUnit.cond : tbCond u = tbCond s := by
  have hf (i : Nat) : u.flag K.TB_FLAGS i = s.flag K.TB_FLAGS i := congrArg (bit · i) (h.module K.TB_FLAGS (by decide))
  simp only [tbCond, tbWarm, tbSlewing, tbHoldover, hf, h.module K.REF_ACTIVE (by decide)]

theorem SameUnit.alive (p : Int) : tmuAlive u c p = tmuAlive s c p := by
  rw [tmuAlive, h.tmu, tmuAlive]

theorem SameUnit.histBin (x : Nat) : histBin u c x = histBin s c x := by
  rw [Machine.histBin, h.own K.HIST_PERIOD (by decide), h.own K.HIST_OFFSET (by decide), h.own K.HIST_SHIFT (by decide),
    Machine.histBin]

/-- Where it reads alike, its objects and its measurement are alike. -/
theorem SameUnit.stands : TmuStands s u c :=
  ⟨h.tmu, fun k hk => ⟨h.own k (unitKey_of_tmuKeys k hk), h.blob k hk⟩⟩

end

/-! ### Which units an edge reaches -/

section
variable {s : State} {c e : Nat} {p t : Int}

theorem tmuCatchUp_nothing_due (hr : tmuRearmAt s c = none) (hx : ∀ x, tmuExpiry s c = some x → span x p ≤ 0) :
    tmuCatchUp s c p = s := by
  unfold tmuCatchUp
  simp only [hr]
  cases he : tmuExpiry s c with
  | none => rfl
  | some x => exact if_neg (Int.not_lt.2 (hx x he))

theorem tmuExpiry_unarmed (h : tmuArmed s c = false) : tmuExpiry s c = none := by simp [tmuExpiry, h]

theorem tmuRearmAt_armed (h : tmuArmed s c = true) : tmuRearmAt s c = none := by
  simp only [tmuArmed, Bool.or_eq_true, beq_iff_eq] at h
  exact if_neg fun hd => by omega

theorem tmuCapture_idle (h : tmuRuns s c = false) : tmuCapture e t s c = s := if_pos (by simp [h])

theorem tmuCapture_unarmed (h : tmuArmed s c = false) (hr : tmuRearmAt s c = none) : tmuCapture e t s c = s := by
  have hcatch := tmuCatchUp_nothing_due (p := tmuStamp s c t) hr (by simp [tmuExpiry_unarmed h])
  simp [tmuCapture, hcatch, tmuSees, h]

/-- A unit that sees an edge has nothing else due by then, and takes it. -/
theorem tmuCapture_sees (h : TmuSeesEdge s c (tmuStamp s c t)) :
    tmuCapture e t s c = tmuTake s c e (tmuStamp s c t) (tickPos s t) := by
  obtain ⟨hr, hsees, hx⟩ := h
  have harmed : tmuArmed s c = true := (Bool.and_eq_true ..▸ hsees).1
  have hcatch := tmuCatchUp_nothing_due (tmuRearmAt_armed harmed) hx
  simp [tmuCapture, hr, hcatch, hsees]

end

/-! ### What an edge leaves of a unit -/

theorem num_ite {p : Prop} [Decidable p] {s t : State} (k : Nat) :
    (if p then s else t).num k = if p then s.num k else t.num k := apply_ite (State.num · k) p s t

section
variable {c : Nat} {s u t : State} (hu : SameUnit c s u)

include hu in
theorem started_of {p : Int} {b : Bool} (ht : SameUnit c (tmuStart u c p b) t) : TmuStarted s t c p b :=
  ⟨(ht.own K.TMU_STATE (by decide)).trans (by simp [tmuStart]), ht.tmu.trans (by simp [tmuStart, hu.tmu])⟩

include hu in
theorem counted_of {k : Nat} (hk : UnitKey k ∧ k ≠ K.TMU_STATE) (ht : SameUnit c (u.inc (atCh k c)) t) :
    TmuCounted s t c k := by
  refine ⟨(ht.own k hk.1).trans ?_, ht.tmu.trans hu.tmu, (ht.own K.TMU_STATE (by decide)).trans ?_⟩
  · rw [num_inc, if_pos rfl, hu.own k hk.1]
  · rw [num_inc, if_neg (by simp [atCh_eq_iff, hk.2.symm]), hu.own K.TMU_STATE (by decide)]

end

/-! ### Results -/

theorem ofBool_lt_two (b : Bool) : ofBool b < 2 := by cases b <;> decide

theorem ofBool_eq_one {b : Bool} : ofBool b = 1 ↔ b = true := by cases b <;> decide

/-- VALID and COINCIDENT of a result (R461): the flags beside them are multiples of 4. -/
theorem resFlags_low (old cond now : Nat) (coin : Bool) (h : cond % 4 = 0) (hn : now % 4 = 0) :
    let v := (old &&& 0x90) + 1 + 2 * ofBool coin + (cond ||| now)
    bit v 0 = true ∧ bit v 1 = coin := by
  intro v
  have hold : (old &&& 0x90) % 2 ^ 2 = 0 := by rw [Nat.and_mod_two_pow]; simp
  have hcond : (cond ||| now) % 2 ^ 2 = 0 := by rw [Nat.or_mod_two_pow]; simp [h, hn]
  have hv : v % 4 = 1 + 2 * ofBool coin := by
    have := ofBool_lt_two coin
    unfold v
    omega
  constructor
  · rw [bit, Nat.testBit_zero, decide_eq_true_iff]
    omega
  · rw [bit, Nat.testBit_succ, Nat.testBit_zero, Bool.eq_iff_iff, decide_eq_true_iff, ← ofBool_eq_one]
    omega

theorem tbCond_mod_four (s : State) : tbCond s % 4 = 0 := by unfold tbCond; omega

section
variable {s : State} {c : Nat}

theorem flag_setTmu (x : Tmu) (k i : Nat) : (s.setTmu c x).flag k i = s.flag k i := rfl

/-- A result joins the accumulators: they and SAT alone change (R436, R468). -/
theorem num_tmuAccumulate (r : Int) {k : Nat} (hk : k ∉ [K.ACC_N, K.ACC_SUM, K.ACC_MIN, K.ACC_MAX, K.RES_FLAGS]) :
    (tmuAccumulate s c r).num (atCh k c) = s.num (atCh k c) := by
  simp only [List.mem_cons, List.not_mem_nil, or_false, not_or] at hk
  obtain ⟨h1, h2, h3, h4, h5⟩ := hk
  simp [tmuAccumulate, setNums_cons, setNums_nil, atCh_eq_iff, num_ite, h1, h2, h3, h4, h5]

theorem num_accN_tmuAccumulate (r : Int) :
    (tmuAccumulate s c r).num (atCh K.ACC_N c) = inc32 (s.num (atCh K.ACC_N c)) := by
  simp [tmuAccumulate, setNums_cons, setNums_nil, atCh_eq_iff]

/-- The first result is the least and the greatest. -/
theorem num_accMinMax_tmuAccumulate {r : Int} (h : s.num (atCh K.ACC_N c) = 0) :
    (tmuAccumulate s c r).num (atCh K.ACC_MIN c) = raw 64 r ∧ (tmuAccumulate s c r).num (atCh K.ACC_MAX c) = raw 64 r := by
  simp [tmuAccumulate, setNums_cons, setNums_nil, atCh_eq_iff, h]

theorem flag_tmuAccumulate (r : Int) {i : Nat} (hi : i ≠ 7) :
    (tmuAccumulate s c r).flag (atCh K.RES_FLAGS c) i = s.flag (atCh K.RES_FLAGS c) i := by
  simp only [State.flag]
  simp [tmuAccumulate, setNums_cons, setNums_nil, atCh_eq_iff, num_ite]
  split
  · rfl
  · exact bit_putBit_ne _ _ hi

theorem tmu_tmuAccumulate (r : Int) (d : Nat) : (tmuAccumulate s c r).tmu d = s.tmu d := by
  simp only [tmuAccumulate, setNums_cons, setNums_nil, tmu_setNum]
  split <;> rfl

/-- What a completed measurement sets before its result joins the accumulators (R439, R446, R461–R465). -/
def tmuResult (s : State) (c : Nat) (a b e : Int) (count : Nat) : State :=
  let d := span a b
  let coin := decide (-16 < d) && decide (d < 16)
  let r := if coin then 0 else toLsb d
  let s := s.setNum (atCh K.RES_FLAGS c)
    ((s.num (atCh K.RES_FLAGS c) &&& 0x90) + 1 + 2 * ofBool coin + ((s.tmu c).cond ||| tbCond s))
  let s := s.setNums [(atCh K.RESULT c, raw 64 r), (atCh K.RES_COUNT c, count), (atCh K.START_TS c, raw 64 (toLsb a)),
                      (atCh K.END_TS c, raw 64 (toLsb e)), (atCh K.TMU_STATE c, 4)]
  let s := if s.num (atCh K.TMU_MODE c) = 3 then
      s.setNum (atCh K.RES_FREQ c) (freqOf count (if s.flag (atCh K.TMU_CTRL c) 1 then 8 else 1) r)
    else s
  s.inc (atCh K.RESULTS c)

/-- The result of a measurement in LSB: 0 within one LSB (R442). -/
def resultOf (a b : Int) : Int := if -16 < span a b ∧ span a b < 16 then 0 else toLsb (span a b)

/-- The objects of a unit that a result sets before it joins the accumulators. -/
def resultKeys : List Nat :=
  [K.RES_FLAGS, K.RESULT, K.RES_COUNT, K.START_TS, K.END_TS, K.TMU_STATE, K.RES_FREQ, K.RESULTS]

section
variable (a b e : Int) (n : Nat)

theorem num_tmuResult_other {k : Nat} (hk : k ∉ resultKeys) :
    (tmuResult s c a b e n).num (atCh k c) = s.num (atCh k c) := by
  simp only [resultKeys, List.mem_cons, List.not_mem_nil, or_false, not_or] at hk
  obtain ⟨h1, h2, h3, h4, h5, h6, h7, h8⟩ := hk
  simp [tmuResult, setNums_cons, setNums_nil, atCh_eq_iff, num_ite, h1, h2, h3, h4, h5, h6, h7, h8]

theorem num_tmuResult :
    (tmuResult s c a b e n).num (atCh K.TMU_STATE c) = 4 ∧
    (tmuResult s c a b e n).num (atCh K.RESULT c) = raw 64 (resultOf a b) ∧
    (tmuResult s c a b e n).num (atCh K.RES_COUNT c) = n ∧
    (tmuResult s c a b e n).num (atCh K.START_TS c) = raw 64 (toLsb a) ∧
    (tmuResult s c a b e n).num (atCh K.END_TS c) = raw 64 (toLsb e) ∧
    (tmuResult s c a b e n).num (atCh K.RESULTS c) = inc32 (s.num (atCh K.RESULTS c)) ∧
    (tmuResult s c a b e n).num (atCh K.RES_FLAGS c) = (s.num (atCh K.RES_FLAGS c) &&& 0x90) + 1 +
      2 * ofBool (decide (-16 < span a b ∧ span a b < 16)) + ((s.tmu c).cond ||| tbCond s) := by
  simp [tmuResult, setNums_cons, setNums_nil, atCh_eq_iff, num_ite, resultOf]

theorem tmuComplete_eq : tmuComplete s c a b e n =
    (tmuAccumulate (tmuResult s c a b e n) c (resultOf a b)).setTmu c
      { tmuInit with rearm := if s.flag (atCh K.TMU_CTRL c) 2 then some (e + 57344) else none } := by
  have hr : (if (decide (-16 < span a b) && decide (span a b < 16)) = true then 0 else toLsb (span a b)) = resultOf a b := by
    simp [resultOf]
  have hctrl : (tmuAccumulate (tmuResult s c a b e n) c (resultOf a b)).flag (atCh K.TMU_CTRL c) 2 =
      s.flag (atCh K.TMU_CTRL c) 2 := by
    rw [State.flag, num_tmuAccumulate _ (by decide), num_tmuResult_other _ _ _ _ (by decide), State.flag]
  rw [← hctrl, ← hr]
  rfl

end

end

/-- A measurement completes. -/
theorem measured_of {c : Nat} {s u t : State} (hu : SameUnit c s u) {a b e : Int} {n : Nat}
    (ht : SameUnit c (tmuComplete u c a b e n) t) : Measured s t c a b e n := by
  rw [tmuComplete_eq] at ht
  obtain ⟨hstate, hres, hcount, hstart, hend, hresults, hflags⟩ := num_tmuResult (s := u) (c := c) a b e n
  have hacc {k : Nat} (hk : UnitKey k ∧ k ∉ [K.ACC_N, K.ACC_SUM, K.ACC_MIN, K.ACC_MAX, K.RES_FLAGS]) :
      t.num (atCh k c) = (tmuResult u c a b e n).num (atCh k c) :=
    (ht.own k hk.1).trans ((num_setTmu ..).trans (num_tmuAccumulate _ hk.2))
  have hn : (tmuResult u c a b e n).num (atCh K.ACC_N c) = s.num (atCh K.ACC_N c) :=
    (num_tmuResult_other _ _ _ _ (by decide)).trans (hu.own _ (by decide))
  have hbit {i : Nat} (hi : i ≠ 7) : t.flag (atCh K.RES_FLAGS c) i = (tmuResult u c a b e n).flag (atCh K.RES_FLAGS c) i :=
    (ht.flag (k := K.RES_FLAGS) (by decide) i).trans ((flag_setTmu ..).trans (flag_tmuAccumulate _ hi))
  refine ⟨(hacc (by decide)).trans hstate, (hacc (by decide)).trans hres, (hacc (by decide)).trans hcount,
    (hacc (by decide)).trans hstart, (hacc (by decide)).trans hend, ?_, ?_, fun h0 => ?_, fun h4 => ?_, ?_⟩
  · rw [hacc (by decide), hresults, hu.own K.RESULTS (by decide)]
  · rw [ht.own K.ACC_N (by decide), ← hn, num_setTmu, num_accN_tmuAccumulate]
  · obtain ⟨hmin, hmax⟩ := num_accMinMax_tmuAccumulate (r := resultOf a b) (hn.trans h0)
    exact ⟨(ht.own K.ACC_MIN (by decide)).trans ((num_setTmu ..).trans hmin),
      (ht.own K.ACC_MAX (by decide)).trans ((num_setTmu ..).trans hmax)⟩
  · rw [hbit (by decide), hbit (by decide), State.flag, State.flag, hflags]
    exact resFlags_low _ _ _ _ (hu.tmu ▸ h4) (tbCond_mod_four u)
  · rw [ht.tmu, tmu_setTmu, if_pos rfl, hu.flag (by decide)]

end Sys2Proof.Machine

/-! PROOFS. The time-measurement units at work (O49): edges taken by the mode (R439–R450), DISARM (R433), the timeout (R434, R435)
and the re-arm (R436). -/

namespace Sys2Proof.Machine

/-! ### The fields of a buffer -/

section
variable {d w : Bytes} {off n : Nat}

/-- A field is written where it lies within the buffer. -/
theorem splice_within (h : off + w.length ≤ d.length) : splice d off w = d.take off ++ (w ++ d.drop (off + w.length)) := by
  have hz : zeros (off - d.length) = [] := by rw [Nat.sub_eq_zero_of_le (by omega)]; rfl
  simp [splice, hz]

theorem fieldAt_splice_same (h : off + w.length ≤ d.length) : fieldAt (splice d off w) off w.length = leNat w := by
  have hl : (d.take off).length = off := by rw [List.length_take]; omega
  rw [fieldAt, splice_within h, List.drop_append_of_le_length (by omega), List.drop_of_length_le (by omega), List.nil_append,
    List.take_left]

/-- A field beside the one written stands. -/
theorem fieldAt_splice_other {o : Nat} (h : off + w.length ≤ d.length) (ho : o + n ≤ off ∨ off + w.length ≤ o) :
    fieldAt (splice d off w) o n = fieldAt d o n := by
  have hl : (d.take off).length = off := by rw [List.length_take]; omega
  unfold fieldAt
  rw [splice_within h]
  congr 1
  rcases ho with ho | ho
  · rw [List.drop_append_of_le_length (by omega), List.take_append_of_le_length (by rw [List.length_drop]; omega),
      List.drop_take, List.take_take, Nat.min_eq_left (by omega)]
  · rw [← List.append_assoc, List.drop_append, List.drop_of_length_le (by simp [hl]; omega), List.nil_append, List.drop_drop]
    congr 2
    simp [hl]
    omega

/-- One of 256 counters of 4 bytes is written, and the others stand. -/
theorem fieldAt_counters {b v : Nat} (hd : d.length = 1024) (hb : b < 256) (hv : v < 2 ^ 32) (i : Nat) :
    fieldAt (splice d (4 * b) (leBytes 4 v)) (4 * i) 4 = if i = b then v else fieldAt d (4 * i) 4 := by
  have hw : (leBytes 4 v).length = 4 := leBytes_length 4 v
  have hin : 4 * b + (leBytes 4 v).length ≤ d.length := by omega
  split
  next he =>
    have hsame := fieldAt_splice_same hin
    rw [hw, leNat_leBytes, Nat.mod_eq_of_lt (show v < 256 ^ 4 from hv)] at hsame
    rw [he, hsame]
  next hne => exact fieldAt_splice_other hin (by omega)

end

/-! ### The modes -/

section
variable {c e x : Nat} {p : Int} {s u t : State} (hu : SameUnit c s u)
include hu

theorem tmuTake_interval (hm : s.num (atCh K.TMU_MODE c) = 1) : tmuTake u c e p x =
    tmuInterval u c p (srcMatch (s.num (atCh K.START_SRC c)) e) (srcMatch (s.num (atCh K.STOP_SRC c)) e) := by
  rw [← hu.own K.START_SRC (by decide), ← hu.own K.STOP_SRC (by decide)]
  exact if_pos ((hu.own K.TMU_MODE (by decide)).trans hm)

theorem tmuTake_width (hm : s.num (atCh K.TMU_MODE c) = 4) : tmuTake u c e p x = tmuWidth u c e p := by
  simp [tmuTake, hu.own K.TMU_MODE (by decide), hm]

section
variable (hi : s.num (atCh K.TMU_MODE c) ≠ 1) (hw : s.num (atCh K.TMU_MODE c) ≠ 4)
include hi hw

/-- Beside INTERVAL and WIDTH an edge that START_SRC does not select does nothing. -/
theorem tmuTake_unselected (hst : srcMatch (s.num (atCh K.START_SRC c)) e = false) : tmuTake u c e p x = u := by
  simp [tmuTake, hu.own K.TMU_MODE (by decide), hu.own K.START_SRC (by decide), hi, hw, hst]

/-- Beside INTERVAL and WIDTH an edge that START_SRC selects is counted or collected. -/
theorem tmuTake_selected (hst : srcMatch (s.num (atCh K.START_SRC c)) e = true) : tmuTake u c e p x =
    if s.num (atCh K.TMU_MODE c) = 2 then tmuCounted u c p else if s.num (atCh K.TMU_MODE c) = 3 then tmuPrescaled u c p
    else if s.num (atCh K.TMU_MODE c) = 5 ∨ s.num (atCh K.TMU_MODE c) = 6 then tmuCollect u c p (e / 16 == 1) x else u := by
  simp [tmuTake, hu.own K.TMU_MODE (by decide), hu.own K.START_SRC (by decide), hi, hw, hst]

end

/-! #### INTERVAL -/

section
variable {st sp : Bool}

section
variable (hc : s.flag (atCh K.TMU_CTRL c) 0 = false)
include hc

theorem tmuInterval_idle (hx : (s.tmu c).start = none) : tmuInterval u c p st sp =
    if st then tmuStart u c p false else if sp then u.inc (atCh K.ORPHAN_STOP c) else u := by
  simp [tmuInterval, hu.flag (k := K.TMU_CTRL) (by decide), hc, hu.tmu, hx]

theorem tmuInterval_started {a : Int} (hx : (s.tmu c).start = some a) : tmuInterval u c p st sp =
    if sp then tmuStop u c a p else u := by
  simp [tmuInterval, hu.flag (k := K.TMU_CTRL) (by decide), hc, hu.tmu, hx]

end

section
variable (hc : s.flag (atCh K.TMU_CTRL c) 0 = true)
include hc

/-- With EITHER set a start before any stop starts, and one after a stop completes (R443). -/
theorem tmuInterval_either_start (hx : (s.tmu c).start = none) : tmuInterval u c p true sp =
    ((s.tmu c).stop.map fun b => tmuComplete u c p b p 1).getD (tmuStart u c p false) := by
  cases hb : (s.tmu c).stop <;> simp [tmuInterval, hu.flag (k := K.TMU_CTRL) (by decide), hc, hu.tmu, hx, hb]

theorem tmuInterval_either_stop {a : Int} (hx : (s.tmu c).start = some a) (hb : (s.tmu c).stop = none) :
    tmuInterval u c p st true = tmuComplete u c a p p 1 := by
  simp [tmuInterval, hu.flag (k := K.TMU_CTRL) (by decide), hc, hu.tmu, hx, hb]

theorem tmuInterval_either_early (hx : (s.tmu c).start = none) (hb : (s.tmu c).stop = none) :
    tmuInterval u c p false true = (u.setTmu c { s.tmu c with stop := some p }).setNum (atCh K.TMU_STATE c) 3 := by
  simp [tmuInterval, hu.flag (k := K.TMU_CTRL) (by decide), hc, hu.tmu, hx, hb]

end
end

/-! #### PERIOD, FREQUENCY and WIDTH -/

theorem tmuCounted_idle (hx : (s.tmu c).start = none) : tmuCounted u c p = tmuStart u c p false := by
  simp [tmuCounted, hu.tmu, hx]

/-- The count or the gate of the measurement that started at `a` ends with the edge at `p` (R439, R444). -/
def countEnds (s : State) (c : Nat) (a p : Int) : Prop :=
  if s.num (atCh K.TMU_MODE c) = 2 then s.num (atCh K.TMU_COUNT c) ≤ (s.tmu c).count + 1
  else ((s.num (atCh K.GATE c) * markerStep : Nat) : Int) ≤ span a p

section
variable {a : Int} (hx : (s.tmu c).start = some a)
include hx

theorem tmuCounted_ends (h : countEnds s c a p) : tmuCounted u c p = tmuComplete u c a p p ((s.tmu c).count + 1) := by
  unfold countEnds at h
  simp only [tmuCounted, hu.tmu, hx, hu.own K.TMU_MODE (by decide), hu.own K.TMU_COUNT (by decide), hu.own K.GATE (by decide)]
  split at h <;> simp_all

theorem tmuCounted_counts (h : ¬countEnds s c a p) :
    tmuCounted u c p = u.setTmu c { s.tmu c with count := (s.tmu c).count + 1 } := by
  unfold countEnds at h
  simp only [tmuCounted, hu.tmu, hx, hu.own K.TMU_MODE (by decide), hu.own K.TMU_COUNT (by decide), hu.own K.GATE (by decide)]
  split at h <;> simp_all

end

theorem tmuPrescaled_off (hc : s.flag (atCh K.TMU_CTRL c) 1 = false) : tmuPrescaled u c p = tmuCounted u c p := by
  simp [tmuPrescaled, hu.flag (k := K.TMU_CTRL) (by decide), hc]

theorem tmuPrescaled_waits (hc : s.flag (atCh K.TMU_CTRL c) 1 = true) (hp : (s.tmu c).presc ≠ 7) :
    tmuPrescaled u c p = u.setTmu c { s.tmu c with presc := ((s.tmu c).presc + 1) % 8 } := by
  simp [tmuPrescaled, hu.flag (k := K.TMU_CTRL) (by decide), hc, hu.tmu, hp]

/-- An edge of the opposite slope on the comparator that starts (R447). -/
def opposite (cfg e : Nat) : Bool := decide (e % 16 = cfg % 16 ∧ e / 16 ≠ cfg / 16)

section
variable (he : e < 32)
include he

theorem tmuWidth_idle (hx : (s.tmu c).start = none) : tmuWidth u c e p =
    if srcMatch (s.num (atCh K.START_SRC c)) e then tmuStart u c p (decide (e / 16 = 1))
    else if opposite (s.num (atCh K.START_SRC c)) e then u.inc (atCh K.ORPHAN_STOP c) else u := by
  simp [tmuWidth, hu.tmu, hx, hu.own K.START_SRC (by decide), opposite, he, beq_eq_decide]

theorem tmuWidth_started {a : Int} (hx : (s.tmu c).start = some a) : tmuWidth u c e p =
    if opposite (s.num (atCh K.START_SRC c)) e then tmuStop u c a p else u := by
  simp [tmuWidth, hu.tmu, hx, hu.own K.START_SRC (by decide), opposite, he]

end

/-! #### TIMESTAMP and HISTOGRAM -/

/-- The dead time that follows an edge has begun (R449). -/
def deadFrom (s : State) (c : Nat) (p : Int) : State := s.setTmu c { s.tmu c with deadTo := some (p + 57344) }

/-- A buffer of results at its full length. -/
def fullBuf (d : Bytes) : Bytes := d ++ zeros (1024 - d.length)

/-- An entry joins TS_BUF (R448). -/
def stampAdded (s : State) (c : Nat) (p : Int) (falling : Bool) : State :=
  ((deadFrom s c p).setBlob (atCh K.TS_BUF c) (splice (fullBuf (s.blob (atCh K.TS_BUF c)))
    (s.num (atCh K.TS_COUNT c) % 64 * 16) (tsEntry s p falling))).add 64 (atCh K.TS_COUNT c) 1

/-- One more edge in a bin, which holds at its greatest value (R450). -/
def binCount (d : Bytes) (b : Nat) : Nat := min (fieldAt d (4 * b) 4 + 1) (2 ^ 32 - 1)

/-- An edge counts in its bin, or in HIST_OUT (R450). -/
def edgeBinned (s : State) (c : Nat) (p : Int) (b : Nat) : State :=
  let w := deadFrom s c p
  let h := fullBuf (s.blob (atCh K.HIST c))
  if 256 ≤ b then w.inc (atCh K.HIST_OUT c)
  else (if 2 ^ 32 - 1 ≤ fieldAt h (4 * b) 4 + 1 then w.setFlag (atCh K.RES_FLAGS c) 7 true else w).setBlob (atCh K.HIST c)
    (splice h (4 * b) (leBytes 4 (binCount h b)))

theorem tmuCollect_dead {b : Bool} (h : tmuAlive s c p = false) : tmuCollect u c p b x = u.inc (atCh K.TS_MISSED c) := by
  simp [tmuCollect, hu.alive, h]

theorem tmuCollect_stamps {b : Bool} (h : tmuAlive s c p = true) (hm : s.num (atCh K.TMU_MODE c) = 5) :
    tmuCollect u c p b x = stampAdded u c p b := by
  have ha : tmuAlive u c p = true := (hu.alive p).trans h
  have hm' : u.num (atCh K.TMU_MODE c) = 5 := (hu.own _ (by decide)).trans hm
  simp only [tmuCollect, ha, Bool.not_true, Bool.false_eq_true, if_false, num_setTmu, hm', if_true]
  rfl

theorem tmuCollect_bins {b : Bool} (h : tmuAlive s c p = true) (hm : s.num (atCh K.TMU_MODE c) = 6) :
    tmuCollect u c p b x = edgeBinned u c p (histBin s c x) := by
  have ha : tmuAlive u c p = true := (hu.alive p).trans h
  have hm' : u.num (atCh K.TMU_MODE c) = 6 := (hu.own _ (by decide)).trans hm
  rw [← hu.histBin]
  simp only [tmuCollect, ha, Bool.not_true, Bool.false_eq_true, if_false, num_setTmu, hm', Nat.reduceEqDiff]
  rfl

end

/-- A stop no earlier than one LSB before the start completes (R440). -/
theorem tmuStop_completes {s : State} {c : Nat} {a p : Int} (h : -16 < span a p) : tmuStop s c a p = tmuComplete s c a p p 1 :=
  if_pos h

theorem tmuStop_orphan {s : State} {c : Nat} {a p : Int} (h : span a p ≤ -16) :
    tmuStop s c a p = s.inc (atCh K.ORPHAN_STOP c) := if_neg (Int.not_lt.2 h)

/-! ### An edge taken by the mode -/

section
variable {c e x : Nat} {p : Int} {s u t : State} (hu : SameUnit c s u)

include hu in
theorem updated_of {y : Tmu} (ht : SameUnit c (u.setTmu c y) t) :
    t.tmu c = y ∧ t.num (atCh K.TMU_STATE c) = s.num (atCh K.TMU_STATE c) :=
  ⟨ht.tmu.trans (by simp), (ht.own K.TMU_STATE (by decide)).trans (hu.own K.TMU_STATE (by decide))⟩

variable (ht : SameUnit c (tmuTake u c e p x) t)
include hu ht

theorem takes_interval (hm : s.num (atCh K.TMU_MODE c) = 1) (hc : s.flag (atCh K.TMU_CTRL c) 0 = false) :
    let st := srcMatch (s.num (atCh K.START_SRC c)) e
    let sp := srcMatch (s.num (atCh K.STOP_SRC c)) e
    ((s.tmu c).start = none → (st = true → TmuStarted s t c p false) ∧
      (st = false → sp = true → TmuCounted s t c K.ORPHAN_STOP) ∧ (st = false → sp = false → TmuStands s t c)) ∧
    ∀ a, (s.tmu c).start = some a → (sp = true → -16 < span a p → Measured s t c a p p 1) ∧
      (sp = true → span a p ≤ -16 → TmuCounted s t c K.ORPHAN_STOP) ∧ (sp = false → TmuStands s t c) := by
  intro st sp
  rw [tmuTake_interval hu hm] at ht
  refine ⟨fun hx => ?_, fun a hx => ?_⟩
  · rw [tmuInterval_idle hu hc hx] at ht
    refine ⟨fun hst => ?_, fun hst hsp => ?_, fun hst hsp => ?_⟩
    · rw [if_pos hst] at ht
      exact started_of hu ht
    · rw [if_neg (ne_true_of_eq_false hst), if_pos hsp] at ht
      exact counted_of hu (by decide) ht
    · rw [if_neg (ne_true_of_eq_false hst), if_neg (ne_true_of_eq_false hsp)] at ht
      exact (hu.trans ht).stands
  · rw [tmuInterval_started hu hc hx] at ht
    refine ⟨fun hsp hd => ?_, fun hsp hd => ?_, fun hsp => ?_⟩
    · rw [if_pos hsp, tmuStop_completes hd] at ht
      exact measured_of hu ht
    · rw [if_pos hsp, tmuStop_orphan hd] at ht
      exact counted_of hu (by decide) ht
    · rw [if_neg (ne_true_of_eq_false hsp)] at ht
      exact (hu.trans ht).stands

theorem takes_either (hm : s.num (atCh K.TMU_MODE c) = 1) (hc : s.flag (atCh K.TMU_CTRL c) 0 = true) :
    let st := srcMatch (s.num (atCh K.START_SRC c)) e
    let sp := srcMatch (s.num (atCh K.STOP_SRC c)) e
    (st = true → (s.tmu c).start = none → (s.tmu c).stop = none → TmuStarted s t c p false) ∧
    (∀ b, st = true → (s.tmu c).start = none → (s.tmu c).stop = some b → Measured s t c p b p 1) ∧
    (∀ a, sp = true → (s.tmu c).start = some a → (s.tmu c).stop = none → Measured s t c a p p 1) ∧
    (sp = true → st = false → (s.tmu c).start = none → (s.tmu c).stop = none →
      t.num (atCh K.TMU_STATE c) = 3 ∧ t.tmu c = { s.tmu c with stop := some p }) := by
  intro st sp
  rw [tmuTake_interval hu hm] at ht
  refine ⟨fun hst hx hb => ?_, fun b hst hx hb => ?_, fun a hsp hx hb => ?_, fun hsp hst hx hb => ?_⟩
  · rw [show srcMatch _ e = true from hst, tmuInterval_either_start hu hc hx, hb] at ht
    exact started_of hu ht
  · rw [show srcMatch _ e = true from hst, tmuInterval_either_start hu hc hx, hb] at ht
    exact measured_of hu ht
  · rw [show srcMatch (s.num (atCh K.STOP_SRC c)) e = true from hsp, tmuInterval_either_stop hu hc hx hb] at ht
    exact measured_of hu ht
  · rw [show srcMatch (s.num (atCh K.STOP_SRC c)) e = true from hsp,
      show srcMatch (s.num (atCh K.START_SRC c)) e = false from hst, tmuInterval_either_early hu hc hx hb] at ht
    exact ⟨(ht.own K.TMU_STATE (by decide)).trans (by simp), ht.tmu.trans (by simp)⟩

theorem takes_counted
    (hm : s.num (atCh K.TMU_MODE c) = 2 ∨ s.num (atCh K.TMU_MODE c) = 3 ∧ s.flag (atCh K.TMU_CTRL c) 1 = false) :
    let st := srcMatch (s.num (atCh K.START_SRC c)) e
    (st = false → TmuStands s t c) ∧ (st = true → (s.tmu c).start = none → TmuStarted s t c p false) ∧
    ∀ a, st = true → (s.tmu c).start = some a →
      (countEnds s c a p → Measured s t c a p p ((s.tmu c).count + 1)) ∧
      (¬countEnds s c a p → t.tmu c = { s.tmu c with count := (s.tmu c).count + 1 } ∧
        t.num (atCh K.TMU_STATE c) = s.num (atCh K.TMU_STATE c)) := by
  intro st
  have hi : s.num (atCh K.TMU_MODE c) ≠ 1 := by omega
  have hw : s.num (atCh K.TMU_MODE c) ≠ 4 := by omega
  have hcounts (hst : st = true) : tmuTake u c e p x = tmuCounted u c p := by
    rw [tmuTake_selected hu hi hw hst]
    rcases hm with hm | ⟨hm, hc⟩
    · rw [if_pos hm]
    · rw [if_neg (by omega), if_pos hm, tmuPrescaled_off hu hc]
  refine ⟨fun hst => ?_, fun hst hx => ?_, fun a hst hx => ⟨fun h => ?_, fun h => ?_⟩⟩
  · rw [tmuTake_unselected hu hi hw hst] at ht
    exact (hu.trans ht).stands
  · rw [hcounts hst, tmuCounted_idle hu hx] at ht
    exact started_of hu ht
  · rw [hcounts hst, tmuCounted_ends hu hx h] at ht
    exact measured_of hu ht
  · rw [hcounts hst, tmuCounted_counts hu hx h] at ht
    exact updated_of hu ht

theorem takes_prescaled (hm : s.num (atCh K.TMU_MODE c) = 3) (hc : s.flag (atCh K.TMU_CTRL c) 1 = true)
    (hst : srcMatch (s.num (atCh K.START_SRC c)) e = true) (hp : (s.tmu c).presc ≠ 7) :
    t.tmu c = { s.tmu c with presc := ((s.tmu c).presc + 1) % 8 } ∧
      t.num (atCh K.TMU_STATE c) = s.num (atCh K.TMU_STATE c) := by
  rw [tmuTake_selected hu (by omega) (by omega) hst, if_neg (by omega), if_pos hm, tmuPrescaled_waits hu hc hp] at ht
  exact updated_of hu ht

theorem takes_width (hm : s.num (atCh K.TMU_MODE c) = 4) (he : e < 32) :
    let st := srcMatch (s.num (atCh K.START_SRC c)) e
    let op := opposite (s.num (atCh K.START_SRC c)) e
    ((s.tmu c).start = none → (st = true → TmuStarted s t c p (decide (e / 16 = 1))) ∧
      (st = false → op = true → TmuCounted s t c K.ORPHAN_STOP)) ∧
    ∀ a, (s.tmu c).start = some a → (op = true → -16 < span a p → Measured s t c a p p 1) ∧
      (op = false → TmuStands s t c) := by
  intro st op
  rw [tmuTake_width hu hm] at ht
  refine ⟨fun hx => ?_, fun a hx => ?_⟩
  · rw [tmuWidth_idle hu he hx] at ht
    refine ⟨fun hst => ?_, fun hst hop => ?_⟩
    · rw [if_pos hst] at ht
      exact started_of hu ht
    · rw [if_neg (ne_true_of_eq_false hst), if_pos hop] at ht
      exact counted_of hu (by decide) ht
  · rw [tmuWidth_started hu he hx] at ht
    refine ⟨fun hop hd => ?_, fun hop => ?_⟩
    · rw [if_pos hop, tmuStop_completes hd] at ht
      exact measured_of hu ht
    · rw [if_neg (ne_true_of_eq_false hop)] at ht
      exact (hu.trans ht).stands

section
variable (hst : srcMatch (s.num (atCh K.START_SRC c)) e = true)
include hst

/-- An edge in the dead time is missed (R449). -/
theorem takes_missed (hm : s.num (atCh K.TMU_MODE c) = 5 ∨ s.num (atCh K.TMU_MODE c) = 6) (ha : tmuAlive s c p = false) :
    TmuCounted s t c K.TS_MISSED := by
  rw [tmuTake_selected hu (by omega) (by omega) hst, if_neg (by omega), if_neg (by omega), if_pos hm,
    tmuCollect_dead hu ha] at ht
  exact counted_of hu (by decide) ht

theorem takes_timestamp (hm : s.num (atCh K.TMU_MODE c) = 5) (ha : tmuAlive s c p = true) :
    t.tmu c = { s.tmu c with deadTo := some (p + 57344) } ∧
    t.num (atCh K.TS_COUNT c) = (s.num (atCh K.TS_COUNT c) + 1) % 2 ^ 64 ∧
    ((s.blob (atCh K.TS_BUF c)).length = 1024 → t.blob (atCh K.TS_BUF c) =
      splice (s.blob (atCh K.TS_BUF c)) (s.num (atCh K.TS_COUNT c) % 64 * 16) (tsEntry s p (decide (e / 16 = 1)))) := by
  rw [tmuTake_selected hu (by omega) (by omega) hst, if_neg (by omega), if_neg (by omega), if_pos (.inl hm),
    tmuCollect_stamps hu ha hm] at ht
  refine ⟨?_, ?_, fun hlen => ?_⟩
  · rw [ht.tmu]
    simp [stampAdded, deadFrom, hu.tmu]
  · rw [ht.own K.TS_COUNT (by decide)]
    simp [stampAdded, deadFrom, hu.own K.TS_COUNT (by decide)]
  · have hentry (b : Bool) : tsEntry u p b = tsEntry s p b := by rw [tsEntry, hu.cond, tsEntry]
    rw [ht.blob K.TS_BUF (by decide)]
    simp [stampAdded, fullBuf, zeros, hu.blob K.TS_BUF (by decide), hu.own K.TS_COUNT (by decide), hlen, hentry, beq_eq_decide]

theorem takes_histogram (hm : s.num (atCh K.TMU_MODE c) = 6) (ha : tmuAlive s c p = true) :
    t.tmu c = { s.tmu c with deadTo := some (p + 57344) } ∧
    let b := histBin s c x
    let old (i : Nat) : Nat := fieldAt (s.blob (atCh K.HIST c)) (4 * i) 4
    (256 ≤ b → t.num (atCh K.HIST_OUT c) = inc32 (s.num (atCh K.HIST_OUT c))) ∧
    (b < 256 → (s.blob (atCh K.HIST c)).length = 1024 → t.num (atCh K.HIST_OUT c) = s.num (atCh K.HIST_OUT c) ∧
      ∀ i < 256, fieldAt (t.blob (atCh K.HIST c)) (4 * i) 4 = if i = b then min (old b + 1) (2 ^ 32 - 1) else old i) := by
  rw [tmuTake_selected hu (by omega) (by omega) hst, if_neg (by omega), if_neg (by omega), if_pos (.inr hm),
    tmuCollect_bins hu ha hm] at ht
  refine ⟨?_, fun hb => ?_, fun hb hlen => ⟨?_, fun i _ => ?_⟩⟩
  · rw [ht.tmu, edgeBinned]
    split
    · simp [deadFrom, hu.tmu]
    · split <;> simp [deadFrom, hu.tmu]
  · rw [ht.own K.HIST_OUT (by decide), edgeBinned, if_pos hb]
    simp [deadFrom, hu.own K.HIST_OUT (by decide)]
  · rw [ht.own K.HIST_OUT (by decide), edgeBinned, if_neg (Nat.not_le.2 hb)]
    split <;> simp [deadFrom, hu.own K.HIST_OUT (by decide), atCh_eq_iff]
  · have hfull : fullBuf (u.blob (atCh K.HIST c)) = s.blob (atCh K.HIST c) := by
      simp [fullBuf, zeros, hu.blob K.HIST (by decide), hlen]
    rw [ht.blob K.HIST (by decide), edgeBinned, if_neg (Nat.not_le.2 hb), blob_setBlob, if_pos rfl, hfull]
    exact fieldAt_counters hlen hb (by unfold binCount; omega) i

end

end

/-! ### DISARM, the timeout and the re-arm -/

/-- TMU_CMD with DISARM alone (R433). -/
theorem commitUnit_disarm (s : State) (q : Asker) (k c : Nat) : commitUnit s q k K.TMU_CMD c 2 = some (tmuDisarm s c) := rfl

section
variable {s : State} {c : Nat}

theorem tmuDisarm_done (h : tmuJustDone s c = true) : tmuDisarm s c = s.setTmu c { s.tmu c with rearm := none } := if_pos h

theorem tmuDisarm_discards (h : tmuJustDone s c = false) : tmuDisarm s c = tmuIdle s c := if_neg (ne_true_of_eq_false h)

theorem frame_tmuIdle : Frame [atCh K.TMU_STATE c] [.tb] s (tmuIdle s c) :=
  frame_setNum (frame_setTmu (.refl ..) _ _ (by simp)) _ (.inl (by simp))

/-- A command that works on one unit leaves the measurements as its commit does. -/
theorem tmu_touched {w t : State} (g : Frame [] answered (sigTouched w) t) (d : Nat) : t.tmu d = w.tmu d := by
  rw [State.tmu, g.tb (by decide)]
  rfl

theorem took_disarm {w : State} {ks : List Nat} {v : Via} (hc : c < 96) (h : AcceptedKey s v (atCh K.TMU_CMD c) 2)
    (hw : tmuDisarm s c = w) (hf : Frame ks [.tb] s w) : ∃ t, exec (.disarm v c) s = .next t ∧
      Frame [] answered (sigTouched w) t ∧ Frame (ks ++ [K.SIG_CURRENT]) (.tb :: answered) s t :=
  took_channelCommand (by decide) hf (by decide) (by decide) hc h fun q => by rw [commitUnit_disarm, hw]

/-- An accepted DISARM discards the measurement, unless its result completed at this moment (R433). -/
theorem disarm_discards {v : Via} (hc : c < 96) (h : AcceptedKey s v (atCh K.TMU_CMD c) 2) :
    ∃ t, exec (.disarm v c) s = .next t ∧ (∀ d, d ≠ c → t.tmu d = s.tmu d) ∧
      (tmuJustDone s c = false → t.tmu c = tmuInit ∧
        t.num (atCh K.TMU_STATE c) = (if s.num (atCh K.TMU_MODE c) = 0 then 0 else 1) ∧
        Frame [K.SIG_CURRENT, atCh K.TMU_STATE c] (.tb :: answered) s t) ∧
      (tmuJustDone s c = true → t.tmu c = { s.tmu c with rearm := none } ∧ Frame [K.SIG_CURRENT] (.tb :: answered) s t) := by
  cases hd : tmuJustDone s c with
  | false =>
    obtain ⟨t, ht, g, hst⟩ := took_disarm hc h (tmuDisarm_discards hd) frame_tmuIdle
    have hsig : atCh K.TMU_STATE c ≠ K.SIG_CURRENT := (module_ne_channel (by decide) (by decide)).symm
    refine ⟨t, ht, fun d hne => ?_, fun _ => ⟨?_, ?_, hst.mono (by simp) fun _ p => p⟩, fun hf => absurd hf (by decide)⟩
    · simp [tmu_touched g, tmuIdle, hne]
    · simp [tmu_touched g, tmuIdle]
    · rw [num_touched g, if_neg hsig]
      simp [tmuIdle]
  | true =>
    obtain ⟨t, ht, g, hst⟩ := took_disarm (ks := []) hc h (tmuDisarm_done hd) (frame_setTmu (.refl ..) _ _ (by simp))
    refine ⟨t, ht, fun d hne => ?_, fun hf => absurd hf (by decide), fun _ => ⟨?_, hst⟩⟩
    · simp [tmu_touched g, hne]
    · simp [tmu_touched g]

theorem Frame.tmu_all {u t : State} (g : Frame [] [] u t) (d : Nat) : t.tmu d = u.tmu d := by
  rw [State.tmu, g.tb (by simp), State.tmu]

/-- An event of a channel leaves what it does. -/
theorem took_unit {f : State → State} {u : State} {ks : List Nat} {ps : List Part} (hs : s.pwr.stopped = false) (hc : c < 96)
    (hf : f s = u) (hu : Frame ks ps s u) :
    ∃ t, took s (fun s => onCh s c f) = .next t ∧ Frame [] [] u t ∧ Frame ks ps s t :=
  took_event hs ((if_pos hc).trans hf) hu

theorem frame_tmuEnter (s : State) (c : Nat) (m : Int) (again : Bool) :
    Frame [atCh K.TMU_STATE c] [.tb, .drawn] s (tmuEnter s c m again) := by
  unfold tmuEnter
  refine frame_setNum (frame_setTmu ?_ _ _ (by simp)) _ (.inl (by simp))
  split
  · exact frame_fresh (.refl ..) 3 (by simp)
  · exact .refl ..

/-- A unit that arms has nothing in progress; the edges its prescaler has taken are open (R432, R436, R444). -/
theorem tmu_tmuEnter (s : State) (c : Nat) (m : Int) (again : Bool) : ∃ n < 8, ∀ d, (tmuEnter s c m again).tmu d =
    if d = c then { tmuInit with cond := tbCond s, armAt := m, rearm := if again then some m else none, presc := n }
    else s.tmu d := by
  have hdrawn : (s.fresh 3).1 < 8 := Nat.mod_lt _ (by decide)
  unfold tmuEnter
  cases s.flag (atCh K.TMU_CTRL c) 1 with
  | false => exact ⟨0, by decide, fun d => by simp⟩
  | true => exact ⟨_, hdrawn, fun d => by simp only [if_true, tmu_setNum, tmu_setTmu]; rfl⟩

section
variable (hs : s.pwr.stopped = false) (hc : c < 96)
include hs hc

/-- The expiring marker edge ends an incomplete measurement, or collection (R434, R435). -/
theorem timeout_expires (h : tmuExpired s c = true) : ∃ t, exec (.tmuTimeout c) s = .next t ∧ t.tmu c = tmuInit ∧
    (s.num (atCh K.TMU_MODE c) < 5 → t.num (atCh K.TMU_STATE c) = 5 ∧ t.flag (atCh K.RES_FLAGS c) 2 = true ∧
      t.flag (atCh K.RES_FLAGS c) 0 = false) ∧
    (5 ≤ s.num (atCh K.TMU_MODE c) → t.num (atCh K.TMU_STATE c) = 4 ∧
      t.num (atCh K.RES_FLAGS c) = s.num (atCh K.RES_FLAGS c)) ∧ (∀ d, d ≠ c → t.tmu d = s.tmu d) ∧
    Frame (chKeys [K.TMU_STATE, K.RES_FLAGS] [c]) [.tb] s t := by
  have hx : Frame (chKeys [K.TMU_STATE, K.RES_FLAGS] [c]) [.tb] s (s.setTmu c tmuInit) := frame_setTmu (.refl ..) _ _ (by simp)
  have hkey {k : Nat} (hk : k ∈ [K.TMU_STATE, K.RES_FLAGS]) : atCh k c ∈ chKeys [K.TMU_STATE, K.RES_FLAGS] [c] :=
    mem_chKeys hk (by simp)
  by_cases hm : 5 ≤ s.num (atCh K.TMU_MODE c)
  · obtain ⟨t, ht, g, hst⟩ := took_unit (f := fun s => tmuTimeout s c) hs hc ((if_pos h).trans (if_pos hm))
      (frame_setNum hx 4 (.inl (hkey (by simp))))
    exact ⟨t, ht, by simp [g.tmu_all], fun hlt => absurd hm (Nat.not_le.2 hlt),
      fun _ => ⟨by simp [g.num_all], by simp [g.num_all, atCh_eq_iff]⟩, fun d hd => by simp [g.tmu_all, hd], hst⟩
  · obtain ⟨t, ht, g, hst⟩ := took_unit (f := fun s => tmuTimeout s c) hs hc ((if_pos h).trans (if_neg hm))
      (frame_setNum (frame_setFlag (frame_setFlag hx 2 true (.inl (hkey (by simp)))) 0 false (.inl (hkey (by simp)))) 5
        (.inl (hkey (by simp))))
    have hflag (i : Nat) : t.flag (atCh K.RES_FLAGS c) i =
        (((s.setTmu c tmuInit).setFlag (atCh K.RES_FLAGS c) 2 true).setFlag (atCh K.RES_FLAGS c) 0 false).flag
          (atCh K.RES_FLAGS c) i := (g.flag_all ..).trans (flag_setNum_other _ _ _ _ (by simp [atCh_eq_iff]))
    exact ⟨t, ht, by simp [g.tmu_all], fun _ => ⟨by simp [g.num_all], by simp [hflag], by simp [hflag]⟩,
      fun hle => absurd hle hm, fun d hd => by simp [g.tmu_all, hd], hst⟩

theorem timeout_stands (h : tmuExpired s c = false) : ∃ t, exec (.tmuTimeout c) s = .next t ∧ Frame [] [] s t := by
  obtain ⟨t, ht, -, hst⟩ := took_unit (f := fun s => tmuTimeout s c) hs hc (if_neg (ne_true_of_eq_false h)) (.refl [] [] s)
  exact ⟨t, ht, hst⟩

/-- A unit in DONE whose re-arm waits under CONT is ARMED again (R436). -/
theorem rearm_arms {r : Int} (hr : tmuRearmAt s c = some r) (hw : tmuRuns s c = true) :
    ∃ t, exec (.tmuRearm c) s = .next t ∧ t.num (atCh K.TMU_STATE c) = 2 ∧
      t.tmu c = { tmuInit with cond := tbCond s, armAt := r, rearm := some r, presc := (t.tmu c).presc } ∧
      (t.tmu c).presc < 8 ∧ (∀ d, d ≠ c → t.tmu d = s.tmu d) ∧ Frame [atCh K.TMU_STATE c] [.tb, .drawn] s t := by
  have he : tmuRearm s c = tmuEnter s c r true := by simp [tmuRearm, hr, hw]
  have hf : Frame [atCh K.TMU_STATE c] [.tb, .drawn] s (tmuEnter s c r true) :=
    frame_tmuEnter s c r true
  obtain ⟨t, ht, g, hst⟩ := took_unit (f := fun s => tmuRearm s c) hs hc he hf
  obtain ⟨n, hn, htmu⟩ := tmu_tmuEnter s c r true
  have hown : t.tmu c = { tmuInit with cond := tbCond s, armAt := r, rearm := some r, presc := n } := by
    rw [g.tmu_all, htmu, if_pos rfl]
    rfl
  refine ⟨t, ht, ?_, ?_, ?_, fun d hd => ?_, hst⟩
  · rw [g.num_all, tmuEnter, num_setNum, if_pos rfl]
  · rw [hown]
  · rw [hown]
    exact hn
  · rw [g.tmu_all, htmu, if_neg hd]

theorem rearm_stands (h : tmuRearmAt s c = none ∨ tmuRuns s c = false) :
    ∃ t, exec (.tmuRearm c) s = .next t ∧ Frame [] [] s t := by
  have he : tmuRearm s c = s := by
    unfold tmuRearm
    rcases h with h | h
    · rw [h]
    · cases tmuRearmAt s c <;> simp [h]
  obtain ⟨t, ht, -, hst⟩ := took_unit (f := fun s => tmuRearm s c) hs hc he (.refl [] [] s)
  exact ⟨t, ht, hst⟩

end
end

/-- A code that names no comparator moves no pads (R428, R430). -/
theorem tmuEdge_other {s : State} {c e : Nat} (he : 32 ≤ e) (dt : Nat) (v : Pad) : tmuEdge s c e dt v = s :=
  if_neg (Nat.not_lt.2 he)

/-- Settles O49: the edge reaches the unit in a state in which it reads as before, and what it makes of it there by its mode no
other unit of the tile touches. -/
theorem tmuMeasures : Obligations.TmuMeasures := by
  refine ⟨fun s c e dt v hs hc he => ?_, fun s c e dt v hs hc h => ?_, fun s v c hc h => disarm_discards hc h,
    fun s c hs hc => ⟨timeout_expires hs hc, timeout_stands hs hc, fun r hr hw => rearm_arms hs hc hr hw,
      rearm_stands hs hc⟩⟩
  · obtain ⟨t, ht, -, hst⟩ := took_unit (f := fun s => tmuEdge s c e dt v) hs hc (tmuEdge_other he dt v) (.refl [] [] s)
    exact ⟨t, ht, hst⟩
  · intro l p x cfg mode ctrl st sp op
    have ⟨he, _, _⟩ := h
    obtain ⟨t, u, ht, hchan, hframe, hu, hcap⟩ := took_tmuEdge hs hc h dt
    refine ⟨t, ht, hchan l, fun d hd => ?_, hframe, fun hidle => ?_, fun _ hun hre => ?_, fun hsees => ?_⟩
    · rw [hchan, senseVs, chan_setChan, if_neg hd]
    · rw [tmuCapture_idle ((hu.runs hc).trans hidle)] at hcap
      exact (hu.trans hcap).stands
    · rw [tmuCapture_unarmed (hu.armed.trans hun) (hu.rearmAt.trans hre)] at hcap
      exact (hu.trans hcap).stands
    · have hstamp : tmuStamp u c (now16 s + dt) = p := hu.stamp _
      rw [tmuCapture_sees (hstamp ▸ hu.seesEdge hc hsees), hstamp, hu.tickPos] at hcap
      exact ⟨takes_interval hu hcap, takes_either hu hcap, takes_counted hu hcap, takes_prescaled hu hcap,
        fun hm => takes_width hu hcap hm he, fun hm hst => takes_missed hu hcap hst hm,
        fun hm hst => takes_timestamp hu hcap hst hm, fun hm hst => takes_histogram hu hcap hst hm⟩

end Sys2Proof.Machine

/-! PROOFS. The memory map in force (O51). The statement asks nothing of the frame that carries APPLY, so as in O48 a frame whose
TAG does not fit its field (R48) is among its ways. -/

namespace Sys2Proof.Machine

/-- In the state of O48's refutation no stack is ready either, and MAP_CMD needs no unlock. -/
theorem passesGate_apply_wideTag : PassesGate tmusOff (.frame wideTag) K.MAP_CMD 1 := by decide +kernel

/-- Refutes O51: an APPLY refused for its values, in a frame whose TAG is 65,536, has no reply with that TAG. -/
theorem not_memoryMapInForce : ¬ Obligations.MemoryMapInForce := by
  rintro ⟨-, hrefused, -⟩
  obtain ⟨-, hvalues⟩ := hrefused tmusOff (.frame wideTag) passesGate_apply_wideTag
  obtain ⟨t, -, -, hreply⟩ := hvalues (by decide +kernel) (by decide +kernel)
  obtain ⟨f, -, hf⟩ := hreply (by decide) (.inl rfl)
  exact not_repliedWith_wideTag f 8 hf

end Sys2Proof.Machine

/-! PROOFS. An element of a pump chain that moves (O53). As in O47 the statement asks nothing of the store that holds the bytes
of pump SRAM, so a store that lists one address twice is among its states. -/

namespace Sys2Proof.Machine

/-- A descriptor of one element, the byte at SRAM address 0 to SRAM address 0x100, with END (R486). -/
def byteDescriptor : Bytes :=
  leBytes 8 0 ++ leBytes 8 0x100 ++ zeros 32 ++ leBytes 4 1 ++ leBytes 1 3 ++ leBytes 1 3 ++ leBytes 2 1 ++ zeros 8

/-- Pump channel 0 executes that descriptor, while the store of SRAM lists the destination twice, so that it is not rising (see
`Pump.Canon`). -/
def elementOverTwins : State :=
  let s := State.reset.setNums [(K.READY, 0x20), (atPump K.CH_STATE 0, 1)]
  s.setPump { s.pump with
    chs := [(0, { pumpInit with desc := some byteDescriptor })], sram := [(0x100, 1#8), (0x100, 1#8)] }

theorem byteDescriptor_element : (dscAddrs byteDescriptor 0).2 = 0x100 ∧ dscLen byteDescriptor = 1 := by decide +kernel

/-- The byte moved is what an unlisted address reads as, so its write takes an entry out of the store: the first of the two,
and the second is read from then on. -/
theorem exec_elementOverTwins :
    (match exec (.elementMove 0 ⟨[], [], 0⟩) elementOverTwins with | .next t => sramByte t.pump 0x100 | _ => 0#8) = 1#8 := by
  decide +kernel

/-- Refutes O53: the element moves the byte 0 from SRAM to SRAM, and its destination reads as 1. -/
theorem not_pumpChainRuns : ¬ Obligations.PumpChainRuns := by
  rintro ⟨-, hmove, -⟩
  obtain ⟨hmemories, -⟩ := hmove elementOverTwins 0 0 byteDescriptor ⟨[], [], 0⟩ (by decide +kernel) (by decide)
    (by decide +kernel)
  obtain ⟨-, hcopy, -⟩ := hmemories (by decide +kernel) (by decide +kernel)
  obtain ⟨t, ht, hread, -⟩ := hcopy (by decide +kernel) (.inr (by decide +kernel)) (by decide +kernel) rfl (.inr (.inl rfl))
  obtain ⟨haddr, hlen⟩ := byteDescriptor_element
  have hmoved : sramRead t.pump (dscAddrs byteDescriptor 0).2 (dscLen byteDescriptor) = [0#8] :=
    hread.trans (by decide +kernel)
  have hzero : sramByte t.pump 0x100 = 0#8 := by simpa [haddr, hlen, sramRead] using hmoved
  have hone := exec_elementOverTwins
  rw [ht] at hone
  exact absurd (hone.symm.trans hzero) (by decide)

end Sys2Proof.Machine

/-! PROOFS. The pump's commands (O52): the keys of the pump's channels, what is done to one channel and leaves the others (R490,
R491, R497, R498), the ways in which CH_CMD and PUMP_DB carry a command (R491, R509), and a bus error (R480, R503). -/

namespace Sys2Proof.Machine

/-! ### The keys of pump channels -/

/-- `k` is an object of pump channels, by its key at channel 0. -/
abbrev PumpKey (k : Nat) : Prop := 0x240000 ≤ k ∧ k < 0x241000

theorem atPump_eq_iff {k j p : Nat} : atPump k p = atPump j p ↔ k = j := Nat.add_right_cancel_iff

theorem atPump_inj {k j p q : Nat} (hk : PumpKey k) (hj : PumpKey j) (h : atPump k p = atPump j q) : k = j ∧ p = q := by
  unfold atPump at *
  omega

theorem atPump_ne_module {k p j : Nat} (hk : PumpKey k) (hj : j < 0x240000) : atPump k p ≠ j := by
  unfold atPump
  omega

/-- The objects of the memory map and of the chapters after it lie behind those of the pump's channels. -/
theorem atPump_ne_map {k p j : Nat} (hk : PumpKey k) (hp : p < 16) (hj : 0x250000 ≤ j) : atPump k p ≠ j := by
  unfold atPump
  omega

theorem mem_pumpKeys {ks ps : List Nat} {k p : Nat} (hk : k ∈ ks) (hp : p ∈ ps) : atPump k p ∈ pumpKeys ks ps :=
  List.mem_flatMap.2 ⟨p, hp, List.mem_map_of_mem hk⟩

/-- The objects of other channels are not among a channel's. -/
theorem atPump_not_mem_pumpKeys {ks ps : List Nat} {k p : Nat} (hks : ∀ j ∈ ks, PumpKey j) (hk : PumpKey k) (hp : p ∉ ps) :
    atPump k p ∉ pumpKeys ks ps := by
  intro hm
  obtain ⟨q, hq, hm⟩ := List.mem_flatMap.1 hm
  obtain ⟨j, hj, e⟩ := List.mem_map.1 hm
  obtain ⟨-, rfl⟩ := atPump_inj (hks j hj) hk e
  exact hp hq

theorem pumpKeys_mono {ks ps qs : List Nat} (h : ∀ p ∈ ps, p ∈ qs) {k : Nat} (hk : k ∈ pumpKeys ks ps) :
    k ∈ pumpKeys ks qs := by
  obtain ⟨p, hp, hk⟩ := List.mem_flatMap.1 hk
  exact List.mem_flatMap.2 ⟨p, h p hp, hk⟩

/-! ### What is done to one channel -/

theorem OnlyChannel.trans {p : Nat} {s t u : State} (h : OnlyChannel p s t) (g : OnlyChannel p t u) : OnlyChannel p s u := by
  obtain ⟨hother, hsram, hepoch⟩ := h
  obtain ⟨gother, gsram, gepoch⟩ := g
  exact ⟨fun q hq => (gother q hq).trans (hother q hq), gsram.trans hsram, gepoch.trans hepoch⟩

/-- From `s` to `w` nothing has changed but objects `ks` of channel `p` and its work, which is now `x`. -/
structure ChannelWorks (p : Nat) (ks : List Nat) (x : PumpCh) (s w : State) : Prop where
  frame : Frame (pumpKeys ks [p]) [.pump] s w
  only : OnlyChannel p s w
  work : w.pch p = x

theorem ChannelWorks.refl (p : Nat) (ks : List Nat) (s : State) : ChannelWorks p ks (s.pch p) s s :=
  ⟨.refl .., ⟨fun _ _ => rfl, rfl, rfl⟩, rfl⟩

section
variable {p : Nat} {ks : List Nat} {x : PumpCh} {s w : State} (h : ChannelWorks p ks x s w)
include h

theorem ChannelWorks.setPch (y : PumpCh) : ChannelWorks p ks y s (w.setPch p y) :=
  ⟨frame_setPch h.frame p y (by simp), h.only.trans ⟨fun q hq => by rw [pch_setPch, if_neg hq], rfl, rfl⟩, by simp⟩

theorem ChannelWorks.setNum {k : Nat} (v : Nat) (hk : k ∈ ks) : ChannelWorks p ks x s (w.setNum (atPump k p) v) :=
  ⟨frame_setNum h.frame v (.inl (mem_pumpKeys hk (by simp))), h.only, h.work⟩

/-- The position moves to the first element of the descriptor at an address (R497, R498). -/
theorem ChannelWorks.goto (a : Nat) (hk : ∀ k ∈ [K.CUR_DESC, K.CUR_I0, K.CUR_I0 + 1, K.CUR_I0 + 2], k ∈ ks) :
    ChannelWorks p ks { pumpInit with ep := x.ep, stopAsked := x.stopAsked } s (pumpGoto w p a) := by
  have hmoved := h.setPch { pumpInit with ep := (w.pch p).ep, stopAsked := (w.pch p).stopAsked }
  rw [h.work] at hmoved
  unfold pumpGoto
  rw [h.work]
  exact (((hmoved.setNum a (hk _ (by simp))).setNum 0 (hk _ (by simp))).setNum 0 (hk _ (by simp))).setNum 0 (hk _ (by simp))

/-- The channel leaves RUNNING, and a STOP that waits with it (R497). -/
theorem ChannelWorks.leave (st : Nat) (hk : ∀ k ∈ [K.CH_STATE, K.CH_CMD], k ∈ ks) :
    ChannelWorks p ks { x with stopAsked := false } s (pumpLeave w p st) := by
  have hmoved := h.setPch { w.pch p with stopAsked := false }
  rw [h.work] at hmoved
  unfold pumpLeave
  rw [h.work]
  exact (hmoved.setNum st (hk _ (by simp))).setNum 0 (hk _ (by simp))

end

theorem num_pumpGoto (s : State) (p a k : Nat) : (pumpGoto s p a).num (atPump k p) =
    if K.CUR_I0 ≤ k ∧ k ≤ K.CUR_I0 + 2 then 0 else if k = K.CUR_DESC then a else s.num (atPump k p) := by
  have hindex : K.CUR_I0 ≤ k ∧ k ≤ K.CUR_I0 + 2 ↔ k = K.CUR_I0 + 2 ∨ k = K.CUR_I0 + 1 ∨ k = K.CUR_I0 := by omega
  simp only [pumpGoto, pumpPos, setNums_cons, setNums_nil, num_setNum, num_setPch, atPump_eq_iff, hindex]
  by_cases h2 : k = K.CUR_I0 + 2 <;> by_cases h1 : k = K.CUR_I0 + 1 <;> by_cases h0 : k = K.CUR_I0 <;> simp [h2, h1, h0]

theorem num_pumpLeave (s : State) (p st k : Nat) : (pumpLeave s p st).num (atPump k p) =
    if k = K.CH_CMD then 0 else if k = K.CH_STATE then st else s.num (atPump k p) := by
  simp only [pumpLeave, setNums_cons, setNums_nil, num_setNum, num_setPch, atPump_eq_iff]

/-! ### A command is carried -/

section
variable {p : Nat} {ks js : List Nat} {ps qs : List Part} {x : PumpCh} {s w t : State}

theorem Frame.pch_eq (g : Frame js qs w t) (hq : Part.pump ∉ qs) (q : Nat) : t.pch q = w.pch q := by
  unfold State.pch
  rw [(g.pump hq).1]

theorem Frame.onlyChannel (g : Frame js qs w t) (hq : Part.pump ∉ qs) : OnlyChannel p w t := by
  refine ⟨fun q _ => g.pch_eq hq q, ?_, ?_⟩ <;> rw [(g.pump hq).1]

/-- The reply to a command, and the note of the management core, leave the channels' objects as the command does. -/
theorem num_replied (g : Frame [K.SIG_CURRENT] answered w t) {k : Nat} (hk : PumpKey k) :
    t.num (atPump k p) = w.num (atPump k p) :=
  g.num_eq (by simpa using atPump_ne_module hk (by decide)) (by decide)

/-- What an answered command leaves where it has changed `ks` and `ps`. -/
theorem Frame.replied (h : Frame ks ps s w) (g : Frame [K.SIG_CURRENT] answered w t) :
    Frame (K.SIG_CURRENT :: ks) (ps ++ answered) s t :=
  (h.mono (fun _ => List.mem_cons_of_mem _) fun _ => List.mem_append_left _).trans
    (g.mono (by simp) fun _ => List.mem_append_right _)

theorem ChannelWorks.replied (h : ChannelWorks p ks x s w) (g : Frame [K.SIG_CURRENT] answered w t) :
    t.pch p = x ∧ OnlyChannel p s t ∧ Frame (K.SIG_CURRENT :: pumpKeys ks [p]) pumpParts s t :=
  ⟨(g.pch_eq (by decide) p).trans h.work, h.only.trans (g.onlyChannel (by decide)), h.frame.replied g⟩

/-- An accepted write of an object of a pump channel leaves the module as its commit does, but for its reply (R85, R114). -/
theorem took_pumpWrite {v : Via} {k n : Nat} (hk : PumpKey k) (hcmd : UnitCommand k n) (hp : p < 16)
    (h : AcceptedKey s v (atPump k p) n) (hc : commitUnit s (askerVia s v) (atPump k p) k p n = some w)
    (hw : Frame ks [.pump] s w) :
    ∃ t, took s (fun s => onPump s p fun s => writeKey s v (atPump k p) n) = .next t ∧ Frame [K.SIG_CURRENT] answered w t := by
  obtain ⟨hbase, hblob, hnokey, hval⟩ := hcmd
  obtain ⟨hindex, hunit⟩ := atPump_index hk hp
  have hmod := atPump_mod k p
  have hrow : rowOf (atPump k p / 256) (atPump k p % 256) = rowOf (k / 256) (k % 256) := by rw [rowOf_base hindex hbase, hmod]
  have hobj : objKey (atPump k p / 256) (atPump k p % 256) = atPump k p := by unfold objKey; omega
  have hkey : objKey (k / 256) (atPump k p % 256) = k := by rw [hmod]; unfold objKey; omega
  have hu : commit s (askerVia s v) (viaFrame v) (atPump k p / 256) (atPump k p % 256) 0 (bytesOf (atPump k p) n) = w := by
    simp only [commit, bytesOf, hrow, hobj, hindex, hunit, hkey, hblob, hval, hc, Bool.false_eq_true, if_false]
  have hsig : atPump k p ≠ K.SIG_COMMIT := atPump_ne_module hk (by decide)
  obtain ⟨t, ht, g, -⟩ := took_commit (if_pos hp) h (by rwa [hobj]) (by rwa [hrow]) hu hw (by decide)
  exact ⟨t, ht, (frame_sigTouched (.refl ..) (by simp) (by decide)).trans (g.mono (by simp) fun _ m => m)⟩

/-- A pump command's bit is the command (R491). -/
theorem pumpBit_two_pow {cmd : Nat} (hc : cmd < 4) : pumpBit (2 ^ cmd % 16) = some cmd := by
  interval_cases cmd <;> decide

/-- A permitted write of PUMP_DB (R509). -/
theorem bar0Put_pumpDb {pf cmd : Nat} (hp : p < 16) (hc : cmd < 4) (hpermit : barPermit s pf = true)
    (hcode : pumpCmdCode s p cmd = 0) :
    bar0Put s pf (0x10000 + 256 * p) (2 ^ cmd) = (false, pumpCmd s p cmd (s.pf pf).cls) := by
  have hne (k : Nat) (hk : k < 0x10000) : 0x10000 + 256 * p ≠ k := by omega
  have hin : 0x10000 ≤ 0x10000 + 256 * p ∧ 0x10000 + 256 * p < 0x11000 ∧ (0x10000 + 256 * p) % 256 = 0 := by omega
  have hchan : (0x10000 + 256 * p - 0x10000) / 256 = p := by omega
  have hbit := pumpBit_two_pow hc
  have hsome : 2 ^ cmd % 16 ≠ 0 := by interval_cases cmd <;> decide
  have hdb : pumpDbWrite s p (2 ^ cmd) (s.pf pf).cls = pumpCmd s p cmd (s.pf pf).cls := by
    simp [pumpDbWrite, hsome, hbit, hcode]
  have haction : bar0Action s pf (0x10000 + 256 * p) (2 ^ cmd) = some (pumpCmd s p cmd (s.pf pf).cls) := by
    rw [bar0Action, if_neg (hne _ (by decide)), if_neg (hne _ (by decide)), if_neg (hne _ (by decide)),
      if_neg (hne _ (by decide)), if_pos hin, hchan, hdb]
  simp [bar0Put, haction, hpermit]

/-- A pump command that is accepted does what it names, by either of its ways (R491, R509). -/
theorem took_pumpAsked {v : PumpVia} {cmd cls : Nat} (hp : p < 16) (hc : cmd < 4) (h : PumpAsked s p cmd cls v)
    (hw : Frame ks [.pump] s (pumpCmd s p cmd cls)) :
    ∃ t, took s (fun s => onPump s p fun s => pumpVia s v p (2 ^ cmd)) = .next t ∧
      Frame [K.SIG_CURRENT] answered (pumpCmd s p cmd cls) t := by
  cases v with
  | chCmd w =>
    obtain ⟨hacc, rfl⟩ := h
    have hcmd : UnitCommand K.CH_CMD (2 ^ cmd) := by interval_cases cmd <;> decide
    have hcommit : commitUnit s (askerVia s w) (atPump K.CH_CMD p) K.CH_CMD p (2 ^ cmd) =
        some (pumpCmd s p cmd (askerVia s w).cls) := by
      show some (chCmdWrite s p (2 ^ cmd) (askerVia s w).cls) = _
      rw [chCmdWrite, pumpBit_two_pow hc]
    exact took_pumpWrite (by decide) hcmd hp hacc hcommit hw
  | pumpDb pf =>
    obtain ⟨hs, hopen, hpf, hpermit, hcode, rfl⟩ := h
    obtain ⟨t, ht, g⟩ := took_next (fun s => onPump s p fun s => pumpVia s (.pumpDb pf) p (2 ^ cmd)) hs
    have hlt : 2 ^ cmd < 2 ^ 32 := Nat.pow_lt_pow_right (by decide) (by omega)
    have hput := bar0Write_word hopen hpf (by omega) hlt (bar0Put_pumpDb hp hc hpermit hcode)
    rw [onPump, if_pos hp, pumpVia, hput] at g
    exact ⟨t, ht, g ..⟩

end

/-! ### What the commands do -/

/-- The objects that move with a channel's position (R488, R497). -/
def positionKeys : List Nat := [K.CUR_DESC, K.CUR_I0, K.CUR_I0 + 1, K.CUR_I0 + 2]

/-- The objects that START sets (R491). -/
def startedKeys : List Nat := [K.CH_STATE, K.CH_ERR, K.HOPS, K.DB_PENDING, K.CH_CLASS] ++ positionKeys

section
variable (s : State) (p cls : Nat)

/-- START runs the channel from the head of its chain. -/
theorem works_start :
    ChannelWorks p startedKeys { pumpInit with ep := s.num (atPump K.HEAD_EP p) } s (pumpStart s p cls) := by
  have hinit := (ChannelWorks.refl p startedKeys s).setPch { pumpInit with ep := s.num (atPump K.HEAD_EP p) }
  have herr := (hinit.setNum (k := K.CH_ERR) 0 (by decide)).setNum (k := K.HOPS) 0 (by decide)
  have hclass := (herr.setNum (k := K.DB_PENDING) 0 (by decide)).setNum (k := K.CH_CLASS) cls (by decide)
  exact (hclass.goto _ (by decide)).setNum 1 (by decide)

theorem num_pumpStart :
    pumpState (pumpStart s p cls) p = 1 ∧ (pumpStart s p cls).num (atPump K.CH_ERR p) = 0 ∧
    (pumpStart s p cls).num (atPump K.HOPS p) = 0 ∧ (pumpStart s p cls).num (atPump K.DB_PENDING p) = 0 ∧
    (pumpStart s p cls).num (atPump K.CH_CLASS p) = cls ∧
    (pumpStart s p cls).num (atPump K.CUR_DESC p) = s.num (atPump K.HEAD_ADDR p) ∧
    (pumpStart s p cls).num (atPump K.CUR_I0 p) = 0 := by
  simp [pumpStart, pumpState, num_pumpGoto, setNums_cons, setNums_nil, atPump_eq_iff, K.CUR_I0, K.CH_CLASS]

/-- RESUME runs the channel with its descriptor fetched again: to go on, or for its NEXT. -/
theorem works_resume : ∃ x : PumpCh, x.done = (s.pch p).done ∧ x.crc = (s.pch p).crc ∧
    ChannelWorks p [K.CH_STATE, K.CH_CLASS] x s (pumpResume s p cls) := by
  unfold pumpResume
  extract_lets x over_ u
  refine ⟨_, ?_, ?_, (((ChannelWorks.refl p _ s).setPch _).setNum cls (by simp)).setNum 1 (by simp)⟩ <;> split <;> rfl

theorem num_pumpResume : pumpState (pumpResume s p cls) p = 1 ∧ (pumpResume s p cls).num (atPump K.CH_CLASS p) = cls := by
  simp [pumpResume, pumpState, setNums_cons, setNums_nil, atPump_eq_iff]

variable {s p cls}

theorem doorbell_running (h : pumpState s p = 1) : pumpCmd s p 0 cls = s.setNum (atPump K.DB_PENDING p) 1 := if_pos h

theorem doorbell_waiting (h : pumpState s p = 2) :
    pumpCmd s p 0 cls = (s.setPch p { s.pch p with refetch := true }).setNum (atPump K.CH_STATE p) 1 := by
  simp [pumpCmd, pumpDoorbell, h]

theorem doorbell_ignored (h1 : pumpState s p ≠ 1) (h2 : pumpState s p ≠ 2) :
    pumpCmd s p 0 cls = s.inc (atPump K.DB_IGNORED p) := by
  simp [pumpCmd, pumpDoorbell, h1, h2]

theorem stop_running (h : pumpState s p = 1) :
    pumpCmd s p 2 cls = (s.setPch p { s.pch p with stopAsked := true }).setNum (atPump K.CH_CMD p) 4 := if_pos h

theorem stop_ended (h : pumpState s p = 2 ∨ pumpState s p = 4) :
    pumpCmd s p 2 cls = (s.setPch p { pumpInit with ep := (s.pch p).ep }).setNum (atPump K.CH_STATE p) 0 := by
  have h1 : pumpState s p ≠ 1 := by omega
  simp [pumpCmd, pumpStopCmd, h1, h]

/-- A STOP waits for a completion alone, which comes before it (R497, R504). -/
theorem stopTakesEffect_stops (h : pumpState s p = 1) (hstop : (s.pch p).stopAsked = true)
    (hd : ∀ d, (s.pch p).desc = some d → (s.pch p).refetch = true ∨ (s.pch p).done < dscTotal d) :
    stopTakesEffect s p = pumpLeave s p 3 := by
  unfold stopTakesEffect
  cases e : (s.pch p).desc with
  | none => simp [h, hstop, e]
  | some d =>
    rcases hd d e with hr | hl
    · simp [h, hstop, e, hr]
    · simp [h, hstop, e, hl]

end

/-! ### The commands' effects -/

section
variable {s : State} {p cls : Nat} {v : PumpVia} (hp : p < 16)
include hp

/-- START runs the channel (R491). -/
theorem start_runs (h : PumpAsked s p 1 cls v) : ∃ t, exec (.start v p) s = .next t ∧ pumpState t p = 1 ∧
    t.num (atPump K.CH_ERR p) = 0 ∧ t.num (atPump K.HOPS p) = 0 ∧ t.num (atPump K.DB_PENDING p) = 0 ∧
    t.num (atPump K.CH_CLASS p) = cls ∧ t.num (atPump K.CUR_DESC p) = s.num (atPump K.HEAD_ADDR p) ∧
    t.num (atPump K.CUR_I0 p) = 0 ∧ t.pch p = { pumpInit with ep := s.num (atPump K.HEAD_EP p) } ∧ OnlyChannel p s t ∧
    Frame (K.SIG_CURRENT :: pumpKeys startedKeys [p]) pumpParts s t := by
  have hw := works_start s p cls
  obtain ⟨t, ht, g⟩ := took_pumpAsked hp (by decide) h hw.frame
  obtain ⟨hstate, herr, hhops, hdb, hclass, hdesc, hindex⟩ := num_pumpStart s p cls
  have hnum {k : Nat} (hk : PumpKey k) : t.num (atPump k p) = (pumpStart s p cls).num (atPump k p) := num_replied g hk
  exact ⟨t, ht, (hnum (by decide)).trans hstate, (hnum (by decide)).trans herr, (hnum (by decide)).trans hhops,
    (hnum (by decide)).trans hdb, (hnum (by decide)).trans hclass, (hnum (by decide)).trans hdesc,
    (hnum (by decide)).trans hindex, hw.replied g⟩

/-- RESUME goes on with what has moved (R491). -/
theorem resume_runs (h : PumpAsked s p 3 cls v) : ∃ t, exec (.resume v p) s = .next t ∧ pumpState t p = 1 ∧
    t.num (atPump K.CH_CLASS p) = cls ∧ (t.pch p).done = (s.pch p).done ∧ (t.pch p).crc = (s.pch p).crc ∧
    OnlyChannel p s t ∧ Frame (K.SIG_CURRENT :: pumpKeys [K.CH_STATE, K.CH_CLASS] [p]) pumpParts s t := by
  obtain ⟨x, hdone, hcrc, hw⟩ := works_resume s p cls
  obtain ⟨t, ht, g⟩ := took_pumpAsked hp (by decide) h hw.frame
  obtain ⟨hstate, hclass⟩ := num_pumpResume s p cls
  obtain ⟨hx, ho, hf⟩ := hw.replied g
  exact ⟨t, ht, (num_replied g (by decide)).trans hstate, (num_replied g (by decide)).trans hclass, hx ▸ hdone, hx ▸ hcrc,
    ho, hf⟩

/-- A command that works on the channel and sets one of its objects. -/
theorem asked_sets {cmd k n : Nat} {x : PumpCh} (hc : cmd < 4) (h : PumpAsked s p cmd cls v) (hk : PumpKey k)
    (he : pumpCmd s p cmd cls = (s.setPch p x).setNum (atPump k p) n) :
    ∃ t, took s (fun s => onPump s p fun s => pumpVia s v p (2 ^ cmd)) = .next t ∧ t.num (atPump k p) = n ∧ t.pch p = x ∧
      OnlyChannel p s t ∧ Frame [K.SIG_CURRENT, atPump k p] pumpParts s t := by
  have hw : ChannelWorks p [k] x s (pumpCmd s p cmd cls) := by
    rw [he]
    exact ((ChannelWorks.refl p [k] s).setPch x).setNum n (by simp)
  obtain ⟨t, ht, g⟩ := took_pumpAsked hp hc h hw.frame
  exact ⟨t, ht, by rw [num_replied g hk, he, num_setNum, if_pos rfl], hw.replied g⟩

/-- A DOORBELL that only sets an object of the channel. -/
theorem doorbell_sets {k n : Nat} (h : PumpAsked s p 0 cls v) (hk : PumpKey k)
    (he : pumpCmd s p 0 cls = s.setNum (atPump k p) n) :
    ∃ t, exec (.doorbell v p) s = .next t ∧ t.num (atPump k p) = n ∧ Frame [K.SIG_CURRENT, atPump k p] answered s t := by
  have hw : Frame [atPump k p] [] s (pumpCmd s p 0 cls) := he ▸ frame_setNum_one ..
  obtain ⟨t, ht, g⟩ := took_pumpAsked hp (by decide) h (hw.mono (ps' := [.pump]) (fun _ m => m) (by simp))
  exact ⟨t, ht, by rw [num_replied g hk, he, num_setNum, if_pos rfl], hw.replied g⟩

theorem doorbell_effect (h : PumpAsked s p 0 cls v) :
    (pumpState s p = 1 → ∃ t, exec (.doorbell v p) s = .next t ∧ t.num (atPump K.DB_PENDING p) = 1 ∧
      Frame [K.SIG_CURRENT, atPump K.DB_PENDING p] answered s t) ∧
    (pumpState s p = 2 → ∃ t, exec (.doorbell v p) s = .next t ∧ pumpState t p = 1 ∧
      t.pch p = { s.pch p with refetch := true } ∧ OnlyChannel p s t ∧
      Frame [K.SIG_CURRENT, atPump K.CH_STATE p] pumpParts s t) ∧
    (pumpState s p ≠ 1 → pumpState s p ≠ 2 → ∃ t, exec (.doorbell v p) s = .next t ∧
      t.num (atPump K.DB_IGNORED p) = inc32 (s.num (atPump K.DB_IGNORED p)) ∧
      Frame [K.SIG_CURRENT, atPump K.DB_IGNORED p] answered s t) :=
  ⟨fun h1 => doorbell_sets hp h (k := K.DB_PENDING) (by decide) (doorbell_running h1),
    fun h2 => asked_sets hp (cmd := 0) (k := K.CH_STATE) (by decide) h (by decide) (doorbell_waiting h2),
    fun h1 h2 => doorbell_sets hp h (k := K.DB_IGNORED) (by decide) (doorbell_ignored h1 h2)⟩

theorem stop_effect (h : PumpAsked s p 2 cls v) :
    (pumpState s p = 1 → ∃ t, exec (.stop v p) s = .next t ∧ t.num (atPump K.CH_CMD p) = 4 ∧
      t.pch p = { s.pch p with stopAsked := true } ∧ OnlyChannel p s t ∧
      Frame [K.SIG_CURRENT, atPump K.CH_CMD p] pumpParts s t) ∧
    (pumpState s p = 2 ∨ pumpState s p = 4 → ∃ t, exec (.stop v p) s = .next t ∧ pumpState t p = 0 ∧ OnlyChannel p s t ∧
      Frame [K.SIG_CURRENT, atPump K.CH_STATE p] pumpParts s t) := by
  refine ⟨fun h1 => asked_sets hp (cmd := 2) (k := K.CH_CMD) (by decide) h (by decide) (stop_running h1), fun h24 => ?_⟩
  obtain ⟨t, ht, hstate, -, hrest⟩ := asked_sets hp (cmd := 2) (k := K.CH_STATE) (by decide) h (by decide) (stop_ended h24)
  exact ⟨t, ht, hstate, hrest⟩

theorem stopTakesEffect_effect (hs : s.pwr.stopped = false) (h : pumpState s p = 1) (hstop : (s.pch p).stopAsked = true)
    (hd : ∀ d, (s.pch p).desc = some d → (s.pch p).refetch = true ∨ (s.pch p).done < dscTotal d) :
    ∃ t, exec (.stopTakesEffect p) s = .next t ∧ pumpState t p = 3 ∧ t.num (atPump K.CH_CMD p) = 0 ∧
      t.pch p = { s.pch p with stopAsked := false } ∧ OnlyChannel p s t ∧
      Frame (pumpKeys [K.CH_STATE, K.CH_CMD] [p]) [.pump] s t := by
  have hw := (ChannelWorks.refl p [K.CH_STATE, K.CH_CMD] s).leave 3 fun _ m => m
  obtain ⟨t, ht, g, hf⟩ := took_event (f := fun s => onPump s p fun s => stopTakesEffect s p) hs
    ((if_pos hp).trans (stopTakesEffect_stops h hstop hd)) hw.frame
  exact ⟨t, ht, by rw [pumpState, g.num_all, num_pumpLeave]; rfl, by rw [g.num_all, num_pumpLeave, if_pos rfl],
    (g.pch_eq (by simp) p).trans hw.work, hw.only.trans (g.onlyChannel (by simp)), hf⟩

theorem curDesc_effect {w : Via} {a : Nat} (ha : a < 2 ^ 64) (h : AcceptedKey s w (atPump K.CUR_DESC p) a) :
    ∃ t, exec (.curDesc w p a) s = .next t ∧ t.num (atPump K.CUR_DESC p) = a ∧
      (∀ i < 3, t.num (atPump (K.CUR_I0 + i) p) = 0) ∧ (t.pch p).desc = none ∧ (t.pch p).done = 0 ∧ OnlyChannel p s t ∧
      Frame (K.SIG_CURRENT :: pumpKeys positionKeys [p]) pumpParts s t := by
  have hcmd : UnitCommand K.CUR_DESC a := by
    refine ⟨by decide, by decide, by decide, ?_⟩
    show leNat (leBytes 8 a) &&& 0xffffffffffffffff = a
    rw [leNat_leBytes, show 256 ^ 8 = 2 ^ 64 by decide, Nat.mod_eq_of_lt ha]
    exact Nat.and_two_pow_sub_one_of_lt_two_pow ha
  have hw := (ChannelWorks.refl p positionKeys s).goto a fun _ m => m
  obtain ⟨t, ht, g⟩ := took_pumpWrite (by decide) hcmd hp h rfl hw.frame
  obtain ⟨hx, hrest⟩ := hw.replied g
  have hnum {k : Nat} (hk : PumpKey k) : t.num (atPump k p) = (pumpGoto s p a).num (atPump k p) := num_replied g hk
  refine ⟨t, ht, (hnum (by decide)).trans (by rw [num_pumpGoto]; rfl), fun i hi => ?_, by rw [hx]; rfl, by rw [hx]; rfl, hrest⟩
  have hrange : 0x240009 ≤ K.CUR_I0 + i ∧ K.CUR_I0 + i ≤ 0x24000B := by unfold K.CUR_I0; omega
  exact (hnum (by omega)).trans (by rw [num_pumpGoto, if_pos hrange])

end

/-! ### A channel stops with an error -/

/-- The objects of a channel that an error sets (R501). -/
def failedKeys : List Nat := [K.CH_STATE, K.CH_CMD, K.CH_ERR, K.ERR_ADDR, K.ERR_EP]

section
variable (s : State) (p code a ep : Nat)

theorem works_failed : ∃ w, pumpError s p code a ep = w.evPump ∧
    ChannelWorks p failedKeys { s.pch p with stopAsked := false } s w := by
  have hleft := (ChannelWorks.refl p failedKeys s).leave 4 (by decide)
  exact ⟨_, rfl, ((hleft.setNum (k := K.CH_ERR) code (by decide)).setNum (k := K.ERR_ADDR) a (by decide)).setNum
    (k := K.ERR_EP) ep (by decide)⟩

theorem frame_pumpError : Frame (pumpErrorKeys [p]) [.pump] s (pumpError s p code a ep) := by
  obtain ⟨w, he, hw⟩ := works_failed s p code a ep
  rw [he]
  exact frame_evPump (hw.frame.mono (fun _ => List.mem_cons_of_mem _) fun _ m => m) (by simp [pumpErrorKeys])

theorem pch_pumpError (q : Nat) :
    (pumpError s p code a ep).pch q = if q = p then { s.pch p with stopAsked := false } else s.pch q := by
  obtain ⟨w, he, hw⟩ := works_failed s p code a ep
  rw [he, pch_evPump]
  split
  next h => exact h ▸ hw.work
  next h => exact hw.only.1 q h

theorem flag_pumpError : (pumpError s p code a ep).flag K.ATTN_EVENTS 10 = true := by
  obtain ⟨w, he, -⟩ := works_failed s p code a ep
  rw [he, State.flag, num_evPump, if_pos rfl, putBit_get]

theorem num_pumpError {k : Nat} (hk : PumpKey k) : (pumpError s p code a ep).num (atPump k p) =
    if k = K.ERR_EP then ep else if k = K.ERR_ADDR then a else if k = K.CH_ERR then code
    else if k = K.CH_CMD then 0 else if k = K.CH_STATE then 4 else s.num (atPump k p) := by
  have hattn : atPump k p ≠ K.ATTN_EVENTS := atPump_ne_module hk (by decide)
  simp only [pumpError, num_evPump, hattn, if_false, setNums_cons, setNums_nil, num_setNum, atPump_eq_iff, num_pumpLeave]

end

/-! ### Every channel that runs stops -/

/-- The channels that a bus error stops (R503). -/
def runningChannels (s : State) : List Nat := (List.range 16).filter fun p => pumpState s p == 1

theorem mem_runningChannels {s : State} {p : Nat} : p ∈ runningChannels s ↔ p < 16 ∧ pumpState s p = 1 := by
  simp [runningChannels]

/-- Every channel of a list stops with a bus error. -/
def channelsStopped (s : State) (l : List Nat) (a ep : Nat) : State := l.foldl (fun s p => pumpError s p 1 a ep) s

/-- What an error shows of a channel: CH_STATE, CH_ERR, ERR_ADDR and ERR_EP (R501). -/
def errorValues (s : State) (p : Nat) : Nat × Nat × Nat × Nat :=
  (pumpState s p, s.num (atPump K.CH_ERR p), s.num (atPump K.ERR_ADDR p), s.num (atPump K.ERR_EP p))

section
variable (s : State) (a ep : Nat)

theorem errorValues_own (p : Nat) : errorValues (pumpError s p 1 a ep) p = (4, 1, a, ep) := by
  have hnum {k : Nat} (hk : PumpKey k) := num_pumpError s p 1 a ep hk
  exact Prod.ext (hnum (by decide)) (Prod.ext (hnum (by decide)) (Prod.ext (hnum (by decide)) (hnum (by decide))))

theorem errorValues_other (p q : Nat) (h : q ≠ p) : errorValues (pumpError s p 1 a ep) q = errorValues s q := by
  have hnum {k : Nat} (hk : PumpKey k) : (pumpError s p 1 a ep).num (atPump k q) = s.num (atPump k q) := by
    refine (frame_pumpError s p 1 a ep).num_eq (fun hm => ?_) (by decide)
    rcases List.mem_cons.1 hm with hm | hm
    · exact atPump_ne_module hk (by decide) hm
    · exact atPump_not_mem_pumpKeys (by decide) hk (by simpa using h) hm
  exact Prod.ext (hnum (by decide)) (Prod.ext (hnum (by decide)) (Prod.ext (hnum (by decide)) (hnum (by decide))))

theorem errorValues_stopped {p : Nat} (hp : p ∈ runningChannels s) :
    errorValues (channelsStopped s (runningChannels s) a ep) p = (4, 1, a, ep) :=
  foldl_obs_mem (key := id) (own := fun _ _ => (4, 1, a, ep)) (fun s => errorValues_other s a ep)
    (fun s => errorValues_own s a ep) (fun _ _ _ _ => rfl) ((List.map_id _).symm ▸ List.nodup_range.filter _) hp s

theorem stands_channelsStopped {p : Nat} (hp : p ∉ runningChannels s) :
    errorValues (channelsStopped s (runningChannels s) a ep) p = errorValues s p ∧
    (channelsStopped s (runningChannels s) a ep).pch p = s.pch p := by
  have hnot : p ∉ (runningChannels s).map id := by rwa [List.map_id]
  exact ⟨foldl_obs_not_mem (fun s => errorValues_other s a ep) hnot s,
    foldl_obs_not_mem (obs := State.pch) (fun s b q h => (pch_pumpError s b 1 a ep q).trans (if_neg h)) hnot s⟩

theorem frame_channelsStopped {l : List Nat} (hl : ∀ p ∈ l, p < 16) :
    Frame (pumpErrorKeys (List.range 16)) [.pump] s (channelsStopped s l a ep) := by
  refine (Frame.refl ..).foldl l fun u p hp h => h.trans ((frame_pumpError u p 1 a ep).mono (fun k hk => ?_) fun _ m => m)
  rcases List.mem_cons.1 hk with rfl | hk
  · exact List.mem_cons_self
  · exact List.mem_cons_of_mem _ (pumpKeys_mono (by simpa using hl p hp) hk)

theorem flag_channelsStopped {l : List Nat} (hl : l ≠ []) : (channelsStopped s l a ep).flag K.ATTN_EVENTS 10 = true := by
  obtain ⟨r, p, rfl⟩ := (List.eq_nil_or_concat l).resolve_left hl
  rw [channelsStopped, List.concat_eq_append, List.foldl_append]
  exact flag_pumpError ..

end

/-! ### A bus error -/

section
variable {s t : State} {a ep : Nat}

theorem pumpBusError_idle (h : ∀ p < 16, pumpState s p ≠ 1) : pumpBusError s a ep = s := by
  have hnone : runningChannels s = [] := List.filter_eq_nil_iff.2 fun p hp => by simpa using h p (List.mem_range.1 hp)
  exact if_pos (List.isEmpty_iff.2 hnone)

theorem pumpBusError_stops (h : ∃ p < 16, pumpState s p = 1) :
    runningChannels s ≠ [] ∧ pumpBusError s a ep = (channelsStopped s (runningChannels s) a ep).raise 0x72 := by
  obtain ⟨p, hp, hrun⟩ := h
  have hsome : runningChannels s ≠ [] := List.ne_nil_of_mem (mem_runningChannels.2 ⟨hp, hrun⟩)
  exact ⟨hsome, if_neg (mt List.isEmpty_iff.1 hsome)⟩

theorem frame_pumpBusError : Frame (pumpErrorKeys (List.range 16)) [.pump, .arrived] s (pumpBusError s a ep) :=
  (Frame.refl ..).ite (frame_raise ((frame_channelsStopped s a ep fun _ hp => (mem_runningChannels.1 hp).1).mono
    (fun _ m => m) (by simp)) _ (.inr (by simp)))

/-- A bus error stops the channels that run, raises 0x72 and leaves the others (R503). -/
theorem busStops_of_runs (h : ∃ p < 16, pumpState s p = 1) (g : Frame [] [] (pumpBusError s a ep) t) : BusStops s t a ep := by
  have hf := frame_pumpBusError.trans (g.mono (by simp) (by simp))
  obtain ⟨hsome, he⟩ := pumpBusError_stops (a := a) (ep := ep) h
  have hstopped := frame_channelsStopped s a ep (l := runningChannels s) fun _ hp => (mem_runningChannels.1 hp).1
  have hvalues (p : Nat) : errorValues t p = errorValues (channelsStopped s (runningChannels s) a ep) p := by
    simp only [errorValues, pumpState, g.num_all, he, num_raise]
  refine ⟨⟨?_, fun p hp hrun => ?_, fun p _ hrun => ?_⟩, ?_, hf⟩
  · rw [g.flag_all, he]
    exact flag_channelsStopped s a ep hsome
  · have hv := (hvalues p).trans (errorValues_stopped s a ep (mem_runningChannels.2 ⟨hp, hrun⟩))
    simpa only [errorValues, Prod.mk.injEq] using hv
  · obtain ⟨hv, hpch⟩ := stands_channelsStopped s a ep fun hm => hrun (mem_runningChannels.1 hm).2
    refine ⟨congrArg Prod.fst ((hvalues p).trans hv), ?_⟩
    rw [g.pch_eq (by simp), he, ← hpch]
    rfl
  · rw [g.arrived_all, he]
    show (channelsStopped s (runningChannels s) a ep).flt.arrived ++ _ = _
    rw [hstopped.flt_eq (by simp) (by simp)]

/-! ### An uncorrectable read that a bus error brings -/

/-- The block of an address is marked and counted (R480). -/
def blockMarked (s : State) (m : Nat) : State :=
  ((s.setMem { s.mem with bad := if s.mem.bad.contains (m / 32) then s.mem.bad else m / 32 :: s.mem.bad }).inc
    K.MEM_UE).setNum K.MEM_UE_ADDR (m / 32 * 32)

theorem memUE_mapped {m r off : Nat} (h : regionOf s.mem m = some (r, off)) :
    memUE s m = (blockMarked s m).raise (0x6C + stackOf s.mem r off) := by
  show memFault (blockMarked s m) m = _
  have hm : regionOf (blockMarked s m).mem m = some (r, off) := h
  rw [memFault, hm]
  rfl

theorem frame_memUE_mapped {m r off : Nat} (h : regionOf s.mem m = some (r, off)) :
    Frame [K.MEM_UE, K.MEM_UE_ADDR] [.mem, .arrived] s (memUE s m) := by
  rw [memUE_mapped h]
  exact frame_raise (frame_setNum (frame_inc (frame_setMem (.refl ..) _ (by simp)) (.inl (by simp))) _ (.inl (by simp))) _
    (.inr (by simp))

theorem mem_bad_blockMarked (m : Nat) : m / 32 ∈ (blockMarked s m).mem.bad := by
  show m / 32 ∈ if s.mem.bad.contains (m / 32) then s.mem.bad else m / 32 :: s.mem.bad
  split
  next h => simpa using h
  next => exact List.mem_cons_self

end

section
variable {s u t : State} {a ep : Nat}

/-- An uncorrectable read leaves the states of the channels. -/
theorem pumpState_of_read (hu : Frame [K.MEM_UE, K.MEM_UE_ADDR] [.mem, .arrived] s u) {p : Nat} (hp : p < 16) :
    pumpState u p = pumpState s p := by
  refine hu.num_eq (fun hm => ?_) (by decide)
  rcases List.mem_pair.1 hm with e | e
  · exact atPump_ne_map (by decide) hp (by decide) e
  · exact atPump_ne_map (by decide) hp (by decide) e

/-- An uncorrectable read before the channels stop changes neither which of them run nor what is left of them. -/
theorem BusEnded.since (h : BusEnded u t a ep) (hu : Frame [K.MEM_UE, K.MEM_UE_ADDR] [.mem, .arrived] s u) :
    BusEnded s t a ep := by
  obtain ⟨hflag, hstops, hstands⟩ := h
  have hstate {p : Nat} (hp : p < 16) := pumpState_of_read hu hp
  refine ⟨hflag, fun p hp hrun => hstops p hp ((hstate hp).trans hrun), fun p hp hrun => ?_⟩
  obtain ⟨hnum, hpch⟩ := hstands p hp (by rwa [hstate hp])
  exact ⟨hnum.trans (hstate hp), hpch.trans (hu.pch_eq (by decide) p)⟩

theorem anyRuns_iff : ((List.range 16).any fun p => pumpState s p == 1) = true ↔ ∃ p < 16, pumpState s p = 1 := by simp

/-- A bus error at no stack's address is no read of memory (R502). -/
theorem pumpBusRow_bare (h : ¬((ep = 2 ∨ ep = 4) ∧ (regionOf s.mem (pumpMemAddr ep a)).isSome = true)) :
    pumpBusRow s a ep = pumpBusError s a ep := by
  have hhit : ¬(((List.range 16).any fun p => pumpState s p == 1) && (ep == 2 || ep == 4) &&
      (regionOf s.mem (pumpMemAddr ep a)).isSome) = true := by
    simp only [Bool.and_eq_true, Bool.or_eq_true, beq_iff_eq]
    exact fun hall => h ⟨hall.1.2, hall.2⟩
  rw [pumpBusRow, if_neg hhit]

theorem pumpBusRow_idle (h : ∀ p < 16, pumpState s p ≠ 1) : pumpBusRow s a ep = s := by
  have hnone : ((List.range 16).any fun p => pumpState s p == 1) = false := by simpa using h
  simp only [pumpBusRow, hnone, Bool.false_and, Bool.false_eq_true, if_false, pumpBusError_idle h]

/-- A bus error at a stack's address is an uncorrectable read first (R480, R502). -/
theorem pumpBusRow_stack {r off : Nat} (h : ∃ p < 16, pumpState s p = 1) (he : ep = 2 ∨ ep = 4)
    (hr : regionOf s.mem (pumpMemAddr ep a) = some (r, off)) :
    pumpBusRow s a ep = pumpBusError (memUE s (pumpMemAddr ep a)) a ep := by
  simp only [pumpBusRow, anyRuns_iff.2 h, hr]
  rcases he with rfl | rfl <;> rfl

variable (hs : s.pwr.stopped = false)
include hs

theorem busError_stands (h : ∀ p < 16, pumpState s p ≠ 1) : ∃ t, exec (.busError a ep) s = .next t ∧ Frame [] [] s t :=
  took_stands (f := fun s => pumpBusRow s a ep) hs (pumpBusRow_idle h)

theorem busError_effect (h : ∃ p < 16, pumpState s p = 1) :
    let hit := (ep = 2 ∨ ep = 4) ∧ (regionOf s.mem (pumpMemAddr ep a)).isSome = true
    ∃ t, exec (.busError a ep) s = .next t ∧ BusEnded s t a ep ∧ (¬hit → BusStops s t a ep) ∧
      (∀ r off, (ep = 2 ∨ ep = 4) → regionOf s.mem (pumpMemAddr ep a) = some (r, off) →
        t.flt.arrived = s.flt.arrived ++ [(0x6C + stackOf s.mem r off, false), (0x72, false)] ∧
        t.num K.MEM_UE = inc32 (s.num K.MEM_UE) ∧ t.num K.MEM_UE_ADDR = pumpMemAddr ep a / 32 * 32 ∧
        pumpMemAddr ep a / 32 ∈ t.mem.bad ∧ (∀ x, memByte t.mem x = memByte s.mem x)) ∧
      Frame (K.MEM_UE :: K.MEM_UE_ADDR :: pumpErrorKeys (List.range 16)) [.pump, .arrived, .mem] s t := by
  intro hit
  obtain ⟨t, ht, g⟩ := took_next (fun s => pumpBusRow s a ep) hs
  have hkeys (k : Nat) (hk : k ∈ pumpErrorKeys (List.range 16)) :
      k ∈ K.MEM_UE :: K.MEM_UE_ADDR :: pumpErrorKeys (List.range 16) := List.mem_cons_of_mem _ (List.mem_cons_of_mem _ hk)
  by_cases hh : hit
  · obtain ⟨he, hsome⟩ := hh
    obtain ⟨⟨r, off⟩, hr⟩ := Option.isSome_iff_exists.1 hsome
    rw [pumpBusRow_stack h he hr] at g
    have hread := frame_memUE_mapped hr
    obtain ⟨hended, harrived, hstops⟩ := busStops_of_runs
      (h.imp fun p hrun => ⟨hrun.1, (pumpState_of_read hread hrun.1).trans hrun.2⟩) (g ..)
    have hmem : t.mem = (memUE s (pumpMemAddr ep a)).mem := (hstops.mem (by decide)).1
    have hue := memUE_mapped hr
    refine ⟨t, ht, hended.since hread, fun hn => absurd ⟨he, hsome⟩ hn, fun r' off' _ hr' => ?_,
      (hread.mono (by simp) (by simp)).trans (hstops.mono hkeys (by simp))⟩
    obtain ⟨rfl, rfl⟩ : r = r' ∧ off = off' := by simpa [hr] using hr'
    refine ⟨?_, ?_, ?_, ?_, fun x => ?_⟩
    · rw [harrived, hue]
      show (s.flt.arrived ++ [_]) ++ [_] = _
      rw [List.append_assoc]
      rfl
    · rw [hstops.num_eq (by decide) (by decide), hue]
      simp [blockMarked]
    · rw [hstops.num_eq (by decide) (by decide), hue]
      simp [blockMarked]
    · rw [hmem, hue]
      exact mem_bad_blockMarked _
    · rw [hmem]
      exact (memMarked_memUE s _).byte x
  · rw [pumpBusRow_bare hh] at g
    have hstops := busStops_of_runs h (g ..)
    have ⟨hended, _, hframe⟩ := hstops
    exact ⟨t, ht, hended, fun _ => hstops,
      fun r off he hr => absurd ⟨he, Option.isSome_iff_exists.2 ⟨_, hr⟩⟩ hh, hframe.mono hkeys (by simp)⟩

end

/-- Settles O52: a command is carried by CH_CMD or PUMP_DB alike and works on its channel alone; a bus error stops the channels
one after another, each by itself. -/
theorem pumpCommandsTakeEffect : Obligations.PumpCommandsTakeEffect :=
  ⟨fun _ _ _ _ hp => ⟨start_runs hp, doorbell_effect hp, stop_effect hp, resume_runs hp⟩,
    fun _ _ hs hp => stopTakesEffect_effect hp hs, fun _ _ _ _ hp => curDesc_effect hp,
    fun _ _ _ hs => ⟨busError_stands hs, busError_effect hs⟩⟩

end Sys2Proof.Machine

/-! PROOFS. Pending trim sets (O54, O55). The statements ask nothing of the list of pending sets, so a list that names one channel
twice, which is not rising, is among their states. A change to the active set takes the channel's first entry out of the list
(R513), and the second one is then the set that the next application makes active. -/

namespace Sys2Proof.Machine

/-! ### The set that a channel takes next -/

/-- The objects that hold a channel's active set (R547). -/
def trimKeys : List Nat :=
  [K.DRV_BASE, K.CMP_BASE, K.CAP_BASE, K.DRV_DRIFT, K.CMP_DRIFT, K.CAP_DRIFT, K.DAC_TRIM, K.CMP_OFS]

theorem trimKeys_channel : ∀ k ∈ trimKeys, ChannelKey k := by decide

theorem aFind_aDel_of_ne {α : Type} {l : Assoc α} {k j : Nat} (h : j ≠ k) : aFind (aDel l k) j = aFind l j := by
  induction l with
  | nil => rfl
  | cons p r ih =>
    obtain ⟨a, b⟩ := p
    by_cases ha : k = a
    · subst ha
      simp [aDel, aFind, h]
    · simp [aDel, aFind, ha, ih]

section
variable {a s t : State} {c d : Nat} {ks : List Nat} {ps : List Part}

theorem trimKeys_ne_channel {j : Nat} (hj : j ∉ trimKeys) (hc : ChannelKey j) : ∀ k ∈ trimKeys, atCh k c ≠ atCh j d := by
  intro k hk e
  obtain ⟨rfl, -⟩ := atCh_inj (trimKeys_channel k hk) hc e
  exact hj hk

theorem trimKeys_ne_module {j : Nat} (hj : j < 0x400000) : ∀ k ∈ trimKeys, atCh k c ≠ j := fun k hk =>
  (module_ne_channel hj (trimKeys_channel k hk)).symm

theorem activeTrims_frame (h : Frame ks ps s t) (hu : Part.units ∉ ps) (hk : ∀ k ∈ trimKeys, atCh k c ∉ ks) :
    activeTrims t c = activeTrims s c := by
  simp only [trimKeys, List.forall_mem_cons] at hk
  obtain ⟨h1, h2, h3, h4, h5, h6, h7, h8, -⟩ := hk
  simp only [activeTrims, State.int32, h.num_eq h1 hu, h.num_eq h2 hu, h.num_eq h3 hu, h.num_eq h4 hu, h.num_eq h5 hu,
    h.num_eq h6 hu, h.blob _ h7, h.blob _ h8]

theorem nextTrims_frame (h : Frame ks ps s t) (hu : Part.units ∉ ps) (hk : ∀ k ∈ trimKeys, atCh k c ∉ ks)
    (hp : aFind t.cal.pending c = aFind s.cal.pending c) : nextTrims t c = nextTrims s c := by
  rw [nextTrims, nextTrims, hp, activeTrims_frame h hu hk]

theorem activeTrims_setNum {j : Nat} (v : Nat) (hj : ∀ k ∈ trimKeys, atCh k c ≠ j) :
    activeTrims (s.setNum j v) c = activeTrims s c :=
  activeTrims_frame (frame_setNum_one j v) (by simp) (by simpa using hj)

theorem nextTrims_setNum {j : Nat} (v : Nat) (hj : ∀ k ∈ trimKeys, atCh k c ≠ j) :
    nextTrims (s.setNum j v) c = nextTrims s c :=
  nextTrims_frame (frame_setNum_one j v) (by simp) (by simpa using hj) rfl

theorem nextTrims_setNums {l : List (Nat × Nat)} (hl : ∀ p ∈ l, ∀ k ∈ trimKeys, atCh k c ≠ p.1) :
    nextTrims (s.setNums l) c = nextTrims s c := by
  induction l generalizing s with
  | nil => rfl
  | cons p r ih =>
    rw [setNums_cons, ih fun q hq => hl q (List.mem_cons_of_mem _ hq), nextTrims_setNum _ (hl p List.mem_cons_self)]

theorem nextTrims_noteUnsaved : nextTrims (noteUnsaved s) c = nextTrims s c :=
  nextTrims_setNum _ (trimKeys_ne_module (by decide))

theorem nextTrims_baseSource (v : Nat) : nextTrims (s.setNum (atCh K.BASE_SOURCE d) v) c = nextTrims s c :=
  nextTrims_setNum v (trimKeys_ne_channel (by decide) (by decide))

/-- A reply that leaves, and the scan that a write starts, leave the sets as the write's commit does. -/
theorem nextTrims_touched (g : Frame [] answered (sigTouched s) t) : nextTrims t c = nextTrims s c :=
  (nextTrims_frame g (by decide) (by simp) (by rw [g.cal (by decide)])).trans
    (nextTrims_setNum (s := s.setMgmt { s.mgmt with scanning := true }) 0 (trimKeys_ne_module (by decide)))

/-! ### A pending set changes -/

variable {x y z : Trims} {l : Assoc Trims}

theorem frame_setPending (h : Frame ks ps a s) (hk : atCh K.PENDING c ∈ ks) (hp : Part.cal ∈ ps) :
    Frame ks ps a (setPending s c x) := frame_setNum (frame_setCal h _ hp) _ (.inl hk)

theorem frame_noteUnsaved (h : Frame ks ps a s) (hk : K.CAL_FLAGS ∈ ks) : Frame ks ps a (noteUnsaved s) :=
  frame_setFlag h _ _ (.inl hk)

/-- A change of one channel's pending set leaves those of the others. -/
theorem nextTrims_setPending_of_ne (h : d ≠ c) : nextTrims (setPending s c x) d = nextTrims s d := by
  refine (nextTrims_setNum _ (trimKeys_ne_channel (by decide) (by decide))).trans
    (nextTrims_frame (frame_setCal (.refl [] [.cal] s) _ (by simp)) (by simp) (by simp) ?_)
  show aFind (if x == activeTrims s c then aDel s.cal.pending c else aPut s.cal.pending c x) d = _
  split
  · exact aFind_aDel_of_ne h
  · rw [aFind_aPut, if_neg h]

/-- A channel with two pending sets that is given its active set takes the second one next. -/
theorem nextTrims_setPending_twins (h : s.cal.pending = (c, x) :: (c, y) :: l) (hz : z = activeTrims s c) :
    nextTrims (setPending s c z) c = y := by
  simp [nextTrims, setPending, h, hz, aDel, aFind]

theorem nextTrims_twins (h : s.cal.pending = (c, x) :: (c, y) :: l) : nextTrims s c = x := by simp [nextTrims, h, aFind]

/-! ### A base is written -/

theorem frame_baseWrite {w : Nat} {v : Int} :
    Frame [atCh K.PENDING c, atCh K.BASE_SOURCE c, K.CAL_FLAGS] [.cal] s (baseWrite s c w v) :=
  frame_noteUnsaved (frame_setNum (frame_setPending (frame_setCal (.refl ..) _ (by simp)) (by simp) (by simp)) _
    (.inl (by simp))) (by simp)

/-- The drive base of a channel with two pending sets is written so that it has its active set. -/
theorem nextTrims_baseWrite_twins {v : Int} (h : s.cal.pending = (c, x) :: (c, y) :: l)
    (hx : { x with drv := v, dDrv := 0, dCmp := 0, dCap := 0 } = activeTrims s c) : nextTrims (baseWrite s c 0 v) c = y := by
  obtain rfl := nextTrims_twins h
  exact (nextTrims_noteUnsaved.trans (nextTrims_baseSource _)).trans (nextTrims_setPending_twins h hx)

/-! ### The bases of a record are loaded -/

/-- The bases and readings of one channel are loaded (R529, R536). -/
def baseLoaded (sec : Bytes) (kind : Nat) (s : State) (c : Nat) : State :=
  let b := secBases sec c
  let s := s.setCal { s.cal with refs := aPut s.cal.refs c (b.2.2.2.1, b.2.2.2.2) }
  let x := nextTrims s c
  let s := s.setNum (atCh K.BASE_SOURCE c) kind
  setPending s c { x with drv := b.1, cmp := b.2.1, cap := b.2.2.1, dDrv := 0, dCmp := 0, dCap := 0 }

/-- The VREF values of a section, by their objects. -/
def vrefsLoaded (sec : Bytes) : List (Nat × Nat) :=
  (List.range 12).map (fun t => (K.VREF_T0 + t, raw 32 (secVref sec t)))

/-- Every CAL_STATUS says that its channel has never been calibrated (R529). -/
def statusNever : List (Nat × Nat) := (List.range 96).map (fun c => (atCh K.CAL_STATUS c, 0))

theorem calReload_eq (s : State) : calReload s = noteUnsaved
    ((((List.range 96).foldl (baseLoaded (baseSection s.cal.record) (byteAt s.cal.record 6)) s).setNums
      (vrefsLoaded (baseSection s.cal.record))).setNums statusNever) := rfl

variable {sec : Bytes} {kind : Nat}

theorem nextTrims_baseLoaded_of_ne (h : d ≠ c) : nextTrims (baseLoaded sec kind s c) d = nextTrims s d :=
  (nextTrims_setPending_of_ne h).trans (nextTrims_baseSource _)

/-- The bases of a channel with two pending sets are loaded so that it has its active set. -/
theorem nextTrims_baseLoaded_twins (h : s.cal.pending = (c, x) :: (c, y) :: l)
    (hx : { x with
      drv := (secBases sec c).1, cmp := (secBases sec c).2.1, cap := (secBases sec c).2.2.1,
      dDrv := 0, dCmp := 0, dCap := 0 } = activeTrims s c) : nextTrims (baseLoaded sec kind s c) c = y := by
  obtain rfl := nextTrims_twins h
  exact nextTrims_setPending_twins h
    (hx.trans (activeTrims_setNum kind (trimKeys_ne_channel (by decide) (by decide))).symm)

theorem nextTrims_foldl_baseLoaded {cs : List Nat} (h : d ∉ cs) :
    nextTrims (cs.foldl (baseLoaded sec kind) s) d = nextTrims s d :=
  foldl_obs_not_mem (f := baseLoaded sec kind) (key := id) (obs := nextTrims)
    (fun _ _ _ => nextTrims_baseLoaded_of_ne) (by simpa using h) s

/-- What a RELOAD does to the sets of channel 0, the loading of its bases does. -/
theorem nextTrims_calReload : nextTrims (calReload s) 0 =
    nextTrims (baseLoaded (baseSection s.cal.record) (byteAt s.cal.record 6) s 0) 0 := by
  rw [calReload_eq, nextTrims_noteUnsaved, nextTrims_setNums, nextTrims_setNums, List.range_succ_eq_map, List.foldl_cons,
    nextTrims_foldl_baseLoaded (by simp)]
  · simp only [vrefsLoaded, List.forall_mem_map, List.mem_range]
    exact fun t ht => trimKeys_ne_module (by unfold K.VREF_T0; omega)
  · simp only [statusNever, List.forall_mem_map]
    exact fun c _ => trimKeys_ne_channel (by decide) (by decide)

/-- The objects that a RELOAD sets (R529). -/
def reloadKeys : List Nat :=
  K.CAL_FLAGS :: (List.range 12).map (K.VREF_T0 + ·) ++ chKeys [K.CAL_STATUS, K.PENDING, K.BASE_SOURCE] (List.range 96)

theorem frame_calReload : Frame reloadKeys [.cal] s (calReload s) := by
  have hch (k : Nat) (hk : k ∈ [K.CAL_STATUS, K.PENDING, K.BASE_SOURCE]) (c : Nat) (hc : c ∈ List.range 96) :
      atCh k c ∈ reloadKeys := List.mem_append_right _ (mem_chKeys hk hc)
  rw [calReload_eq]
  refine frame_noteUnsaved (frame_setNums (frame_setNums (Frame.foldl (.refl ..) _ fun s c hc g => ?_) _ ?_) _ ?_)
    (by simp [reloadKeys])
  · exact frame_setPending (frame_setNum (frame_setCal g _ (by simp)) _ (.inl (hch _ (by simp) c hc)))
      (hch _ (by simp) c hc) (by simp)
  · simp only [vrefsLoaded, List.forall_mem_map]
    exact fun t ht => .inl (by simp [reloadKeys, List.mem_range.1 ht])
  · simp only [statusNever, List.forall_mem_map]
    exact fun c hc => .inl (hch _ (by simp) c hc)

end

/-! ### The refutations -/

theorem row_storeCmd : rowOf 0x2700 0x12 = ⟨0x12, 0x12, .u8, .cmdLck, 0, false, 7, 0, .any, 0⟩ := by decide

theorem commit_reload (s : State) (q : Asker) (fr : Bool) :
    commit s q fr 0x2700 0x12 0 (bytesOf K.STORE_CMD 4) = calReload s := by
  have hvalue : leNat (bytesOf K.STORE_CMD 4) &&& 7 = 4 := by decide
  have hreload : storeCmd s 4 = calReload s := rfl
  simp [commit, row_storeCmd, hvalue, hreload, Ty.isBlob, commitUnit, commitModule, objKey, baseIndex, K.LINE_CFG0, K.PAT_STACKS,
    K.SCR_MIB, K.AUTH_PF0]

section
variable {s t : State} {v : Via}

/-- An accepted RELOAD leaves the sets as `calReload` does. -/
theorem nextTrims_reload (h : AcceptedKey s v K.STORE_CMD 4) (ht : exec (.reload v) s = .next t) (d : Nat) :
    nextTrims t d = nextTrims (calReload s) d := by
  obtain ⟨u, hu, g, -⟩ := took_commit (f := fun s => writeKey s v K.STORE_CMD 4) rfl h (by decide) (by decide)
    (commit_reload ..) frame_calReload (by decide)
  obtain rfl := Host.Outcome.next.inj (hu.symm.trans ht)
  exact nextTrims_touched g

/-- An accepted write of DRV_BASE with 0 leaves the sets as `baseWrite` does. -/
theorem nextTrims_driveBase {c : Nat} (hc : c < 96) (h : AcceptedKey s v (atCh K.DRV_BASE c) 0)
    (ht : exec (.baseWrite v c 0 0) s = .next t) (d : Nat) : nextTrims t d = nextTrims (baseWrite s c 0 0) d := by
  obtain ⟨u, hu, g, -⟩ := took_channelCommand (k := K.DRV_BASE) (n := 0) (by decide) frame_baseWrite (by decide) (by decide)
    hc h fun _ => rfl
  obtain rfl := Host.Outcome.next.inj (hu.symm.trans ht)
  exact nextTrims_touched g

end

/-- The management core serves PCIe, a record is active, and channel 0 is calibrated; its trims are 0. -/
def calibratedAtZero : State :=
  let s := State.reset.setNums [(K.READY, 0x41), (atCh K.CAL_STATUS 0, 2)]
  s.setCal { s.cal with record := zeros 8 }

/-- The trims of that channel but for its CAP_BASE, which is 5. -/
def otherTrims : Trims := { activeTrims calibratedAtZero 0 with cap := 5 }

/-- Channel 0 has two pending sets, its active set and the other one. -/
def pendingTwins : State :=
  calibratedAtZero.setCal
    { calibratedAtZero.cal with pending := [(0, activeTrims calibratedAtZero 0), (0, otherTrims)] }

/-- PF0's way to an object. -/
def pf0Frame : Via := .frame ⟨.pf0, 2, 7, 0, 0, false, 0, none⟩

/-- Refutes O54: DRV_BASE is written with the value that it has, and the set that channel 0 takes next has the CAP_BASE 5, not
the 0 that it had. -/
theorem not_selfCalibration : ¬ Obligations.SelfCalibration := by
  rintro ⟨-, -, -, -, -, hbase, -⟩
  have haccepted : AcceptedKey pendingTwins pf0Frame (atCh K.DRV_BASE 0) 0 := by decide +kernel
  obtain ⟨t, ht, hnext, -⟩ := hbase pendingTwins pf0Frame 0 0 0 (by decide) (by decide) haccepted
  have htwin : nextTrims t 0 = otherTrims := (nextTrims_driveBase (by decide) haccepted ht 0).trans
    (nextTrims_baseWrite_twins (x := activeTrims calibratedAtZero 0) rfl (by decide +kernel))
  rw [hnext] at htwin
  exact absurd (congrArg Trims.cap htwin) (by decide +kernel)

/-- Refutes O55: the bases of the record are 0, and the set that channel 0 takes after a RELOAD has the CAP_BASE 5. -/
theorem not_recordsAndHoldup : ¬ Obligations.RecordsAndHoldup := by
  rintro ⟨hcommands, -⟩
  obtain ⟨-, -, hreload⟩ := hcommands pendingTwins pf0Frame
  have haccepted : AcceptedKey pendingTwins pf0Frame K.STORE_CMD 4 := by decide +kernel
  obtain ⟨t, ht, hchannels, -⟩ := hreload haccepted
  obtain ⟨-, -, -, hcap, -⟩ := hchannels 0 (by decide)
  have htwin : nextTrims t 0 = otherTrims := ((nextTrims_reload haccepted ht 0).trans nextTrims_calReload).trans
    (nextTrims_baseLoaded_twins (x := activeTrims calibratedAtZero 0) rfl (by decide +kernel))
  rw [htwin] at hcap
  exact absurd hcap (by decide +kernel)

end Sys2Proof.Machine

/-! PROOFS. Every step of the block (O1–O7): a command takes effect through one operation that respects the queue, what has been
sent out and the canonical forms (R638, log entry 1). -/

namespace Sys2Proof.Machine

/-! ### Every command -/

/-- Every command but a power-on reset takes its effect unless D00 has stopped, by an operation that keeps what `Keeps` says. -/
theorem exec_took {i : Instr} (s : State) (hi : ∀ x y, i ≠ .powerOnReset x y) : ∃ f, exec i s = took s f ∧ Keeps s (f s) := by
  cases i with
  | powerOnReset x y => exact absurd rfl (hi x y)
  | read | write | batch => exact ⟨(frameIn · _ _), rfl, keeps_frameIn (.refl s) ..⟩
  | cmdTail | rplTail | ringCtrl | seqRun | seqHalt | seqJump => exact ⟨(bar0Write · _ _ _), rfl, keeps_bar0Write (.refl s) ..⟩
  | commandFetch => exact ⟨(commandFetch · _ _), rfl, keeps_commandFetch (.refl s) ..⟩
  | commandFetchError => exact ⟨(commandFetchError · _), rfl, keeps_commandFetchError (.refl s) ..⟩
  | replyWrite => exact ⟨(replyWrite · _), rfl, keeps_replyWrite (.refl s) ..⟩
  | registerWrite => exact ⟨(registerAccess · _), rfl, keeps_registerAccess (.refl s) ..⟩
  | bar2Read => exact ⟨(bar2Read · _ _ _), rfl, keeps_bar2Read (.refl s) ..⟩
  | bar2Write | bar2LowHalfWrite | bar2HighHalfWrite => exact ⟨(bar2Write · _ _ _), rfl, keeps_bar2Write (.refl s) ..⟩
  | functionLevelReset => exact ⟨(functionReset · _), rfl, keeps_functionReset (.refl s) ..⟩
  | onpelFrame => exact ⟨(onpelFrame · _ _), rfl, keeps_onpelFrame (.refl s) ..⟩
  | dictFrameUpdate => exact ⟨(dictFrameUpdate · _), rfl, keeps_dictFrameUpdate (.refl s) ..⟩
  | dictFrameCapture => exact ⟨dictFrameCapture, rfl, keeps_dictFrameCapture (.refl s) ..⟩
  | testLogicReset => exact ⟨testLogicReset, rfl, keeps_testLogicReset (.refl s) ..⟩
  | recoveryWord => exact ⟨(recoveryWord · _), rfl, keeps_recoveryWord (.refl s) ..⟩
  | keyUnlock | lockSet | verEnable | sigCommit | sigRef | run | haltRequest | jumpReq | snap | user | custLoad |
    custClear | patchInstall | ucEnforce | tickMult | apply | self | abort | store | revert | reload | stickyClear |
    fire | set | lift | ringCmdStart | ringCmdHalt | ringCmdJump | cal | sigGroup | ringRole | domEn | soft | install |
    advFw | advPatch | sign => exact ⟨(writeKey · _ _ _), rfl, keeps_writeKey (.refl s) ..⟩
  | unlockLapse => exact ⟨(State.setNum · _ _), rfl, keeps_setNum (.refl s) ..⟩
  | authWrite => exact ⟨(writeVia · _ _ _ _), rfl, keeps_writeVia (.refl s) ..⟩
  | sigScanStart => exact ⟨sigScanStart, rfl, keeps_sigScanStart (.refl s) ..⟩
  | sigScanComplete => exact ⟨sigScanComplete, rfl, keeps_sigScanComplete (.refl s) ..⟩
  | loadingBegin => exact ⟨(loadingBegin · _), rfl, keeps_loadingBegin (.refl s) ..⟩
  | loadingComplete => exact ⟨loadingComplete, rfl, keeps_loadingComplete (.refl s) ..⟩
  | drainingEnd => exact ⟨drainingEnd, rfl, keeps_drainingEnd (.refl s) ..⟩
  | domainLossDuringBurst => exact ⟨(domainLossRow · _), rfl, keeps_domainLossRow (.refl s) ..⟩
  | vec => exact ⟨(vec · _), rfl, keeps_vec (.refl s) ..⟩
  | rpt => exact ⟨(rpt · _), rfl, keeps_rpt (.refl s) ..⟩
  | rptCountEnd => exact ⟨rptCountEnd, rfl, keeps_rptCountEnd (.refl s) ..⟩
  | loop => exact ⟨(loop · _), rfl, keeps_loop (.refl s) ..⟩
  | endl => exact ⟨(endl · _), rfl, keeps_endl (.refl s) ..⟩
  | call => exact ⟨(call · _), rfl, keeps_call (.refl s) ..⟩
  | ret => exact ⟨(ret · _), rfl, keeps_ret (.refl s) ..⟩
  | jmp => exact ⟨(jmp · _), rfl, keeps_jmp (.refl s) ..⟩
  | jif => exact ⟨(jif · _), rfl, keeps_jif (.refl s) ..⟩
  | matchOp => exact ⟨(matchIssue · _), rfl, keeps_matchIssue (.refl s) ..⟩
  | matchTimeout => exact ⟨matchTimeout, rfl, keeps_matchTimeout (.refl s) ..⟩
  | syncw => exact ⟨(syncw · _), rfl, keeps_syncw (.refl s) ..⟩
  | syncwTimeout => exact ⟨syncwTimeout, rfl, keeps_syncwTimeout (.refl s) ..⟩
  | syncs => exact ⟨(syncs · _), rfl, keeps_syncs (.refl s) ..⟩
  | hold => exact ⟨(hold · _), rfl, keeps_hold (.refl s) ..⟩
  | holdEnd => exact ⟨holdEnd, rfl, keeps_holdEnd (.refl s) ..⟩
  | tset => exact ⟨(tset · _), rfl, keeps_tset (.refl s) ..⟩
  | mark => exact ⟨(mark · _), rfl, keeps_mark (.refl s) ..⟩
  | eyeStart | eyeAdvance | eyeStop => exact ⟨(eye _ · _), rfl, keeps_eye (.refl s) ..⟩
  | halt => exact ⟨(halt · _), rfl, keeps_halt (.refl s) ..⟩
  | userOpcode => exact ⟨(userOpcode · _), rfl, keeps_userOpcode (.refl s) ..⟩
  | shadowGranule => exact ⟨(shadowGranule · _), rfl, keeps_shadowGranule (.refl s) ..⟩
  | fallOff => exact ⟨fallOff, rfl, keeps_fallOff (.refl s) ..⟩
  | jumpReserveFilled => exact ⟨(jumpReserveFilled · _), rfl, keeps_jumpReserveFilled (.refl s) ..⟩
  | granuleFetch => exact ⟨(granuleFetch · _ _ _), rfl, keeps_granuleFetch (.refl s) ..⟩
  | primingStart => exact ⟨primingStart, rfl, keeps_primingStart (.refl s) ..⟩
  | primingComplete => exact ⟨(primingComplete · _ _ _), rfl, keeps_primingComplete (.refl s) ..⟩
  | headReload => exact ⟨headReload, rfl, keeps_headReload (.refl s) ..⟩
  | drywell => exact ⟨dryWellRow, rfl, keeps_dryWellRow (.refl s) ..⟩
  | trapTaken => exact ⟨(trapTaken · _), rfl, keeps_trapTaken (.refl s) ..⟩
  | trapResume => exact ⟨(trapResume · _), rfl, keeps_trapResume (.refl s) ..⟩
  | trapOverrun => exact ⟨trapOverrun, rfl, keeps_trapOverrun (.refl s) ..⟩
  | deferOverrun => exact ⟨(deferOverrun · _), rfl, keeps_deferOverrun (.refl s) ..⟩
  | scrubRead => exact ⟨(scrubRead · _), rfl, keeps_scrubRead (.refl s) ..⟩
  | patchInstallDone => exact ⟨(patchInstallDone · _), rfl, keeps_patchInstallDone (.refl s) ..⟩
  | synthesiserLock => exact ⟨fun s => domAdvance (synthLock s), rfl, keeps_domAdvance (keeps_synthLock (.refl s))⟩
  | holdoverRelock => exact ⟨fun s => domAdvance (holdoverRelock s), rfl, keeps_domAdvance (keeps_holdoverRelock (.refl s))⟩
  | tilePllLock =>
    exact ⟨(fun s => onTile s _ fun s => domAdvance (pllLock s _)), rfl,
      keeps_onTile (.refl s) _ _ fun h => keeps_domAdvance (keeps_pllLock h _)⟩
  | holdover => exact ⟨tickHoldover, rfl, keeps_tickHoldover (.refl s) ..⟩
  | deskewWrite | selfCheckRun | arm | disarm | clear | baseWrite =>
    exact ⟨(fun s => onCh s _ fun s => writeKey s _ _ _), rfl, keeps_onCh (.refl s) _ _ fun h => keeps_writeKey h ..⟩
  | checkerLock =>
    exact ⟨(fun s => onCh s _ fun s => checkerLock s _), rfl, keeps_onCh (.refl s) _ _ fun h => keeps_checkerLock h ..⟩
  | checkerRelock =>
    exact ⟨(fun s => onCh s _ fun s => checkerRelock s _), rfl, keeps_onCh (.refl s) _ _ fun h => keeps_checkerRelock h ..⟩
  | comparatorValid =>
    exact ⟨(fun s => onCh s _ fun s => comparatorValid s _ _), rfl,
      keeps_onCh (.refl s) _ _ fun h => keeps_comparatorValid h ..⟩
  | attentionEvent =>
    exact ⟨(fun s => onCh s _ fun s => attentionEvent s _ _), rfl, keeps_onCh (.refl s) _ _ fun h => keeps_attentionEvent h ..⟩
  | listen | wake | convStart | vrefWrite =>
    exact ⟨(fun s => onTile s _ fun s => writeKey s _ _ _), rfl, keeps_onTile (.refl s) _ _ fun h => keeps_writeKey h ..⟩
  | listenEntered =>
    exact ⟨(fun s => onTile s _ fun s => listenEntered s _), rfl, keeps_onTile (.refl s) _ _ fun h => keeps_listenEntered h ..⟩
  | wakeEvent =>
    exact ⟨(fun s => onTile s _ fun s => wakeEvent s _ _), rfl, keeps_onTile (.refl s) _ _ fun h => keeps_wakeEvent h ..⟩
  | tileReadyAfterWake =>
    exact ⟨(fun s => onTile s _ fun s => tileAwake s _), rfl, keeps_onTile (.refl s) _ _ fun h => keeps_tileAwake h ..⟩
  | selfCheckDone =>
    exact ⟨(fun s => onCh s _ fun s => selfCheckDone s _ _), rfl, keeps_onCh (.refl s) _ _ fun h => keeps_selfCheckDone h ..⟩
  | convDone =>
    exact ⟨(fun s => onTile s _ fun s => convDone s _ _), rfl, keeps_onTile (.refl s) _ _ fun h => keeps_convDone h ..⟩
  | failRecord => exact ⟨failRecord, rfl, keeps_failRecord (.refl s) ..⟩
  | burstSummary => exact ⟨burstSummary, rfl, keeps_burstSummary (.refl s) ..⟩
  | tmuEdge => exact ⟨(fun s => onCh s _ fun s => tmuEdge s _ _ _ _), rfl, keeps_onCh (.refl s) _ _ fun h => keeps_tmuEdge h ..⟩
  | tmuTimeout =>
    exact ⟨(fun s => onCh s _ fun s => tmuTimeout s _), rfl, keeps_onCh (.refl s) _ _ fun h => keeps_tmuTimeout h ..⟩
  | tmuRearm => exact ⟨(fun s => onCh s _ fun s => tmuRearm s _), rfl, keeps_onCh (.refl s) _ _ fun h => keeps_tmuRearm h ..⟩
  | refinQualified => exact ⟨(refinQualified · _), rfl, keeps_refinQualified (.refl s) ..⟩
  | refinLoss => exact ⟨(refinLoss · _ _), rfl, keeps_refinLoss (.refl s) ..⟩
  | slewEnd => exact ⟨slewEnd, rfl, keeps_slewEnd (.refl s) ..⟩
  | referenceHoldover => exact ⟨refHoldover, rfl, keeps_refHoldover (.refl s) ..⟩
  | warmSecond => exact ⟨warmSecond, rfl, keeps_warmSecond (.refl s) ..⟩
  | ovenOutOfRange => exact ⟨(ovenLeaves · _), rfl, keeps_ovenLeaves (.refl s) ..⟩
  | ovenWarmTimeout => exact ⟨ovenTimeout, rfl, keeps_ovenTimeout (.refl s) ..⟩
  | mapAutoApply => exact ⟨mapAuto, rfl, keeps_mapAuto (.refl s) ..⟩
  | start | doorbell | stop | resume =>
    exact ⟨(fun s => onPump s _ fun s => pumpVia s _ _ _), rfl, keeps_onPump (.refl s) _ _ fun h => keeps_pumpVia h ..⟩
  | stopTakesEffect =>
    exact ⟨(fun s => onPump s _ fun s => stopTakesEffect s _), rfl,
      keeps_onPump (.refl s) _ _ fun h => keeps_stopTakesEffect h ..⟩
  | descriptorFetch =>
    exact ⟨(fun s => onPump s _ fun s => descriptorFetch s _ _), rfl,
      keeps_onPump (.refl s) _ _ fun h => keeps_descriptorFetch h ..⟩
  | elementMove =>
    exact ⟨(fun s => onPump s _ fun s => elementMove s _ _), rfl, keeps_onPump (.refl s) _ _ fun h => keeps_elementMove h ..⟩
  | dictElement => exact ⟨(fun s => onPump s _ fun s => submit s _), rfl, keeps_onPump (.refl s) _ _ fun h => keeps_submit h ..⟩
  | descriptorComplete =>
    exact ⟨(fun s => onPump s _ fun s => descriptorComplete s _), rfl,
      keeps_onPump (.refl s) _ _ fun h => keeps_descriptorComplete h ..⟩
  | refetch =>
    exact ⟨(fun s => onPump s _ fun s => refetchDone s _ _), rfl, keeps_onPump (.refl s) _ _ fun h => keeps_refetchDone h ..⟩
  | busError => exact ⟨(pumpBusRow · _ _), rfl, keeps_pumpBusRow (.refl s) ..⟩
  | curDesc =>
    exact ⟨(fun s => onPump s _ fun s => writeKey s _ _ _), rfl, keeps_onPump (.refl s) _ _ fun h => keeps_writeKey h ..⟩
  | channelCalComplete =>
    exact ⟨(fun s => onCh s _ fun s => channelCal s _ _), rfl, keeps_onCh (.refl s) _ _ fun h => keeps_channelCal h ..⟩
  | calInputBusy =>
    exact ⟨(fun s => onCh s _ fun s => calBusyAbort s _), rfl, keeps_onCh (.refl s) _ _ fun h => keeps_calBusyAbort h ..⟩
  | trimApply => exact ⟨trimApply, rfl, keeps_trimApply (.refl s) ..⟩
  | storeComplete => exact ⟨(storeComplete · _), rfl, keeps_storeComplete (.refl s) ..⟩
  | holdupTest => exact ⟨(holdTest · _), rfl, keeps_holdTest (.refl s) ..⟩
  | holdVRefresh => exact ⟨(holdRefresh · _), rfl, keeps_holdRefresh (.refl s) ..⟩
  | faultCollect => exact ⟨faultCollect, rfl, keeps_faultCollect (.refl s) ..⟩
  | reactWrite v n x => exact ⟨fun s => if n < 128 then writeKey s v (K.REACT_s + n) x else s, rfl,
      .ite (keeps_writeKey (.refl s) ..) (.refl s)⟩
  | custKey v k d => exact ⟨fun s => if k < 8 then writeVia s v 0x2900 (0x20 + k) d else s, rfl,
      .ite (keeps_writeVia (.refl s) ..) (.refl s)⟩
  | tileFailure =>
    exact ⟨(fun s => onTile s _ fun s => tileFailure s _ _), rfl, keeps_onTile (.refl s) _ _ fun h => keeps_tileFailure h ..⟩
  | watchdogExpiry => exact ⟨watchdogExpiry, rfl, keeps_watchdogExpiry (.refl s) ..⟩
  | watchdogRefresh => exact ⟨watchdogRefresh, rfl, keeps_watchdogRefresh (.refl s) ..⟩
  | aliveToggle => exact ⟨aliveToggle, rfl, keeps_aliveToggle (.refl s) ..⟩
  | ringStart => exact ⟨(ringStart · _), rfl, keeps_ringStart (.refl s) ..⟩
  | scheduledStart => exact ⟨scheduledStart, rfl, keeps_scheduledStart (.refl s) ..⟩
  | ringHalt => exact ⟨(ringHalt · _), rfl, keeps_ringHalt (.refl s) ..⟩
  | ringJump => exact ⟨(ringJump · _), rfl, keeps_ringJump (.refl s) ..⟩
  | scheduledJump => exact ⟨scheduledJump, rfl, keeps_scheduledJump (.refl s) ..⟩
  | ringMark => exact ⟨(ringMarkIn · _), rfl, keeps_ringMarkIn (.refl s) ..⟩
  | time => exact ⟨(timeIn · _ _), rfl, keeps_timeIn (.refl s) ..⟩
  | timeEvent => exact ⟨timeEvent, rfl, keeps_timeEvent (.refl s) ..⟩
  | sig => exact ⟨(sigIn · _), rfl, keeps_sigIn (.refl s) ..⟩
  | timeEmit => exact ⟨timeEmit, rfl, keeps_timeEmit (.refl s) ..⟩
  | sigSend => exact ⟨sigSend, rfl, keeps_sigSend (.refl s) ..⟩
  | ringQueueSend => exact ⟨ringQueueSend, rfl, keeps_ringQueueSend (.refl s) ..⟩
  | peerStale => exact ⟨(peerStale · _), rfl, keeps_peerStale (.refl s) ..⟩
  | calibrationBlock => exact ⟨calibrationBlock, rfl, keeps_calibrationBlock (.refl s) ..⟩
  | ringLock => exact ⟨ringLock, rfl, keeps_ringLock (.refl s) ..⟩
  | lockLoss => exact ⟨lockLoss, rfl, keeps_lockLoss (.refl s) ..⟩
  | functionReady => exact ⟨(functionReady · _ _), rfl, keeps_functionReady (.refl s) ..⟩
  | supplyValid => exact ⟨(supplyValid · _), rfl, keeps_supplyValid (.refl s) ..⟩
  | supplyFault => exact ⟨(supplyFault · _), rfl, keeps_supplyFault (.refl s) ..⟩
  | vauxFailure => exact ⟨vauxFailure, rfl, keeps_vauxFailure (.refl s) ..⟩
  | resetN => exact ⟨(resetN · _ _), rfl, keeps_resetN (.refl s) ..⟩
  | perst => exact ⟨perst, rfl, keeps_perst (.refl s) ..⟩
  | temperatureSample => exact ⟨(temperatureSample · _), rfl, keeps_temperatureSample (.refl s) ..⟩
  | firmwareInstallDone => exact ⟨(fwInstallDone · _), rfl, keeps_fwInstallDone (.refl s) ..⟩
  | fuseProgrammingDone => exact ⟨(fuseEnd · _), rfl, keeps_fuseEnd (.refl s) ..⟩
  | keysSaved => exact ⟨keysSave, rfl, keeps_keysSave (.refl s) ..⟩
  | attestationSigned => exact ⟨signDone, rfl, keeps_signDone (.refl s) ..⟩
  | onpelLinkPortDown => exact ⟨(portDown · _), rfl, keeps_portDown (.refl s) ..⟩
  | stackLinkTrainingLoss => exact ⟨(stackTrainingLoss · _), rfl, keeps_stackTrainingLoss (.refl s) ..⟩
  | aerUncorrectableError => exact ⟨aerError, rfl, keeps_aerError (.refl s) ..⟩
  | driverCurrentLimit =>
    exact ⟨(fun s => onCh s _ fun s => currentLimit s _), rfl, keeps_onCh (.refl s) _ _ fun h => keeps_currentLimit h ..⟩
  | ovenHeaterFault => exact ⟨heaterFault, rfl, keeps_heaterFault (.refl s) ..⟩
  | vholdAtVMin => exact ⟨vholdMin, rfl, keeps_vholdMin (.refl s) ..⟩
  | referenceStageLock => exact ⟨refLock, rfl, keeps_refLock (.refl s) ..⟩
  | recordInMemory => exact ⟨recordInMemory, rfl, keeps_recordInMemory (.refl s) ..⟩
  | perstDeassertion => exact ⟨perstOff, rfl, keeps_perstOff (.refl s) ..⟩
  | delayCalibrationEnd => exact ⟨(delayCalibrationEnd · _), rfl, keeps_delayCalibrationEnd (.refl s) ..⟩

/-- Every command answers a next state and keeps what `Keeps` says. -/
theorem exec_keeps (i : Instr) (s : State) : ∃ t, exec i s = .next t ∧ Keeps s t := by
  by_cases hi : ∃ x y, i = .powerOnReset x y
  · obtain ⟨x, y, rfl⟩ := hi
    exact ⟨_, rfl, keeps_attnNote (keeps_powerOnReset (.refl s) x y)⟩
  · obtain ⟨f, hf, hk⟩ := exec_took s (i := i) fun x y e => hi ⟨x, y, e⟩
    exact ⟨_, hf, .ite (.refl s) (keeps_attnNote hk)⟩

/-- A step takes the front command off the queue and keeps what `Keeps` says of the rest. -/
theorem step_keeps (s : State) : ∃ t, step s = .next t ∧ Keeps { s with pending := s.pending.tail } t := by
  rcases hp : s.pending with _ | ⟨i, rest⟩
  · have hs : { s with pending := [] } = s := hp ▸ rfl
    refine ⟨idleCycle s, by simp only [step, hp], ?_⟩
    rw [List.tail_nil, hs]
    exact keeps_idleCycle (.refl s)
  · obtain ⟨t, ht, hk⟩ := exec_keeps i { s with pending := rest }
    exact ⟨t, by simpa only [step, hp] using ht, hk⟩

/-- TB_NOW advances by 2.5 ns where its epoch is fixed and D02 is on (R424, R427). -/
theorem tbAdvance_eq (s : State) : tbAdvance s =
    if s.tb.epoch = true ∧ domState s 2 ≠ 0 then s.setNum K.TB_NOW ((s.num K.TB_NOW + 8960) % 2 ^ 64) else s :=
  if_congr (by simp) rfl rfl

/-! ### The obligations -/

/-- Settles O1. -/
theorem stepRunsFrontCommand : Obligations.StepRunsFrontCommand := fun _ _ _ => rfl

/-- Settles O3: every command's operation keeps the queue, what has been sent out and the free values drawn. -/
theorem everyStepAnswersANextState : Obligations.EveryStepAnswersANextState := by
  intro s
  obtain ⟨t, ht, hk⟩ := step_keeps s
  exact ⟨t, ht, hk.queue, hk.sent, hk.drawn⟩

/-- Settles O4: every command's operation keeps the canonical form of every sparse store. -/
theorem soundStateIsKept : Obligations.SoundStateIsKept := by
  intro s t hs ht
  obtain ⟨u, hu, hk⟩ := step_keeps s
  obtain rfl := Host.Outcome.next.inj (hu.symm.trans ht)
  exact hk.sound hs

/-- Settles O7: every command but a power-on reset goes through `took`. -/
theorem nothingHappensWhileStopped : Obligations.NothingHappensWhileStopped := by
  intro c s hs hc
  obtain ⟨f, hf, -⟩ := exec_took s hc
  rw [hf, took, if_pos hs]

/-- Settles O2. -/
theorem idleStepIsOneManagementCycle : Obligations.IdleStepIsOneManagementCycle := by
  intro s hp
  have hstep : step s = .next (idleCycle s) := by simp [step, hp]
  refine ⟨fun hs => by rw [hstep, idleCycle, if_pos hs], fun hs => ?_⟩
  have hcycle : idleCycle s = tbAdvance (s.setPwr { s.pwr with cycles := s.pwr.cycles + 1 }) := by simp [idleCycle, hs]
  rw [hstep, hcycle, tbAdvance_eq]
  rfl

/-- Settles O5. -/
theorem resetIsSound : Obligations.ResetIsSound := by
  refine ⟨⟨⟨.nil, nofun⟩, ⟨.nil, nofun⟩, ?_, .nil⟩, rfl, rfl⟩
  simp [State.reset, resetObjs, Rising]
  decide

/-- Settles O6. -/
theorem resetValues : Obligations.ResetValues := by
  refine ⟨?_, ?_, ?_, ?_, ?_, ?_, ?_, ?_, ?_, ?_, ?_, ?_⟩
  all_goals decide +kernel

end Sys2Proof.Machine

/-! PROOFS. More ends of a burst that fence the units that wait, whatever they are (see O33): by a fault source (O56), by a HALT
message of the ring (O57), by RING_CMD.HALT (O58) and by VAUX's failure (O59). -/

namespace Sys2Proof.Machine

/-- The running burst of `runsWithFence`, with a HALT source collected next, the ring's port up and the core serving PCIe. -/
def haltsWithFence : State :=
  let s := runsWithFence.setNums [(K.READY, 0x41), (K.RING_STATE, 3)]
  s.setFlt { s.flt with arrived := [(0x70, false)] }

theorem haltsWithFence_tmu : haltsWithFence.num (atCh K.TMU_STATE 128) = 1 := by decide +kernel

/-- A command's next state in which the object of channel 128 reads 0. -/
def movesStrayTmu (c : Instr) : Bool :=
  match exec c haltsWithFence with
  | .next t => t.num (atCh K.TMU_STATE 128) == 0
  | _ => false

/-- A command that fences the waiting unit 0x80 moves an object of a channel that the module does not have, which no frame of
the burst's ends names. -/
theorem not_frame_of_movesStrayTmu {c : Instr} {t : State} {ks : List Nat} {ps : List Part} (hm : movesStrayTmu c = true)
    (ht : exec c haltsWithFence = .next t) (hk : atCh K.TMU_STATE 128 ∉ ks) : ¬ Frame ks ps haltsWithFence t := by
  intro hframe
  have hstand : t.num (atCh K.TMU_STATE 128) = 1 :=
    (hframe.num _ hk fun _ hp => absurd hp.2 (by decide)).trans haltsWithFence_tmu
  simp [movesStrayTmu, ht, hstand] at hm

/-- Such a command does not halt the burst as the statements say. -/
theorem not_halts_of_movesStrayTmu {c : Instr} {t : State} {cause : Nat} {ks : List Nat} {ps : List Part}
    (hm : movesStrayTmu c = true) (ht : exec c haltsWithFence = .next t) (hk : atCh K.TMU_STATE 128 ∉ ks ++ endKeys) :
    ¬ Halts cause ks ps haltsWithFence t := by
  rintro ⟨hends, -⟩
  obtain ⟨-, hframe⟩ := hends (by decide +kernel) rfl (by decide)
  exact not_frame_of_movesStrayTmu hm ht hk hframe

/-- Refutes O56: the collection of source 0x70, whose reaction is S2, ends the burst, which fences the waiting unit 0x80. -/
theorem not_faultsAndFences : ¬ Obligations.FaultsAndFences := by
  rintro ⟨hcollect, -⟩
  obtain ⟨t, ht, -, -, -, -, -, -, -, -, -, -, -, -, hhalts, -⟩ := hcollect haltsWithFence 0x70 false rfl (by decide) rfl
    (by decide +kernel) (by decide +kernel)
  obtain ⟨-, hhalt⟩ := hhalts (.inl rfl) (by decide +kernel)
  exact not_halts_of_movesStrayTmu (by decide +kernel) ht (by decide +kernel) hhalt

/-- A HALT message for every group, from position 0. -/
def haltMessage : Bytes := ringMsg 2 0x40 0 0 0 0 0 0

/-- Refutes O57: a HALT message ends the burst, which fences the waiting unit 0x80. -/
theorem not_ringMessages : ¬ Obligations.RingMessages := by
  rintro ⟨-, -, hhalts, -⟩
  obtain ⟨t, ht, -, hhalt⟩ := hhalts haltsWithFence haltMessage (by decide +kernel) (by decide +kernel)
  exact not_halts_of_movesStrayTmu (by decide +kernel) ht (by decide) hhalt

/-- Refutes O58: RING_CMD.HALT ends the module's own burst, which fences the waiting unit 0x80. -/
theorem not_ringStatesAndFleetTime : ¬ Obligations.RingStatesAndFleetTime := by
  rintro ⟨-, -, hcommands⟩
  obtain ⟨-, hhalts, -⟩ := hcommands haltsWithFence pf0Frame
  obtain ⟨t, -, ht, -, -, -, hmine, -⟩ := hhalts (by decide +kernel) (by decide)
  exact not_halts_of_movesStrayTmu (by decide +kernel) ht (by decide) (hmine (by decide +kernel))

/-- Refutes O59: VAUX fails while the burst runs, whose end fences the waiting unit 0x80. -/
theorem not_powerAndResets : ¬ Obligations.PowerAndResets := by
  rintro ⟨-, hevents, -⟩
  obtain ⟨-, -, -, -, -, -, hvaux, -⟩ := hevents haltsWithFence rfl
  obtain ⟨t, ht, -, -, -, hframe⟩ := hvaux rfl
  exact not_frame_of_movesStrayTmu (by decide +kernel) ht (by decide) hframe

end Sys2Proof.Machine

/-! PROOFS. Links and the AER's errors (O23), and the commands of trust: installs, floors, keys and attestation (O60). -/

namespace Sys2Proof.Machine

/-! ### Links and errors -/

/-- A port whose READY bit is set goes down (R549, R632). -/
theorem portDown_eq {s : State} {p : Nat} (hp : p < 2) (hr : s.flag K.READY (7 + p) = true) :
    portDown s p = (s.setFlag K.READY (7 + p) false).raise 0x7B := by
  rw [portDown, if_pos ⟨hp, hr⟩]
  rfl

/-- Settles O23: both events raise one source, and a port that goes down clears its READY bit. -/
theorem linksAndAerErrors : Obligations.LinksAndAerErrors := by
  intro s hs
  refine ⟨fun p hp hr => ?_, fun hd => ?_⟩
  · obtain ⟨t, ht, g, hf⟩ := took_event (f := fun s => portDown s p) hs (portDown_eq hp hr)
      (frame_raise (ps := [.arrived]) (frame_setFlag (ks := [K.READY]) (.refl ..) _ _ (.inl (by simp))) _ (.inr (by simp)))
    exact ⟨t, ht, by simp [State.flag, g.num_all, State.raise, putBit_get], g.arrived_all, hf⟩
  · obtain ⟨t, ht, g, hf⟩ := took_event (f := fun s => aerError s) hs (if_neg hd)
      (frame_raise (ks := []) (ps := [.arrived]) (.refl ..) _ (.inr (by simp)))
    exact ⟨t, ht, g.arrived_all, hf⟩

/-! ### Writes of trust's objects -/

section
variable {s : State} {v : Via} {i sub off : Nat} {d : Bytes} {fr : Bool} {q : Asker}

/-- An accepted write of a KEY object consumes the pending unlock and leaves the module as its commit does, SIG_CURRENT 0 and a
scan running, but for its reply (R108). -/
theorem took_keyCommit {f : State → State} {u : State} {ks : List Nat} {ps : List Part} (hf : f s = writeVia s v i sub d)
    (h : Accepted s v i sub d) (hc : objKey i sub ≠ K.SIG_COMMIT) (hk : (rowOf i sub).acc.isKey = true)
    (hu : commit (s.setNum K.UNLOCK_STATE 0) (askerVia s v) (viaFrame v) i sub 0 d = u)
    (hs : Frame ks ps (s.setNum K.UNLOCK_STATE 0) u) (hp : Part.pwr ∉ ps) :
    ∃ t, took s f = .next t ∧ Frame [] answered (sigTouched u) t ∧
      Frame (ks ++ [K.UNLOCK_STATE, K.SIG_CURRENT]) (ps ++ answered) s t := by
  have hspent : keySpent s i sub = s.setNum K.UNLOCK_STATE 0 := if_pos hk
  have hw : written s v i sub d = sigTouched u := by rw [written, hspent, hu]
  obtain ⟨t, ht, g⟩ := took_next f h.1.1
  have hv := writeVia_accepted h (fun e => hc e.1)
    (by rw [hspent, hu, hs.pwr hp]; exact softReset_of_reaches (s := s) h.1)
  rw [hw, ← hf] at hv
  have hall := hv.trans (g ..)
  have hunlock : Frame (ks ++ [K.UNLOCK_STATE, K.SIG_CURRENT]) (ps ++ answered) s (s.setNum K.UNLOCK_STATE 0) :=
    frame_setNum (.refl ..) _ (.inl (by simp))
  have hwide := hunlock.trans (hs.mono (fun _ => List.mem_append_left _) fun _ => List.mem_append_left _)
  have htouch := frame_sigTouched hwide (by simp) (List.mem_append_right _ (by simp [answered]))
  exact ⟨t, ht, hall, htouch.trans (hall.mono (by simp) fun _ => List.mem_append_right _)⟩

theorem row_fwCmd : rowOf 0x2900 6 = ⟨6, 6, .u8, .cmdLck, 0, false, 1, 0, .any, 0⟩ := by decide
theorem row_rollbackCmd : rowOf 0x2900 8 = ⟨8, 8, .u8, .cmdKeyLck, 0, false, 3, 0, .any, 0⟩ := by decide
theorem row_attCmd : rowOf 0x2900 0x11 = ⟨0x11, 0x11, .u8, .cmd, 0, false, 1, 0, .any, 0⟩ := by decide

theorem row_custKey {k : Nat} (hk : k < 8) :
    rowOf 0x2900 (0x20 + k) = ⟨0x20, 0x27, .octets, .keyLck, 0, true, 0, 0, .any, 133⟩ := by
  interval_cases k <;> rfl

theorem commit_fwCmd : commit s q fr 0x2900 6 off (leBytes 1 1) = fwInstall s := by
  simp [commit, row_fwCmd, Ty.isBlob, commitUnit, commitModule, objKey, baseIndex, K.LINE_CFG0, K.PAT_STACKS, K.SCR_MIB,
    K.AUTH_PF0, K.VREF_T0, leNat_leBytes, bit]

theorem commit_rollbackCmd {n : Nat} (hn : n < 4) : commit s q fr 0x2900 8 off (leBytes 1 n) = rollbackCmd s n := by
  have hv : leNat (leBytes 1 n) &&& 3 = n := by
    rw [leNat_leBytes, Nat.pow_one, Nat.mod_eq_of_lt (by omega)]
    exact and_mask (k := 2) hn
  simp [commit, row_rollbackCmd, Ty.isBlob, commitUnit, commitModule, objKey, baseIndex, K.LINE_CFG0, K.PAT_STACKS, K.SCR_MIB,
    K.AUTH_PF0, K.VREF_T0, hv]

theorem commit_attCmd : commit s q fr 0x2900 0x11 off (leBytes 1 1) = signStart s := by
  simp [commit, row_attCmd, Ty.isBlob, commitUnit, commitModule, objKey, baseIndex, K.LINE_CFG0, K.PAT_STACKS, K.SCR_MIB,
    K.AUTH_PF0, K.VREF_T0, leNat_leBytes, bit]

theorem commit_custKey {k : Nat} (hk : k < 8) : commit s q fr 0x2900 (0x20 + k) off d = keyWrite s k d := by
  have hkey : objKey 0x2900 (0x20 + k) = K.CUST_KEY0 + k := by simp only [objKey, K.CUST_KEY0]; omega
  simp only [commit, blobAfter, row_custKey hk, Ty.isBlob, hkey, true_or, if_true]
  rw [if_pos (by omega), Nat.add_sub_cancel_left]

/-- A write that is refused leaves what its refusal does, but for the reply of a frame, and the count and record of a BAR2 write
(R73, R85). -/
theorem took_refused {ks : List Nat} {ps : List Part} {u : State} {code : Nat} (h : Reaches s v i sub d)
    (hw : writeObj s (askerVia s v) (viaFrame v) (viaV1 v) i sub 0 d = (code, u, false)) (hc : code ≠ 0)
    (hu : Frame ks ps s u) (hp : Part.pwr ∉ ps) :
    ∃ t, took s (fun s => writeVia s v i sub d) = .next t ∧
      Frame [K.BAR_WR_REJECT, K.BAR_LAST, K.BAR_LAST_CODE] answered u t := by
  cases v with
  | frame a =>
    obtain ⟨w, hf, hserve⟩ := serveFrame_write (off := 0) (verOk_of_reaches h) (writeLenOk_of_reaches h)
      (by rw [ite_self]; exact hw)
    have hsw := Frame.trans (hu.mono (fun _ k => k) (fun _ => List.mem_append_left answered)) (hf.mono (by simp) (by simp))
    obtain ⟨t, ht, g⟩ := took_writeVia h hserve (hsw.trans ((frame_replied ..).mono (by simp)
      fun _ => List.mem_append_right ps)) (by simpa [answered] using hp)
    exact ⟨t, ht, (Frame.of_replied hf g).mono (by simp) (by simp)⟩
  | bar2 pf =>
    have hr := frame_barReject (s := u) (i := i) (sub := sub) (ks := [K.BAR_WR_REJECT, K.BAR_LAST, K.BAR_LAST_CODE])
      (ps := []) (.refl ..) (c := K.BAR_WR_REJECT) code (by simp) (by simp)
    have hall := Frame.trans (hu.mono (ks' := ks ++ [K.BAR_WR_REJECT, K.BAR_LAST, K.BAR_LAST_CODE])
      (fun _ => List.mem_append_left _) fun _ p => p) (hr.mono (fun _ => List.mem_append_right _) (by simp))
    obtain ⟨t, ht, g⟩ := took_writeVia h (serve1_bar2_refused h hw hc) hall hp
    exact ⟨t, ht, (hr.mono (fun _ k => k) (by simp)).trans (g.mono (by simp) (by simp [answered]))⟩

end

/-! ### What the commands of trust do -/

section
variable {s : State}

theorem frame_fwInstall : Frame [K.FW_CMD] [.trust] s (fwInstall s) :=
  frame_setNum (frame_setTrust (.refl ..) _ (by simp)) _ (.inl (by simp))

/-- The pending unlock has no part in the checks of ROLLBACK_CMD (R663). -/
theorem advCheck_unlock (w : Nat) (p : Bool) : advCheck (s.setNum K.UNLOCK_STATE w) p = advCheck s p := by
  cases p <;> simp [advCheck, advValue, advFloor, holdEnough]

/-- Where the value is the floor no slot is programmed (R663). -/
theorem advCheck_atFloor {p : Bool} (h : advValue s p = advFloor s p) : (advCheck s p).2 = false := by
  simp only [advCheck, h, if_true]
  split <;> rfl

/-- The bit of ROLLBACK_CMD that advances a floor: the patch floor's or the firmware's. -/
def advBit (p : Bool) : Nat := if p then 2 else 1

theorem rollbackCmd_advBit (p : Bool) : rollbackCmd s (advBit p) = if (advCheck s p).2 then advStart s p else s := by
  cases p <;> rfl

theorem frame_advStart (p : Bool) : Frame [K.ROLLBACK_CMD] [.trust] s (advStart s p) :=
  frame_setNum (frame_setTrust (.refl ..) _ (by simp)) _ (.inl (by simp))

theorem frame_keyWrite (k : Nat) (d : Bytes) : Frame [K.CUST_KEY0 + k, K.KEY_MAP, K.KEYS_SAVED] [] s (keyWrite s k d) :=
  frame_setNum (frame_setFlag (frame_setBlob (.refl ..) _ (by simp)) _ _ (.inl (by simp))) _ (.inl (by simp))

/-- The state of the attestation is no part of its report (R672). -/
theorem attBody_signing : attBody (s.setNums [(K.ATT_STATE, 1), (K.ATT_CMD, 1)]) = attBody s := by
  simp [attBody, attFlags, State.flag, setNums_cons, setNums_nil, ucDigest, microWord]

/-- The report of the moment of an accepted SIGN (R670, R672). -/
theorem signStart_accepted (h : signCode s = 0) : signStart s =
    ((s.inc K.ATT_COUNT).setNums [(K.ATT_STATE, 1), (K.ATT_CMD, 1)]).setTrust
      { s.trust with report := some (attBody (s.inc K.ATT_COUNT)) } := by
  rw [signStart]
  simp only [h, ne_eq, not_true_eq_false, if_false, attBody_signing]
  rfl

theorem signStart_failed (h : signCode s = 12) : signStart s = s.setNum K.ATT_STATE 3 := by
  simp [signStart, h]

/-- With a nonce and an identity that is not its own a SIGN is refused with code 12 (R670). -/
theorem signCode_foreign (hn : 32 ≤ (s.blob K.ATT_NONCE).length) (hi : s.num K.IDENT_STATUS ≠ 0) : signCode s = 12 := by
  rw [signCode, if_neg (by omega), if_pos hi]

/-- A SIGN passes every check but its own (R85, R670). -/
theorem lateCode_sign (fr : Bool) : lateCode s fr 0x2900 0x11 0 (leBytes 1 1) = signCode s := by
  have hv : leNat (leBytes 1 1) = 1 := leNat_leBytes 1 1
  simp [lateCode, leBytes_length, hv, widthOk, row_attCmd, Ty.size, Ty.isBlob, objKey, badValue, valueOk, rngOk, baseIndex,
    unitBad, moduleBad, burstKeeps, unitCode, moduleCode, bit, K.AUTH_PF0, K.CUST_KEY0, K.COND_CFG0, K.CNT_EVENT0, K.LINE_CFG0,
    K.X_START, K.R_BLANK]

theorem num_noteFloors (j : Nat) : (noteFloors s).num j =
    if j = K.PATCH_SLOTS_LEFT then slotsLeft s.trust.patchFloor else if j = K.FW_SLOTS_LEFT then slotsLeft s.trust.fwFloor
    else if j = K.PATCH_FLOOR then floorOf s.trust.patchFloor else if j = K.FW_FLOOR then floorOf s.trust.fwFloor
    else s.num j := by
  simp [noteFloors, setNums_cons, setNums_nil]

theorem frame_noteFloors : Frame [K.FW_FLOOR, K.PATCH_FLOOR, K.FW_SLOTS_LEFT, K.PATCH_SLOTS_LEFT] [] s (noteFloors s) :=
  frame_setNums (.refl ..) _ (by simp)

/-- Of the state only the root hash and the floor have a part in the checks of an image (R657). -/
theorem fwCheck_congr {u : State} {d : Bytes} (hr : u.trust.rootHash = s.trust.rootHash)
    (hf : u.num K.FW_FLOOR = s.num K.FW_FLOOR) : fwCheck u d = fwCheck s d := by
  simp [fwCheck, hr, hf]

/-- One byte 0 is no image (R655, R657). -/
theorem slotStatus_cut (u : State) : slotStatus u [0#8] false ≠ 0 := by
  have hbad : fwHeaderOk [0#8] = false := by decide
  have herased : slotErased [0#8] = false := by decide
  simp [slotStatus, fwCheck, hbad, herased]

end

/-! ### The commands -/

section
variable {s : State} {v : Via}

theorem took_install (h : AcceptedKey s v K.FW_CMD 1) : ∃ t, exec (.install v) s = .next t ∧ t.num K.FW_CMD = 1 ∧
    t.trust = { s.trust with fwJob := some (s.blob K.FW_IMAGE) } ∧
    Frame [K.FW_CMD, K.SIG_CURRENT] (.trust :: answered) s t := by
  obtain ⟨t, ht, g, hf⟩ := took_commit (f := fun s => writeKey s v K.FW_CMD 1) (i := 0x2900) (sub := 6) (d := leBytes 1 1) rfl h
    (by decide) (by rw [row_fwCmd]; rfl) commit_fwCmd frame_fwInstall (by simp)
  exact ⟨t, ht, by simp [num_touched g, fwInstall], g.trust (by simp [answered]), hf⟩

/-- An accepted ROLLBACK_CMD programs the next slot of its floor, or does nothing where its value is the floor (R663). -/
theorem took_rollback {p : Bool} (h : AcceptedKey s v K.ROLLBACK_CMD (advBit p)) :
    ((advCheck s p).2 = true → ∃ t, took s (fun s => writeKey s v K.ROLLBACK_CMD (advBit p)) = .next t ∧
      t.trust = { s.trust with fuse := some (p, advValue s p) } ∧ t.num K.ROLLBACK_CMD = advBit p ∧
      Frame [K.ROLLBACK_CMD, K.UNLOCK_STATE, K.SIG_CURRENT] (.trust :: answered) s t) ∧
    (advValue s p = advFloor s p → ∃ t, took s (fun s => writeKey s v K.ROLLBACK_CMD (advBit p)) = .next t ∧
      Frame [K.UNLOCK_STATE, K.SIG_CURRENT] answered s t) := by
  have hcommit : commit (s.setNum K.UNLOCK_STATE 0) (askerVia s v) (viaFrame v) 0x2900 8 0 (leBytes 1 (advBit p)) =
      if (advCheck s p).2 then advStart (s.setNum K.UNLOCK_STATE 0) p else s.setNum K.UNLOCK_STATE 0 := by
    rw [commit_rollbackCmd (by cases p <;> decide), rollbackCmd_advBit, advCheck_unlock]
  have hkey : (rowOf 0x2900 8).acc.isKey = true := by rw [row_rollbackCmd]; rfl
  refine ⟨fun hs => ?_, fun hfloor => ?_⟩
  · rw [if_pos hs] at hcommit
    obtain ⟨t, ht, g, hf⟩ := took_keyCommit (f := fun s => writeKey s v K.ROLLBACK_CMD (advBit p)) rfl h (by decide) hkey
      hcommit (frame_advStart p) (by simp)
    refine ⟨t, ht, ?_, ?_, hf⟩
    · rw [g.trust (by simp [answered])]
      cases p <;> simp [advStart, advValue, sigTouched]
    · rw [num_touched g, if_neg (by decide)]
      cases p <;> simp [advStart, advBit]
  · rw [if_neg (by simp [advCheck_atFloor hfloor])] at hcommit
    obtain ⟨t, ht, -, hf⟩ := took_keyCommit (f := fun s => writeKey s v K.ROLLBACK_CMD (advBit p)) (ks := []) (ps := []) rfl h
      (by decide) hkey hcommit (.refl ..) (by simp)
    exact ⟨t, ht, hf⟩

theorem took_custKey {k : Nat} {d : Bytes} (hk : k < 8) (h : Accepted s v 0x2900 (0x20 + k) d) :
    ∃ t, exec (.custKey v k d) s = .next t ∧ t.blob (K.CUST_KEY0 + k) = d ∧ t.flag K.KEY_MAP k = !d.isEmpty ∧
      t.num K.KEYS_SAVED = 0 ∧ t.num K.UNLOCK_STATE = 0 ∧
      Frame [K.CUST_KEY0 + k, K.KEY_MAP, K.KEYS_SAVED, K.UNLOCK_STATE, K.SIG_CURRENT] answered s t := by
  obtain ⟨t, ht, g, hf⟩ := took_keyCommit (f := fun s => if k < 8 then writeVia s v 0x2900 (0x20 + k) d else s) (if_pos hk) h
    (by simp only [objKey, K.SIG_COMMIT]; omega) (by rw [row_custKey hk]; rfl) (commit_custKey hk) (frame_keyWrite k d) (by simp)
  refine ⟨t, ht, ?_, ?_, by simp [num_touched g, keyWrite], by simp [num_touched g, keyWrite], hf⟩
  · rw [g.blob _ (by simp)]
    simp [sigTouched, keyWrite]
  · simp [State.flag, num_touched g, keyWrite, putBit_get]

theorem took_sign (h : AcceptedKey s v K.ATT_CMD 1) : ∃ t, exec (.sign v) s = .next t ∧ t.num K.ATT_STATE = 1 ∧
    t.num K.ATT_CMD = 1 ∧ t.num K.ATT_COUNT = inc32 (s.num K.ATT_COUNT) ∧
    t.trust = { s.trust with report := some (attBody (s.inc K.ATT_COUNT)) } ∧
    Frame [K.ATT_STATE, K.ATT_CMD, K.ATT_COUNT, K.SIG_CURRENT] (.trust :: answered) s t := by
  have hspent : keySpent s 0x2900 0x11 = s := keySpent_of_notKey (by rw [row_attCmd]; rfl)
  have hcode : signCode s = 0 := by
    obtain ⟨-, -, hl⟩ := h
    have hl : lateCode (keySpent s 0x2900 0x11) (viaFrame v) 0x2900 0x11 0 (leBytes 1 1) = 0 := hl
    rwa [hspent, lateCode_sign] at hl
  obtain ⟨t, ht, g, hf⟩ := took_commit (f := fun s => writeKey s v K.ATT_CMD 1) (i := 0x2900) (sub := 0x11)
    (d := leBytes 1 1) (ks := [K.ATT_STATE, K.ATT_CMD, K.ATT_COUNT]) (ps := [.trust]) rfl h (by decide)
    (by rw [row_attCmd]; rfl) (commit_attCmd.trans (signStart_accepted hcode))
    (frame_setTrust (frame_setNums (frame_inc (.refl ..) (.inl (by simp))) _ (by simp)) _ (by simp)) (by simp)
  exact ⟨t, ht, by simp [num_touched g, setNums_cons, setNums_nil], by simp [num_touched g, setNums_cons, setNums_nil],
    by simp [num_touched g, setNums_cons, setNums_nil], g.trust (by simp [answered]), hf⟩

theorem took_sign_refused (h : PassesGate s v K.ATT_CMD 1) (hn : 32 ≤ (s.blob K.ATT_NONCE).length)
    (hi : s.num K.IDENT_STATUS ≠ 0) : ∃ t, exec (.sign v) s = .next t ∧ t.num K.ATT_STATE = 3 ∧
      Frame [K.ATT_STATE, K.BAR_WR_REJECT, K.BAR_LAST, K.BAR_LAST_CODE] answered s t := by
  obtain ⟨hreach, hgate⟩ := h
  have hgate : gateCode s (askerVia s v) (viaV1 v) 0x2900 0x11 = 0 := hgate
  have hcode := signCode_foreign hn hi
  have hw : writeObj s (askerVia s v) (viaFrame v) (viaV1 v) 0x2900 0x11 0 (leBytes 1 1) = (12, s.setNum K.ATT_STATE 3, false) := by
    have he : refusedEffect s 0x2900 0x11 (leBytes 1 1) 12 = s.setNum K.ATT_STATE 3 := by
      simp [refusedEffect, objKey, signStart_failed hcode]
    simp [writeObj, hgate, row_attCmd, Acc.isKey, lateCode_sign, hcode, he]
  have hu := frame_setNum_one (s := s) K.ATT_STATE 3
  obtain ⟨t, ht, g⟩ := took_refused hreach hw (by decide) hu (by simp)
  refine ⟨t, ht, ?_, (hu.mono (by simp) (by simp)).trans (g.mono (by simp) fun _ p => p)⟩
  rw [g.num_eq (by simp) (by decide)]
  simp

end

/-! ### What ends -/

section
variable {s : State}

/-- The module with the install's end noted (R661). -/
def installEnded (s : State) : State := (s.setTrust { s.trust with fwJob := none }).setNum K.FW_CMD 0

theorem fwInstallDone_eq {d : Bytes} (hj : s.trust.fwJob = some d) (ok : Bool) : fwInstallDone s ok =
    if fwCheck s d ≠ 0 then (installEnded s).setNum K.FW_INST_STATUS (fwCheck s d)
    else if ok then (setIdleSlot (installEnded s) d).setNum K.FW_INST_STATUS 0
    else (setIdleSlot (installEnded s) [0#8]).setNum K.FW_INST_STATUS 7 := by
  have hc : fwCheck (installEnded s) d = fwCheck s d := fwCheck_congr rfl (by simp [installEnded])
  rw [← hc]
  simp only [fwInstallDone, hj]
  rfl

theorem frame_installEnded : Frame [K.FW_CMD] [.trust] s (installEnded s) :=
  frame_setNum (frame_setTrust (.refl ..) _ (by simp)) _ (.inl (by simp))

theorem frame_setIdleSlot (d : Bytes) : Frame [] [.trust] s (setIdleSlot s d) := frame_setTrust (.refl ..) _ (by simp)

theorem trust_setIdleSlot_installEnded (d : Bytes) : (setIdleSlot (installEnded s) d).trust =
    if s.num K.FW_SLOT = 1 then { s.trust with fwJob := none, fwB := d } else { s.trust with fwJob := none, fwA := d } := by
  simp [setIdleSlot, installEnded]

/-- The end of an install leaves its status, and of the slots only the one that does not run may change (R661, R662). -/
theorem took_fwInstallDone (hs : s.pwr.stopped = false) {d : Bytes} {ok : Bool} (hj : s.trust.fwJob = some d) :
    ∃ t, exec (.firmwareInstallDone ok) s = .next t ∧ t.num K.FW_CMD = 0 ∧
      t.num K.FW_INST_STATUS = (if fwCheck s d ≠ 0 then fwCheck s d else if ok then 0 else 7) ∧
      (fwCheck s d ≠ 0 → t.trust = { s.trust with fwJob := none }) ∧
      (fwCheck s d = 0 → ok = true → t.trust = (if s.num K.FW_SLOT = 1 then { s.trust with fwJob := none, fwB := d }
        else { s.trust with fwJob := none, fwA := d })) ∧
      (fwCheck s d = 0 → ok = false → slotStatus t (if s.num K.FW_SLOT = 1 then t.trust.fwB else t.trust.fwA) false ≠ 0 ∧
        (if s.num K.FW_SLOT = 1 then t.trust.fwA = s.trust.fwA else t.trust.fwB = s.trust.fwB)) ∧
      Frame [K.FW_CMD, K.FW_INST_STATUS] [.trust] s t := by
  have hended := (frame_installEnded (s := s)).mono (ks' := [K.FW_CMD, K.FW_INST_STATUS]) (by simp) fun _ p => p
  have hcmd : (installEnded s).num K.FW_CMD = 0 := by simp [installEnded]
  have hslot (x : Bytes) : (setIdleSlot (installEnded s) x).num K.FW_CMD = 0 := hcmd
  have hidle (x : Bytes) (c : Nat) : Frame [K.FW_CMD, K.FW_INST_STATUS] [.trust] s
      ((setIdleSlot (installEnded s) x).setNum K.FW_INST_STATUS c) :=
    frame_setNum (hended.trans ((frame_setIdleSlot x).mono (by simp) fun _ p => p)) _ (.inl (by simp))
  have he := fwInstallDone_eq hj ok
  by_cases hc : fwCheck s d = 0
  · cases ok with
    | true =>
      obtain ⟨t, ht, g, hf⟩ := took_event (f := fun s => fwInstallDone s true) hs
        (he.trans (by simp only [hc, ne_eq, not_true_eq_false, if_false, if_true])) (hidle d 0)
      refine ⟨t, ht, by simp [g.num_all, hslot], by simp [g.num_all, hc], fun h => absurd hc h, fun _ _ => ?_, by simp, hf⟩
      rw [g.trust (by simp)]
      exact trust_setIdleSlot_installEnded d
    | false =>
      obtain ⟨t, ht, g, hf⟩ := took_event (f := fun s => fwInstallDone s false) hs
        (he.trans (by simp only [hc, ne_eq, not_true_eq_false, Bool.false_eq_true, if_false])) (hidle [0#8] 7)
      refine ⟨t, ht, by simp [g.num_all, hslot], by simp [g.num_all, hc], fun h => absurd hc h, by simp, fun _ _ => ?_, hf⟩
      have htrust : t.trust = _ := (g.trust (by simp)).trans (trust_setIdleSlot_installEnded [0#8])
      rw [htrust]
      by_cases hrun : s.num K.FW_SLOT = 1 <;> simp [hrun, slotStatus_cut]
  · obtain ⟨t, ht, g, hf⟩ := took_event (f := fun s => fwInstallDone s ok) hs (he.trans (if_pos hc))
      (frame_setNum hended _ (.inl (by simp)))
    refine ⟨t, ht, by simp [g.num_all, hcmd], by simp [g.num_all, hc], fun _ => ?_, fun h => absurd h hc, fun h => absurd h hc, hf⟩
    rw [g.trust (by simp)]
    rfl

/-- The end of a fuse's programming leaves the floors and free slots that the fuses hold (R663, R664). -/
theorem took_fuseEnd (hs : s.pwr.stopped = false) {p : Bool} {x : Nat} {ok : Bool} (hj : s.trust.fuse = some (p, x)) :
    ∃ t, exec (.fuseProgrammingDone ok) s = .next t ∧ t.num K.ROLLBACK_CMD = 0 ∧
      t.trust = (if p then { s.trust with fuse := none, patchFloor := fuseSlot s.trust.patchFloor x ok }
        else { s.trust with fuse := none, fwFloor := fuseSlot s.trust.fwFloor x ok }) ∧
      t.num K.FW_FLOOR = floorOf t.trust.fwFloor ∧ t.num K.PATCH_FLOOR = floorOf t.trust.patchFloor ∧
      t.num K.FW_SLOTS_LEFT = slotsLeft t.trust.fwFloor ∧ t.num K.PATCH_SLOTS_LEFT = slotsLeft t.trust.patchFloor ∧
      Frame [K.ROLLBACK_CMD, K.FW_FLOOR, K.PATCH_FLOOR, K.FW_SLOTS_LEFT, K.PATCH_SLOTS_LEFT] [.trust] s t := by
  obtain ⟨y, hy⟩ : ∃ y, y = if p then { s.trust with fuse := none, patchFloor := fuseSlot s.trust.patchFloor x ok }
      else { s.trust with fuse := none, fwFloor := fuseSlot s.trust.fwFloor x ok } := ⟨_, rfl⟩
  have he : fuseEnd s ok = noteFloors ((s.setTrust y).setNum K.ROLLBACK_CMD 0) := by simp only [fuseEnd, hj, hy]
  have hu : Frame [K.ROLLBACK_CMD, K.FW_FLOOR, K.PATCH_FLOOR, K.FW_SLOTS_LEFT, K.PATCH_SLOTS_LEFT] [.trust] s
      ((s.setTrust y).setNum K.ROLLBACK_CMD 0) :=
    frame_setNum (frame_setTrust (.refl ..) _ (by simp)) _ (.inl (by simp))
  obtain ⟨t, ht, g, hf⟩ := took_event (f := fun s => fuseEnd s ok) hs he (hu.trans (frame_noteFloors.mono (by simp) (by simp)))
  have htrust : t.trust = y := g.trust (by simp)
  exact ⟨t, ht, by simp [g.num_all, num_noteFloors], htrust.trans hy, by simp [g.num_all, num_noteFloors, htrust],
    by simp [g.num_all, num_noteFloors, htrust], by simp [g.num_all, num_noteFloors, htrust],
    by simp [g.num_all, num_noteFloors, htrust], hf⟩

theorem took_keysSave (hs : s.pwr.stopped = false) (hk : s.num K.KEYS_SAVED ≠ 1) : ∃ t, exec .keysSaved s = .next t ∧
    t.num K.KEYS_SAVED = 1 ∧ t.trust = { s.trust with keys := (List.range 8).map (fun k => s.blob (K.CUST_KEY0 + k)) } ∧
    Frame [K.KEYS_SAVED] [.trust] s t := by
  obtain ⟨t, ht, g, hf⟩ := took_event (f := keysSave) (ks := [K.KEYS_SAVED]) (ps := [.trust]) hs (if_neg hk)
    (frame_setNum (frame_setTrust (.refl ..) _ (by simp)) _ (.inl (by simp)))
  exact ⟨t, ht, by simp [g.num_all], g.trust (by simp), hf⟩

/-- The signature follows the report's bytes (R670, R672). -/
theorem took_signDone (hs : s.pwr.stopped = false) {b : Bytes} (hr : s.trust.report = some b) :
    ∃ t, exec .attestationSigned s = .next t ∧ t.num K.ATT_STATE = 2 ∧ t.num K.ATT_CMD = 0 ∧
      t.trust = { s.trust with report := none } ∧ (t.blob K.ATT_REPORT).take b.length = b ∧
      (t.blob K.ATT_REPORT).length = b.length + 132 ∧ Frame [K.ATT_STATE, K.ATT_CMD, K.ATT_REPORT] [.trust] s t := by
  have he : signDone s = ((s.setBlob K.ATT_REPORT (b ++ (Config.identitySign b ++ zeros 132).take 132)).setTrust
      { s.trust with report := none }).setNums [(K.ATT_STATE, 2), (K.ATT_CMD, 0)] := by simp only [signDone, hr]; rfl
  obtain ⟨t, ht, g, hf⟩ := took_event (f := signDone) (ks := [K.ATT_STATE, K.ATT_CMD, K.ATT_REPORT]) (ps := [.trust]) hs he
    (frame_setNums (frame_setTrust (frame_setBlob (.refl ..) _ (by simp)) _ (by simp)) _ (by simp))
  have hblob : t.blob K.ATT_REPORT = b ++ (Config.identitySign b ++ zeros 132).take 132 := by
    rw [g.blob _ (by simp)]
    simp [setNums_cons, setNums_nil]
  exact ⟨t, ht, by simp [g.num_all, setNums_cons, setNums_nil], by simp [g.num_all, setNums_cons, setNums_nil], g.trust (by simp),
    by simp [hblob], by simp [hblob, zeros], hf⟩

end

/-- Settles O60: each command's commit, and what the ends of its work leave. -/
theorem trustCommands : Obligations.TrustCommands := by
  refine ⟨fun s v => ⟨took_install, fun h => took_rollback (p := false) h, fun h => took_rollback (p := true) h,
    fun k d hk h => took_custKey hk h, took_sign, took_sign_refused⟩, fun s hs => ⟨fun d ok hj => took_fwInstallDone hs hj,
    fun ok => ⟨fun hj => ?_, fun hj => ?_⟩, fun hk => took_stands hs (if_pos hk), fun hr => ?_,
    fun p x ok hj => took_fuseEnd hs hj, took_keysSave hs, fun b hr => took_signDone hs hr⟩⟩
  · exact took_stands (f := fun s => fwInstallDone s ok) hs (by simp only [fwInstallDone, hj])
  · exact took_stands (f := fun s => fuseEnd s ok) hs (by simp only [fuseEnd, hj])
  · exact took_stands (f := signDone) hs (by simp only [signDone, hr])

end Sys2Proof.Machine

/-! PROOFS. The JTAG port (O19): request words and reply words, instructions, the boundary scan and the recovery words. -/

namespace Sys2Proof.Machine

section
variable {s : State} {word : Nat}

/-! ### DICT_FRAME -/

/-- The words of the request that the next word joins: an unread reply is discarded with the request before it (R694). -/
def jtagPending (s : State) : Bytes := if s.jtag.reply = [] then s.jtag.req else []

/-- The JTAG port once an unread reply is discarded (R694). -/
theorem jtag_discard : (if s.jtag.reply.isEmpty then s.jtag else { s.jtag with req := [], reply := [] }) =
    { s.jtag with req := jtagPending s, reply := [] } := by
  unfold jtagPending
  cases h : s.jtag.reply with
  | nil =>
    simp only [List.isEmpty_nil, if_true]
    rw [← h]
  | cons w r => simp

theorem dictFrameUpdate_busy (hb : jtagBusy s = true) : dictFrameUpdate s word = s := if_pos (.inr hb)

theorem dictFrameUpdate_joins (hs : s.pwr.stopped = false) (hb : jtagBusy s = false) (hl : bit word 32 = false) :
    dictFrameUpdate s word = s.setJtag { s.jtag with
      reply := [], req := if 1500 < (jtagPending s ++ leBytes 4 word).length then [] else jtagPending s ++ leBytes 4 word } := by
  simp only [dictFrameUpdate, hs, hb, hl, jtag_discard, Bool.false_eq_true, or_self, if_false]

theorem dictFrameUpdate_last (hs : s.pwr.stopped = false) (hb : jtagBusy s = false) (hl : bit word 32 = true)
    {d : Bytes} (hd : d = jtagPending s ++ leBytes 4 word) :
    dictFrameUpdate s word = frameIn (s.setJtag { s.jtag with req := [], reply := [] }) (arrivalOf .jtag 0 none d)
      (askOf d (d.length == impliedLen d && decide (impliedLen d ≤ 1500))) := by
  simp only [dictFrameUpdate, hs, hb, hl, jtag_discard, Bool.false_eq_true, or_self, if_false, if_true, hd]

/-- A version 2 READ of 16 bytes is served, and its reply waits in the port's words (R48–R50, R694). -/
theorem dictFrameUpdate_read (h : Serves s) (hb : jtagBusy s = false) (hl : bit word 32 = true)
    (hver : s.flag K.VER_ENABLE 1 = true) {d : Bytes} (hd : d = jtagPending s ++ leBytes 4 word) (hlen : d.length = 16)
    (h0 : byteAt d 0 = 2) (h1 : byteAt d 1 = 1) (hn : fieldAt d 14 2 ≤ 1024) :
    ∃ f, byteAt f 0 = 2 ∧ byteAt f 1 = 0x81 ∧ replyTag 2 f = fieldAt d 2 2 ∧
      Frame [] [.mgmt] (s.setJtag { s.jtag with req := [], reply := words32 f }) (dictFrameUpdate s word) := by
  obtain ⟨u, hu⟩ : ∃ u, u = s.setJtag { s.jtag with req := [], reply := [] } := ⟨_, rfl⟩
  have hserves : Serves u := hu ▸ ⟨h.running, h.serving, h.free, h.staysUp⟩
  have hok : verOk u 2 = true := by simpa [verOk, hu, State.flag] using hver
  have ha := arrivalOf_two (f := d) .jtag 0 none h0
  have hlast := dictFrameUpdate_last h.running hb hl hd
  rw [impliedLen_read h0 h1, hlen, show ((16 == 16) && decide (16 ≤ 1500)) = true from rfl, askOf_read h0 h1, ← hu] at hlast
  generalize arrivalOf .jtag 0 none d = a at ha hlast
  have hport : a.port = .jtag := by rw [ha]
  have hread := frame_read (a := a) (i := fieldAt d 8 2) (sub := byteAt d 10) (off := fieldAt d 12 2) hserves
    (by rw [hport]; rfl) (by simp [nodeOk, hport, isNet]) (by rw [ha]; exact hok) hn
  obtain ⟨hv, hk, htag⟩ := readAnswer_two (s := u) (a := a) (by rw [ha]) (fieldAt d 8 2) (byteAt d 10) (fieldAt d 12 2)
    (fieldAt d 14 2)
  generalize readAnswer u a (fieldAt d 8 2) (byteAt d 10) (fieldAt d 12 2) (fieldAt d 14 2) = f at hread hv hk htag
  have hquiet : broadcast a = false := by simp [broadcast, hport, isNet]
  have hreply : replied false u a f = s.setJtag { s.jtag with req := [], reply := words32 f } := by
    simp only [replied, sendReply, hport, hu, Bool.false_eq_true, if_false]
    rfl
  refine ⟨f, hv, hk, ?_, ?_⟩
  · rw [htag, ha]
    exact Nat.mod_eq_of_lt (fieldAt_lt d 2 2)
  · rwa [hquiet, hreply, ← hlast] at hread

/-! ### Commands of the port -/

/-- A command that leaves the JTAG port as `j`, and nothing else changed. -/
theorem took_setJtag {f : State → State} {j : Jtag} (hs : s.pwr.stopped = false) (hf : f s = s.setJtag j) :
    ∃ t, took s f = .next t ∧ t.jtag = j ∧ Frame [] [.jtag] s t := by
  obtain ⟨t, ht, g, hall⟩ := took_event hs hf (frame_setJtag (ks := []) (ps := [.jtag]) (.refl ..) j (by simp))
  exact ⟨t, ht, g.jtag (by simp), hall⟩

/-- A command that captures `o`, and changes nothing else. -/
theorem took_emit {f : State → State} {o : Out} (hs : s.pwr.stopped = false) (hf : f s = s.emit o) :
    ∃ t, took s f = .next t ∧ o ∈ t.out ∧ Frame [] [.out] s t := by
  obtain ⟨t, ht, g, hall⟩ := took_event hs hf (frame_emit (ks := []) (ps := [.out]) (.refl ..) o (by simp))
  exact ⟨t, ht, (g.out (by simp)).sent (by simp), hall⟩

/-- BUSY as DICT_FRAME shows it (R694). -/
def busyBit (s : State) : Nat := if jtagBusy s = true then 2 ^ 33 else 0

theorem took_capture_word {w : Nat} {r : List Nat} (hs : s.pwr.stopped = false) (hr : s.jtag.reply = w :: r) :
    ∃ t, exec .dictFrameCapture s = .next t ∧ t.jtag = { s.jtag with reply := r } ∧
      Out.jtag (w + 2 ^ 32 + busyBit s) ∈ t.out ∧ Frame [] [.jtag, .out] s t := by
  have he : dictFrameCapture s = (s.setJtag { s.jtag with reply := r }).emit (.jtag (w + 2 ^ 32 + busyBit s)) := by
    simp only [dictFrameCapture, hr, busyBit]
  obtain ⟨t, ht, g, hall⟩ := took_event (f := dictFrameCapture) (ks := []) (ps := [.jtag, .out]) hs he
    (frame_emit (frame_setJtag (.refl ..) _ (by simp)) _ (by simp))
  exact ⟨t, ht, g.jtag (by simp), (g.out (by simp)).sent (by simp), hall⟩

theorem dictFrameCapture_none (hr : s.jtag.reply = []) : dictFrameCapture s = s.emit (.jtag (busyBit s)) := by
  simp only [dictFrameCapture, hr, busyBit]

/-! ### Instructions and the boundary scan -/

theorem jtagInstruction_byte {code : Nat} (hc : code < 256) : jtagInstruction s code = s.setJtag { s.jtag with ir := code } := by
  rw [jtagInstruction, Nat.mod_eq_of_lt hc]

theorem scanUpdate_preload (hi : s.jtag.ir = 0x02) {cells : Nat} (hc : cells < 32) :
    scanUpdate s cells = s.setJtag { s.jtag with cells := cells / 4 } := by
  rw [scanUpdate, if_pos (.inr (by simp [jtagInstr, hi])), Nat.mod_eq_of_lt (by omega)]

theorem scanCapture_idcode (hi : s.jtag.ir = 0x01) : scanCapture s = s.emit (.jtag 0xB9612C3D) := by
  simp [scanCapture, jtagInstr, hi]

/-- Driven from their cells the ALIVE lines are never both high (R696). -/
theorem alivePins_driven (hi : jtagInstr s = 0x00 ∨ jtagInstr s = 0x04) (hc : bit s.jtag.cells 2 = true) :
    alivePins s ≠ some (true, true) := by
  simp only [alivePins, hi, hc, and_self, if_true]
  split
  · simp
  · cases bit s.jtag.cells 0 <;> cases bit s.jtag.cells 1 <;> simp

/-- Outside recovery and the safe state the boundary scan does not act while MGMT is set (R696). -/
theorem scanActs_managed (hr : s.flag K.READY 0 = true) (hrec : s.pwr.recovery = false) (hsafe : s.num K.SAFE ≠ 1) :
    scanActs s = false := by simp [scanActs, hr, hrec, hsafe]

/-! ### RECOVERY -/

theorem recoveryWord_joins (hs : s.pwr.stopped = false) (hr : s.pwr.recovery = true) (hl : bit word 32 = false) :
    recoveryWord s word = s.setJtag { s.jtag with image := s.jtag.image ++ leBytes 4 word } := by
  simp [recoveryWord, hs, hr, hl]

theorem recoveryWord_fails (hs : s.pwr.stopped = false) (hr : s.pwr.recovery = true) (hl : bit word 32 = true)
    (hc : fwCheck s (s.jtag.image ++ leBytes 4 word) ≠ 0) : recoveryWord s word =
      s.setJtag { s.jtag with image := [], status := some (fwCheck s (s.jtag.image ++ leBytes 4 word)) } := by
  have hsame (j : Jtag) : fwCheck (s.setJtag j) (s.jtag.image ++ leBytes 4 word) =
      fwCheck s (s.jtag.image ++ leBytes 4 word) := fwCheck_congr rfl (by simp)
  simp [recoveryWord, hs, hr, hl, hsame, hc]

end

/-- Settles O19: each command of the port leaves its words, its instruction, its cells or its image. -/
theorem jtagDictionaryPort : Obligations.JtagDictionaryPort := by
  intro s word hs _
  refine ⟨fun hb hl => ?_, fun hb hl hserving hheld hsoft hver hlen h0 h1 hn => ?_, fun hb => ?_, fun w r => took_capture_word hs,
    fun hr => ?_, took_setJtag (f := testLogicReset) hs rfl, fun code hc => ?_, fun hi cells hc => ?_, fun hi => ?_,
    fun hr hl => ?_, fun hr hl hc => ?_, alivePins_driven, fun hr hrec hsafe hi => ?_⟩
  · obtain ⟨t, ht, hj, hf⟩ := took_setJtag (f := fun s => dictFrameUpdate s word) hs (dictFrameUpdate_joins hs hb hl)
    rw [List.length_append, leBytes_length] at hj
    exact ⟨t, ht, hf, hj⟩
  · obtain ⟨f, hv, hk, htag, hread⟩ :=
      dictFrameUpdate_read ⟨hs, hserving, hheld, hsoft⟩ hb hl hver rfl hlen h0 h1 hn
    obtain ⟨t, ht, g⟩ := took_next (fun s => dictFrameUpdate s word) hs
    have hall := hread.trans (g [] [.mgmt])
    have hport := frame_setJtag (ks := []) (ps := [.jtag, .mgmt]) (.refl _ _ s) { s.jtag with req := [], reply := words32 f }
      (by simp)
    exact ⟨t, f, ht, hport.trans (hall.mono (by simp) (by simp)), hall.jtag (by simp), hv, hk, htag⟩
  · exact took_stands (f := fun s => dictFrameUpdate s word) hs (dictFrameUpdate_busy hb)
  · exact took_emit (f := dictFrameCapture) hs (dictFrameCapture_none hr)
  · exact took_setJtag (f := fun s => registerAccess s (.jtagInstruction code)) hs (jtagInstruction_byte hc)
  · exact took_setJtag (f := fun s => registerAccess s (.scanUpdate cells)) hs (scanUpdate_preload hi hc)
  · exact took_emit (f := fun s => registerAccess s .scanCapture) hs (scanCapture_idcode hi)
  · exact took_setJtag (f := fun s => recoveryWord s word) hs (recoveryWord_joins hs hr hl)
  · exact took_setJtag (f := fun s => recoveryWord s word) hs (recoveryWord_fails hs hr hl hc)
  · simp only [jtagInstr, hi, scanActs_managed hr hrec hsafe, if_true, Bool.false_eq_true, if_false]

end Sys2Proof.Machine
